-- ==== Sys2Proof/Word.lean ====
section
/-! DEFINITION. The word types of the panel and their plainest shapes: byte, flit, sparse map. -/

namespace Sys2Proof

/-- One byte. -/
abbrev Byte := BitVec 8

/-- One flit or one scratchpad line: 64 bytes (04 R89, 05 R128, 07 R175). Byte 0 is bits [7:0]. -/
abbrev Flit := BitVec 512

/-- A byte string in address order. -/
abbrev Bytes := List Byte

/-- A sparse map: keys strictly rising, no entry equal to what an unlisted key reads as. -/
abbrev SMap (α : Type) := List (Nat × α)

end Sys2Proof
end

