-- ==== Sys2Proof/Syntax.lean ====
section
/-! DEFINITION. The commands: one constructor for each row of spec/opcode_table.json, with its operands.
Fields that an encoding table of the spec gives have that table's width, so every encoding the table admits,
legal or not, is a term. What hardware observes (a check bit, a sensor, a packet) is an operand. -/

namespace Sys2Proof

/-- The five slots of a bundle, in bundle order (05 R120, R145). -/
inductive Slot | sync | mat | vec | mov | ctl
  deriving DecidableEq, Repr

/-- What SEC-DED finds on the words that an operation reads (06 R162, 03 R60). -/
inductive Ecc | clean | single | double
  deriving DecidableEq, Repr

/-- How a slot operation is presented to its core for one cycle.
`core` is the physical core, 272 × site + 17 × row + column (01 R12, R13). `join` says that the operation stands in
the same bundle as the core's operation before it; otherwise it opens the next bundle. `rsvd` says that a reserved
bit of the slot's format is not zero (05 R148). `dup` is a mismatch of the duplicated hardware that runs it (05 R126,
10 R267). `ecc` is what the check bits of the words it reads show. -/
structure Issue where
  core : Nat
  join : Bool := false
  rsvd : Bool := false
  dup : Bool := false
  ecc : Ecc := .clean
  deriving DecidableEq, Repr

/-- The scratchpad image of a MAT operation: base register and offset in lines (05 R132). -/
structure ImgF where
  ra : BitVec 5
  offA : BitVec 13
  deriving DecidableEq, Repr

/-- The fields of MMA and MMA.SP (05 R132). -/
structure MmaF where
  acc : BitVec 3
  fa : BitVec 3
  fb : BitVec 3
  bsrc : Bool
  chb : BitVec 4
  ra : BitVec 5
  offA : BitVec 13
  rb : BitVec 5
  offB : BitVec 13
  deriving DecidableEq, Repr

/-- The fields of the VEC slot (05 R136). -/
structure VecF where
  cls : BitVec 2
  half : Bool
  pred : BitVec 3
  vd : BitVec 5
  va : BitVec 5
  vb : BitVec 5
  vc : BitVec 5
  bsel : BitVec 2
  fn : BitVec 5
  imm24 : BitVec 24
  deriving DecidableEq, Repr

/-- The fields of the MOV slot (05 R140). -/
structure MovF where
  x : BitVec 5
  ra : BitVec 5
  rb : BitVec 5
  sz : BitVec 3
  roff : BitVec 2
  n : BitVec 6
  off : BitVec 24
  deriving DecidableEq, Repr

/-- The fields of the CTL slot (05 R142). -/
structure CtlF where
  rd : BitVec 5
  ra : BitVec 5
  rb : BitVec 5
  imm : BitVec 19
  deriving DecidableEq, Repr

/-- A packet of the data mesh: its header flit and its payload flits (09 R236). -/
structure Packet where
  hdr : BitVec 512
  payload : List Flit
  /-- The line offset of a multicast into windows, for which R238 gives the header no field (log 12). -/
  off : Nat := 0
  /-- The checks that travel with lines of HBM (08 R204). -/
  chk : List (BitVec 32) := []
  /-- What arrives fails its checks: a header altered on the way, or a double-bit error of a buffered flit (09 R239). -/
  dbe : Bool := false
  deriving DecidableEq, Repr

/-- What an ADMIN packet carries: one entry of the inactive route version, or a firmware message (09 R236, R251). -/
inductive AdminBody
  | dieMap (vd site : Nat)
  | vstackMap (vstack stack : Nat)
  | coreMap (site row spare : Nat)
  | ccGrant (cc : Nat) (hbm : Bool) (part lo len : Nat) (wr : Bool)
  | firmware (message : Bytes)
  deriving DecidableEq, Repr

/-- A reference input (02 R32). -/
inductive RefIn | a | b
  deriving DecidableEq, Repr

/-- One write of a page-table copy: virtual core, byte address in its scratchpad, entry (08 R217, R219). -/
structure PageWrite where
  vcore : Nat
  addr : Nat
  entry : BitVec 32
  /-- The request that the page is allocated to (08 R221). -/
  req : Nat := 0
  deriving DecidableEq, Repr

/-- A buffer that a checkpoint copies: one core's frame state, or one half of an HFS region (08 R226). -/
inductive CkBuf
  | spad (vcore : Nat)
  | hfs (region : Nat)
  deriving DecidableEq, Repr

/-- The kinds of a FAULT word (09 R257). -/
inductive FaultKind | overrun | clockLoss | isolation | quench
  deriving DecidableEq, Repr

/-- The links of the sync network (15 R423). -/
inductive SyncLink
  | dieHub (site : Nat)
  | hubHub (a b : Nat)
  | portHub (portDie : Nat) (second : Bool)
  deriving DecidableEq, Repr

/-- A part that samples temperatures (14 R390). -/
inductive Part
  | die (site : Nat)
  | hub (hub : Nat)
  | port (portDie : Nat)
  deriving DecidableEq, Repr

/-- A link that retries (09 R258). A fabric port's retry is NAK's (12 R333). -/
inductive RetryLink
  | dieToHub (site : Nat)
  | portToHub (portDie : Nat) (second : Bool)
  | hubMesh (a b : Nat)
  deriving DecidableEq, Repr

/-- The messages of IEEE 1588-2019 that a master disciplined with value 1 takes (12 R346). -/
inductive PtpKind | sync | followUp | delayResp
  deriving DecidableEq, Repr

/-- A GLP frame with its trailer (12 R331, R332). -/
structure GlpFrame where
  hdr : BitVec 256
  payload : Bytes
  pcrc : BitVec 32
  lcrc : BitVec 32
  deriving DecidableEq, Repr

/-- What a bring-up stage found: excluded parts with their codes, a halting code, and the stage's own findings
(16 R443). `others` numbers hubs from 0, port dies from 16 and stacks from 24, as STAGE_OTHERS does (16 R444). -/
structure StageOutcome where
  sites : List (Nat × Nat) := []
  others : List (Nat × Nat) := []
  halt : Nat := 0
  note : Nat := 0
  durationMs : Nat := 0
  fastOk : Bool := false
  rebuilt : List Nat := []
  deriving DecidableEq, Repr

/-- Who asks for an object: session, sequence number and type code of the message (17 R470). -/
structure ReqHead where
  sess : Nat
  seq : BitVec 32
  typ : BitVec 8
  deriving DecidableEq, Repr

/-- The place of a segment in a whole value (17 R470, R472). -/
structure Seg where
  off : Nat
  total : Nat
  deriving DecidableEq, Repr

/-- A slot with an opcode that its table does not list (05 R130, R133, R137, R141, R143, R148). -/
structure IllF where
  io : Issue
  slot : Slot
  opc : BitVec 7
  deriving DecidableEq, Repr

/-- What a core's own checks see when an MMA or a tile transfer ends: a difference between duplicated halves (10 R266) and
the residue error of the checksum datapaths (10 R263). -/
structure TileEnd where
  dup : Bool
  off : Nat
  deriving DecidableEq, Repr

/-- A B buffer that fills: its core, the operand-port channel and the flits of the image (07 R180). -/
structure BFill where
  core : Nat
  ch : Nat
  flits : Nat
  deriving DecidableEq, Repr

/-- What a ladle's own checks see when its entry completes: a difference of its duplicated adders (10 R266) and the words
that it reads (06 R162). -/
structure LadleEnd where
  dup : Bool
  ecc : Ecc
  deriving DecidableEq, Repr

/-- An entry of a merge table that is read, with the words that the read finds (06 R162, R170). -/
structure MergeRead where
  idx : Nat
  ecc : Ecc
  deriving DecidableEq, Repr

/-- A CC_REQ packet at its target, with the words that its access finds (03 R81, 06 R162). -/
structure CcIn where
  pkt : Packet
  ecc : Ecc
  deriving DecidableEq, Repr

/-- A segment that a stream sends, with the words that its read finds (06 R162, 09 R246). -/
structure StreamRead where
  stream : Nat
  ecc : Ecc
  deriving DecidableEq, Repr

/-- What the two ways to the roots at hubs 0 and 15 have done to the sums of the categories (09 R255). -/
structure RootErr where
  hub0 : List (Nat × Int) := []
  hub15 : List (Nat × Int) := []
  deriving DecidableEq, Repr

/-- The words that a sync link brings, each on its two lanes (09 R257). -/
structure LinkWords where
  link : SyncLink
  words : List (BitVec 96 × BitVec 96)
  deriving DecidableEq, Repr

/-- How a test corner ended: the heating time before corner TH and the sense point whose warning recurs (16 R457, 15 R414). -/
structure CornerEnd where
  heatNs : Nat
  conn : Option Nat
  deriving DecidableEq, Repr

/-- One command: a row of the table of operations and events. -/
inductive Instr
  /-- R121. An all-zero slot or bundle issues and does nothing for one cycle. -/
  | nop (io : Issue) (slot : Slot)
  /-- R130. An illegal opcode is fetched and freezes the core: SYNC opcode 0x1F, the fill bundle, or any opcode that its
  slot's table does not list (R130, R133, R137, R141, R143, R148). -/
  | ill (q : IllF)
  /-- R130. Holds the bundle until an arrival counter reaches its threshold, then issues and optionally subtracts the threshold. -/
  | waitAc (io : Issue) (idx : BitVec 6) (cons src : Bool) (imm : BitVec 16)
  /-- R130. Holds the bundle until a queue slot holds a completion, or until the oldest entries have completed, and then retires them. -/
  | waitQ (io : Issue) (q : BitVec 2) (count : Bool) (arg : BitVec 7)
  /-- R130. Holds the bundle until an inbound channel holds enough unconsumed flits or messages. -/
  | waitCh (io : Issue) (ch : BitVec 4) (arg : BitVec 7)
  /-- R130. Holds the bundle until a ladle entry is COMPLETE and its result is written. -/
  | waitLd (io : Issue) (ld : BitVec 5)
  /-- R130. Sets an arrival counter to an immediate or scalar value. -/
  | acSet (io : Issue) (idx : BitVec 6) (src : Bool) (imm : BitVec 16)
  /-- R130. Adds an immediate or scalar value to an arrival counter modulo 2^32. -/
  | acAdd (io : Issue) (idx : BitVec 6) (src : Bool) (imm : BitVec 16)
  /-- R131. Frame mark: increments the ordinal and computes lateness; with LAST = 1 it waits for the queues and send queues to drain and ends the core's work for the attempt. -/
  | mark (io : Issue) (last : Bool) (index4 : BitVec 26)
  /-- R76. Announces a target activity level and a lead to the die's ramp governor. -/
  | pwrHint (io : Issue) (level : BitVec 5) (lead : BitVec 17)
  /-- R92. Clears a tile, sets its Eref and check class, and zeroes its flags and check residue. -/
  | tclr (io : Issue) (acc : BitVec 3) (cls : BitVec 2) (eref : BitVec 10)
  /-- R68. Issues a dense matrix multiply-accumulate into a tile, with exact accumulation and checksum residues. -/
  | mma (io : Issue) (f : MmaF)
  /-- R108. Issues a 2:4 sparse matrix multiply-accumulate over a dense-equivalent K of 64. -/
  | mmaSp (io : Issue) (f : MmaF)
  /-- R103. Converts a tile with one rounding to a target format, writes the image and closes the tile. -/
  | tcvt (io : Issue) (acc : BitVec 3) (fmt : BitVec 4) (sat : Bool) (img : ImgF)
  /-- R133. Writes the exact-form image of rows of a tile and closes the tile. -/
  | txf (io : Issue) (acc : BitVec 3) (row0 rowsM1 : BitVec 5) (img : ImgF)
  /-- R133. Reads an exact-form image and adds its rows into a tile as contributions. -/
  | tadd (io : Issue) (acc : BitVec 3) (img : ImgF)
  /-- R133. Reads a tile's status word into a scalar register. -/
  | tstat (io : Issue) (acc : BitVec 3) (sd : BitVec 5)
  /-- R68. The last K-step of an MMA ends, its tile becomes readable, and the sieve folds its residues into the check residue. -/
  | mmaComplete (core : Nat) (e : TileEnd)
  /-- R133. A TCVT, TXF or TADD finishes its scratchpad transfer; a close sends the output residue and flags to the sieve for comparison. -/
  | tileTransferComplete (core : Nat) (e : TileEnd) (ecc : Ecc)
  /-- R137. Vector integer add. -/
  | iadd (io : Issue) (f : VecF)
  /-- R137. Vector integer subtract. -/
  | isub (io : Issue) (f : VecF)
  /-- R137. Vector integer multiply, low 32 bits. -/
  | imul (io : Issue) (f : VecF)
  /-- R137. Vector bitwise and. -/
  | iand (io : Issue) (f : VecF)
  /-- R137. Vector bitwise or. -/
  | ior (io : Issue) (f : VecF)
  /-- R137. Vector bitwise xor. -/
  | ixor (io : Issue) (f : VecF)
  /-- R137. Vector shift left. -/
  | ishl (io : Issue) (f : VecF)
  /-- R137. Vector logical shift right. -/
  | ishr (io : Issue) (f : VecF)
  /-- R137. Vector arithmetic shift right. -/
  | isra (io : Issue) (f : VecF)
  /-- R137. Vector signed minimum. -/
  | imin (io : Issue) (f : VecF)
  /-- R137. Vector signed maximum. -/
  | imax (io : Issue) (f : VecF)
  /-- R137. Vector signed saturating add. -/
  | iadds (io : Issue) (f : VecF)
  /-- R137. Vector integer compare into a predicate. -/
  | icmp (io : Issue) (f : VecF)
  /-- R137. Vector select by a selector predicate. -/
  | sel (io : Issue) (f : VecF)
  /-- R137. Vector move of the B operand. -/
  | vmov (io : Issue) (f : VecF)
  /-- R137. Vector lane shuffle. -/
  | vshuf (io : Issue) (f : VecF)
  /-- R137. Vector FP32 add. -/
  | fadd (io : Issue) (f : VecF)
  /-- R137. Vector FP32 subtract. -/
  | fsub (io : Issue) (f : VecF)
  /-- R137. Vector FP32 multiply. -/
  | fmul (io : Issue) (f : VecF)
  /-- R137. Vector FP32 fused multiply-add, rounded once. -/
  | ffma (io : Issue) (f : VecF)
  /-- R137. Vector FP32 minimum. -/
  | fmin (io : Issue) (f : VecF)
  /-- R137. Vector FP32 maximum. -/
  | fmax (io : Issue) (f : VecF)
  /-- R137. Vector clear of bit 31. -/
  | fabs (io : Issue) (f : VecF)
  /-- R137. Vector inversion of bit 31. -/
  | fneg (io : Issue) (f : VecF)
  /-- R137. Vector FP32 compare into a predicate. -/
  | fcmp (io : Issue) (f : VecF)
  /-- R138. Fixed-tree FP32 sum of the governed lanes, written to the lowest lane of the range. -/
  | frsum (io : Issue) (f : VecF)
  /-- R138. Fixed-tree wrapping integer sum of the governed lanes. -/
  | irsum (io : Issue) (f : VecF)
  /-- R139. Vector format conversion selected by FN. -/
  | cvt (io : Issue) (f : VecF)
  /-- R115. Vector base-2 exponential by the fixed algorithm. -/
  | exp2 (io : Issue) (f : VecF)
  /-- R115. Vector base-2 logarithm by the fixed algorithm. -/
  | log2 (io : Issue) (f : VecF)
  /-- R115. Vector reciprocal by the fixed algorithm. -/
  | rcp (io : Issue) (f : VecF)
  /-- R115. Vector reciprocal square root by the fixed algorithm. -/
  | rsqrt (io : Issue) (f : VecF)
  /-- R115. Vector sin(pi x) by the fixed algorithm. -/
  | sinpi (io : Issue) (f : VecF)
  /-- R115. Vector cos(pi x) by the fixed algorithm. -/
  | cospi (io : Issue) (f : VecF)
  /-- R118. Vector random words or uniform values from rng(key, ctr). -/
  | vrng (io : Issue) (f : VecF)
  /-- R141. Scalar load from scratchpad. -/
  | lds (io : Issue) (f : MovF)
  /-- R141. Scalar store to scratchpad. -/
  | sts (io : Issue) (f : MovF)
  /-- R141. Vector register lines loaded from scratchpad. -/
  | ldv (io : Issue) (f : MovF)
  /-- R141. Vector register lines stored to scratchpad. -/
  | stv (io : Issue) (f : MovF)
  /-- R157. Writes a repeated 64-bit value over a scratchpad range at the memory. -/
  | fill (io : Issue) (f : MovF)
  /-- R157. Copies a scratchpad range at the memory through the CTL and VEC engines. -/
  | copy (io : Issue) (f : MovF)
  /-- R157. A FILL or COPY ends its transfers and the range scoreboard releases its ranges. -/
  | fillCopyEnd (core : Nat)
  /-- R141. Sends a message from scratchpad on an outbound channel. -/
  | send (io : Issue) (f : MovF)
  /-- R141. Sends vector register lines as a message on an outbound channel. -/
  | sendv (io : Issue) (f : MovF)
  /-- R168. Releases the oldest messages of a ring-bound inbound channel and moves its head past them. -/
  | chRel (io : Issue) (f : MovF)
  /-- R170. Requests a read of lines of a shared window into scratchpad. -/
  | shrd (io : Issue) (f : MovF)
  /-- R210. Allocates a queue entry that reads HBM lines into scratchpad. -/
  | qRd (io : Issue) (f : MovF)
  /-- R210. Allocates a queue entry that writes scratchpad lines to HBM. -/
  | qWr (io : Issue) (f : MovF)
  /-- R216. Allocates one queue entry per gather descriptor, direct or paged. -/
  | qGath (io : Issue) (f : MovF)
  /-- R184. Arms a ladle entry with its target, length, mode and contributor count. -/
  | ldArm (io : Issue) (f : MovF)
  /-- R143. Scalar add. -/
  | addS (io : Issue) (f : CtlF)
  /-- R143. Scalar subtract. -/
  | subS (io : Issue) (f : CtlF)
  /-- R143. Scalar and. -/
  | andS (io : Issue) (f : CtlF)
  /-- R143. Scalar or. -/
  | orS (io : Issue) (f : CtlF)
  /-- R143. Scalar xor. -/
  | xor (io : Issue) (f : CtlF)
  /-- R143. Scalar shift left by register. -/
  | shl (io : Issue) (f : CtlF)
  /-- R143. Scalar logical shift right by register. -/
  | shr (io : Issue) (f : CtlF)
  /-- R143. Scalar arithmetic shift right by register. -/
  | sra (io : Issue) (f : CtlF)
  /-- R143. Scalar signed set-less-than. -/
  | slt (io : Issue) (f : CtlF)
  /-- R143. Scalar unsigned set-less-than. -/
  | sltu (io : Issue) (f : CtlF)
  /-- R143. Scalar multiply, low 64 bits. -/
  | mul (io : Issue) (f : CtlF)
  /-- R143. Scalar add immediate. -/
  | addi (io : Issue) (f : CtlF)
  /-- R143. Scalar and immediate. -/
  | andi (io : Issue) (f : CtlF)
  /-- R143. Scalar shift left by immediate. -/
  | shli (io : Issue) (f : CtlF)
  /-- R143. Scalar logical shift right by immediate. -/
  | shri (io : Issue) (f : CtlF)
  /-- R143. Scalar arithmetic shift right by immediate. -/
  | srai (io : Issue) (f : CtlF)
  /-- R143. Shifts a scalar left by 19 and ors in a zero-extended immediate. -/
  | shin (io : Issue) (f : CtlF)
  /-- R143. Moves a scalar register into a predicate. -/
  | pmov (io : Issue) (f : CtlF)
  /-- R143. Moves a predicate into a scalar register. -/
  | smov (io : Issue) (f : CtlF)
  /-- R143. Branches if equal. -/
  | beq (io : Issue) (f : CtlF)
  /-- R143. Branches if not equal. -/
  | bne (io : Issue) (f : CtlF)
  /-- R143. Branches if signed less than. -/
  | blt (io : Issue) (f : CtlF)
  /-- R143. Branches if signed greater or equal. -/
  | bge (io : Issue) (f : CtlF)
  /-- R143. Branches if unsigned less than. -/
  | bltu (io : Issue) (f : CtlF)
  /-- R143. Branches if unsigned greater or equal. -/
  | bgeu (io : Issue) (f : CtlF)
  /-- R143. Branches unconditionally. -/
  | j (io : Issue) (f : CtlF)
  /-- R143. Decrements a register and branches if the result is not zero. -/
  | loop (io : Issue) (f : CtlF)
  /-- R62. An operation's result is written a fixed number of cycles after issue and releases interlocks on it. -/
  | resultWriteback (core : Nat) (ecc : Ecc)
  /-- R176. A flit leaves a send queue once credits for every destination are held. -/
  | flitInject (core ch : Nat)
  /-- R167. A channel message arrives at a ring, where it is placed as a record or waits for room, or at an operand-port FIFO. -/
  | msg (p : Packet)
  /-- R167. A waiting message is placed in its ring, with a skip record if needed, once room frees. -/
  | ringRecordPlace (core ch : Nat)
  /-- R163. A window write lands at its offset and increments the bound arrival counter. -/
  | win (p : Packet)
  /-- R183. A multicast message is copied to every core of its span and delivered under each receiver's binding. -/
  | mcast (p : Packet)
  /-- R180. The matrix engine moves operand-port flits from the FIFO into a free B buffer. -/
  | bBufferFill (q : BFill)
  /-- R186. A ladle contribution arrives and is added, or staged, into the entry, or refused and discarded. -/
  | ladle (p : Packet) (dup : Bool)
  /-- R188. All contributions are complete; the entry folds or sums its result, writes it and enters COMPLETE. -/
  | ladleComplete (core entry : Nat) (e : LadleEnd)
  /-- R170. A SHRD request reaches the owner NI and joins or opens a merge-table entry. -/
  | shrdReq (p : Packet)
  /-- R170. The owner NET engine reads a merge entry once and sends a unicast reply to each requester. -/
  | shrdMergeRead (core : Nat) (q : MergeRead)
  /-- R163. A SHRD reply lands in the requester's scratchpad and increments its arrival counter. -/
  | shrdRep (p : Packet)
  /-- R211. An HBM queue request reaches its hub, which applies it to the stack in issue order per queue, checking or storing the end-to-end checks. -/
  | qReq (p : Packet) (err : List (BitVec 32)) (rot : List Nat)
  /-- R210. A queue completion arrives; QIN writes the lines after the end-to-end check and the entry completes with status OK or CHECK. -/
  | qCmp (p : Packet) (err : List (BitVec 32))
  /-- R176. A credit-return packet restores channel or HBM request credits at the sender. -/
  | credit (p : Packet)
  /-- R81. A control-core request reads or writes scratchpad or HBM at its target. -/
  | ccReq (q : CcIn)
  /-- R81. A control-core reply returns data or a refusal to the requesting pair. -/
  | ccRep (p : Packet)
  /-- R251. A firmware packet writes map or route-version data, object access or a firmware message. -/
  | admin (p : Packet) (body : AdminBody)
  /-- R236. A larder share or migration copy packet is written to its destination. -/
  | copyPacket (p : Packet)
  /-- R245. A stream transfer-list entry starts when its trigger counter reaches the threshold. -/
  | streamEntryStart (st : Nat)
  /-- R246. The sending engine sends a segment in a reserved pair while it holds a credit. -/
  | streamSegmentSend (q : StreamRead)
  /-- R245. The receiving engine writes a segment and returns a credit; at an entry's end it increments the arrival counter. -/
  | streamSegmentReceive (st : Nat)
  /-- R245. The last source line of an entry is read and the release counter is incremented. -/
  | streamEntryReadDone (st : Nat)
  /-- R246. A stream credit returns to the sender on the reserved return slot. -/
  | streamCreditReturn (st : Nat)
  /-- R76. A PWR.HINT reaches the governor 100 ns after issue and, if effective, sets a step. -/
  | hintArrival (site : Nat)
  /-- R77. Every 100 ns the ramp governor sets the issue allowance, pre-boosts and runs filler work. -/
  | governorTick (site : Nat)
  /-- R207. A refresh window of 240 ns begins on every stack and refreshes banks of its set. -/
  | refreshWindow
  /-- R40. The tick of a slot: boundary work, ledger snapshots, check summaries, pending state changes and the start of the posted slot kind. -/
  | slotTick (missed : List Nat)
  /-- R49. Two microseconds after an overrun tick, the cores restart the frame from its first bundle. -/
  | replayRestart
  /-- R43. During slot s the panel posts the descriptor of slot s + 2, EMPTY if collective inputs are missing. -/
  | slotDescriptorPost
  /-- R255. The trivet hubs complete the conservation audit of the folded ledgers and post the result. -/
  | audit (err : RootErr)
  /-- R45. At 24 µs after a boundary the verdict on the attempt passes or fails; a failure stops the current attempt and schedules a replay. -/
  | verdict
  /-- R288. The certification service appends the frame record of a certified frame to the hash chain. -/
  | chainAppend
  /-- R289. The outputs of a certified frame are released to the host and the output slot is read. -/
  | outputRelease
  /-- R290. After N new entries or on demand, the secure element signs a certificate over the chain head and sends it to the host. -/
  | certificateSign
  /-- R276. A replay die takes up a captured virtual die once the verdict and previous replays allow. -/
  | replayDieStart (site vd : Nat)
  /-- R278. A replay ends and its transcript digest is compared, leading to a second replay, a revocation or HOLD. -/
  | replayCompare (site : Nat) (digest : Bytes)
  /-- R54. At the announced boundary every changing die switches frequency without a stall. -/
  | opSwitch
  /-- R53. A die's critical-path replicas signal a timing emergency and the die stretches its cycles until it ends. -/
  | clockStretch (site ns safe : Nat)
  /-- R55. A die's monitors change its safe point; below the floor the trivet posts a migration, a stretch or HOLD. -/
  | safePointChange (site point : Nat)
  /-- R33. A reference input shows no edge for 32 periods; the mesh switches to the other input or enters holdover. -/
  | refclkLoss (input : RefIn)
  /-- R33. The preferred input has been good for 10 s and the mesh returns to it at a slot tick. -/
  | refclkReturn
  /-- R35. Each microsecond a hub compares its node's phase with its neighbours and decouples a node that disagrees for 16 comparisons. -/
  | meshPhaseCompare (hub : Nat) (phases : List Int)
  /-- R36. A hub detects the loss of a die's clock and isolates the die. -/
  | clockLoss (site : Nat)
  /-- R39. A rising edge on TIMEPULSE_IN is time-stamped and its offset reported. -/
  | timepulseInEdge
  /-- R39. TIMEPULSE_OUT rises at every TIME multiple of one second. -/
  | timepulseOut
  /-- R29. 25 µs before a program frame's tick, the batching service seals its admission set, updates page tables and writes retained inputs. -/
  | batchSeal (inputs : Bytes) (admitted : List Nat) (table : List PageWrite) (freed : Nat)
  /-- R225. The hubs finish copying a checkpoint buffer; stores held on that buffer are released. -/
  | checkpointCopyComplete (buf : CkBuf)
  /-- R225. A checkpoint commits at the first passed verdict on its next frame once every share is written. -/
  | checkpointCommit
  /-- R161. A die's scratchpad mode change zeroes every word over 384 cycles and completes. -/
  | spadModeChange (site : Nat) (hashing : Bool)
  /-- R251. Hub 0 announces a flip once every hub reports the same digest of the written route version,
  and names a TIME count. -/
  | routeFlipAnnounce (count : Nat)
  /-- R251. At the announced boundary the active route version changes and new packets carry the new epoch. -/
  | routeFlip
  /-- R252. A hub posts a drained word for a site once its old-attempt or old-epoch flits have left the cell. -/
  | drainedWord (site : Nat)
  /-- R257. A FAULT word reaches every die, which stops issue for overrun, clock loss, isolation or quench. -/
  | faultWord (kind : FaultKind)
  /-- R423. Both copies of four consecutive sync words fail on a link; the link is handled by where it lies. -/
  | syncLinkDown (q : LinkWords)
  /-- R83. A lockstep pair's comparator finds a mismatch; the pair halts and its services restart elsewhere. -/
  | controlCoreLockstepMismatch (site pair : Nat) (step : Option Nat)
  /-- R418. In a BLANK slot after the drained word, the source NI copies the scratchpads and control-core state to the target and compares digests. -/
  | migrationCopy (vd : Nat) (same : Bool)
  /-- R418. No matching copy exists by E − 10 µs and hub 0 cancels the flip. -/
  | migrationCancel (vd : Nat)
  /-- R424. The restore of the last committed checkpoint and the target entry complete, so the recovery slots and replays can proceed.
  The operands name the shares, by stripe and number, that were unavailable or failed their check when they were read (R228). -/
  | recoveryRestoreDone (unavailable failing : List (Nat × Nat))
  /-- R434. After 1 s of EMPTY slots caused by a lost source panel, the panel enters HOLD. -/
  | lostPanelHold
  /-- R433. A fabric link's AUDIT_COUNT misses 15 µs after a boundary and the link is entered in the lost ledger. -/
  | auditCountTimeout (port : Nat)
  /-- R333. A fabric port loses lock or exceeds the FEC limit; its retry buffer is discarded into the ledger. -/
  | portDown (port : Nat)
  /-- R327. A port's lanes lock with acceptable FEC and the port joins its direction's set. -/
  | portUp (port flightNs : Nat)
  /-- R356. A SUBMIT packet adds part of a request; the last packet completes the request, which is checked, forwarded or placed in a ring. -/
  | submit (sess tag off : Nat) (last : Bool) (data : Bytes)
  /-- R357. A RESPONSE packet carries part of a response record to the submitting session. -/
  | response (sess tag off : Nat) (last : Bool) (data : Bytes)
  /-- R359. A finality notice is sent to or received by the notice destination. -/
  | noticeFinal
  /-- R359. A revocation notice carries a revocation record to the notice destination. -/
  | noticeRevoke
  /-- R359. A certificate notice carries a certificate to the notice destination. -/
  | noticeCert
  /-- R469. An in-band UOAP request arrives for the object-dictionary server. -/
  | objReq (sess : Nat) (message : Bytes)
  /-- R469. An in-band UOAP response is carried back to the session. -/
  | objRsp (sess : Nat)
  /-- R361. Writes up to 4 KiB into a preloaded region in READY, with end-to-end checks. -/
  | bulkWrite (sess addr : Nat) (data : Bytes)
  /-- R334. Acknowledges a bulk write with a status. -/
  | bulkAck (sess addr status : Nat)
  /-- R350. Once a frame is final, the GLP engines read a collective entry's range and send it as COLL_DATA. -/
  | collSend (entry : Nat)
  /-- R350. Collective data arrives and is written coded into the retention slot of frame n + L. -/
  | collData (entry frame off : Nat) (data : Bytes)
  /-- R351. The receiver acknowledges the bytes of a collective entry that have landed. -/
  | collAck (entry frame bytes : Nat)
  /-- R351. A source without a full COLL_ACK 1 ms after sending resends the entry. -/
  | collResend (entry frame : Nat)
  /-- R344. At every multiple of 100,000 TIME counts each link sends a TIME_PROBE. -/
  | timeProbeSend (dir : Nat)
  /-- R344. A time probe arrives and the receiver prepares a TIME_REPLY. -/
  | timeProbe (dir t1 : Nat)
  /-- R344. A time reply arrives; the panel computes its offset, slews, and tests for drift. -/
  | timeReply (dir t1 t2 t3 : Nat)
  /-- R352. A peer's sent counts arrive for the audit of a boundary. -/
  | auditCount (port slot : Nat) (counts : List Nat)
  /-- R334. A fault flag from another panel of the group arrives. -/
  | faultFlag (panel : Nat) (kind : Nat)
  /-- R340. A concord record arrives and sets the link's mode. -/
  | concord (port : Nat) (record cert : Bytes)
  /-- R333. A NAK arrives and the sender resends every frame after GLP.LACK. -/
  | nak (port lack : Nat)
  /-- R333. An IDLE frame is sent every 100 ns on an idle port, carrying acknowledgements and credits. -/
  | idle (port : Nat)
  /-- R333. A GLP frame arrives at a port, with LCRC, sequence, credit and acknowledgement processing. -/
  | glpFrameReceive (port : Nat) (f : GlpFrame)
  /-- R355. A host-mode port answers an ICMPv6 Neighbor Solicitation. -/
  | neighborSolicitation (port : Nat) (addr : Bytes)
  /-- R355. A host-mode port answers an ICMPv6 Echo Request. -/
  | echoRequest (port : Nat) (addr : Bytes)
  /-- R355. A host session idle for 60 s is closed. -/
  | hostSessionIdleClose (sess : Nat)
  /-- R358. A request whose SUBMIT packets stop for 10 s is discarded and answered MALFORMED. -/
  | requestTimeout (sess tag : Nat)
  /-- R362. In SIMMER a lane that has not come up within 2 s gives way to the next port's lane 0. -/
  | lowRateLaneFallback (portDie : Nat)
  /-- R367. Each microsecond each hub samples VIN and logs VIN_LOW or VIN_HIGH or declares a VIN loss. -/
  | vinSample (hub mv : Nat)
  /-- R368. VIN is lost; issue stops, rails shut down, and the trivet records the loss and enters AUX. -/
  | vinLoss
  /-- R480. VIN_PGOOD rises and the panel moves from AUX toward SIMMER and, if enabled, BRINGUP. -/
  | vinPgoodRise (vinMv : Nat)
  /-- R440. AUX_PGOOD rises from COLD, giving a power-on reset into AUX. -/
  | auxPgoodRise
  /-- R369. AUX_PGOOD falls; every IVR stops and the panel enters COLD. -/
  | auxPgoodFall
  /-- R440. A low on PANEL_RESET_N of at least 1 µs causes a hard reset. -/
  | panelResetN (lowNs : Nat)
  /-- R371. An IVR phase raises a fault flag, is disabled and may cap the die. -/
  | ivrPhaseFault (site quadrant phase : Nat)
  /-- R374. A quadrant leaves regulation; the die goes dark and is isolated. -/
  | lossOfRegulation (site : Nat)
  /-- R375. A die's fuse opens on overcurrent and the die goes dark. -/
  | efuseOpen (site : Nat)
  /-- R385. The trivet admits a waiting die power-on when budget, spacing, peaks and quench allow, and starts its soft-start. -/
  | powerOnAdmit
  /-- R387. A 200 µs soft-start ends; the clock locks, control core 3 starts and the calibration set is loaded. -/
  | softStartEnd (site : Nat)
  /-- R388. Every 10 µs each sense point compares its drop with the model and may raise a connection-degradation warning. -/
  | irDropSample (site point dropMv modelMv : Nat)
  /-- R384. The standby trivet takes over within 100 µs when the primary stops. -/
  | trivetTakeover
  /-- R390. Every 100 µs the sensors of each die, hub and port die are sampled for throttling, trips and disagreement. -/
  | sensorSample (part : Part) (temps : List Int)
  /-- R390. Every 500 µs each stack's temperature is read and throttling, refresh rate or a stack trip follows. -/
  | stackTempReadout (stack : Nat) (temp : Int)
  /-- R400. No coolant report for 10 s; the trivet assumes default inlet and flow. -/
  | coolantStale
  /-- R402. COOL_OK has been low for 10 µs and the trivet quenches the panel. -/
  | coolOkLow
  /-- R407. From 100 ms after detection, a rising hot die switches off the compute rails, and a hub trip shuts the panel down. -/
  | quenchEscalation
  /-- R408. After 10 s of normal conditions the quench ends and stacks leave self-refresh. -/
  | quenchEnd
  /-- R496. A half of the secure element fails and requests move to the other half, or signing is suspended. -/
  | seHalfFail (half : Nat)
  /-- R456. A die at the head of the test queue enters TEST when admitted. -/
  | testStart (site : Nat)
  /-- R457. A field-test corner ends and the next begins, or the test passes or fails. -/
  | testCornerEnd (site : Nat) (pass : Bool) (e : CornerEnd)
  /-- R443. A bring-up stage finishes its work, records its report and exclusions, and starts the next stage or halts. -/
  | bringupStageEnd (out : StageOutcome)
  /-- R321. The loader's writing steps finish; checkpoint −1 commits and the panel enters LOADED. -/
  | loadComplete (faultSite : Option Nat)
  /-- R453. The live update advances to its next rollout step once the previous one has finished. -/
  | liveUpdateStep (ok : Bool)
  /-- R318. LOAD_COMMAND 1 checks the staged image in order and starts writing it, or refuses it with a code. -/
  | load (r : ReqHead)
  /-- R322. LOAD_COMMAND 2 starts the loaded program at the next posted slot. -/
  | start (r : ReqHead)
  /-- R323. LOAD_COMMAND 3 unloads the program at the next boundary and the panel enters READY. -/
  | unload (r : ReqHead)
  /-- R325. Writes bytes of a program image into the staging area and advances the offset. -/
  | stageData (r : ReqHead) (data : Bytes)
  /-- R325. Resets the staging length and offset. -/
  | stageClear (r : ReqHead)
  /-- R480. PANEL_COMMAND 1 enters HOLD at the next boundary. -/
  | hold (r : ReqHead)
  /-- R57. PANEL_COMMAND 2 resumes from HOLD by posting REPLAY or PROGRAM slots. -/
  | resume (r : ReqHead)
  /-- R442. BRINGUP_COMMAND 1 in SIMMER starts bring-up at S0. -/
  | bringupStart (r : ReqHead)
  /-- R440. BRINGUP_COMMAND 2 performs a warm reset and restarts bring-up. -/
  | warmReset (r : ReqHead)
  /-- R480. BRINGUP_COMMAND 3 in READY enters SIMMER. -/
  | enterSimmer (r : ReqHead)
  /-- R428. RECOVERY_COMMAND 1 in SAFE with cause 4 repowers the dies and rolls back into HOLD. -/
  | recoveryRestart (r : ReqHead)
  /-- R428. RECOVERY_COMMAND 2 in SAFE discards the program, ends held requests and enters READY. -/
  | recoveryDiscard (r : ReqHead)
  /-- R461. Writes bytes of a firmware image into staging and advances the offset. -/
  | fwStageData (r : ReqHead) (data : Bytes)
  /-- R453. FW_COMMAND 2 verifies the staged firmware and starts a live update. -/
  | liveUpdate (r : ReqHead)
  /-- R455. FW_COMMAND 3 verifies the staged firmware and writes it to flash for the next reset, or for recovery at S7. -/
  | fwWriteOnly (r : ReqHead) (readBackOk : Bool)
  /-- R290. Requests a certificate at the next appended entry. -/
  | certOnDemand (r : ReqHead)
  /-- R415. Releases a frozen compute core in HOLD. -/
  | unfreezeCore (r : ReqHead) (vcore : Nat)
  /-- R415. Releases a frozen remote panel. -/
  | unfreezePanel (r : ReqHead) (panel : Nat)
  /-- R478. Releases a frozen session credential or all of them. -/
  | unfreezeCredential (r : ReqHead) (entry : Nat)
  /-- R414. Releases a quarantined or frozen die to TEST. -/
  | quarantineRelease (r : ReqHead) (site : Nat)
  /-- R456. Places a die at the head of the test queue. -/
  | testNow (r : ReqHead) (site : Nat)
  /-- R440. Requests that settings return to their defaults at the next reset. -/
  | settingsClear (r : ReqHead)
  /-- R339. Brings up the fabric links of a direction, or all, with a concord exchange. -/
  | linkBringup (r : ReqHead) (dir : Nat)
  /-- R498. Installs a role issuer key in the lowest free entry. -/
  | roleKeyInstall (r : ReqHead) (data : Bytes)
  /-- R498. Removes a role key and closes the sessions that it authorised. -/
  | roleKeyRemove (r : ReqHead) (entry : Nat)
  /-- R498. Installs an owner key at its index. -/
  | ownerKeyInstall (r : ReqHead) (data : Bytes)
  /-- R498. Removes an owner key. -/
  | ownerKeyRemove (r : ReqHead) (entry : Nat)
  /-- R507. Checks and stores a calibration set for the selected die and queues its coming into use. -/
  | calSetWrite (r : ReqHead) (data : Bytes)
  /-- R507. A whole read of the calibration set exports it and sets CAL_EXPORTED. -/
  | calSetExport (r : ReqHead)
  /-- R499. Sets the session's nonce for attestation quotes. -/
  | quoteNonce (r : ReqHead) (data : Bytes)
  /-- R499. A read of the quote object forms and signs a fresh attestation quote. -/
  | quote (r : ReqHead)
  /-- R474. A UOAP write to an object that has no row of its own is checked and takes effect whole. -/
  | objectWrite (r : ReqHead) (obj : Nat) (seg : Seg) (data : Bytes)
  /-- R472. A partial segmented value left for 10 s is discarded. -/
  | segmentTimeout (sess : Nat)
  /-- R475. An in-band session sends a certificate segment and receives a challenge. -/
  | openS (r : ReqHead) (seg : Seg) (data : Bytes)
  /-- R475. An in-band session proves its key and is raised to the bound role, or is frozen. -/
  | prove (r : ReqHead) (data : Bytes)
  /-- R471. Closes a session. -/
  | close (r : ReqHead)
  /-- R475. A DTLS handshake on a management port opens a session with the role of its certificate issuer. -/
  | sessionHandshake (path : Nat) (cert : Bytes)
  /-- R475. A management session idle past SESSION_IDLE_S is closed. -/
  | mgmtSessionIdleClose (sess : Nat)
  /-- R33. A reference input that was lost shows edges again; REFCLK_x_OK returns to 1 and a mesh in holdover locks to it. -/
  | refclkInputGood (input : RefIn)
  /-- R346. An IEEE 1588-2019 message (Sync, Follow_Up or Delay_Resp) arrives on a host-mode port of a master disciplined with value 1, and the master steps or slews TIME toward it. -/
  | ptpMessage (port : Nat) (kind : PtpKind) (domain : Nat) (offset : Int)
  /-- R340. Ten seconds after a link went down for bad magic, version or signature, the port retries the concord exchange. -/
  | concordRetry (port : Nat)
  /-- R456. A die's ENT.TESTDUE is reached; the die joins the test queue in due order and counts as overdue until tested. -/
  | fieldTestDue (site : Nat)
  /-- R496. A half of the secure element becomes able to sign again; requests return to it, and signing and certificates resume. -/
  | seHalfRecover (half : Nat)
  /-- R476. A UOAP READ request is executed: SEQ deduplication, abort checks, and a DENIED that freezes the session and its credential. -/
  | objectRead (r : ReqHead) (obj off : Nat)
  /-- R258. A die-to-die or hub-mesh link detects a CRC failure and retries, stalling the waiting endpoint and counting the retry. -/
  | linkRetry (link : RetryLink) (ns : Nat)
  /-- R515. Ten milliseconds after a power-on or hard reset of an auxiliary island, MGMT_x_PHY_RST_N goes high. -/
  | mgmtPhyResetRelease (port : Nat)
  deriving DecidableEq, Repr

end Sys2Proof
end

