-- ==== Sys2Proof/WellFormed.lean ====
section
/-! DEFINITION. Which commands are well formed: every part that a command names by its index exists (01 R12). The
fields of slot operations have their encoding's width in their types, so an illegal encoding is well formed and freezes
the core (05 R148). Values that an object request carries are checked by the object server, which answers RANGE. -/

namespace Sys2Proof

/-- Physical compute cores: 144 sites of 16 rows and 17 columns (01 R12, R13). -/
def okCore (k : Nat) : Bool := decide (k < 39168)
def okSite (k : Nat) : Bool := decide (k < 144)
def okHub (k : Nat) : Bool := decide (k < 16)
def okStack (k : Nat) : Bool := decide (k < 48)
def okPort (k : Nat) : Bool := decide (k < 128)
def okPortDie (k : Nat) : Bool := decide (k < 8)
/-- The four directions of the torus (12 R328). -/
def okDir (k : Nat) : Bool := decide (k < 4)
/-- The two halves of the secure element (18 R496). -/
def okHalf (k : Nat) : Bool := decide (k < 2)

def Part.wf : Part → Bool
  | .die n => okSite n
  | .hub n => okHub n
  | .port n => okPortDie n

def SyncLink.wf : SyncLink → Bool
  | .dieHub n => okSite n
  | .hubHub a b => okHub a && okHub b
  | .portHub n _ => okPortDie n

def RetryLink.wf : RetryLink → Bool
  | .dieToHub n => okSite n
  | .portToHub n _ => okPortDie n
  | .hubMesh a b => okHub a && okHub b

/-- The opcodes that the table of a slot lists, but for SYNC 0x1F, which is reserved as illegal (05 R130, R133, R137, R141,
R143). -/
def listedOps : Slot → List Nat
  | .sync => [0, 1, 2, 3, 4, 5, 6, 8, 12]
  | .mat => [0, 1, 2, 3, 4, 5, 6, 7]
  | .vec => [0, 1, 2, 3, 4, 5, 6, 7, 8, 9, 10, 11, 12, 13, 14, 15, 16, 32, 33, 34, 35, 36, 37, 38, 39, 40, 41, 42, 48, 64, 65, 66, 67, 68, 69, 72]
  | .mov => [0, 1, 2, 3, 4, 5, 6, 8, 9, 10, 11, 16, 17, 18, 24]
  | .ctl => [0, 1, 2, 3, 4, 5, 6, 7, 8, 9, 10, 11, 16, 17, 18, 19, 20, 21, 24, 25, 32, 33, 34, 35, 36, 37, 38, 39]

/-- An opcode that the table of its slot does not list (05 R148). -/
def unlisted (sl : Slot) (opc : BitVec 7) : Bool := !(listedOps sl).contains opc.toNat

/-- Every part that the command names exists, and an illegal opcode is none that its slot's table lists. -/
def Instr.wf : Instr → Bool
  | .nop io _ => okCore io.core
  | .ill q => okCore q.io.core && unlisted q.slot q.opc
  | .waitAc io _ _ _ _ => okCore io.core
  | .waitQ io _ _ _ => okCore io.core
  | .waitCh io _ _ => okCore io.core
  | .waitLd io _ => okCore io.core
  | .acSet io _ _ _ => okCore io.core
  | .acAdd io _ _ _ => okCore io.core
  | .mark io _ _ => okCore io.core
  | .pwrHint io _ _ => okCore io.core
  | .tclr io _ _ _ => okCore io.core
  | .mma io _ => okCore io.core
  | .mmaSp io _ => okCore io.core
  | .tcvt io _ _ _ _ => okCore io.core
  | .txf io _ _ _ _ => okCore io.core
  | .tadd io _ _ => okCore io.core
  | .tstat io _ _ => okCore io.core
  | .mmaComplete core _ => okCore core
  | .tileTransferComplete core _ _ => okCore core
  | .iadd io _ => okCore io.core
  | .isub io _ => okCore io.core
  | .imul io _ => okCore io.core
  | .iand io _ => okCore io.core
  | .ior io _ => okCore io.core
  | .ixor io _ => okCore io.core
  | .ishl io _ => okCore io.core
  | .ishr io _ => okCore io.core
  | .isra io _ => okCore io.core
  | .imin io _ => okCore io.core
  | .imax io _ => okCore io.core
  | .iadds io _ => okCore io.core
  | .icmp io _ => okCore io.core
  | .sel io _ => okCore io.core
  | .vmov io _ => okCore io.core
  | .vshuf io _ => okCore io.core
  | .fadd io _ => okCore io.core
  | .fsub io _ => okCore io.core
  | .fmul io _ => okCore io.core
  | .ffma io _ => okCore io.core
  | .fmin io _ => okCore io.core
  | .fmax io _ => okCore io.core
  | .fabs io _ => okCore io.core
  | .fneg io _ => okCore io.core
  | .fcmp io _ => okCore io.core
  | .frsum io _ => okCore io.core
  | .irsum io _ => okCore io.core
  | .cvt io _ => okCore io.core
  | .exp2 io _ => okCore io.core
  | .log2 io _ => okCore io.core
  | .rcp io _ => okCore io.core
  | .rsqrt io _ => okCore io.core
  | .sinpi io _ => okCore io.core
  | .cospi io _ => okCore io.core
  | .vrng io _ => okCore io.core
  | .lds io _ => okCore io.core
  | .sts io _ => okCore io.core
  | .ldv io _ => okCore io.core
  | .stv io _ => okCore io.core
  | .fill io _ => okCore io.core
  | .copy io _ => okCore io.core
  | .fillCopyEnd core => okCore core
  | .send io _ => okCore io.core
  | .sendv io _ => okCore io.core
  | .chRel io _ => okCore io.core
  | .shrd io _ => okCore io.core
  | .qRd io _ => okCore io.core
  | .qWr io _ => okCore io.core
  | .qGath io _ => okCore io.core
  | .ldArm io _ => okCore io.core
  | .addS io _ => okCore io.core
  | .subS io _ => okCore io.core
  | .andS io _ => okCore io.core
  | .orS io _ => okCore io.core
  | .xor io _ => okCore io.core
  | .shl io _ => okCore io.core
  | .shr io _ => okCore io.core
  | .sra io _ => okCore io.core
  | .slt io _ => okCore io.core
  | .sltu io _ => okCore io.core
  | .mul io _ => okCore io.core
  | .addi io _ => okCore io.core
  | .andi io _ => okCore io.core
  | .shli io _ => okCore io.core
  | .shri io _ => okCore io.core
  | .srai io _ => okCore io.core
  | .shin io _ => okCore io.core
  | .pmov io _ => okCore io.core
  | .smov io _ => okCore io.core
  | .beq io _ => okCore io.core
  | .bne io _ => okCore io.core
  | .blt io _ => okCore io.core
  | .bge io _ => okCore io.core
  | .bltu io _ => okCore io.core
  | .bgeu io _ => okCore io.core
  | .j io _ => okCore io.core
  | .loop io _ => okCore io.core
  | .resultWriteback core _ => okCore core
  | .flitInject core ch => okCore core && decide (ch < 16)
  | .msg _ => true
  | .ringRecordPlace core ch => okCore core && decide (ch < 16)
  | .win _ => true
  | .mcast _ => true
  | .bBufferFill q => okCore q.core
  | .ladle _ _ => true
  | .ladleComplete core _ _ => okCore core
  | .shrdReq _ => true
  | .shrdMergeRead core _ => okCore core
  | .shrdRep _ => true
  | .qReq _ _ _ => true
  | .qCmp _ _ => true
  | .credit _ => true
  | .ccReq _ => true
  | .ccRep _ => true
  | .admin _ _ => true
  | .copyPacket _ => true
  | .streamEntryStart _ => true
  | .streamSegmentSend _ => true
  | .streamSegmentReceive _ => true
  | .streamEntryReadDone _ => true
  | .streamCreditReturn _ => true
  | .hintArrival site => okSite site
  | .governorTick site => okSite site
  | .refreshWindow => true
  | .slotTick _ => true
  | .replayRestart => true
  | .slotDescriptorPost => true
  | .audit _ => true
  | .verdict => true
  | .chainAppend => true
  | .outputRelease => true
  | .certificateSign => true
  | .replayDieStart site _ => okSite site
  | .replayCompare site _ => okSite site
  | .opSwitch => true
  | .clockStretch site _ _ => okSite site
  | .safePointChange site _ => okSite site
  | .refclkLoss _ => true
  | .refclkReturn => true
  | .meshPhaseCompare hub _ => okHub hub
  | .clockLoss site => okSite site
  | .timepulseInEdge => true
  | .timepulseOut => true
  | .batchSeal _ _ _ _ => true
  | .checkpointCopyComplete _ => true
  | .checkpointCommit => true
  | .spadModeChange site _ => okSite site
  | .routeFlipAnnounce _ => true
  | .routeFlip => true
  | .drainedWord site => okSite site
  | .faultWord _ => true
  | .syncLinkDown q => q.link.wf
  | .controlCoreLockstepMismatch site pair _ => okSite site && decide (pair < 4)
  | .migrationCopy _ _ => true
  | .migrationCancel _ => true
  | .recoveryRestoreDone _ _ => true
  | .lostPanelHold => true
  | .auditCountTimeout port => okPort port
  | .portDown port => okPort port
  | .portUp port _ => okPort port
  | .submit _ _ _ _ _ => true
  | .response _ _ _ _ _ => true
  | .noticeFinal => true
  | .noticeRevoke => true
  | .noticeCert => true
  | .objReq _ _ => true
  | .objRsp _ => true
  | .bulkWrite _ _ _ => true
  | .bulkAck _ _ _ => true
  | .collSend _ => true
  | .collData _ _ _ _ => true
  | .collAck _ _ _ => true
  | .collResend _ _ => true
  | .timeProbeSend dir => okDir dir
  | .timeProbe dir _ => okDir dir
  | .timeReply dir _ _ _ => okDir dir
  | .auditCount port _ _ => okPort port
  | .faultFlag _ _ => true
  | .concord port _ _ => okPort port
  | .nak port _ => okPort port
  | .idle port => okPort port
  | .glpFrameReceive port _ => okPort port
  | .neighborSolicitation port _ => okPort port
  | .echoRequest port _ => okPort port
  | .hostSessionIdleClose _ => true
  | .requestTimeout _ _ => true
  | .lowRateLaneFallback portDie => okPortDie portDie
  | .vinSample hub _ => okHub hub
  | .vinLoss => true
  | .vinPgoodRise _ => true
  | .auxPgoodRise => true
  | .auxPgoodFall => true
  | .panelResetN _ => true
  | .ivrPhaseFault site quadrant phase => okSite site && decide (quadrant < 4) && decide (phase < 12)
  | .lossOfRegulation site => okSite site
  | .efuseOpen site => okSite site
  | .powerOnAdmit => true
  | .softStartEnd site => okSite site
  | .irDropSample site point _ _ => okSite site && decide (point < 64)
  | .trivetTakeover => true
  | .sensorSample part _ => part.wf
  | .stackTempReadout stack _ => okStack stack
  | .coolantStale => true
  | .coolOkLow => true
  | .quenchEscalation => true
  | .quenchEnd => true
  | .seHalfFail half => okHalf half
  | .testStart site => okSite site
  | .testCornerEnd site _ e => okSite site && decide (e.heatNs ≤ 60000000000) &&
    (match e.conn with | some p => decide (p < 64) | none => true)
  | .bringupStageEnd _ => true
  | .loadComplete faultSite => match faultSite with | some i => okSite i | none => true
  | .liveUpdateStep _ => true
  | .load _ => true
  | .start _ => true
  | .unload _ => true
  | .stageData _ _ => true
  | .stageClear _ => true
  | .hold _ => true
  | .resume _ => true
  | .bringupStart _ => true
  | .warmReset _ => true
  | .enterSimmer _ => true
  | .recoveryRestart _ => true
  | .recoveryDiscard _ => true
  | .fwStageData _ _ => true
  | .liveUpdate _ => true
  | .fwWriteOnly _ _ => true
  | .certOnDemand _ => true
  | .unfreezeCore _ _ => true
  | .unfreezePanel _ _ => true
  | .unfreezeCredential _ _ => true
  | .quarantineRelease _ _ => true
  | .testNow _ _ => true
  | .settingsClear _ => true
  | .linkBringup _ _ => true
  | .roleKeyInstall _ _ => true
  | .roleKeyRemove _ _ => true
  | .ownerKeyInstall _ _ => true
  | .ownerKeyRemove _ _ => true
  | .calSetWrite _ _ => true
  | .calSetExport _ => true
  | .quoteNonce _ _ => true
  | .quote _ => true
  | .objectWrite _ _ _ _ => true
  | .segmentTimeout _ => true
  | .openS _ _ _ => true
  | .prove _ _ => true
  | .close _ => true
  | .sessionHandshake path _ => decide (path < 2)
  | .mgmtSessionIdleClose _ => true
  | .refclkInputGood _ => true
  | .ptpMessage port _ _ _ => okPort port
  | .concordRetry port => okPort port
  | .fieldTestDue site => okSite site
  | .seHalfRecover half => okHalf half
  | .objectRead _ _ _ => true
  | .linkRetry link _ => link.wf
  | .mgmtPhyResetRelease port => decide (port < 2)

end Sys2Proof
end

