-- ==== Sys2Proof/Decode.lean ====
section
/-! DEFINITION. The decoder over the table's bits: no row of the table gives bits, so no word spells a command. Beside it,
the bundle of a compute core split into its five slots, each slot into its fields, and the operation that each slot
carries (05 R120, R129 to R148). -/

namespace Sys2Proof

/-- The command that a word spells by the bits of the table: none, for no row of the table gives bits. -/
def decodeTableWord (_nbits _w : Nat) : Option Instr := none

/-! ## The slots of a bundle (05 R120) -/

def syncBits (b : BitVec 256) : BitVec 32 := b.extractLsb' 224 32
def matBits (b : BitVec 256) : BitVec 64 := b.extractLsb' 160 64
def vecBits (b : BitVec 256) : BitVec 64 := b.extractLsb' 96 64
def movBits (b : BitVec 256) : BitVec 56 := b.extractLsb' 40 56
def ctlBits (b : BitVec 256) : BitVec 40 := b.extractLsb' 0 40

/-- Some bit of a slot lies in one of the reserved ranges (first bit, count) of its format (05 R148). -/
def anyBit {n : Nat} (w : BitVec n) (l : List (Nat × Nat)) : Bool :=
  l.any (fun r => (w.toNat >>> r.1) % 2 ^ r.2 != 0)

/-- The operation presented with the reserved bits of its format checked. -/
def Issue.check {n : Nat} (io : Issue) (w : BitVec n) (l : List (Nat × Nat)) : Issue := { io with rsvd := anyBit w l }

/-- The SYNC slot (05 R129, R130). -/
def decodeSync (io : Issue) (w : BitVec 32) : Instr :=
  let idx : BitVec 6 := w.extractLsb' 21 6
  let imm : BitVec 16 := w.extractLsb' 0 16
  let arg : BitVec 7 := w.extractLsb' 0 7
  match (w.extractLsb' 27 5).toNat with
  | 0x00 => .nop (io.check w [(0, 27)]) .sync
  | 0x01 => .waitAc (io.check w [(16, 3)]) idx (w.getLsbD 20) (w.getLsbD 19) imm
  | 0x02 => .waitQ (io.check w [(7, 17)]) (w.extractLsb' 25 2) (w.getLsbD 24) arg
  | 0x03 => .waitCh (io.check w [(7, 16)]) (w.extractLsb' 23 4) arg
  | 0x04 => .waitLd (io.check w [(0, 22)]) (w.extractLsb' 22 5)
  | 0x05 => .acSet (io.check w [(16, 3), (20, 1)]) idx (w.getLsbD 19) imm
  | 0x06 => .acAdd (io.check w [(16, 3), (20, 1)]) idx (w.getLsbD 19) imm
  | 0x08 => .mark io (w.getLsbD 26) (w.extractLsb' 0 26)
  | 0x0C => .pwrHint (io.check w [(17, 5)]) (w.extractLsb' 22 5) (w.extractLsb' 0 17)
  | n => .ill ⟨io, .sync, BitVec.ofNat 7 n⟩

/-- The first image of a MAT operation (05 R132). -/
def matImg (w : BitVec 64) : ImgF := { ra := w.extractLsb' 39 5, offA := w.extractLsb' 26 13 }

def matMma (w : BitVec 64) : MmaF :=
  { acc := w.extractLsb' 55 3, fa := w.extractLsb' 52 3, fb := w.extractLsb' 49 3, bsrc := w.getLsbD 48
    chb := w.extractLsb' 44 4, ra := w.extractLsb' 39 5, offA := w.extractLsb' 26 13, rb := w.extractLsb' 21 5
    offB := w.extractLsb' 8 13 }

/-- The MAT slot (05 R132, R133). -/
def decodeMat (io : Issue) (w : BitVec 64) : Instr :=
  let acc : BitVec 3 := w.extractLsb' 55 3
  match (w.extractLsb' 58 6).toNat with
  | 0x00 => .nop (io.check w [(0, 58)]) .mat
  | 0x01 => .tclr (io.check w [(0, 43)]) acc (w.extractLsb' 53 2) (w.extractLsb' 43 10)
  | 0x02 => .mma (io.check w [(0, 8)]) (matMma w)
  | 0x03 => .mmaSp (io.check w [(0, 8)]) (matMma w)
  | 0x04 => .tcvt (io.check w [(44, 6), (0, 26)]) acc (w.extractLsb' 51 4) (w.getLsbD 50) (matImg w)
  | 0x05 => .txf (io.check w [(44, 1), (0, 26)]) acc (w.extractLsb' 50 5) (w.extractLsb' 45 5) (matImg w)
  | 0x06 => .tadd (io.check w [(44, 11), (0, 26)]) acc (matImg w)
  | 0x07 => .tstat (io.check w [(0, 50)]) acc (w.extractLsb' 50 5)
  | n => .ill ⟨io, .mat, BitVec.ofNat 7 n⟩

def vecFields (w : BitVec 64) : VecF :=
  { cls := w.extractLsb' 55 2, half := w.getLsbD 54, pred := w.extractLsb' 51 3, vd := w.extractLsb' 46 5
    va := w.extractLsb' 41 5, vb := w.extractLsb' 36 5, vc := w.extractLsb' 31 5, bsel := w.extractLsb' 29 2
    fn := w.extractLsb' 24 5, imm24 := w.extractLsb' 0 24 }

/-- The VEC slot (05 R136, R137). -/
def decodeVec (io : Issue) (w : BitVec 64) : Instr :=
  let f := vecFields w
  match (w.extractLsb' 57 7).toNat with
  | 0x00 => .nop (io.check w [(0, 57)]) .vec
  | 0x01 => .iadd io f
  | 0x02 => .isub io f
  | 0x03 => .imul io f
  | 0x04 => .iand io f
  | 0x05 => .ior io f
  | 0x06 => .ixor io f
  | 0x07 => .ishl io f
  | 0x08 => .ishr io f
  | 0x09 => .isra io f
  | 0x0A => .imin io f
  | 0x0B => .imax io f
  | 0x0C => .iadds io f
  | 0x0D => .icmp io f
  | 0x0E => .sel io f
  | 0x0F => .vmov io f
  | 0x10 => .vshuf io f
  | 0x20 => .fadd io f
  | 0x21 => .fsub io f
  | 0x22 => .fmul io f
  | 0x23 => .ffma io f
  | 0x24 => .fmin io f
  | 0x25 => .fmax io f
  | 0x26 => .fabs io f
  | 0x27 => .fneg io f
  | 0x28 => .fcmp io f
  | 0x29 => .frsum io f
  | 0x2A => .irsum io f
  | 0x30 => .cvt io f
  | 0x40 => .exp2 io f
  | 0x41 => .log2 io f
  | 0x42 => .rcp io f
  | 0x43 => .rsqrt io f
  | 0x44 => .sinpi io f
  | 0x45 => .cospi io f
  | 0x48 => .vrng io f
  | n => .ill ⟨io, .vec, BitVec.ofNat 7 n⟩

def movFields (w : BitVec 56) : MovF :=
  { x := w.extractLsb' 45 5, ra := w.extractLsb' 40 5, rb := w.extractLsb' 35 5, sz := w.extractLsb' 32 3
    roff := w.extractLsb' 30 2, n := w.extractLsb' 24 6, off := w.extractLsb' 0 24 }

/-- The MOV slot (05 R140, R141). -/
def decodeMov (io : Issue) (w : BitVec 56) : Instr :=
  let f := movFields w
  match (w.extractLsb' 50 6).toNat with
  | 0x00 => .nop (io.check w [(0, 50)]) .mov
  | 0x01 => .lds io f
  | 0x02 => .sts io f
  | 0x03 => .ldv io f
  | 0x04 => .stv io f
  | 0x05 => .fill io f
  | 0x06 => .copy io f
  | 0x08 => .send io f
  | 0x09 => .sendv io f
  | 0x0A => .chRel io f
  | 0x0B => .shrd io f
  | 0x10 => .qRd io f
  | 0x11 => .qWr io f
  | 0x12 => .qGath io f
  | 0x18 => .ldArm io f
  | n => .ill ⟨io, .mov, BitVec.ofNat 7 n⟩

def ctlFields (w : BitVec 40) : CtlF :=
  { rd := w.extractLsb' 29 5, ra := w.extractLsb' 24 5, rb := w.extractLsb' 19 5, imm := w.extractLsb' 0 19 }

/-- The CTL slot (05 R142, R143). -/
def decodeCtl (io : Issue) (w : BitVec 40) : Instr :=
  let f := ctlFields w
  match (w.extractLsb' 34 6).toNat with
  | 0x00 => .nop (io.check w [(0, 34)]) .ctl
  | 0x01 => .addS io f
  | 0x02 => .subS io f
  | 0x03 => .andS io f
  | 0x04 => .orS io f
  | 0x05 => .xor io f
  | 0x06 => .shl io f
  | 0x07 => .shr io f
  | 0x08 => .sra io f
  | 0x09 => .slt io f
  | 0x0A => .sltu io f
  | 0x0B => .mul io f
  | 0x10 => .addi io f
  | 0x11 => .andi io f
  | 0x12 => .shli io f
  | 0x13 => .shri io f
  | 0x14 => .srai io f
  | 0x15 => .shin io f
  | 0x18 => .pmov io f
  | 0x19 => .smov io f
  | 0x20 => .beq io f
  | 0x21 => .bne io f
  | 0x22 => .blt io f
  | 0x23 => .bge io f
  | 0x24 => .bltu io f
  | 0x25 => .bgeu io f
  | 0x26 => .j io f
  | 0x27 => .loop io f
  | n => .ill ⟨io, .ctl, BitVec.ofNat 7 n⟩

/-- The five operations of a bundle at a core, in slot order: SYNC opens the bundle and the others stand in it (05 R120,
R145). -/
def bundleOps (core : Nat) (b : BitVec 256) : List Instr :=
  [decodeSync { core := core } (syncBits b), decodeMat { core := core, join := true } (matBits b),
   decodeVec { core := core, join := true } (vecBits b), decodeMov { core := core, join := true } (movBits b),
   decodeCtl { core := core, join := true } (ctlBits b)]

end Sys2Proof
end

