-- ==== Sys2Proof/Config.lean ====
section
/-! DEFINITION. What the manual leaves open: free values and functions without a body. Nothing here can be
evaluated, so no statement depends on what a value is. The log entry of each is named. -/

namespace Sys2Proof

/-- A value the manual leaves open, drawn with a counter of the state (log 5). -/
opaque Config.freeValue : Nat → BitVec 64

/-- A byte string whose bytes the manual leaves open (log 5). -/
opaque Config.freeBytes : Nat → Bytes

/-- ECDSA on P-384 with SHA-384, r then s, by the key named (18 R492; log 6). -/
opaque Config.sign : Nat → Bytes → Bytes

/-- Whether a signature verifies under a public key over a message (18 R492; log 6). -/
opaque Config.verify : Bytes → Bytes → Bytes → Bool

/-- The public key of a certificate, and whether the vendor service key signed it (18 R497; log 6). -/
opaque Config.certKey : Bytes → Bytes
opaque Config.certByVendor : Bytes → Bool
/-- The public key that issued a certificate, checked by its signature (18 R497; log 6). -/
opaque Config.certSignedBy : Bytes → Bytes → Bool

/-- What the factory put into the panel: serials, certificates, OTP records, mask ROM digests, patterns (log 4). -/
opaque Config.panelSerial : Bytes
opaque Config.panelCert : Bytes
opaque Config.dieCert : Nat → Bytes
/-- The defect record of a compute die (0 to 143), hub (144 to 159) or port die (160 to 167) (16 R445; log 4). -/
opaque Config.defectRecord : Nat → Bytes
opaque Config.stackSerial : Nat → Bytes
opaque Config.vendorKeyDigests : Bytes
opaque Config.vendorManufacturingKey : Bytes
opaque Config.vendorFirmwareKey : Bytes
opaque Config.deliveryKey : Bytes
opaque Config.defaultCalBlock : Nat → Bytes
opaque Config.factoryCalSet : Nat → Bytes
opaque Config.factoryFirmware : Bytes
opaque Config.patternDigest : Nat → Bytes

/-- The 16-bit CRC of a sync word, over its bits [79:0]: kind, source hub and payload from bit 0 (09 R257; log 63). -/
opaque Config.crc16 : BitVec 80 → BitVec 16

/-- A random 32-byte challenge, by the count of challenges drawn (17 R471; log 5). -/
opaque Config.challenge : Nat → Bytes

/-- The sections of an image whose byte layout the manual does not give (11 R299; log 7). A record is a list of
numbers: each function's use says which. -/
opaque Config.parseLadles : Bytes → List (List (List Nat))
opaque Config.parseStreams : Bytes → List (List Nat)
opaque Config.parseSpadInit : Bytes → List (Nat × Nat × Nat × Bytes)
opaque Config.parseHbmInit : Bytes → List (Nat × Bool × Bytes)
opaque Config.parsePower : Bytes → List (Nat × List (Nat × Nat))
opaque Config.parseServices : Bytes → List (List Nat)

/-- The response messages a program produces, read from the frame's output: request identity, whether it is the last,
body (10 R287, 12 R357; log 7). -/
opaque Config.frameResponses : Bytes → List (Nat × Bool × Bytes)

/-- The estimate of a die's power from its calibration set in use, at a point and a level, in mW (13 R378; log 8). -/
opaque Config.diePowerMw : Bytes → Nat → Nat → Nat

/-- The mean control temperature that the activity model predicts, in 0.01 K (14 R401; log 8). -/
opaque Config.predictedMean : Nat → Int → Int

/-- The activity weight of a bundle with a MAT or VEC operation, in the units of the issue allowance (03 R75; log 8). -/
opaque Config.bundleWeight : Nat → Nat

/-- The IPv6 source address of an in-band session, by its number (12 R355, 17 R477; log 36). -/
opaque Config.hostAddr : Nat → Bytes

/-- The bytes of a route version, over which object 4000.07 gives the digest: the sites of the virtual dies, the stacks of
the virtual stacks, the spare positions, the reserved pairs of the streams, the multicast copies (09 R249, R258; log 7). -/
opaque Config.routeBytes : List Nat → List Nat → List Nat → List (Nat × Nat × Nat × Nat × Nat) → List (Nat × Nat × List Nat) → Bytes

/-- The offset of the collective table within a SERVICES section, and its entries (11 R299, 12 R349; log 7). -/
opaque Config.collsAt : Bytes → Nat × Nat

/-- The input range of the batching service in a frame's sealed input: offset and length, read from the SERVICES section (12 R349;
log 7). -/
opaque Config.batchRange : Bytes → Nat × Nat

end Sys2Proof
end

