-- ==== Sys2Proof/Machine/SMap.lean ====
section
/-! DEFINITION. Reading and writing a sparse map. Every array of the panel (register files, memories,
per-part blocks, the object dictionary) is one; the default function says what an unlisted key reads as. -/

namespace Sys2Proof

/-- The value at key `k`: the listed one, or the default. -/
def SMap.get {α : Type} (d : Nat → α) : SMap α → Nat → α
  | [], k => d k
  | (k', v) :: t, k => if k' = k then v else SMap.get d t k

/-- Every entry of `k` taken out. -/
def SMap.erase {α : Type} : SMap α → Nat → SMap α
  | [], _ => []
  | (k', v) :: t, k => if k' = k then SMap.erase t k else (k', v) :: SMap.erase t k

/-- A new entry put in at its place in the order of the keys. -/
def SMap.insert {α : Type} : SMap α → Nat → α → SMap α
  | [], k, v => [(k, v)]
  | (k', v') :: t, k, v => if k < k' then (k, v) :: (k', v') :: t else (k', v') :: SMap.insert t k v

/-- The map with `v` at `k`. A value equal to the default is not listed. -/
def SMap.put {α : Type} [DecidableEq α] (d : Nat → α) (m : SMap α) (k : Nat) (v : α) : SMap α :=
  if v = d k then SMap.erase m k else SMap.insert (SMap.erase m k) k v

/-- Several entries written in order. -/
def SMap.putAll {α : Type} [DecidableEq α] (d : Nat → α) (m : SMap α) : List (Nat × α) → SMap α
  | [] => m
  | (k, v) :: t => SMap.putAll d (SMap.put d m k v) t

/-- The value at `k` changed by `f`. -/
def SMap.upd {α : Type} [DecidableEq α] (d : Nat → α) (m : SMap α) (k : Nat) (f : α → α) : SMap α :=
  SMap.put d m k (f (SMap.get d m k))

/-- The entries with a key in `lo` to `hi - 1`. -/
def SMap.range {α : Type} (m : SMap α) (lo hi : Nat) : SMap α :=
  m.filter (fun p => decide (lo ≤ p.1) && decide (p.1 < hi))

/-- The map without the entries with a key in `lo` to `hi - 1`. -/
def SMap.clearRange {α : Type} (m : SMap α) (lo hi : Nat) : SMap α :=
  m.filter (fun p => !(decide (lo ≤ p.1) && decide (p.1 < hi)))

/-- Every listed value changed by `f`, which leaves an unlisted value as it is. -/
def SMap.mapV {α : Type} [DecidableEq α] (d : Nat → α) (f : α → α) (m : SMap α) : SMap α :=
  m.filterMap (fun p => if f p.2 = d p.1 then none else some (p.1, f p.2))

/-- The keys rise strictly from `lo` on. -/
def SMap.sortedFrom {α : Type} : Nat → SMap α → Bool
  | _, [] => true
  | lo, (k, _) :: t => decide (lo ≤ k) && SMap.sortedFrom (k + 1) t

/-- The canonical form: keys strictly rising, no entry equal to the default. -/
def SMap.wf {α : Type} [DecidableEq α] (d : Nat → α) (m : SMap α) : Bool :=
  SMap.sortedFrom 0 m && m.all (fun p => decide (p.2 ≠ d p.1))

/-- A list of entries as a map; a later entry of a key counts. -/
def SMap.ofList {α : Type} [DecidableEq α] (d : Nat → α) (l : List (Nat × α)) : SMap α :=
  if SMap.wf d l then l else SMap.putAll d [] l

/-- The entries with a key in `lo` to `hi - 1` replaced by those of a list with a key in that range. -/
def SMap.splice {α : Type} [DecidableEq α] (d : Nat → α) (m : SMap α) (lo hi : Nat) (l : List (Nat × α)) : SMap α :=
  m.filter (fun p => decide (p.1 < lo)) ++ SMap.range (SMap.ofList d l) lo hi ++
    m.filter (fun p => decide (lo ≤ p.1) && decide (hi ≤ p.1))

end Sys2Proof
end

