-- ==== Sys2Proof/Machine/Digest.lean ====
section
/-! DEFINITION. Byte strings and numbers, and the digests of the manual: CRC-32C (09 R236), CRC-64 (09 R248) and
SHA-384 (10, 11, 17). -/

namespace Sys2Proof

/-- The low `n` bytes of a number, least significant first (01 R4). -/
def bytesLE : Nat → Nat → Bytes
  | 0, _ => []
  | n + 1, v => BitVec.ofNat 8 v :: bytesLE n (v / 256)

/-- The number that a byte string holds, least significant byte first. -/
def natLE : Bytes → Nat
  | [] => 0
  | b :: t => b.toNat + 256 * natLE t

/-- The number that a byte string holds, most significant byte first. -/
def natBE (b : Bytes) : Nat := natLE b.reverse

/-- `n` bytes from offset `o`; zero past the end. -/
def slice (b : Bytes) (o n : Nat) : Bytes :=
  ((b.drop o).take n) ++ List.replicate (n - ((b.drop o).take n).length) 0

/-- A little-endian field of a record. -/
def field (b : Bytes) (o n : Nat) : Nat := natLE (slice b o n)

/-- A flit as its 64 bytes, and back. -/
def flitBytes (f : Flit) : Bytes := bytesLE 64 f.toNat
def bytesFlit (b : Bytes) : Flit := BitVec.ofNat 512 (natLE b)

/-- A byte string cut into flits. -/
def toFlits (n : Nat) (b : Bytes) : List Flit := (List.range n).map (fun i => bytesFlit (slice b (64 * i) 64))

/-- Bits [hi : lo] of a number. -/
def bits (v hi lo : Nat) : Nat := (v >>> lo) % 2 ^ (hi - lo + 1)

/-- One bit of the reflected CRC-32C register. -/
def crc32cBit (c : Nat) : Nat := if c % 2 = 1 then (c / 2) ^^^ 0x82F63B78 else c / 2

/-- One byte into the CRC-32C register. -/
def crc32cByte (c : Nat) (b : Byte) : Nat :=
  (List.range 8).foldl (fun r _ => crc32cBit r) (c ^^^ b.toNat)

/-- CRC-32C, polynomial 0x1EDC_6F41 (09 R236, 08 R204). -/
def crc32c (b : Bytes) : Nat := (b.foldl crc32cByte 0xFFFFFFFF) ^^^ 0xFFFFFFFF

/-- One byte into the CRC-64 register, bit 7 first (09 R248). -/
def crc64Byte (c : Nat) (b : Byte) : Nat :=
  (List.range 8).foldl
    (fun r _ => if r ≥ 2 ^ 63 then ((2 * r) % 2 ^ 64) ^^^ 0x42F0E1EBA9EA3693 else 2 * r) (c ^^^ (b.toNat <<< 56))

/-- CRC-64 of R248: initial value zero, no reflection, no final inversion; from a register to a register. -/
def crc64 (c : Nat) (b : Bytes) : Nat := b.foldl crc64Byte c

/-! ## SHA-384 -/

def shaK1 : List (BitVec 64) :=
  [0x428A2F98D728AE22, 0x7137449123EF65CD, 0xB5C0FBCFEC4D3B2F, 0xE9B5DBA58189DBBC,
   0x3956C25BF348B538, 0x59F111F1B605D019, 0x923F82A4AF194F9B, 0xAB1C5ED5DA6D8118,
   0xD807AA98A3030242, 0x12835B0145706FBE, 0x243185BE4EE4B28C, 0x550C7DC3D5FFB4E2,
   0x72BE5D74F27B896F, 0x80DEB1FE3B1696B1, 0x9BDC06A725C71235, 0xC19BF174CF692694,
   0xE49B69C19EF14AD2, 0xEFBE4786384F25E3, 0x0FC19DC68B8CD5B5, 0x240CA1CC77AC9C65,
   0x2DE92C6F592B0275, 0x4A7484AA6EA6E483, 0x5CB0A9DCBD41FBD4, 0x76F988DA831153B5,
   0x983E5152EE66DFAB, 0xA831C66D2DB43210, 0xB00327C898FB213F, 0xBF597FC7BEEF0EE4,
   0xC6E00BF33DA88FC2, 0xD5A79147930AA725, 0x06CA6351E003826F, 0x142929670A0E6E70,
   0x27B70A8546D22FFC, 0x2E1B21385C26C926, 0x4D2C6DFC5AC42AED, 0x53380D139D95B3DF,
   0x650A73548BAF63DE, 0x766A0ABB3C77B2A8, 0x81C2C92E47EDAEE6, 0x92722C851482353B]

def shaK2 : List (BitVec 64) :=
  [0xA2BFE8A14CF10364, 0xA81A664BBC423001, 0xC24B8B70D0F89791, 0xC76C51A30654BE30,
   0xD192E819D6EF5218, 0xD69906245565A910, 0xF40E35855771202A, 0x106AA07032BBD1B8,
   0x19A4C116B8D2D0C8, 0x1E376C085141AB53, 0x2748774CDF8EEB99, 0x34B0BCB5E19B48A8,
   0x391C0CB3C5C95A63, 0x4ED8AA4AE3418ACB, 0x5B9CCA4F7763E373, 0x682E6FF3D6B2B8A3,
   0x748F82EE5DEFB2FC, 0x78A5636F43172F60, 0x84C87814A1F0AB72, 0x8CC702081A6439EC,
   0x90BEFFFA23631E28, 0xA4506CEBDE82BDE9, 0xBEF9A3F7B2C67915, 0xC67178F2E372532B,
   0xCA273ECEEA26619C, 0xD186B8C721C0C207, 0xEADA7DD6CDE0EB1E, 0xF57D4F7FEE6ED178,
   0x06F067AA72176FBA, 0x0A637DC5A2C898A6, 0x113F9804BEF90DAE, 0x1B710B35131C471B,
   0x28DB77F523047D84, 0x32CAAB7B40C72493, 0x3C9EBE0A15C9BEBC, 0x431D67C49C100D4C,
   0x4CC5D4BECB3E42B6, 0x597F299CFC657E2A, 0x5FCB6FAB3AD6FAEC, 0x6C44198C4A475817]

/-- The first hash value of SHA-384. -/
def shaH : List (BitVec 64) :=
  [0xCBBB9D5DC1059ED8, 0x629A292A367CD507, 0x9159015A3070DD17, 0x152FECD8F70E5939,
   0x67332667FFC00B31, 0x8EB44A8768581511, 0xDB0C2E0D64F98FA7, 0x47B5481DBEFA4FA4]

/-- The message schedule grown by one word; the list is newest first. -/
def shaNext (w : List (BitVec 64)) : List (BitVec 64) :=
  let a := w.getD 1 0
  let b := w.getD 14 0
  let s1 := a.rotateRight 19 ^^^ a.rotateRight 61 ^^^ (a >>> 6)
  let s0 := b.rotateRight 1 ^^^ b.rotateRight 8 ^^^ (b >>> 7)
  (s1 + w.getD 6 0 + s0 + w.getD 15 0) :: w

/-- The 80 words of the schedule, in order. -/
def shaSched (m : List (BitVec 64)) : List (BitVec 64) :=
  ((List.range 64).foldl (fun r _ => shaNext r) m.reverse).reverse

/-- One round. -/
def shaRound (h : List (BitVec 64)) (kw : BitVec 64 × BitVec 64) : List (BitVec 64) :=
  match h with
  | [a, b, c, d, e, f, g, x] =>
    let s1 := e.rotateRight 14 ^^^ e.rotateRight 18 ^^^ e.rotateRight 41
    let ch := (e &&& f) ^^^ (~~~e &&& g)
    let t1 := x + s1 + ch + kw.1 + kw.2
    let s0 := a.rotateRight 28 ^^^ a.rotateRight 34 ^^^ a.rotateRight 39
    let mj := (a &&& b) ^^^ (a &&& c) ^^^ (b &&& c)
    [t1 + (s0 + mj), a, b, c, d + t1, e, f, g]
  | h => h

/-- One block of 128 bytes. -/
def shaBlock (h : List (BitVec 64)) (blk : Bytes) : List (BitVec 64) :=
  let m := (List.range 16).map (fun i => BitVec.ofNat 64 (natBE (slice blk (8 * i) 8)))
  let r := (List.zip (shaK1 ++ shaK2) (shaSched m)).foldl shaRound h
  List.zipWith (fun a b => a + b) h r

/-- The padded message. -/
def shaPad (b : Bytes) : Bytes :=
  b ++ (0x80 : Byte) :: List.replicate ((239 - b.length % 128) % 128) 0 ++ (bytesLE 16 (8 * b.length)).reverse

/-- SHA-384. -/
def sha384 (b : Bytes) : Bytes :=
  let p := shaPad b
  let h := (List.range (p.length / 128)).foldl (fun h i => shaBlock h (slice p (128 * i) 128)) shaH
  (h.take 6).foldr (fun w r => (bytesLE 8 w.toNat).reverse ++ r) []

end Sys2Proof
end

