-- ==== Sys2Proof/Machine/State.lean ====
section
/-! DEFINITION. The state of the panel as plain data: every register, queue, counter, mode and pin that the manual
gives it, the waiting commands, and the state right after reset. A sparse map lists only what differs from the
value an unlisted key reads as; the default functions are in Machine/Ops.lean. -/

namespace Sys2Proof.Machine

/-! ## The compute core (03, 05, 06, 07, 08) -/

/-- Where a result in flight goes, with its value (03 R62). -/
inductive Dest
  | sreg (r : Nat) (v : BitVec 64)
  | vreg (r : Nat) (lanes : List (Nat × BitVec 32))
  | pred (p : Nat) (v : BitVec 64)
  | tclr (t : Nat) (eref : BitVec 10) (cls : BitVec 2)
  /-- A scalar register loaded from `n` bytes of scratchpad (05 R141). -/
  | load (r addr n : Nat) (sext : Bool)
  /-- Lines of a vector register loaded from scratchpad. -/
  | loadv (r line addr lines : Nat)
  /-- Bytes stored to scratchpad. -/
  | store (addr : Nat) (data : Bytes)
  deriving DecidableEq, Repr

/-- A result that an issued operation writes at core cycle `ready` (03 R62). -/
structure Pend where
  dest : Dest
  issue : Nat
  ready : Nat
  deriving DecidableEq, Repr

/-- An accumulator tile with its status word, class and sieve record (04 R91 to R97, 10 R260, R268). -/
structure Tile where
  elems : SMap (BitVec 320) := []
  eref : BitVec 10 := 0
  nonfinite : Bool := false
  clamped : Bool := false
  overflow : Bool := false
  inexact : Bool := false
  cls : BitVec 2 := 0
  chk : Nat := 0
  ord : Nat := 0
  deriving DecidableEq, Repr

/-- A scratchpad range in use: physical addresses `lo` to `hi - 1`, read or written, until core cycle `release`; none
for a range with no fixed end (03 R64, R65, 05 R141). `tag` names the operation; `run` is the cycle of its first transfer
where it passes its lines in order, two in a cycle. -/
structure Rng where
  lo : Nat
  hi : Nat
  wr : Bool
  release : Option Nat
  tag : Nat
  run : Option Nat := none
  deriving DecidableEq, Repr

/-- An MMA in progress: its operand images as read (03 R68, 06 R156). -/
structure MmaJob where
  tile : Nat
  sparse : Bool
  fa : BitVec 3
  fb : BitVec 3
  a : Bytes
  b : Bytes
  issue : Nat
  k : Nat
  done : Nat
  pc : Nat := 0
  deriving DecidableEq, Repr

/-- The tile transfers of R133. -/
inductive XferKind | tcvt | txf | tadd
  deriving DecidableEq, Repr

/-- A tile transfer in progress (05 R133, R135). -/
structure XferJob where
  kind : XferKind
  tile : Nat
  vaddr : Nat
  addr : Nat
  fmt : BitVec 4 := 0
  sat : Bool := false
  row0 : Nat := 0
  rows : Nat := 0
  done : Nat := 0
  /-- The cycle by which a TADD has read its header, until it has been judged; 0 after. -/
  hdrAt : Nat := 0
  pc : Nat := 0
  tag : Nat := 0
  deriving DecidableEq, Repr

/-- A FILL or COPY in progress (06 R157). -/
structure MemJob where
  fill : Bool
  src : Nat
  dst : Nat
  len : Nat
  value : BitVec 64
  done : Nat
  tag : Nat
  deriving DecidableEq, Repr

/-- An entry of an HBM queue from issue to retirement (08 R210, R212). `after` is the cycle from which it may touch the
scratchpad: the MAT operation of its bundle has passed its bytes (05 R146). -/
structure QEnt where
  num : Nat
  write : Bool
  lines : Nat
  spad : Nat
  haddr : Nat
  issueTime : Nat
  sent : Bool := false
  srcRead : Bool := false
  /-- Lines requested, and what has come back: lines of a read, requests of a write. -/
  out : Nat := 0
  got : Nat := 0
  done : Bool := false
  check : Bool := false
  pc : Nat := 0
  after : Nat := 0
  /-- The descriptor of a Q.GATH that QOUT has still to read (08 R216). -/
  desc : Option Nat := none
  deriving DecidableEq, Repr

/-- A flit waiting to be sent, with its place in its message (07 R175, R176). `src` is its line in scratchpad while
the NET engine has not read it yet; `off` is the line offset of a window message; `after` the cycle from which its line
may be read (05 R146). -/
structure SFlit where
  data : Flit
  src : Option Nat := none
  idx : Nat
  total : Nat
  off : Nat
  tag : Nat
  after : Nat := 0
  deriving DecidableEq, Repr

/-- A record of a ring: its offset, its footprint, whether it is a skip record, whether its header line is written
(06 R166, R167). -/
structure RingRec where
  addr : Nat
  foot : Nat
  skip : Bool := false
  done : Bool := false
  deriving DecidableEq, Repr

/-- A ring: tail, head, used count, its records from the oldest, and the packets that wait for room (06 R167). -/
structure Ring where
  t : Nat := 0
  h : Nat := 0
  u : Nat := 0
  recs : List RingRec := []
  waiting : List Packet := []
  /-- The message at the head of the waiting ones has been counted in 6200.06 (06 R172). -/
  counted : Bool := false
  deriving DecidableEq, Repr

/-- A message that has arrived in part: flits so far, its place in a ring, the flits kept for a ladle (07 R176). -/
structure Arr where
  got : Nat := 0
  base : Option Nat := none
  flits : List Flit := []
  deriving DecidableEq, Repr

/-- The states of a ladle entry (07 R184). -/
inductive LadleSt | disarmed | armed | complete
  deriving DecidableEq, Repr

/-- A ladle entry (07 R184 to R188). `guard` is the guard store: the part of each sum above the 256 bits that stand in the
target (R186); `next` is what each contributor has
delivered, in rows or in bytes; `stage` is the staging range of ordered mode. -/
structure Ladle where
  st : LadleSt := .disarmed
  ordered : Bool := false
  n : Nat := 0
  base : Nat := 0
  len : Nat := 0
  rows : Nat := 0
  r0 : Nat := 0
  eref : Int := 0
  nonfinite : Bool := false
  overflow : Bool := false
  inexact : Bool := false
  guard : SMap Int := []
  /-- The cycle from which the header of the target may be read, until it has been (05 R146); 0 after. -/
  hdrAt : Nat := 0
  next : SMap Nat := []
  waiting : List Packet := []
  deriving DecidableEq, Repr

/-- A B buffer of the matrix engine (07 R180). -/
structure BBuf where
  ch : Nat
  flits : List Flit
  busyTill : Nat := 0
  deriving DecidableEq, Repr

/-- A requester of a merge-table entry: virtual core, destination line, its outbound channel (06 R170). -/
structure Asker where
  vcore : Nat
  line : Nat
  ch : Nat
  deriving DecidableEq, Repr

/-- A merge-table entry of the owner of a shared window: address, lines, requesters, oldest first (06 R170). -/
structure MergeEnt where
  addr : Nat
  lines : Nat
  askers : List Asker
  deriving DecidableEq, Repr

/-- What a freeze record names (03 R72, 05 R149, 15 R435). `queue` is the issue cycle of the faulting descriptor's entry,
where the queue engine is frozen too (08 R218). -/
structure Freeze where
  pc : Nat
  slot : Slot
  violation : Nat
  queue : Option Nat := none
  deriving DecidableEq, Repr

/-- What the checkers of a core saw: a corrected word, an uncorrectable word, a mismatch of duplicated hardware in a unit
(06 R162, 10 R267). -/
inductive Seen
  | single
  | double
  | dup (unit : Nat)
  deriving DecidableEq, Repr

/-- One physical compute core (03 R59, 05 R124). -/
structure Core where
  /-- Bundle address, 11 bits (05 R122). -/
  pc : Nat := 0
  /-- Core cycle of the attempt (06 R153). -/
  cycle : Nat := 0
  /-- First cycle at which the next bundle may issue (05 R122). -/
  nextIssue : Nat := 0
  /-- The bundle that is open for joins: its cycle and the slot last issued in it (03 R61). -/
  openSlot : Option Slot := none
  /-- Stopped at a bundle by a double-bit error of its instruction memory (03 R60). -/
  halted : Bool := false
  /-- The bundle of this cycle is held: no operation joined to it issues (03 R61). -/
  held : Bool := false
  sregs : SMap (BitVec 64) := []
  vregs : SMap (BitVec 32) := []
  preds : SMap (BitVec 64) := []
  tiles : SMap Tile := []
  acs : SMap (BitVec 32) := []
  pend : List Pend := []
  ranges : List Rng := []
  nextTag : Nat := 0
  /-- The last tag given before the open bundle: the ranges above it are those of its MAT operation (05 R146). -/
  openTag : Nat := 0
  mmas : List MmaJob := []
  xfer : Option XferJob := none
  mem : List MemJob := []
  /-- First cycle at which the vector engine accepts an operation (05 R137). -/
  vecFree : Nat := 0
  /-- First cycle after the last transfer of each bank-wheel engine (06 R154). -/
  engFree : SMap Nat := []
  /-- The engine that each bank last served in hashing mode, plus one (06 R159). -/
  bankLast : SMap Nat := []
  /-- Destinations named by the open bundle: kind and number (05 R145). -/
  named : List (Nat × Nat) := []
  /-- Held cycles by code 1 to 10 (03 R66). -/
  stall : SMap (BitVec 32) := []
  /-- The hold of the last cycle: code and what it waits on (03 R64, 07 R197). -/
  hold : Option (Nat × Nat) := none
  /-- TIME of the last bundle issued and of the attempt's first bundle (03 R67, 07 R197). -/
  lastIssueTime : Nat := 0
  firstTime : Option Nat := none
  /-- Frame-mark ordinal, last frame mark passed, lateness in ns (03 R67, 05 R131). -/
  ordinal : Nat := 0
  lastMark : Bool := false
  late : Nat := 0
  queues : SMap (List QEnt) := []
  qCount : SMap Nat := []
  sendq : SMap (List SFlit) := []
  /-- Credits taken, per outbound channel and destination (07 R175); 16 less this are held. -/
  taken : SMap Nat := []
  /-- Messages sent per outbound channel, and expected per inbound channel and sender (09 R238). -/
  seqOut : SMap Nat := []
  seqIn : SMap Nat := []
  landing : SMap (List Flit) := []
  arr : SMap Arr := []
  bbufs : List BBuf := []
  rings : SMap Ring := []
  ladles : SMap Ladle := []
  merge : List MergeEnt := []
  frozen : Option Freeze := none
  /-- Packets of the open bundle and ladle tokens of its LD.ARM, not yet handed to the network; SHRD requests also wait here
for room in the owner's merge table (09 R234). -/
  outbox : List Packet := []
  armed : Nat := 0
  /-- What the checkers saw in the open bundle, with the operation concerned, and its first dynamic violation: slot, opcode,
code. They count when the bundle is complete: a held bundle leaves nothing, and a static violation goes before a dynamic one
(03 R61, 05 R149). -/
  seen : List (Seen × Nat) := []
  viol : Option (Slot × Nat × Nat) := none
  /-- First cycles at which the NET port sends another flit, and the queue engine another request (03 R73). -/
  netFree : Nat := 0
  reqFree : Nat := 0
  /-- Classes of the operations of the attempt and Class D operations (10 R286). -/
  classes : Nat := 0
  dOps : Nat := 0
  /-- Byte count and CRC-64 of each outbound path of a sample's attempt: 0 to 15 channels, 16 to 19 queues, 32 stores
  into frame state (10 R275). -/
  paths : SMap (Nat × Nat) := []
  /-- Hints issued and not yet at the governor: TIME of arrival, level, TIME of the step (03 R76). -/
  hints : List (Nat × Nat × Nat) := []
  hintLevel : Nat := 0
  /-- Issue allowance used in the current 100 ns (03 R75). -/
  used : Nat := 0
  deriving DecidableEq, Repr

/-! ## Dies, hubs, stacks (13, 14, 17) -/

/-- The die states of R485. -/
inductive DieSt | active | warmSpare | coldSpare | test | frozen | dark | lost
  deriving DecidableEq, Repr

/-- A control-core pair: its registers by number, its local memory of 2 MiB (03 R81). The firmware that it runs is outside the
manual: no command executes one of its instructions (log 66). -/
structure CcPair where
  regs : SMap (BitVec 64) := []
  mem : SMap Byte := []
  deriving DecidableEq, Repr

/-- A compute die with its per-site block (17 R487) and what its rules count. -/
structure Die where
  st : DieSt := .coldSpare
  vd : Option Nat := none
  quarantined : Bool := false
  since : Nat := 0
  exclusion : Nat := 0
  op : Nat := 0
  safe : Nat := 0
  trivetCap : Nat := 11
  ivrCap : Nat := 11
  powered : Bool := false
  powerW : Nat := 0
  phases : SMap Nat := []
  phaseOff : List (Nat × Nat) := []
  efuseOpen : Bool := false
  /-- The fuse was open when this bring-up closed it (13 R375, 16 R443). -/
  efuseBefore : Bool := false
  isolated : Bool := false
  /-- The samples of the sense points within the last second: TIME, point, excess in mV (13 R388). -/
  excessLog : List (Nat × Nat × Nat) := []
  excessRun : SMap Nat := []
  sensors : SMap Int := []
  marks : SMap Nat := []
  disagree : SMap Nat := []
  hist : List Int := []
  tripRun : Nat := 0
  throttleAt : Nat := 0
  coolSince : Option Nat := none
  raiseAt : Nat := 0
  /-- The point of the die's monitors, and the cap of throttling (02 R52, 14 R394). -/
  mon : Nat := 0
  heatCap : Nat := 11
  /-- The die runs on its calibration defaults (18 R505). -/
  calDef : Bool := false
  spadSbe : Nat := 0
  spadDbe : Nat := 0
  imemSbe : Nat := 0
  lockstep : Nat := 0
  /-- TIMEs of the lockstep mismatches (15 R413). -/
  lockTimes : List Nat := []
  checks : Nat := 0
  rehearsals : Nat := 0
  /-- TIMEs of the lasting faults (15 R414). -/
  lasting : List Nat := []
  field : List (Nat × Nat × Nat × Nat) := []
  lastFsr : Nat := 0
  frozenPairs : List Nat := []
  /-- Pairs halted by a lockstep mismatch: until the die leaves ACTIVE, is powered on again, or is released to field test
(03 R82 to R84; log 67). -/
  haltedPairs : List Nat := []
  /-- The state of the control-core pairs; a halted pair's is retained (03 R81, R82). -/
  pairs : SMap CcPair := []
  /-- The hub agent has taken over the telemetry of control core 3 (01 R31, 03 R83). -/
  hubTelemetry : Bool := false
  services : SMap Nat := []
  testDue : Nat := 0
  lastPass : Nat := 0
  corner : Nat := 0
  /-- TIME at which the corner in progress began (16 R457). -/
  cornerAt : Nat := 0
  hashing : Bool := false
  /-- The abort code that the last write of the scratchpad mode was answered with (06 R160). -/
  modeAbort : Nat := 0
  spares : SMap Nat := []
  stallNs : Nat := 0
  /-- Stall of the last attempts, newest first, and attempts with the safe point at the floor (15 R429). -/
  stallHist : List Nat := []
  floorRun : Nat := 0
  /-- No target before this TIME: of any migration (15 R429), of a thermal rotation (14 R397). -/
  noTargetUntil : Nat := 0
  noRotateUntil : Nat := 0
  /-- Ramp governor: allowance in levels times 1,000, target, level of filler work (03 R75 to R77). -/
  allow : Nat := 0
  /-- TIME of the allowance's last change (13 R388). -/
  allowAt : Nat := 0
  steps : List (Nat × Nat) := []
  filler : Nat := 0
  /-- Corrected words within the last hour: count and start (15 R413). -/
  corrected : Nat := 0
  correctedFrom : Nat := 0
  rehearsedFrame : Option Nat := none
  /-- The firmware image it runs: true for the new one of a live update (16 R453). -/
  newFw : Bool := false
  /-- Of an ACTIVE die, what follows the flip that migrates it out: 1 TEST, 3 quarantine, 5 power-off (15 R418). Of
  another, 1: no spare until it passes field test (15 R414); 2: its test stops at the next boundary (16 R460). -/
  after : Nat := 0
  connTest : Bool := false
  /-- TIMEs of the last governor tick, sensor sample and sense-point samples (03 R77, 14 R390, 13 R388). -/
  govAt : Nat := 0
  tempAt : Nat := 0
  senseAt : SMap Nat := []
  deriving DecidableEq, Repr

/-- A hub (17 R488). -/
structure Hub where
  lost : Bool := false
  exclusion : Nat := 0
  temps : List Int := []
  tripRun : Nat := 0
  phase : List Int := []
  phaseRun : Nat := 0
  restarting : Bool := false
  newFw : Bool := false
  retries : Nat := 0
  linksDown : List Nat := []
  vinLowRun : Nat := 0
  vinHighRun : Nat := 0
  vinBadRun : Nat := 0
  /-- The cap that a hot stack of the cell puts on its dies (14 R393). -/
  hotCap : Nat := 11
  /-- TIMEs of the last VIN sample, phase comparison and sensor sample (13 R367, 02 R35, 14 R390). -/
  vinAt : Nat := 0
  phaseAt : Nat := 0
  tempAt : Nat := 0
  deriving DecidableEq, Repr

/-- A port die (17 R489). -/
structure PortDie where
  off : Bool := false
  temps : List Int := []
  tripRun : Nat := 0
  retries : SMap Nat := []
  lane : Nat := 0
  laneDown : Bool := false
  /-- TIME of the last sensor sample (14 R390). -/
  tempAt : Nat := 0
  deriving DecidableEq, Repr

/-- A stack (17 R490). `st`: 0 in service, 1 out of service, 2 self-refresh. -/
structure Stack where
  st : Nat := 1
  exclusion : Nat := 0
  temp : Int := 0
  doubled : Bool := false
  wantDoubled : Bool := false
  /-- Refreshes given to the banks of each set since reset, by b mod 8 (08 R208). -/
  refs : SMap Nat := []
  coolSince : Option Nat := none
  tripRun : Nat := 0
  e2e : Nat := 0
  training : Nat := 0
  throttleAt : Nat := 0
  /-- TIME of the last readout (14 R390). -/
  readAt : Nat := 0
  deriving DecidableEq, Repr

/-! ## The loaded program (11) -/

/-- A capability window (11 R303, R304). Kind 0 with rights is an HBM window. -/
structure Win where
  base : Nat
  len : Nat
  kind : Nat
  rights : Nat := 0
  region : Nat := 0
  deriving DecidableEq, Repr

/-- A binding entry (11 R310). -/
structure Bnd where
  ch : Nat
  kind : Nat
  peer : Nat := 0
  peerCh : Nat := 0
  counter : Nat := 255
  flags : Nat := 0
  contrib : Nat := 0
  base : Nat := 0
  size : Nat := 0
  spanEnd : Nat := 0
  msgs : Nat := 0
  flits : Nat := 0
  maxFlits : Nat := 0
  deriving DecidableEq, Repr

/-- A declared ladle entry (11 R299). -/
structure LadleDecl where
  entry : Nat
  ordered : Bool
  n : Nat
  size : Nat
  counter : Nat
  window : Nat
  deriving DecidableEq, Repr

/-- A region of HBM (11 R306). -/
structure Region where
  off : Nat
  len : Nat
  vstack : Nat
  kind : Nat
  flags : Nat
  deriving DecidableEq, Repr

/-- An entry of a stream's transfer list (09 R244). -/
structure StreamEnt where
  srcCore : Nat
  srcAddr : Nat
  lines : Nat
  dstCore : Nat
  dstAddr : Nat
  trigger : Nat
  threshold : Nat
  release : Nat
  arrival : Nat
  deriving DecidableEq, Repr

/-- A raw stream: its declaration and where the attempt has it (09 R244 to R248). -/
structure Stream where
  srcVd : Nat := 0
  dstVd : Nat := 0
  pairs : Nat := 0
  /-- The engine of the sending and of the receiving die, of 32 each. -/
  txEng : Nat := 0
  rxEng : Nat := 0
  list : List StreamEnt := []
  entry : Nat := 0
  started : Bool := false
  line : Nat := 0
  credits : Nat := 32
  flight : List (Nat × Bytes) := []
  landed : Nat := 0
  landedEntry : Nat := 0
  owed : Nat := 0
  txCrc : BitVec 64 := 0
  rxCrc : BitVec 64 := 0
  txBytes : Nat := 0
  rxBytes : Nat := 0
  deriving DecidableEq, Repr

/-- The parameters of the firmware services (11 R314, 12 R349). -/
structure Services where
  capacity : Nat := 0
  perFrame : Nat := 0
  pageLog : Nat := 0
  region : Nat := 0
  /-- Page-table copies: virtual core, window, arrival counter. -/
  pts : List (Nat × Nat × Nat) := []
  draws : Nat := 0
  deriving DecidableEq, Repr

/-- An entry of the collective table (12 R349). -/
structure Coll where
  dx : Int
  dy : Int
  lag : Nat
  src : Nat
  len : Nat
  dst : Nat
  deriving DecidableEq, Repr

/-- The loaded program (11 R300, R321). Maps are keyed by global virtual core. -/
structure Prog where
  v : Nat := 0
  w : Nat := 1
  floor : Nat := 0
  stretch : Nat := 255
  fallback : Nat := 0
  k : Nat := 64
  rd : Nat := 66
  od : Nat := 4
  c : Nat := 0
  input : Nat := 0
  output : Nat := 0
  capture : Nat := 0
  digest : Bytes := []
  loadTime : Nat := 0
  ownerSigned : Bool := false
  rBearing : Bool := false
  windows : SMap (List Win) := []
  bindings : SMap (List Bnd) := []
  ladles : SMap (List LadleDecl) := []
  regions : List Region := []
  power : SMap (Nat × List (Nat × Nat)) := []
  services : Services := {}
  colls : List Coll := []
  /-- The loader's copy of each core's initial scratchpad, by virtual core and byte (11 R306). -/
  loadCopy : SMap Byte := []
  code : SMap (List (BitVec 256)) := []
  deriving DecidableEq, Repr

/-- A load whose checks have passed and whose writing steps run (11 R318, R321): the program, the site of each virtual
die, its streams, the HBM content that the image carries, the digests of its preloaded regions, and the virtual dies
outside their preferred cell. -/
structure Loading where
  prog : Prog
  place : List Nat
  streams : List Stream := []
  content : List (Nat × Bytes) := []
  preload : List (Nat × Bytes) := []
  overflows : Nat := 0
  deriving DecidableEq, Repr

/-- The snapshot of a boundary (09 R254 to R256): its TIME, the ledger summary, and for each cell the sum of every
category over its interfaces. -/
structure Snap where
  boundary : Nat
  summary : Bytes
  cells : List (List Int) := []
  deriving DecidableEq, Repr

/-! ## Frames and slots (02) -/

/-- The slot kinds of R41. -/
inductive SlotKind | empty | program | replay | blank | continuation | abandoned
  deriving DecidableEq, Repr

/-- A posted slot descriptor (02 R43). `two`: the frame takes a CONTINUATION slot as well (02 R56, 10 R269). `cont`:
a later slot of a BLANK slot that lasts several (02 R55). `late`: the cores start 2 µs after the tick (02 R49). -/
structure Desc where
  kind : SlotKind := .empty
  frame : Nat := 0
  promoted : Bool := false
  two : Bool := false
  cont : Bool := false
  late : Bool := false
  /-- A REPLAY of a rollback: its frame is the next one of R424 when the slot opens. -/
  roll : Bool := false
  /-- A recovery slot of R424: BLANK, or EMPTY until a target is chosen. -/
  recovery : Bool := false
  deriving DecidableEq, Repr

/-- A detector's report on an attempt (15 R411): code, virtual die, site. -/
structure Report where
  det : Nat
  vd : Option Nat := none
  site : Option Nat := none
  /-- The physical core that the fault is localised to. -/
  core : Option Nat := none
  deriving DecidableEq, Repr

/-- An attempt of a frame (02 R42). `no` counts as CHK.ATTEMPTS does (10 R286). -/
structure Attempt where
  frame : Nat
  no : Nat
  slot : Nat
  start : Nat
  replay : Bool := false
  promoted : Bool := false
  stretched : Bool := false
  /-- After an overrun: the cores restart 2 µs into the slot (02 R49). -/
  restartWait : Bool := false
  rollback : Bool := false
  deriving DecidableEq, Repr

/-- An attempt that has run to its end and waits for its verdict (02 R45). -/
structure Ended where
  att : Attempt
  boundary : Nat
  reports : List Report
  audit : Option Bool := none
  /-- Only ladle tokens fail to balance (15 R412). -/
  tokensOnly : Bool := false
  sample : Bool := false
  hbm : List Nat := []
  stuck : List Nat := []
  summary : Bytes := []
  ledger : Bytes := []
  deriving DecidableEq, Repr

/-- What a failed attempt leaves for the next one to be compared with (15 R412, 02 R51). -/
structure Sig where
  pairs : List (Nat × Option Nat)
  /-- The physical cores that the reports name. -/
  cores : List Nat := []
  overrun : List (Nat × Nat) := []
  stuck : List Nat := []
  tokensOnly : Bool := false
  hbm : List Nat := []
  deriving DecidableEq, Repr

/-- Slots, attempts and the commands that wait for a boundary (02, 17 R483). -/
structure Slots where
  slot : Nat := 0
  kind : SlotKind := .empty
  posted : List Desc := []
  /-- The lowest frame that has not run an attempt to its end (02 R42). -/
  nextFrame : Nat := 0
  att : Option Attempt := none
  ended : Option Ended := none
  reports : List Report := []
  /-- Attempts of the failed frame under 15 R412, and under 10 R286. -/
  attempts : Nat := 0
  ran : Nat := 0
  sigs : List Sig := []
  /-- The site that attempt 3 is without, and its detector code (15 R413). -/
  swapped : Option (Nat × Nat) := none
  /-- The last frame whose verdict passed. -/
  passed : Option Nat := none
  /-- The frame that ran an attempt to its end without a passed verdict (02 R57). -/
  failed : Option Nat := none
  /-- Virtual cores that were released from a freeze since a frame passed last, with the bundle that froze them (15 R415). -/
  thawed : List (Nat × Nat) := []
  /-- The snapshot of the last boundary that no audit has closed (09 R254, R256). -/
  snap : Option Snap := none
  tag : BitVec 2 := 0
  /-- Frames are posted stretched; the announced first slot of the stretch (02 R56). -/
  stretchOn : Bool := false
  stretchFrom : Nat := 0
  /-- The announced first slot that is not stretched any more (02 R56). -/
  stretchEnd : Option Nat := none
  opAt : Nat := 0
  opNew : List (Nat × Nat) := []
  opDue : Bool := false
  pHold : Bool := false
  pResume : Bool := false
  pUnload : Bool := false
  pStart : Bool := false
  /-- First and last frame recomputed by a rollback (15 R424). -/
  rollFrom : Option (Nat × Nat) := none
  wantHold : Nat := 0
  slackHist : List Nat := []
  deriving DecidableEq, Repr

/-! ## Checking and certificates (10) -/

/-- A frame whose verdict has passed and that waits to be appended or released (10 R289). -/
structure Done where
  att : Attempt
  boundary : Nat
  summary : Bytes
  ledger : Bytes
  entry : Nat := 0
  provisional : Bool := false
  deriving DecidableEq, Repr

/-- A replay of a sample (10 R276, R278). -/
structure Rep where
  site : Nat
  vd : Nat
  since : Nat
  second : Bool := false
  firstSite : Nat := 0
  firstDigest : Bytes := []
  deriving DecidableEq, Repr

/-- Sieve, certification service and Class R sampling (10). -/
structure Checks where
  promos : List (Nat × Nat × Nat × Nat) := []
  eTiles : Nat := 0
  dOps : Nat := 0
  fallD : Nat := 0
  fallR : Nat := 0
  rehearsed : Nat := 0
  corrected : Nat := 0
  classes : Nat := 0
  done : List Done := []
  release : List Done := []
  head : Bytes := []
  root : Bytes := []
  entries : Nat := 0
  recs : List (Nat × Bytes) := []
  onDemand : Bool := false
  lastCert : Bytes := []
  /-- Entries whose certificate is due, with whether it is on demand; N of the certificate to come (R290). -/
  certDue : List (Nat × Bool) := []
  certN : Nat := 1024
  revokeSeq : Nat := 0
  lastRevoke : Bytes := []
  sampleFrame : Option Nat := none
  sampling : Bool := false
  /-- A sample is due and no frame has been one yet (R273). -/
  sampleLate : Bool := false
  /-- Highest frame released, and the last certified frame with its entry. -/
  lastReleased : Option Nat := none
  lastCertified : Option (Nat × Nat) := none
  transcripts : SMap Bytes := []
  /-- The capture of a sample: what each virtual die receives, and the frame-state read buffers, keyed by virtual core and
  physical byte (R274). -/
  capture : List (Nat × Bytes) := []
  readBuf : SMap Byte := []
  /-- The captured read buffers of the sample that is replayed. -/
  sampleBuf : SMap Byte := []
  waitReplay : List Nat := []
  reps : List Rep := []
  /-- Second replays that wait for a die (R278). -/
  again : List Rep := []
  /-- The site that ran each virtual die of the sample, the last sample each virtual die passed, and the virtual dies
  that failed with reason 1 in the sample and in the one before it, with their original sites (R278, R281). -/
  sampleSites : SMap Nat := []
  samplePass : SMap Nat := []
  fails : List (Nat × Nat) := []
  failsBefore : List (Nat × Nat) := []
  finalFrame : Option Nat := none
  /-- Slots by which W has grown because replays of the sample were abandoned (R277). -/
  regrow : Nat := 0
  /-- REVOKE.FIRST of a recomputation in progress: frames from it on are released anew (R282). -/
  reviseFrom : Nat := 18446744073709551615
  /-- Entries of the chain when that record was written: later ones govern (R282). -/
  reviseEntry : Nat := 0
  deriving DecidableEq, Repr

/-! ## HBM, larder, services (08, 12) -/

/-- A larder checkpoint: the frame after the one it holds the state of, the page tables and pool of the service's state, its
digest (08 R223). While it is copied, `wait` are the buffers still to be copied and `spad`, `hbm`, `service` what its buffers and the
service areas held; once every share is written the contents stand in the LARDER regions only (R224, R225). -/
structure Ck where
  resume : Nat := 0
  wait : List CkBuf := []
  written : Bool := false
  spad : SMap Byte := []
  hbm : SMap Byte := []
  service : Bytes := []
  tables : SMap (BitVec 32) := []
  kvFree : Nat := 0
  kvPending : List (Nat × Nat) := []
  digest : Bytes := []
  deriving DecidableEq, Repr

/-- Larder, retention and KV pool (08 R219 to R228). -/
structure Larder where
  committed : Option Ck := none
  /-- Checkpoints being copied, or copied and not committed, oldest first: two at most, one for each slot. -/
  copying : List Ck := []
  /-- The frame whose inputs a retention slot holds, plus one (R222). -/
  retained : SMap Nat := []
  sealed : Option Nat := none
  kvFree : Nat := 0
  kvPending : List (Nat × Nat) := []
  /-- The authoritative page tables, by virtual core and byte address of the copy (R219). -/
  tables : SMap (BitVec 32) := []
  /-- The request that holds the page of an entry, and the last frame that read the entry plus one, by the same key (R219,
  R221). -/
  owner : SMap Nat := []
  readBy : SMap Nat := []
  degraded : Nat := 0
  /-- Longest hold under R226 of each of the last 64 checkpoints, newest first, in ns. -/
  holdHist : List Nat := []
  deriving DecidableEq, Repr

/-! ## Network (09) -/

/-- The pairs that a stream has reserved on a crossbar port of its path (09 R243): `count` of them from pair `first`, on the
port that leads from one end of a link to the other; hubs are 0 to 15, dies 100 + site. -/
structure Pairs where
  stream : Nat
  src : Nat
  dst : Nat
  first : Nat
  count : Nat
  deriving DecidableEq, Repr

/-- An entry of the multicast copy tables (09 R249, 07 R183): the sender, its channel, the cores that take a copy. -/
structure Copies where
  vcore : Nat
  ch : Nat
  sinks : List Nat
  deriving DecidableEq, Repr

/-- A route version (09 R249). -/
structure Route where
  dieMap : SMap Nat := []
  vstack : SMap Nat := []
  coreMap : SMap Nat := []
  streams : List Pairs := []
  copies : List Copies := []
  deriving DecidableEq, Repr

/-- An entry of a route version that an ADMIN packet writes into one hub or NI (09 R249). -/
inductive RouteEnt
  | dieMap (vd site : Nat)
  | vstackMap (vstack stack : Nat)
  | coreMap (site row spare : Nat)
  deriving DecidableEq, Repr

/-- A packet in the mesh: the TIME of its injection, its header with the flits that are in the mesh, how many flits of it
have still to be injected, whether its header flit has reached the sink (09 R236). -/
structure Flying where
  time : Nat
  pkt : Packet
  left : Nat := 0
  begun : Bool := false
  deriving DecidableEq, Repr

/-- A capability window of a control core (03 R81): the control core as an endpoint of R237, the scratchpad of a virtual core
or a stack, its range, whether it may be written. -/
structure CcWin where
  cc : Nat
  hbm : Bool
  part : Nat
  lo : Nat
  len : Nat
  wr : Bool
  deriving DecidableEq, Repr

/-- Routes, ledgers, streams, packets in flight (09). A ledger count is keyed 32 × interface + 3 × category + 0 created,
1 destroyed, 2 held, with the categories of R253 from 0; category 0 holds the flits of the bulk channel and 7 those of the
control channel. Interfaces: 0 to 143 the NIs by site; 144 + 32 × hub + port the crossbar ports, 0 to 8 the dies of the
cell, 9 to 11 its stacks, 16 its agent; 656 + n the hub ports of port die n. -/
structure Net where
  epochB : Bool := false
  a : Route := {}
  b : Route := {}
  invState : Nat := 0
  flipAt : Nat := 0
  oldFlits : Nat := 0
  ledger : SMap Int := []
  discards : Nat := 0
  lateSince : Nat := 0
  lateHeavy : Bool := false
  header : Bool := false
  tokens : Nat := 0
  /-- Packets in the mesh. -/
  flight : List Flying := []
  /-- What ADMIN packets have written of the inactive version into single hubs (0 to 15) and NIs (16 + site) (R249). -/
  writes : List (Nat × RouteEnt) := []
  /-- Sync words in a row that failed on both lanes, by link (R257). -/
  syncBad : SMap Nat := []
  /-- The longest queue completion and packet delivery of each of the last 64 attempts, newest first, in ns (08 5010.03,
  09 4030.05). -/
  qMax : List Nat := []
  latMax : List Nat := []
  /-- Flits that have crossed a link, by its two ends, virtual channel and epoch; both ends count the same (R253). -/
  links : SMap Nat := []
  flipDue : Bool := false
  reqTaken : SMap Nat := []
  streams : SMap Stream := []
  undrained : List Nat := []
  /-- Control-core requests that have not had their reply: the control core and the tag (R238). -/
  ccWait : List (Nat × Nat) := []
  /-- The capability windows that the firmware has granted to control cores (03 R81). -/
  ccWins : List CcWin := []
  deriving DecidableEq, Repr

/-! ## Fabric and host (12) -/

/-- The value of an object: a number, or a byte string (17 R463). -/
inductive ObjVal
  | num (n : Nat)
  | oct (b : Bytes)
  deriving DecidableEq, Repr

/-- A port (12 R326 to R335). Channels are numbered 2 × class + dateline channel. -/
structure Port where
  up : Bool := false
  flight : Nat := 0
  /-- Link sequence numbers: the next expected and the next to send (R333). -/
  rxSeq : Nat := 0
  txSeq : Nat := 0
  /-- Frames that wait to be sent, and frames sent and not acknowledged (R333). -/
  wait : List GlpFrame := []
  retry : List GlpFrame := []
  /-- The frame last handed to the lanes. -/
  onLane : Option GlpFrame := none
  /-- Per channel: credits owed to the peer and credits spent, in 64-byte units; flits sent and received (R335, R352). -/
  owed : SMap Nat := []
  spent : SMap Nat := []
  sent : SMap Nat := []
  received : SMap Nat := []
  peerSent : List Nat := []
  gotAudit : Bool := false
  missed : Nat := 0
  /-- The port has come up since the last bring-up; the link is in the lost ledger until the next (15 R433). -/
  linked : Bool := false
  lost : Bool := false
  /-- TIME of the next concord retry, 0 none (R340); of the last IDLE frame (R333). -/
  retryAt : Nat := 0
  idleAt : Nat := 0
  /-- The mode of R340 that the concord record gives the link, without its row for the program, and the peer's program. -/
  base : Nat := 0
  peerProgram : Bytes := []
  deriving DecidableEq, Repr

/-- A torus direction (12 R328, R344, R345, R347). `probe` is the TIME of the last probe that waits for its reply; `expN` EXP
packets were injected in microsecond `expAt`. -/
structure Dir where
  expAt : Nat := 0
  expN : Nat := 0
  probe : Option Nat := none
  offset : Int := 0
  badRun : Nat := 0
  goodRun : Nat := 0
  deriving DecidableEq, Repr

/-- A request being received or held (12 R356). -/
structure Request where
  id : Nat
  sess : Nat
  tag : Nat
  data : Bytes
  last : Nat
  panel : Nat := 0
  bad : Bool := false
  ring : Bool := false
  frame : Option Nat := none
  deriving DecidableEq, Repr

/-- A response record with its body, and how much of it has been carried (12 R357). -/
structure Response where
  sess : Nat
  tag : Nat
  id : Nat
  status : Nat
  flags : Nat
  frame : Nat
  entry : Nat
  body : Bytes
  sent : Nat := 0
  deriving DecidableEq, Repr

/-- A collective entry sent and waiting for its acknowledgement (12 R350, R351). -/
structure CollSent where
  entry : Nat
  frame : Nat
  time : Nat
  acked : Nat
  /-- What the read of the output slot gave; a resend writes the same bytes (R351). -/
  data : Bytes := []
  deriving DecidableEq, Repr

/-- Fabric and host bridge (12). -/
structure Fabric where
  ports : SMap Port := []
  dirs : SMap Dir := []
  /-- The settings of the last link bring-up, by object (R339, R341, R364). -/
  eff : SMap ObjVal := []
  /-- Firmware series, calibration schema and firmware digest as the last link bring-up took them (R339). -/
  fw : Bytes := []
  /-- The master selected after the loss of the named one (R345). -/
  master : Option Nat := none
  /-- Directions whose bring-up waits for the secure element (18 R496). -/
  bringWait : List Nat := []
  partials : List Request := []
  held : List Request := []
  responses : List Response := []
  finalSeq : Nat := 0
  revokeSeq : Nat := 0
  certSeq : Nat := 0
  notices : List (Nat × Nat × Bytes) := []
  collSent : List CollSent := []
  /-- The next frame that each collective entry sends (R350). -/
  collNext : SMap Nat := []
  landed : List (Nat × Nat × Nat) := []
  emptySince : Option Nat := none
  objOut : List (Nat × Bytes) := []
  acks : List (Nat × Nat × Nat) := []
  /-- A group time drift is under way (R345). -/
  drift : Bool := false
  /-- Links whose two ends run different firmware of one series: TIME and port (R340). -/
  fwDiffs : List (Nat × Nat) := []
  /-- Fault flags that have arrived: panel and kind (R334). -/
  flags : List (Nat × Nat) := []
  /-- The last ICMPv6 answer of each host-mode port: 0 advertisement, 1 echo reply; the address (R355). -/
  icmp : SMap (Nat × Bytes) := []
  /-- t2 − t1 of the last Sync or Follow_Up of the master's clock (R346). -/
  ptp : Option Int := none
  lostPanels : List Nat := []
  /-- The longest EXP delivery of each of the last 64 attempts, newest first, in ns (R347, 4830.03). -/
  expMax : List Nat := []
  deriving DecidableEq, Repr

/-! ## Power, heat, recovery, bring-up (13 to 16) -/

/-- What the panel logs of VIN and of cooling (13 R367, 14 R400, R401). -/
inductive LogKind where
  | vinLow
  | vinHigh
  | coolantStale
  | coolDegraded
  deriving DecidableEq, Repr

/-- Supplies and power-on (13). -/
structure Power where
  vinLow : Bool := false
  vinOkSince : Option Nat := none
  vminSlot : Nat := 0
  queue : List Nat := []
  /-- The soft-start in progress: site and TIME of its start (13 R387). -/
  soft : Option (Nat × Nat) := none
  lastOn : Option Nat := none
  /-- The die at the head of the queue has been counted as deferred (13 R385). -/
  deferred : Bool := false
  /-- Pcap in W and Icap in A as the trivet uses them, and the writes that wait: TIME, Icap or not, value (13 R383). -/
  capW : Nat := 40000
  capA : Nat := 23500
  capDue : List (Nat × Bool × Nat) := []
  vinInRangeSince : Option Nat := none
  /-- Lowest and highest VIN of each of the last 64 slots, newest first (13 R389). -/
  vinHist : List (Nat × Nat) := []
  /-- The log of VIN_LOW and VIN_HIGH, with the TIMEs (13 R367). -/
  log : List (Nat × LogKind) := []
  deriving DecidableEq, Repr

/-- A quench in force (14 R403 to R408). -/
structure Quench where
  cause : Nat
  time : Nat
  slot : Nat
  stage : Nat := 1
  okSince : Option Nat := none
  /-- Compute dies at or above 95 °C at detection (14 R405). -/
  hot : Nat := 0
  deriving DecidableEq, Repr

/-- Heat and cooling (14). -/
structure Thermal where
  reported : Nat := 0
  stale : Bool := false
  degraded : Bool := false
  degradedOkSince : Option Nat := none
  hotSince : Option Nat := none
  ptherm : Nat := 40000000
  pthermAt : Nat := 0
  quench : Option Quench := none
  release : Bool := false
  rotAt : SMap Nat := []
  /-- The log of COOLANT_STALE and COOL_DEGRADED, with the TIMEs. -/
  log : List (Nat × LogKind) := []
  deriving DecidableEq, Repr

/-- A migration requested (15 R416). -/
structure MigReq where
  site : Nat
  prio : Nat
  deriving DecidableEq, Repr

/-- A migration posted for a BLANK slot (15 R417, R418). -/
structure Mig where
  vd : Nat
  src : Nat
  dst : Nat
  prio : Nat
  copied : Bool := false
  tries : Nat := 0
  /-- The target is entered from its LOADCOPY image (R419). -/
  fromLoad : Bool := false
  deriving DecidableEq, Repr

/-- A rollback in progress (15 R424): the lost virtual dies, their targets once chosen, the first frame to replay and
the frame of the failed attempt, and the steps done. -/
structure Rollback where
  vds : List Nat
  moves : List (Nat × Nat) := []
  resume : Nat
  failed : Option Nat
  /-- The route version that places them is written (R424 step 1). -/
  written : Bool := false
  flipped : Bool := false
  restored : Bool := false
  entered : Bool := false
  deriving DecidableEq, Repr

/-- Faults, spares, recovery (15). -/
structure Recovery where
  reqs : List MigReq := []
  migs : List Mig := []
  roll : Option Rollback := none
  waitFrame : Option Nat := none
  recons : List Bytes := []
  lastRecon : Bytes := []
  restart : List Nat := []
  fsr : List Bytes := []
  lostLedger : List (Nat × Nat) := []
  hbmBad : List Nat := []
  deriving DecidableEq, Repr

/-- Bring-up, firmware and field test (16). -/
structure Bringup where
  stage : Option Nat := none
  halted : Bool := false
  fast : Bool := false
  startTime : Nat := 0
  stageAt : Nat := 0
  reachedS10 : Bool := false
  powerKept : Bool := false
  mapSeq : Nat := 0
  mapTime : Nat := 0
  mapSigned : Bool := true
  fwStep : Nat := 0
  fwImage : Bytes := []
  fwRunning : Bytes := []
  lastRollout : Nat := 0
  testQ : List Nat := []
  clearSettings : Bool := false
  deriving DecidableEq, Repr

/-! ## Objects, sessions, keys (17, 18) -/

/-- A stored response (17 R470, R473). -/
structure Resp where
  abort : Nat
  data : Bytes := []
  total : Nat := 0
  deriving DecidableEq, Repr

/-- A value received in part: its object, its length, the bytes so far, the TIME of the last segment (17 R472). Object 2^24
stands for a client certificate (17 R471). -/
structure PartVal where
  obj : Nat
  total : Nat
  data : Bytes
  time : Nat
  deriving DecidableEq, Repr

/-- A session (17 R475). Roles are 0 OBSERVER to 3 VENDOR; paths 0 MGMT_A, 1 MGMT_B, 2 in-band. -/
structure Session where
  num : Nat
  role : Nat
  path : Nat
  cred : Bytes
  credKey : Bool
  keyEntry : Option Nat := none
  opened : Nat := 0
  last : Nat := 0
  seqs : List (Nat × Resp) := []
  highest : Option Nat := none
  /-- The SEQs executed that lie at most 64 below the highest (R473). -/
  done : List Nat := []
  sel : SMap Nat := []
  parts : List PartVal := []
  nonce : Option Bytes := none
  cert : Bytes := []
  challenge : Option Bytes := none
  frozenFirst : Bool := false
  deriving DecidableEq, Repr

/-- The panel states of R479. -/
inductive PanelSt | cold | aux | simmer | bringup | ready | loaded | running | hold | safe
  deriving DecidableEq, Repr

/-- Sessions and keys (17, 18). Calibration status is that of R509 9000.03. -/
structure Access where
  sessions : List Session := []
  frozen : List (Bool × Nat × Bytes) := []
  lastResp : Option (Nat × Nat × Resp) := none
  roleKeys : SMap (Nat × Bytes) := []
  ownerKeys : SMap Bytes := []
  calStored : SMap Bytes := []
  calUse : SMap Bytes := []
  calStatus : SMap Nat := []
  calExported : SMap Nat := []
  halves : Nat := 3
  signCount : Nat := 0
  drawn : Nat := 0
  deriving DecidableEq, Repr

/-- The discrete pins (19 R515). THERM_ALERT_N and FAULT_N are functions of the state (Machine/Pins.lean). -/
structure Pins where
  auxPgood : Bool := true
  vinPgood : Bool := false
  coolOk : Bool := true
  /-- TIME of the last rising edge of TIMEPULSE_OUT, which stays high for 100 ms. -/
  pulseAt : Option Nat := none
  /-- TIME of the last power-on or hard reset (19 R515). -/
  rstAt : Nat := 0
  phyRstN : SMap Nat := []
  deriving DecidableEq, Repr

/-- The reference mesh (02 R32 to R35). `src` is coded as object 3000.03; `okA`, `okB` show edges, since the TIMEs `sinceA`,
`sinceB`. -/
structure Mesh where
  src : Nat := 0
  okA : Bool := false
  okB : Bool := false
  sinceA : Nat := 0
  sinceB : Nat := 0
  /-- The switches of the reference input that the panel has logged: TIME and the input's code (02 R33). -/
  log : List (Nat × Nat) := []
  /-- The slew under way: TIME at which it began, offset in ns to be corrected (02 R38). -/
  slewAt : Nat := 0
  slewBy : Int := 0
  deriving DecidableEq, Repr

/-- The whole panel. -/
structure State where
  /-- The commands that wait, first in, first out. -/
  pending : List Instr := []
  /-- The model's own counter for free values (log 5). -/
  fresh : Nat := 0
  /-- TIME in ns (02 R37). -/
  time : Nat := 0
  panel : PanelSt := .aux
  panelSince : Nat := 0
  panelPrev : PanelSt := .cold
  /-- The object dictionary: objects that hold a value of their own, keyed 256 × index + subindex (17 R462). -/
  od : SMap ObjVal := []
  cores : SMap Core := []
  /-- Each core as it was before the open bundle (03 R61, R72). -/
  snaps : SMap Core := []
  spad : SMap Byte := []
  imem : SMap (BitVec 256) := []
  hbm : SMap Byte := []
  /-- How the stored checks of HBM differ from the right ones, by physical stack and line: checks of data lines, and the own
checks of check lines (08 R201, R204). -/
  hbmBad : SMap Nat := []
  stage : SMap Byte := []
  fwStage : SMap Byte := []
  dies : SMap Die := []
  hubs : SMap Hub := []
  portDies : SMap PortDie := []
  hbmStacks : SMap Stack := []
  prog : Option Prog := none
  /-- The image that a load in progress is writing (11 R318). -/
  loading : Option Loading := none
  slots : Slots := {}
  checks : Checks := {}
  larder : Larder := {}
  net : Net := {}
  fabric : Fabric := {}
  power : Power := {}
  thermal : Thermal := {}
  recovery : Recovery := {}
  bringup : Bringup := {}
  access : Access := {}
  pins : Pins := {}
  mesh : Mesh := {}
  deriving DecidableEq, Repr

/-- Why the machine stops with a fault. No command of the panel does: every fault the manual describes leads to a
next state. The constructor is here because the interface asks for a type. -/
inductive Fault
  /-- A command names a part that the panel does not have (a core, site, hub or stack beyond R12). Raised by
  `exec` through `Ops.guard`. Safe: the hardware has no such part to act on. -/
  | noSuchPart
  deriving DecidableEq, Repr

/-- Why a command has no meaning. -/
inductive Refusal
  /-- A row whose meaning is not written. Raised by an arm of `exec` only. Safe: nothing can be proved of it. -/
  | notModelled (mnemonic : String)
  deriving DecidableEq, Repr

/-- The panel right after the power-on reset of 16 R440: state AUX with only the auxiliary islands powered (01 R15),
every object at its Default, TIME 0, no session, no program, empty queues. -/
def State.reset : State := {}

end Sys2Proof.Machine
end

