-- ==== Sys2Proof/Machine/ObjTable.lean ====
section
/-! DEFINITION. The object dictionary: one row for each object of a chapter's object table, with its type, access,
roles and default (17 R462 to R466). The per-part blocks and the stage reports are in Machine/Objects.lean. -/

namespace Sys2Proof.Machine

/-- The types of R463. -/
inductive ObjTy | bool | u8 | u16 | u32 | u64 | i32 | f32 | time64 | str | octets | digest
  deriving DecidableEq, Repr

/-- The type code of R463. -/
def ObjTy.code : ObjTy → Nat
  | .bool => 1 | .u8 => 2 | .u16 => 3 | .u32 => 4 | .u64 => 5 | .i32 => 6 | .f32 => 7 | .time64 => 8
  | .str => 9 | .octets => 10 | .digest => 11

/-- The size of a value in bytes; none where it varies (R463). -/
def ObjTy.size : ObjTy → Option Nat
  | .bool => some 1 | .u8 => some 1 | .u16 => some 2 | .u32 => some 4 | .u64 => some 8 | .i32 => some 4
  | .f32 => some 4 | .time64 => some 8 | .str => none | .octets => none | .digest => some 48

/-- The access codes of R5; `rwIn` is RW in SIMMER, BRINGUP and READY. -/
inductive ObjAcc | ro | rw | wo | rwIn
  deriving DecidableEq, Repr

/-- A row: key 256 × index + subindex, type, access, read role, write role, default. -/
structure ObjRow where
  key : Nat
  ty : ObjTy
  acc : ObjAcc
  rd : Option Nat
  wr : Option Nat
  dflt : ObjVal
  deriving DecidableEq, Repr

def objTable1 : List ObjRow := [
  ⟨0x000001, .octets, .ro, some 0, none, .oct []⟩,
  ⟨0x000002, .str, .ro, some 0, none, .oct [72, 71, 78, 45, 49, 52, 52, 65]⟩,
  ⟨0x000003, .octets, .ro, some 0, none, .oct []⟩,
  ⟨0x000004, .u16, .rw, some 0, some 0, .num 0⟩,
  ⟨0x000005, .octets, .ro, some 0, none, .oct []⟩,
  ⟨0x100001, .u8, .ro, some 0, none, .num 1⟩,
  ⟨0x100002, .time64, .ro, some 0, none, .num 0⟩,
  ⟨0x100003, .u8, .ro, some 0, none, .num 0⟩,
  ⟨0x100004, .u32, .ro, some 0, none, .num 0⟩,
  ⟨0x100005, .u8, .ro, some 0, none, .num 0⟩,
  ⟨0x100006, .u32, .ro, some 0, none, .num 0⟩,
  ⟨0x100007, .octets, .ro, some 0, none, .oct []⟩,
  ⟨0x101001, .u8, .wo, none, some 1, .num 0⟩,
  ⟨0x101002, .u8, .rwIn, some 0, some 1, .num 1⟩,
  ⟨0x102001, .u16, .ro, some 0, none, .num 0⟩,
  ⟨0x102002, .u32, .ro, some 0, none, .num 0⟩,
  ⟨0x102003, .octets, .ro, some 0, none, .oct []⟩,
  ⟨0x102004, .octets, .ro, some 0, none, .oct []⟩,
  ⟨0x102005, .u16, .wo, none, some 2, .num 0⟩,
  ⟨0x102006, .u16, .rw, some 0, some 2, .num 300⟩,
  ⟨0x102007, .u32, .ro, some 0, none, .num 0⟩,
  ⟨0x103001, .u16, .rwIn, some 0, some 2, .num 48200⟩,
  ⟨0x103002, .octets, .rwIn, some 0, some 2, .oct (List.replicate 16 0)⟩,
  ⟨0x103003, .octets, .rwIn, some 0, some 2, .oct (List.replicate 16 0)⟩,
  ⟨0x103004, .u16, .ro, some 0, none, .num 1⟩,
  ⟨0x200001, .u32, .rw, some 0, some 2, .num 40000⟩,
  ⟨0x200002, .u32, .rw, some 0, some 2, .num 23500⟩,
  ⟨0x200003, .u32, .ro, some 0, none, .num 0⟩,
  ⟨0x200004, .u32, .ro, some 0, none, .num 0⟩,
  ⟨0x200005, .i32, .ro, some 0, none, .num 0⟩,
  ⟨0x200006, .u16, .ro, some 0, none, .num 0⟩,
  ⟨0x200007, .u16, .ro, some 0, none, .num 0⟩,
  ⟨0x200008, .u32, .ro, some 0, none, .num 0⟩,
  ⟨0x200009, .u32, .ro, some 0, none, .num 0⟩,
  ⟨0x201001, .u32, .ro, some 0, none, .num 0⟩,
  ⟨0x201002, .u16, .ro, some 0, none, .num 0⟩,
  ⟨0x201003, .u32, .ro, some 0, none, .num 0⟩,
  ⟨0x201004, .u32, .ro, some 0, none, .num 0⟩,
  ⟨0x201005, .u64, .ro, some 0, none, .num 0⟩,
  ⟨0x201006, .u64, .ro, some 0, none, .num 0⟩]

def objTable2 : List ObjRow := [
  ⟨0x202001, .u8, .ro, some 0, none, .num 0⟩,
  ⟨0x202002, .u16, .ro, some 0, none, .num 0xFFFF⟩,
  ⟨0x202003, .u32, .ro, some 0, none, .num 0⟩,
  ⟨0x203001, .u32, .ro, some 0, none, .num 0⟩,
  ⟨0x203002, .u16, .ro, some 0, none, .num 0xFFFF⟩,
  ⟨0x203003, .u8, .ro, some 0, none, .num 0xFF⟩,
  ⟨0x204001, .u8, .ro, some 0, none, .num 0⟩,
  ⟨0x204002, .u32, .ro, some 0, none, .num 0⟩,
  ⟨0x280001, .i32, .ro, some 0, none, .num 0⟩,
  ⟨0x280002, .i32, .ro, some 0, none, .num 0⟩,
  ⟨0x280003, .i32, .ro, some 0, none, .num 0⟩,
  ⟨0x280004, .i32, .ro, some 0, none, .num 0⟩,
  ⟨0x280005, .u16, .ro, some 0, none, .num 0⟩,
  ⟨0x280006, .u16, .ro, some 0, none, .num 0⟩,
  ⟨0x281001, .i32, .rw, some 0, some 1, .num 3200⟩,
  ⟨0x281002, .u32, .rw, some 0, some 1, .num 60000⟩,
  ⟨0x281003, .u32, .ro, some 0, none, .num 0⟩,
  ⟨0x281004, .bool, .ro, some 0, none, .num 0⟩,
  ⟨0x281005, .u32, .ro, some 0, none, .num 40000⟩,
  ⟨0x281006, .u8, .ro, some 0, none, .num 0⟩,
  ⟨0x282001, .u32, .ro, some 0, none, .num 0⟩,
  ⟨0x282002, .u32, .ro, some 0, none, .num 0⟩,
  ⟨0x282003, .u32, .ro, some 0, none, .num 0⟩,
  ⟨0x283001, .octets, .ro, some 0, none, .oct []⟩,
  ⟨0x283002, .u32, .ro, some 0, none, .num 0⟩,
  ⟨0x300001, .time64, .ro, some 0, none, .num 0⟩,
  ⟨0x300002, .u32, .ro, some 0, none, .num 0⟩,
  ⟨0x300003, .u8, .ro, some 0, none, .num 0⟩,
  ⟨0x300004, .i32, .ro, some 0, none, .num 0⟩,
  ⟨0x300005, .i32, .ro, some 0, none, .num 0⟩,
  ⟨0x300101, .bool, .ro, some 0, none, .num 0⟩,
  ⟨0x300102, .bool, .ro, some 0, none, .num 0⟩,
  ⟨0x300103, .u8, .rw, some 0, some 1, .num 1⟩,
  ⟨0x300104, .u32, .ro, some 0, none, .num 0⟩,
  ⟨0x301001, .u32, .rwIn, some 0, some 1, .num 250⟩,
  ⟨0x301002, .u8, .rwIn, some 0, some 1, .num 10⟩,
  ⟨0x301003, .u64, .ro, some 0, none, .num 0⟩,
  ⟨0x301004, .u64, .ro, some 0, none, .num 0⟩,
  ⟨0x301005, .u8, .ro, some 0, none, .num 0⟩,
  ⟨0x301006, .bool, .ro, some 0, none, .num 0⟩]

def objTable3 : List ObjRow := [
  ⟨0x301007, .u16, .ro, some 0, none, .num 0⟩,
  ⟨0x302001, .u32, .ro, some 0, none, .num 0⟩,
  ⟨0x302002, .u32, .ro, some 0, none, .num 0⟩,
  ⟨0x302003, .u8, .ro, some 0, none, .num 0⟩,
  ⟨0x302004, .u64, .ro, some 0, none, .num 0⟩,
  ⟨0x303001, .u8, .rw, some 0, some 1, .num 11⟩,
  ⟨0x303002, .u8, .ro, some 0, none, .num 0⟩,
  ⟨0x303003, .u8, .ro, some 0, none, .num 255⟩,
  ⟨0x303004, .time64, .ro, some 0, none, .num 0⟩,
  ⟨0x400001, .u8, .ro, some 0, none, .num 0⟩,
  ⟨0x400002, .u8, .ro, some 0, none, .num 0⟩,
  ⟨0x400003, .time64, .ro, some 0, none, .num 0⟩,
  ⟨0x400004, .u32, .ro, some 0, none, .num 0⟩,
  ⟨0x400005, .u32, .ro, some 0, none, .num 0⟩,
  ⟨0x400006, .u32, .ro, some 0, none, .num 0⟩,
  ⟨0x400007, .digest, .ro, some 0, none, .oct []⟩,
  ⟨0x401001, .u8, .ro, some 0, none, .num 0⟩,
  ⟨0x401002, .u32, .ro, some 0, none, .num 0⟩,
  ⟨0x401003, .u16, .ro, some 0, none, .num 0⟩,
  ⟨0x401004, .u64, .ro, some 0, none, .num 0⟩,
  ⟨0x401005, .u64, .ro, some 0, none, .num 0⟩,
  ⟨0x401006, .u32, .ro, some 0, none, .num 0⟩,
  ⟨0x402001, .u16, .ro, some 0, none, .num 0⟩,
  ⟨0x402002, .u8, .ro, some 0, none, .num 0⟩,
  ⟨0x402003, .u32, .ro, some 0, none, .num 0⟩,
  ⟨0x403001, .u64, .ro, some 0, none, .num 0⟩,
  ⟨0x403002, .u64, .ro, some 0, none, .num 0⟩,
  ⟨0x403003, .u32, .ro, some 0, none, .num 0⟩,
  ⟨0x403004, .u64, .ro, some 0, none, .num 0⟩,
  ⟨0x403005, .u32, .ro, some 0, none, .num 0⟩,
  ⟨0x480001, .octets, .rwIn, some 0, some 2, .oct (List.replicate 16 0)⟩,
  ⟨0x480002, .u16, .rwIn, some 0, some 2, .num 0x0101⟩,
  ⟨0x480003, .u16, .rwIn, some 0, some 2, .num 0⟩,
  ⟨0x480004, .u8, .rwIn, some 0, some 2, .num 0⟩,
  ⟨0x480005, .u32, .ro, some 0, none, .num 0⟩,
  ⟨0x480006, .u32, .ro, some 0, none, .num 0⟩,
  ⟨0x481001, .u8, .rwIn, some 0, some 2, .num 0⟩,
  ⟨0x481002, .u8, .rwIn, some 0, some 1, .num 0⟩,
  ⟨0x481003, .u8, .rwIn, some 0, some 1, .num 0⟩,
  ⟨0x481004, .u32, .ro, some 0, none, .num 0⟩]

def objTable4 : List ObjRow := [
  ⟨0x482001, .octets, .ro, some 0, none, .oct []⟩,
  ⟨0x482002, .octets, .rwIn, some 0, some 2, .oct (List.replicate 128 0)⟩,
  ⟨0x482003, .octets, .ro, some 0, none, .oct (List.replicate 4 0)⟩,
  ⟨0x482004, .u8, .wo, none, some 1, .num 0⟩,
  ⟨0x482005, .u16, .ro, some 0, none, .num 0⟩,
  ⟨0x482006, .octets, .rwIn, some 0, some 1, .oct (List.replicate 128 0)⟩,
  ⟨0x483001, .u64, .ro, some 0, none, .num 0⟩,
  ⟨0x483002, .u64, .ro, some 0, none, .num 0⟩,
  ⟨0x483003, .u32, .ro, some 0, none, .num 0⟩,
  ⟨0x483004, .u64, .ro, some 0, none, .num 0⟩,
  ⟨0x484001, .octets, .rwIn, some 0, some 2, .oct (List.replicate 16 0)⟩,
  ⟨0x484002, .u16, .rwIn, some 0, some 2, .num 48100⟩,
  ⟨0x484003, .octets, .rwIn, some 0, some 2, .oct (List.replicate 256 0)⟩,
  ⟨0x484004, .u16, .rwIn, some 0, some 1, .num 9000⟩,
  ⟨0x484005, .octets, .rw, some 0, some 1, .oct (List.replicate 18 0)⟩,
  ⟨0x484006, .u64, .ro, some 0, none, .num 0⟩,
  ⟨0x484007, .u32, .ro, some 0, none, .num 0⟩,
  ⟨0x484008, .u32, .ro, some 0, none, .num 0⟩,
  ⟨0x485001, .u32, .ro, some 0, none, .num 0⟩,
  ⟨0x485002, .u32, .ro, some 0, none, .num 0⟩,
  ⟨0x500001, .u64, .ro, some 0, none, .num 0⟩,
  ⟨0x500002, .u32, .ro, some 0, none, .num 0⟩,
  ⟨0x500003, .u64, .ro, some 0, none, .num 0⟩,
  ⟨0x500004, .u8, .ro, some 0, none, .num 0xFF⟩,
  ⟨0x500005, .u64, .ro, some 0, none, .num 0⟩,
  ⟨0x500006, .octets, .ro, some 0, none, .oct []⟩,
  ⟨0x501001, .u32, .ro, some 0, none, .num 0⟩,
  ⟨0x501002, .u64, .ro, some 0, none, .num 0⟩,
  ⟨0x501003, .u32, .ro, some 0, none, .num 0⟩,
  ⟨0x502001, .u64, .ro, some 0, none, .num 0⟩,
  ⟨0x502002, .u64, .ro, some 0, none, .num 0⟩,
  ⟨0x502003, .u32, .ro, some 0, none, .num 0⟩,
  ⟨0x503001, .u16, .ro, some 0, none, .num 64⟩,
  ⟨0x503002, .u64, .ro, some 0, none, .num 0⟩,
  ⟨0x503003, .digest, .ro, some 0, none, .oct []⟩,
  ⟨0x503004, .u32, .ro, some 0, none, .num 0⟩,
  ⟨0x503005, .u32, .ro, some 0, none, .num 0⟩,
  ⟨0x504001, .u16, .ro, some 0, none, .num 66⟩,
  ⟨0x504002, .u64, .ro, some 0, none, .num 0⟩,
  ⟨0x600001, .digest, .ro, some 0, none, .oct []⟩]

def objTable5 : List ObjRow := [
  ⟨0x600002, .u8, .ro, some 0, none, .num 0⟩,
  ⟨0x600003, .u8, .ro, some 0, none, .num 0⟩,
  ⟨0x600004, .bool, .ro, some 0, none, .num 0⟩,
  ⟨0x600005, .bool, .ro, some 0, none, .num 0⟩,
  ⟨0x600006, .time64, .ro, some 0, none, .num 0⟩,
  ⟨0x600101, .u64, .rw, some 0, some 1, .num 0⟩,
  ⟨0x600102, .octets, .wo, none, some 1, .oct []⟩,
  ⟨0x600103, .u64, .ro, some 0, none, .num 0⟩,
  ⟨0x600104, .digest, .ro, some 0, none, .oct []⟩,
  ⟨0x600105, .bool, .wo, none, some 1, .num 0⟩,
  ⟨0x601001, .u8, .wo, none, some 1, .num 0⟩,
  ⟨0x601002, .u16, .ro, some 0, none, .num 0⟩,
  ⟨0x601003, .u32, .ro, some 0, none, .num 0⟩,
  ⟨0x601004, .u16, .ro, some 0, none, .num 0⟩,
  ⟨0x601005, .u32, .ro, some 0, none, .num 0⟩,
  ⟨0x601006, .bool, .rwIn, some 0, some 2, .num 0⟩,
  ⟨0x602001, .octets, .ro, some 0, none, .oct []⟩,
  ⟨0x602002, .u8, .ro, some 0, none, .num 0⟩,
  ⟨0x620001, .u64, .ro, some 0, none, .num 0⟩,
  ⟨0x620002, .u32, .ro, some 0, none, .num 0⟩,
  ⟨0x620003, .u16, .ro, some 0, none, .num 0xFFFF⟩,
  ⟨0x620004, .u16, .ro, some 0, none, .num 0⟩,
  ⟨0x620005, .u64, .ro, some 0, none, .num 0⟩,
  ⟨0x620006, .u64, .ro, some 0, none, .num 0⟩,
  ⟨0x630001, .u64, .ro, some 0, none, .num 0⟩,
  ⟨0x630002, .u64, .ro, some 0, none, .num 0⟩,
  ⟨0x630003, .u32, .ro, some 0, none, .num 0⟩,
  ⟨0x630004, .u64, .ro, some 0, none, .num 0⟩,
  ⟨0x630005, .u64, .ro, some 0, none, .num 0⟩,
  ⟨0x630006, .u32, .ro, some 0, none, .num 0⟩,
  ⟨0x630007, .u32, .ro, some 0, none, .num 0⟩,
  ⟨0x630008, .u32, .ro, some 0, none, .num 0⟩,
  ⟨0x630009, .u32, .ro, some 0, none, .num 0⟩,
  ⟨0x63000A, .u16, .ro, some 0, none, .num 0xFFFF⟩,
  ⟨0x700001, .u8, .ro, some 0, none, .num 0⟩,
  ⟨0x700002, .u32, .ro, some 0, none, .num 0⟩,
  ⟨0x700003, .u32, .ro, some 0, none, .num 0⟩,
  ⟨0x700004, .u64, .ro, some 0, none, .num 0⟩,
  ⟨0x700005, .u32, .ro, some 0, none, .num 0⟩,
  ⟨0x701001, .u32, .rw, some 0, some 1, .num 1024⟩]

def objTable6 : List ObjRow := [
  ⟨0x701002, .bool, .wo, none, some 1, .num 0⟩,
  ⟨0x701003, .octets, .ro, some 0, none, .oct []⟩,
  ⟨0x701004, .digest, .ro, some 0, none, .oct []⟩,
  ⟨0x701005, .u64, .ro, some 0, none, .num 0xFFFFFFFFFFFFFFFF⟩,
  ⟨0x701006, .digest, .ro, some 0, none, .oct []⟩,
  ⟨0x701007, .u64, .rw, some 0, some 0, .num 0⟩,
  ⟨0x701008, .octets, .ro, some 0, none, .oct []⟩,
  ⟨0x701009, .bool, .ro, some 0, none, .num 0⟩,
  ⟨0x702001, .u16, .rwIn, some 0, some 1, .num 16⟩,
  ⟨0x702002, .u16, .ro, some 0, none, .num 17⟩,
  ⟨0x702003, .u8, .ro, some 0, none, .num 0⟩,
  ⟨0x702004, .u64, .ro, some 0, none, .num 0⟩,
  ⟨0x702005, .u64, .ro, some 0, none, .num 0⟩,
  ⟨0x702006, .u32, .ro, some 0, none, .num 0⟩,
  ⟨0x702007, .u32, .ro, some 0, none, .num 0⟩,
  ⟨0x703001, .u64, .ro, some 0, none, .num 0⟩,
  ⟨0x703002, .octets, .ro, some 0, none, .oct []⟩,
  ⟨0x704001, .u16, .rwIn, some 0, some 1, .num 64⟩,
  ⟨0x704002, .u64, .ro, some 0, none, .num 0⟩,
  ⟨0x704003, .u32, .ro, some 0, none, .num 0⟩,
  ⟨0x704004, .u16, .ro, some 0, none, .num 0xFFFF⟩,
  ⟨0x800001, .u64, .ro, some 0, none, .num 0⟩,
  ⟨0x800002, .u64, .rw, some 0, some 0, .num 0⟩,
  ⟨0x800003, .octets, .ro, some 0, none, .oct []⟩,
  ⟨0x801001, .u8, .ro, some 0, none, .num 0⟩,
  ⟨0x801002, .u8, .wo, none, some 2, .num 0⟩,
  ⟨0x801003, .u8, .ro, some 0, none, .num 0⟩,
  ⟨0x801004, .u32, .ro, some 0, none, .num 0⟩,
  ⟨0x801005, .octets, .ro, some 0, none, .oct []⟩,
  ⟨0x801006, .u64, .ro, some 0, none, .num 0⟩,
  ⟨0x801007, .u64, .ro, some 0, none, .num 0⟩,
  ⟨0x802001, .u32, .ro, some 0, none, .num 0⟩,
  ⟨0x802002, .u16, .wo, none, some 2, .num 0⟩,
  ⟨0x802003, .u8, .wo, none, some 2, .num 0⟩,
  ⟨0x803001, .u16, .rw, some 0, some 2, .num 24⟩,
  ⟨0x803002, .u8, .rw, some 0, some 2, .num 2⟩,
  ⟨0x803003, .octets, .ro, some 0, none, .oct (List.replicate 18 0)⟩,
  ⟨0x803004, .u16, .wo, none, some 2, .num 0⟩,
  ⟨0x803005, .u32, .ro, some 0, none, .num 0⟩,
  ⟨0x803006, .u32, .ro, some 0, none, .num 0⟩]

def objTable7 : List ObjRow := [
  ⟨0x803007, .u32, .ro, some 0, none, .num 0⟩,
  ⟨0x803008, .u32, .ro, some 0, none, .num 0⟩,
  ⟨0x804001, .u8, .ro, some 0, none, .num 0⟩,
  ⟨0x804002, .u8, .ro, some 0, none, .num 0⟩,
  ⟨0x804003, .u32, .ro, some 0, none, .num 0⟩,
  ⟨0x804004, .u32, .ro, some 0, none, .num 0⟩,
  ⟨0x804005, .u8, .ro, some 0, none, .num 0⟩,
  ⟨0x804006, .u32, .ro, some 0, none, .num 0⟩,
  ⟨0x900001, .u16, .rw, some 0, some 0, .num 0⟩,
  ⟨0x900002, .octets, .rw, some 0, some 2, .oct []⟩,
  ⟨0x900003, .u8, .ro, some 0, none, .num 0⟩,
  ⟨0x900004, .bool, .ro, some 0, none, .num 0⟩,
  ⟨0x900005, .digest, .ro, some 0, none, .oct []⟩,
  ⟨0x900006, .digest, .ro, some 0, none, .oct []⟩,
  ⟨0x900007, .u16, .ro, some 0, none, .num 0⟩,
  ⟨0xA00001, .u8, .wo, none, some 2, .num 0⟩,
  ⟨0xA00002, .u8, .ro, some 0, none, .num 0xFF⟩,
  ⟨0xA00003, .bool, .ro, some 0, none, .num 0⟩,
  ⟨0xA00004, .bool, .rw, some 0, some 2, .num 1⟩,
  ⟨0xA00005, .u8, .ro, some 0, none, .num 0⟩,
  ⟨0xA00006, .u32, .ro, some 0, none, .num 0⟩,
  ⟨0xA00007, .u8, .ro, some 0, none, .num 0⟩,
  ⟨0xA00008, .bool, .rw, some 0, some 2, .num 1⟩,
  ⟨0xA00009, .bool, .wo, none, some 2, .num 0⟩,
  ⟨0xA02001, .u32, .ro, some 0, none, .num 0⟩,
  ⟨0xA02002, .bool, .ro, some 0, none, .num 0⟩,
  ⟨0xA02003, .octets, .ro, some 0, none, .oct []⟩,
  ⟨0xA03001, .u16, .ro, some 0, none, .num 0⟩,
  ⟨0xA03002, .u32, .ro, some 0, none, .num 0⟩,
  ⟨0xA03003, .digest, .ro, some 0, none, .oct []⟩,
  ⟨0xA03004, .u64, .rw, some 0, some 2, .num 0⟩,
  ⟨0xA03005, .octets, .wo, none, some 2, .oct []⟩,
  ⟨0xA03006, .u8, .wo, none, some 2, .num 0⟩,
  ⟨0xA03007, .u16, .ro, some 0, none, .num 0⟩,
  ⟨0xA03008, .u8, .ro, some 0, none, .num 0⟩,
  ⟨0xA03009, .u16, .ro, some 0, none, .num 0⟩,
  ⟨0xA0300A, .bool, .ro, some 0, none, .num 1⟩,
  ⟨0xA04001, .u16, .rw, some 0, some 2, .num 72⟩,
  ⟨0xA04002, .u8, .rw, some 0, some 2, .num 4⟩,
  ⟨0xA04003, .bool, .rw, some 0, some 2, .num 1⟩]

def objTable8 : List ObjRow := [
  ⟨0xA04004, .u8, .ro, some 0, none, .num 0⟩,
  ⟨0xA04005, .u32, .ro, some 0, none, .num 0⟩,
  ⟨0xA04006, .u32, .ro, some 0, none, .num 0⟩,
  ⟨0xA04007, .u8, .ro, some 0, none, .num 0⟩,
  ⟨0xA04008, .bool, .ro, some 0, none, .num 0⟩,
  ⟨0xA04009, .u16, .wo, none, some 1, .num 0⟩,
  ⟨0xB00001, .octets, .ro, some 0, none, .oct []⟩,
  ⟨0xB01001, .octets, .ro, some 0, none, .oct []⟩,
  ⟨0xB01002, .octets, .wo, none, some 2, .oct []⟩,
  ⟨0xB01003, .u8, .wo, none, some 2, .num 0⟩,
  ⟨0xB01101, .octets, .ro, some 0, none, .oct []⟩,
  ⟨0xB01102, .octets, .wo, none, some 2, .oct []⟩,
  ⟨0xB01103, .u16, .wo, none, some 2, .num 0⟩,
  ⟨0xB02001, .octets, .rw, some 0, some 0, .oct []⟩,
  ⟨0xB02002, .octets, .ro, some 0, none, .oct []⟩,
  ⟨0xB02003, .u8, .ro, some 0, none, .num 3⟩,
  ⟨0xB02004, .u64, .ro, some 0, none, .num 0⟩]

/-- Every object with a row of its own. -/
def objTable : List ObjRow :=
  objTable1 ++ objTable2 ++ objTable3 ++ objTable4 ++ objTable5 ++ objTable6 ++ objTable7 ++ objTable8

/-! The keys of the objects by name. -/

abbrev Obj.PANEL_SERIAL : Nat := 0x000001
abbrev Obj.PART_NUMBER : Nat := 0x000002
abbrev Obj.PANEL_CERT : Nat := 0x000003
abbrev Obj.DIE_CERT_SELECT : Nat := 0x000004
abbrev Obj.DIE_CERT : Nat := 0x000005
abbrev Obj.PANEL_STATE : Nat := 0x100001
abbrev Obj.PANEL_STATE_SINCE : Nat := 0x100002
abbrev Obj.PANEL_STATE_PREV : Nat := 0x100003
abbrev Obj.STATE_CHANGES : Nat := 0x100004
abbrev Obj.HOLD_CAUSE : Nat := 0x100005
abbrev Obj.COMMANDS_DROPPED : Nat := 0x100006
abbrev Obj.SITE_STATES : Nat := 0x100007
abbrev Obj.PANEL_COMMAND : Nat := 0x101001
abbrev Obj.SIMMER_HBM : Nat := 0x101002
abbrev Obj.SESSIONS_OPEN : Nat := 0x102001
abbrev Obj.SESSION_SELF : Nat := 0x102002
abbrev Obj.SESSION_LIST : Nat := 0x102003
abbrev Obj.FROZEN_CREDENTIALS : Nat := 0x102004
abbrev Obj.UNFREEZE_CREDENTIAL : Nat := 0x102005
abbrev Obj.SESSION_IDLE_S : Nat := 0x102006
abbrev Obj.DENIED_COUNT : Nat := 0x102007
abbrev Obj.UOAP_UDP_PORT : Nat := 0x103001
abbrev Obj.MGMT_A_ADDR : Nat := 0x103002
abbrev Obj.MGMT_B_ADDR : Nat := 0x103003
abbrev Obj.UOAP_VERSION : Nat := 0x103004
abbrev Obj.POWER_CAP_W : Nat := 0x200001
abbrev Obj.CURRENT_CAP_A : Nat := 0x200002
abbrev Obj.POWER_EST_W : Nat := 0x200003
abbrev Obj.CURRENT_EST_A : Nat := 0x200004
abbrev Obj.POWER_HEADROOM_W : Nat := 0x200005
abbrev Obj.VIN_MIN_MV : Nat := 0x200006
abbrev Obj.VIN_MAX_MV : Nat := 0x200007
abbrev Obj.VIN_EVENTS : Nat := 0x200008
abbrev Obj.VIN_LOSS_COUNT : Nat := 0x200009
abbrev Obj.IVR_PHASES_DISABLED : Nat := 0x201001
abbrev Obj.IVR_DIES_CAPPED : Nat := 0x201002
abbrev Obj.IVR_REG_LOSSES : Nat := 0x201003
abbrev Obj.EFUSE_TRIPS : Nat := 0x201004
abbrev Obj.PREBOOST_COUNT : Nat := 0x201005
abbrev Obj.GOVERNOR_PEAK_HOLDS : Nat := 0x201006
abbrev Obj.POWERON_QUEUE : Nat := 0x202001
abbrev Obj.POWERON_LAST_SITE : Nat := 0x202002
abbrev Obj.POWERON_DEFERRED : Nat := 0x202003
abbrev Obj.CONN_WARNINGS : Nat := 0x203001
abbrev Obj.CONN_LAST_SITE : Nat := 0x203002
abbrev Obj.CONN_LAST_POINT : Nat := 0x203003
abbrev Obj.TRIVET_PRIMARY : Nat := 0x204001
abbrev Obj.TRIVET_TAKEOVERS : Nat := 0x204002
abbrev Obj.TEMP_DIE_MAX : Nat := 0x280001
abbrev Obj.TEMP_HUB_MAX : Nat := 0x280002
abbrev Obj.TEMP_STACK_MAX : Nat := 0x280003
abbrev Obj.TEMP_PORT_MAX : Nat := 0x280004
abbrev Obj.SENSOR_SUSPECT_PAIRS : Nat := 0x280005
abbrev Obj.SENSOR_FAILED : Nat := 0x280006
abbrev Obj.COOLANT_INLET : Nat := 0x281001
abbrev Obj.COOLANT_FLOW : Nat := 0x281002
abbrev Obj.COOLANT_REPORT_AGE_MS : Nat := 0x281003
abbrev Obj.COOL_OK_STATE : Nat := 0x281004
abbrev Obj.THERMAL_BUDGET_W : Nat := 0x281005
abbrev Obj.COOLING_STATE : Nat := 0x281006
abbrev Obj.THROTTLE_EVENTS : Nat := 0x282001
abbrev Obj.TRIP_EVENTS : Nat := 0x282002
abbrev Obj.ROTATIONS : Nat := 0x282003
abbrev Obj.QUENCH_RECORD : Nat := 0x283001
abbrev Obj.QUENCH_COUNT : Nat := 0x283002
abbrev Obj.TIME_NOW : Nat := 0x300001
abbrev Obj.TIME_EPOCH : Nat := 0x300002
abbrev Obj.TIME_SOURCE : Nat := 0x300003
abbrev Obj.TIME_GROUP_OFFSET : Nat := 0x300004
abbrev Obj.TIMEPULSE_IN_OFFSET : Nat := 0x300005
abbrev Obj.REFCLK_A_OK : Nat := 0x300101
abbrev Obj.REFCLK_B_OK : Nat := 0x300102
abbrev Obj.REFCLK_PREFERRED : Nat := 0x300103
abbrev Obj.REFCLK_SWITCH_COUNT : Nat := 0x300104
abbrev Obj.FRAME_PERIOD : Nat := 0x301001
abbrev Obj.SLACK_RESERVE : Nat := 0x301002
abbrev Obj.SLOT_NOW : Nat := 0x301003
abbrev Obj.FRAME_NOW : Nat := 0x301004
abbrev Obj.SLOT_KIND : Nat := 0x301005
abbrev Obj.STRETCH_ACTIVE : Nat := 0x301006
abbrev Obj.SLOT_KIND_NEXT : Nat := 0x301007
abbrev Obj.OVERRUN_COUNT : Nat := 0x302001
abbrev Obj.REPLAY_COUNT : Nat := 0x302002
abbrev Obj.SLACK_PEAK : Nat := 0x302003
abbrev Obj.LAST_OVERRUN_FRAME : Nat := 0x302004
abbrev Obj.OP_CAP_PANEL : Nat := 0x303001
abbrev Obj.OP_FLOOR : Nat := 0x303002
abbrev Obj.OP_STRETCH_FLOOR : Nat := 0x303003
abbrev Obj.OP_NEXT_CHANGE : Nat := 0x303004
abbrev Obj.ROUTE_EPOCH : Nat := 0x400001
abbrev Obj.ROUTE_VERSION_STATE : Nat := 0x400002
abbrev Obj.ROUTE_FLIP_TIME : Nat := 0x400003
abbrev Obj.ROUTE_OLD_EPOCH_FLITS : Nat := 0x400004
abbrev Obj.ROUTE_FLIP_COUNT : Nat := 0x400005
abbrev Obj.ROUTE_FLIPS_REFUSED : Nat := 0x400006
abbrev Obj.ROUTE_DIGEST : Nat := 0x400007
abbrev Obj.AUDIT_LAST_RESULT : Nat := 0x401001
abbrev Obj.AUDIT_FAIL_COUNT : Nat := 0x401002
abbrev Obj.AUDIT_LAST_IMBALANCE : Nat := 0x401003
abbrev Obj.AUDIT_LAST_FAIL_SLOT : Nat := 0x401004
abbrev Obj.LATE_DISCARDS : Nat := 0x401005
abbrev Obj.HEADER_FAULTS : Nat := 0x401006
abbrev Obj.STREAM_COUNT : Nat := 0x402001
abbrev Obj.STREAM_RESERVED_PEAK : Nat := 0x402002
abbrev Obj.STREAM_DIGEST_FAILS : Nat := 0x402003
abbrev Obj.D2D_RETRIES : Nat := 0x403001
abbrev Obj.HUBMESH_RETRIES : Nat := 0x403002
abbrev Obj.SYNC_WORD_ERRORS : Nat := 0x403003
abbrev Obj.PACKET_BOUND_EXCEEDED : Nat := 0x403004
abbrev Obj.PACKET_MAX_LATENCY_NS : Nat := 0x403005
abbrev Obj.GROUP_ID : Nat := 0x480001
abbrev Obj.GROUP_DIMS : Nat := 0x480002
abbrev Obj.GROUP_COORD : Nat := 0x480003
abbrev Obj.GROUP_BRIDGE : Nat := 0x480004
abbrev Obj.GROUP_ROUTE_EPOCH : Nat := 0x480005
abbrev Obj.GROUP_TIME_EPOCH : Nat := 0x480006
abbrev Obj.TIME_MASTER : Nat := 0x481001
abbrev Obj.TIME_DISCIPLINE : Nat := 0x481002
abbrev Obj.PTP_DOMAIN : Nat := 0x481003
abbrev Obj.TIME_DRIFT_EVENTS : Nat := 0x481004
abbrev Obj.PORT_UP : Nat := 0x482001
abbrev Obj.PORT_ROLE : Nat := 0x482002
abbrev Obj.LINK_MODE : Nat := 0x482003
abbrev Obj.LINK_BRINGUP : Nat := 0x482004
abbrev Obj.CONCORD_LAST_FINDING : Nat := 0x482005
abbrev Obj.PORT_MEDIUM : Nat := 0x482006
abbrev Obj.FABRIC_RETRIES : Nat := 0x483001
abbrev Obj.FEC_UNCORRECTED : Nat := 0x483002
abbrev Obj.EXP_MAX_LATENCY_NS : Nat := 0x483003
abbrev Obj.FROZEN_PANELS : Nat := 0x483004
abbrev Obj.HOST_ADDR : Nat := 0x484001
abbrev Obj.HOST_UDP_PORT : Nat := 0x484002
abbrev Obj.HOST_ALLOW : Nat := 0x484003
abbrev Obj.HOST_MTU : Nat := 0x484004
abbrev Obj.NOTICE_DEST : Nat := 0x484005
abbrev Obj.HOST_DROPS : Nat := 0x484006
abbrev Obj.REQUESTS_HELD : Nat := 0x484007
abbrev Obj.REQUESTS_MALFORMED : Nat := 0x484008
abbrev Obj.COLL_EMPTY_SLOTS : Nat := 0x485001
abbrev Obj.COLL_RESENDS : Nat := 0x485002
abbrev Obj.HBM_STACKS_OK : Nat := 0x500001
abbrev Obj.HBM_VISIBLE_MIB : Nat := 0x500002
abbrev Obj.HBM_E2E_ERRORS : Nat := 0x500003
abbrev Obj.HBM_LAST_E2E_STACK : Nat := 0x500004
abbrev Obj.HBM_REFRESH_DOUBLED : Nat := 0x500005
abbrev Obj.HBM_VSTACK_MAP : Nat := 0x500006
abbrev Obj.QUEUE_DESC_FAULTS : Nat := 0x501001
abbrev Obj.QUEUE_BOUND_EXCEEDED : Nat := 0x501002
abbrev Obj.QUEUE_MAX_COMPLETION_NS : Nat := 0x501003
abbrev Obj.KV_PAGES_FREE : Nat := 0x502001
abbrev Obj.KV_PAGES_PENDING : Nat := 0x502002
abbrev Obj.KV_LOST_REQUESTS : Nat := 0x502003
abbrev Obj.LARDER_INTERVAL : Nat := 0x503001
abbrev Obj.LARDER_RESUME_FRAME : Nat := 0x503002
abbrev Obj.LARDER_DIGEST : Nat := 0x503003
abbrev Obj.LARDER_STRIPES_DEGRADED : Nat := 0x503004
abbrev Obj.LARDER_COPY_HOLD_PEAK : Nat := 0x503005
abbrev Obj.RETAIN_DEPTH : Nat := 0x504001
abbrev Obj.RETAIN_OLDEST_FRAME : Nat := 0x504002
abbrev Obj.PROGRAM_DIGEST : Nat := 0x600001
abbrev Obj.PROGRAM_V : Nat := 0x600002
abbrev Obj.PROGRAM_W : Nat := 0x600003
abbrev Obj.PROGRAM_R_BEARING : Nat := 0x600004
abbrev Obj.PROGRAM_OWNER_SIGNED : Nat := 0x600005
abbrev Obj.PROGRAM_LOAD_TIME : Nat := 0x600006
abbrev Obj.STAGE_OFFSET : Nat := 0x600101
abbrev Obj.STAGE_DATA : Nat := 0x600102
abbrev Obj.STAGE_LENGTH : Nat := 0x600103
abbrev Obj.STAGE_DIGEST : Nat := 0x600104
abbrev Obj.STAGE_CLEAR : Nat := 0x600105
abbrev Obj.LOAD_COMMAND : Nat := 0x601001
abbrev Obj.LOAD_RESULT : Nat := 0x601002
abbrev Obj.LOAD_DETAIL : Nat := 0x601003
abbrev Obj.LOAD_SECTION : Nat := 0x601004
abbrev Obj.LOAD_COUNT : Nat := 0x601005
abbrev Obj.LOAD_REQUIRE_OWNER_SIG : Nat := 0x601006
abbrev Obj.PLACEMENT : Nat := 0x602001
abbrev Obj.PLACEMENT_RULE_OVERFLOWS : Nat := 0x602002
abbrev Obj.SPAD_SBE_COUNT : Nat := 0x620001
abbrev Obj.SPAD_DBE_COUNT : Nat := 0x620002
abbrev Obj.SPAD_LAST_DBE_SITE : Nat := 0x620003
abbrev Obj.SPAD_HASH_DIES : Nat := 0x620004
abbrev Obj.SHRD_MERGED : Nat := 0x620005
abbrev Obj.RING_WAIT_EVENTS : Nat := 0x620006
abbrev Obj.CH_SEND_HOLD_CYCLES : Nat := 0x630001
abbrev Obj.CH_MCAST_MESSAGES : Nat := 0x630002
abbrev Obj.CH_WINDOW_VIOLATIONS : Nat := 0x630003
abbrev Obj.LADLE_COMPLETIONS : Nat := 0x630004
abbrev Obj.LADLE_INEXACT : Nat := 0x630005
abbrev Obj.LADLE_OVERFLOW : Nat := 0x630006
abbrev Obj.LADLE_REFUSED : Nat := 0x630007
abbrev Obj.LADLE_TOKENS_OUTSTANDING : Nat := 0x630008
abbrev Obj.DEADLOCK_SUSPECTS : Nat := 0x630009
abbrev Obj.DEADLOCK_LAST_CORE : Nat := 0x63000A
abbrev Obj.CHECK_FALLBACK : Nat := 0x700001
abbrev Obj.RESIDUE_MISMATCHES : Nat := 0x700002
abbrev Obj.DUP_MISMATCHES : Nat := 0x700003
abbrev Obj.INEXACT_E_TILES : Nat := 0x700004
abbrev Obj.PROMOTED_REPLAYS : Nat := 0x700005
abbrev Obj.CERT_INTERVAL : Nat := 0x701001
abbrev Obj.CERT_ON_DEMAND : Nat := 0x701002
abbrev Obj.CERT_LAST : Nat := 0x701003
abbrev Obj.CHAIN_HEAD : Nat := 0x701004
abbrev Obj.CHAIN_HEAD_ENTRY : Nat := 0x701005
abbrev Obj.CHAIN_ROOT : Nat := 0x701006
abbrev Obj.FRAME_RECORD_SELECT : Nat := 0x701007
abbrev Obj.FRAME_RECORD : Nat := 0x701008
abbrev Obj.CERT_SUSPENDED : Nat := 0x701009
abbrev Obj.R_SAMPLE_INTERVAL : Nat := 0x702001
abbrev Obj.R_WINDOW : Nat := 0x702002
abbrev Obj.R_REPLAY_DIES : Nat := 0x702003
abbrev Obj.R_FINAL_FRAME : Nat := 0x702004
abbrev Obj.R_REPLAYS_PASSED : Nat := 0x702005
abbrev Obj.R_REPLAYS_FAILED : Nat := 0x702006
abbrev Obj.R_CAPTURE_DROPS : Nat := 0x702007
abbrev Obj.REVOKE_SEQ : Nat := 0x703001
abbrev Obj.REVOKE_LAST : Nat := 0x703002
abbrev Obj.REHEARSAL_PERIOD : Nat := 0x704001
abbrev Obj.REHEARSAL_COUNT : Nat := 0x704002
abbrev Obj.REHEARSAL_MISSES : Nat := 0x704003
abbrev Obj.REHEARSAL_LAST_MISS_SITE : Nat := 0x704004
abbrev Obj.FSR_LAST_SEQ : Nat := 0x800001
abbrev Obj.FSR_SELECT : Nat := 0x800002
abbrev Obj.FSR_RECORD : Nat := 0x800003
abbrev Obj.RECOVERY_LEVEL : Nat := 0x801001
abbrev Obj.RECOVERY_COMMAND : Nat := 0x801002
abbrev Obj.SAFE_CAUSE : Nat := 0x801003
abbrev Obj.ROLLBACK_COUNT : Nat := 0x801004
abbrev Obj.RECON_LAST : Nat := 0x801005
abbrev Obj.LOST_PANELS : Nat := 0x801006
abbrev Obj.LOST_LEDGER_FLITS : Nat := 0x801007
abbrev Obj.FROZEN_CORES : Nat := 0x802001
abbrev Obj.UNFREEZE_CORE : Nat := 0x802002
abbrev Obj.UNFREEZE_PANEL : Nat := 0x802003
abbrev Obj.QUARANTINE_WINDOW_H : Nat := 0x803001
abbrev Obj.QUARANTINE_THRESHOLD : Nat := 0x803002
abbrev Obj.QUARANTINED_SITES : Nat := 0x803003
abbrev Obj.QUARANTINE_RELEASE : Nat := 0x803004
abbrev Obj.TRANSIENT_FAULTS : Nat := 0x803005
abbrev Obj.LASTING_FAULTS : Nat := 0x803006
abbrev Obj.PROGRAM_FAULTS : Nat := 0x803007
abbrev Obj.UNRESOLVED_FAULTS : Nat := 0x803008
abbrev Obj.SPARES_WARM : Nat := 0x804001
abbrev Obj.SPARES_COLD : Nat := 0x804002
abbrev Obj.MIGRATIONS : Nat := 0x804003
abbrev Obj.MIGRATIONS_CANCELLED : Nat := 0x804004
abbrev Obj.MIGRATIONS_PENDING : Nat := 0x804005
abbrev Obj.STRAGGLER_SWAPS : Nat := 0x804006
abbrev Obj.CAL_SELECT : Nat := 0x900001
abbrev Obj.CAL_SET : Nat := 0x900002
abbrev Obj.CAL_STATUS : Nat := 0x900003
abbrev Obj.CAL_EXPORTED : Nat := 0x900004
abbrev Obj.CAL_DIGEST : Nat := 0x900005
abbrev Obj.CAL_DIGEST_STORED : Nat := 0x900006
abbrev Obj.CAL_DEFAULT_DIES : Nat := 0x900007
abbrev Obj.BRINGUP_COMMAND : Nat := 0xA00001
abbrev Obj.BRINGUP_STAGE : Nat := 0xA00002
abbrev Obj.BRINGUP_HALTED : Nat := 0xA00003
abbrev Obj.AUTO_BRINGUP : Nat := 0xA00004
abbrev Obj.LAST_PATH : Nat := 0xA00005
abbrev Obj.LAST_DURATION_MS : Nat := 0xA00006
abbrev Obj.RESET_CAUSE : Nat := 0xA00007
abbrev Obj.FAST_PATH_ALLOWED : Nat := 0xA00008
abbrev Obj.SETTINGS_CLEAR : Nat := 0xA00009
abbrev Obj.MAP_SEQ : Nat := 0xA02001
abbrev Obj.MAP_REBUILT : Nat := 0xA02002
abbrev Obj.MAP_IMAGE : Nat := 0xA02003
abbrev Obj.FW_SERIES : Nat := 0xA03001
abbrev Obj.FW_RELEASE : Nat := 0xA03002
abbrev Obj.FW_DIGEST : Nat := 0xA03003
abbrev Obj.FW_STAGE_OFFSET : Nat := 0xA03004
abbrev Obj.FW_STAGE_DATA : Nat := 0xA03005
abbrev Obj.FW_COMMAND : Nat := 0xA03006
abbrev Obj.FW_RESULT : Nat := 0xA03007
abbrev Obj.FW_UPDATE_STATE : Nat := 0xA03008
abbrev Obj.FW_UPDATED_PARTS : Nat := 0xA03009
abbrev Obj.FW_FLASH_VALID : Nat := 0xA0300A
abbrev Obj.TEST_PERIOD_H : Nat := 0xA04001
abbrev Obj.TEST_MAX_CONCURRENT : Nat := 0xA04002
abbrev Obj.TEST_ENABLE : Nat := 0xA04003
abbrev Obj.DIES_IN_TEST : Nat := 0xA04004
abbrev Obj.TEST_PASSES : Nat := 0xA04005
abbrev Obj.TEST_FAILS : Nat := 0xA04006
abbrev Obj.TEST_OVERDUE : Nat := 0xA04007
abbrev Obj.PATTERNS_VALID : Nat := 0xA04008
abbrev Obj.TEST_NOW : Nat := 0xA04009
abbrev Obj.VENDOR_KEY_DIGESTS : Nat := 0xB00001
abbrev Obj.ROLE_KEYS : Nat := 0xB01001
abbrev Obj.ROLE_KEY_INSTALL : Nat := 0xB01002
abbrev Obj.ROLE_KEY_REMOVE : Nat := 0xB01003
abbrev Obj.OWNER_KEYS : Nat := 0xB01101
abbrev Obj.OWNER_KEY_INSTALL : Nat := 0xB01102
abbrev Obj.OWNER_KEY_REMOVE : Nat := 0xB01103
abbrev Obj.QUOTE_NONCE : Nat := 0xB02001
abbrev Obj.QUOTE : Nat := 0xB02002
abbrev Obj.SE_STATE : Nat := 0xB02003
abbrev Obj.SIGNATURES : Nat := 0xB02004

/-- The row of an object. -/
def objRow (k : Nat) : Option ObjRow := objTable.find? (fun r => r.key == k)

/-- The default of an object: what it holds right after a panel reset. A dash in the table marks a value that is undefined
after reset (00 R5): the model holds zero, or no bytes, there (DESIGN CHOICE, log 1). -/
def odDefault (k : Nat) : ObjVal :=
  match objRow k with
  | some r => r.dflt
  | none => .num 0

end Sys2Proof.Machine
end

