-- ==== Sys2Proof/Machine/Ops.lean ====
section
/-! DEFINITION. The named operations over the state that the commands share: reading and writing registers,
memories, parts and objects, TIME, reports, fault signature records, ledgers. -/

namespace Sys2Proof.Machine

/-! ## Parts -/

/-- What an unlisted part is. -/
def coreD : Nat → Core := fun _ => {}
def dieD : Nat → Die := fun _ => {}
def hubD : Nat → Hub := fun _ => {}
def portDieD : Nat → PortDie := fun _ => {}
def stackD : Nat → Stack := fun _ => {}
def portD : Nat → Port := fun _ => {}
def dirD : Nat → Dir := fun _ => {}
def zeroD : Nat → Nat := fun _ => 0
def zeroI : Nat → Int := fun _ => 0
def noB : Nat → Bytes := fun _ => []

def State.core (s : State) (k : Nat) : Core := SMap.get coreD s.cores k
def State.setCore (s : State) (k : Nat) (c : Core) : State := { s with cores := SMap.put coreD s.cores k c }
def State.updCore (s : State) (k : Nat) (f : Core → Core) : State := s.setCore k (f (s.core k))

def State.die (s : State) (k : Nat) : Die := SMap.get dieD s.dies k
def State.setDie (s : State) (k : Nat) (d : Die) : State := { s with dies := SMap.put dieD s.dies k d }
def State.updDie (s : State) (k : Nat) (f : Die → Die) : State := s.setDie k (f (s.die k))

def State.hub (s : State) (k : Nat) : Hub := SMap.get hubD s.hubs k
def State.updHub (s : State) (k : Nat) (f : Hub → Hub) : State := { s with hubs := SMap.put hubD s.hubs k (f (s.hub k)) }

def State.portDie (s : State) (k : Nat) : PortDie := SMap.get portDieD s.portDies k
def State.updPortDie (s : State) (k : Nat) (f : PortDie → PortDie) : State :=
  { s with portDies := SMap.put portDieD s.portDies k (f (s.portDie k)) }

def State.stack (s : State) (k : Nat) : Stack := SMap.get stackD s.hbmStacks k
def State.updStack (s : State) (k : Nat) (f : Stack → Stack) : State :=
  { s with hbmStacks := SMap.put stackD s.hbmStacks k (f (s.stack k)) }

def State.port (s : State) (k : Nat) : Port := SMap.get portD s.fabric.ports k
def State.updPort (s : State) (k : Nat) (f : Port → Port) : State :=
  { s with fabric := { s.fabric with ports := SMap.put portD s.fabric.ports k (f (s.port k)) } }

def State.dir (s : State) (k : Nat) : Dir := SMap.get dirD s.fabric.dirs k
def State.updDir (s : State) (k : Nat) (f : Dir → Dir) : State :=
  { s with fabric := { s.fabric with dirs := SMap.put dirD s.fabric.dirs k (f (s.dir k)) } }

/-! ## Registers of a core (05 R124) -/

/-- A scalar register; s0 reads zero. -/
def Core.sreg (c : Core) (r : Nat) : BitVec 64 := if r = 0 then 0 else SMap.get (fun _ => 0) c.sregs r
/-- A write of a scalar register; a write of s0 is discarded. -/
def Core.setSreg (c : Core) (r : Nat) (v : BitVec 64) : Core :=
  if r = 0 then c else { c with sregs := SMap.put (fun _ => 0) c.sregs r v }
/-- A lane of a vector register. -/
def Core.lane (c : Core) (r i : Nat) : BitVec 32 := SMap.get (fun _ => 0) c.vregs (64 * r + i)
def Core.setLane (c : Core) (r i : Nat) (v : BitVec 32) : Core :=
  { c with vregs := SMap.put (fun _ => 0) c.vregs (64 * r + i) v }
/-- A predicate; p0 reads all ones. -/
def Core.predOf (c : Core) (p : Nat) : BitVec 64 :=
  if p = 0 then BitVec.allOnes 64 else SMap.get (fun _ => 0) c.preds p
def Core.setPred (c : Core) (p : Nat) (v : BitVec 64) : Core :=
  if p = 0 then c else { c with preds := SMap.put (fun _ => 0) c.preds p v }
/-- An arrival counter. -/
def Core.ac (c : Core) (i : Nat) : BitVec 32 := SMap.get (fun _ => 0) c.acs i
def Core.setAc (c : Core) (i : Nat) (v : BitVec 32) : Core := { c with acs := SMap.put (fun _ => 0) c.acs i v }
/-- An arrival counter of a binding incremented by 1; 255 names none (06 R163, 11 R310). -/
def Core.incAc (c : Core) (i : Nat) : Core := if i < 64 then c.setAc i (c.ac i + 1) else c
def tileD : Nat → Tile := fun _ => {}
def Core.tile (c : Core) (t : Nat) : Tile := SMap.get tileD c.tiles t
def Core.setTile (c : Core) (t : Nat) (v : Tile) : Core := { c with tiles := SMap.put tileD c.tiles t v }
def Tile.elem (t : Tile) (i : Nat) : BitVec 320 := SMap.get (fun _ => 0) t.elems i
def qD : Nat → List QEnt := fun _ => []
def Core.queue (c : Core) (q : Nat) : List QEnt := SMap.get qD c.queues q
def Core.setQueue (c : Core) (q : Nat) (l : List QEnt) : Core := { c with queues := SMap.put qD c.queues q l }
def sqD : Nat → List SFlit := fun _ => []
def Core.sq (c : Core) (ch : Nat) : List SFlit := SMap.get sqD c.sendq ch
def Core.setSq (c : Core) (ch : Nat) (l : List SFlit) : Core := { c with sendq := SMap.put sqD c.sendq ch l }
def flD : Nat → List Flit := fun _ => []
def Core.land (c : Core) (ch : Nat) : List Flit := SMap.get flD c.landing ch
def Core.setLand (c : Core) (ch : Nat) (l : List Flit) : Core := { c with landing := SMap.put flD c.landing ch l }
def ringD : Nat → Ring := fun _ => {}
def Core.ring (c : Core) (ch : Nat) : Ring := SMap.get ringD c.rings ch
def Core.setRing (c : Core) (ch : Nat) (r : Ring) : Core := { c with rings := SMap.put ringD c.rings ch r }
def ladleD : Nat → Ladle := fun _ => {}
def Core.ladle (c : Core) (e : Nat) : Ladle := SMap.get ladleD c.ladles e
def Core.setLadle (c : Core) (e : Nat) (l : Ladle) : Core := { c with ladles := SMap.put ladleD c.ladles e l }
def arrD : Nat → Arr := fun _ => {}
def Core.arrOf (c : Core) (i : Nat) : Arr := SMap.get arrD c.arr i
def Core.setArr (c : Core) (i : Nat) (a : Arr) : Core := { c with arr := SMap.put arrD c.arr i a }
/-- A held-cycle counter of R66 counted up by `n`; it saturates. -/
def Core.countStall (c : Core) (code n : Nat) : Core :=
  let v := SMap.get (fun _ => (0 : BitVec 32)) c.stall code
  { c with stall := SMap.put (fun _ => 0) c.stall code (BitVec.ofNat 32 (min (v.toNat + n) (2 ^ 32 - 1))) }
/-- The cycle from which an engine of the bank wheel is free (06 R154). -/
def Core.engAt (c : Core) (e : Nat) : Nat := SMap.get zeroD c.engFree e

/-! ## Memories -/

def zByte : Nat → Byte := fun _ => 0

/-- `n` bytes of a byte map from `a`. -/
def readBytes (m : SMap Byte) (a n : Nat) : Bytes := (List.range n).map (fun i => SMap.get zByte m (a + i))
/-- Bytes written to a byte map from `a`. -/
def writeBytes (m : SMap Byte) (a : Nat) : Bytes → SMap Byte
  | [] => m
  | b :: t => writeBytes (SMap.put zByte m a b) (a + 1) t

/-- The key of scratchpad byte `a` of core `k`; HBM byte `a` of physical stack `k`; bundle `a` of core `k`. -/
def spadKey (k a : Nat) : Nat := k * 2 ^ 19 + a
def hbmKey (k a : Nat) : Nat := k * 2 ^ 37 + a
def imemKey (k a : Nat) : Nat := k * 2048 + a

def State.spadRead (s : State) (k a n : Nat) : Bytes := readBytes s.spad (spadKey k a) n
def State.spadWrite (s : State) (k a : Nat) (b : Bytes) : State := { s with spad := writeBytes s.spad (spadKey k a) b }
def State.hbmRead (s : State) (st a n : Nat) : Bytes := readBytes s.hbm (hbmKey st a) n
def State.hbmWrite (s : State) (st a : Nat) (b : Bytes) : State := { s with hbm := writeBytes s.hbm (hbmKey st a) b }

/-- The canonical form of a memory: addresses strictly rising, no entry equal to what an unlisted address reads as (log 3). -/
def Memory.wf (m : SMap Byte) : Bool := SMap.wf zByte m

/-- Every memory of the panel has its canonical form. -/
def State.memWf (s : State) : Bool :=
  Memory.wf s.spad && Memory.wf s.hbm && Memory.wf s.stage && Memory.wf s.fwStage && SMap.wf (fun _ => 0) s.imem

/-! ## Objects (17 R462) -/

def State.obj (s : State) (k : Nat) : ObjVal := SMap.get odDefault s.od k
def State.num (s : State) (k : Nat) : Nat := match s.obj k with | .num n => n | .oct b => natLE b
def State.octets (s : State) (k : Nat) : Bytes := match s.obj k with | .num _ => [] | .oct b => b
def State.setObj (s : State) (k : Nat) (v : ObjVal) : State := { s with od := SMap.put odDefault s.od k v }
def State.setNum (s : State) (k n : Nat) : State := s.setObj k (.num n)
def State.setOct (s : State) (k : Nat) (b : Bytes) : State := s.setObj k (.oct b)
/-- A counter object raised by `n`. -/
def State.count (s : State) (k : Nat) (n : Nat := 1) : State := s.setNum k (s.num k + n)
/-- A two's complement value in 32 bits. -/
def i32 (v : Int) : Nat := (v % 2 ^ 32).toNat
/-- The integer that an I32 holds. -/
def ofI32 (n : Nat) : Int := if n ≥ 2 ^ 31 then (n : Int) - 2 ^ 32 else n

/-- P and σ·P in nanoseconds (02 R40, R47). -/
def State.period (s : State) : Nat := 1000 * s.num Obj.FRAME_PERIOD
def State.slack (s : State) : Nat := s.period * s.num Obj.SLACK_RESERVE / 100

/-- The TIME of the tick of a slot (02 R40). -/
def State.tickOf (s : State) (n : Nat) : Nat := n * s.period

/-- TIME carried forward to `t`; never back (02 R37). -/
def State.atTime (s : State) (t : Nat) : State := { s with time := max s.time t }

/-- The next of samples that come every `every` ns, the last at `last`: TIME is carried to it (log 37). -/
def State.nextSample (s : State) (last every : Nat) : State := s.atTime (if last = 0 then 0 else last + every)

/-- The frequency of an operating point in MHz (02 R52). -/
def opMHz (p : Nat) : Nat :=
  [900, 1050, 1200, 1350, 1500, 1600, 1700, 1800, 1900, 2000, 2100, 2200].getD p 2200

/-- The panel's entry into a state (17 R480). -/
def State.enter (s : State) (p : PanelSt) : State :=
  { s with panel := p, panelSince := s.time, panelPrev := s.panel }.count Obj.STATE_CHANGES

/-- A die's entry into a state (17 R485, R487). -/
def State.dieEnter (s : State) (site : Nat) (st : DieSt) : State :=
  s.updDie site (fun d => { d with st := st, since := s.time })

/-- A value drawn for something the manual leaves open (log 5). -/
def State.draw (s : State) : BitVec 64 × State := (Config.freeValue s.fresh, { s with fresh := s.fresh + 1 })
def State.drawBytes (s : State) : Bytes × State := (Config.freeBytes s.fresh, { s with fresh := s.fresh + 1 })

/-! ## Placement (01 R19 to R21, 09 R249) -/

/-- The spare position of a row of a die; 16 where the row has none (01 R21). -/
def Die.spare (d : Die) (row : Nat) : Nat := SMap.get (fun _ => 16) d.spares row

/-- Grid width and virtual dies of the loaded program. -/
def State.gridW (s : State) : Nat := match s.prog with | some p => p.w | none => 1
/-- The loaded program declares fallback class D (10 R268). -/
def State.fallbackD (s : State) : Bool := match s.prog with | some p => p.fallback == 1 | none => false

def State.gridV (s : State) : Nat := match s.prog with | some p => p.v | none => 0

/-- Global virtual core 256·y + x of virtual die `n`, row `i`, column `j` (01 R20). -/
def vcoreId (w n i j : Nat) : Nat := (16 * (n / w) + i) * 256 + 16 * (n % w) + j

/-- The virtual die of a global virtual core (01 R19, R20). -/
def vdOf (w v : Nat) : Nat := (v / 256 / 16) * w + (v % 256) / 16

/-- The virtual core that a physical core carries; none for a spare position or a die without a virtual die. -/
def State.vcoreOf (s : State) (k : Nat) : Option Nat :=
  let d := s.die (k / 272)
  let row := k % 272 / 17
  let col := k % 17
  match d.vd with
  | none => none
  | some n =>
    if col = d.spare row then none
    else some (vcoreId s.gridW n row (if col < d.spare row then col else col - 1))

/-- The route version of an epoch (09 R249). -/
def Net.route (n : Net) (epochB : Bool) : Route := if epochB then n.b else n.a
def Route.site (r : Route) (vd : Nat) : Nat := SMap.get (fun _ => 144) r.dieMap vd
def Route.stackOf (r : Route) (v : Nat) : Nat := SMap.get (fun v => v) r.vstack v
def Route.spare (r : Route) (site row : Nat) : Nat := SMap.get (fun _ => 16) r.coreMap (16 * site + row)

/-- The physical core of a virtual core under a route version; none where the die map has no entry. -/
def Route.coreOf (r : Route) (w v : Nat) : Option Nat :=
  let site := r.site (vdOf w v)
  let row := v / 256 % 16
  let j := v % 16
  if site < 144 then some (site * 272 + row * 17 + (if j < r.spare site row then j else j + 1)) else none

def State.coreOf (s : State) (epochB : Bool) (v : Nat) : Option Nat := (s.net.route epochB).coreOf s.gridW v

/-- The sites of the virtual dies, in order, under the current route version. -/
def State.sites (s : State) : List Nat := (List.range s.gridV).map (fun n => (s.net.route s.net.epochB).site n)

/-- Every active physical core of a site (03 R79). -/
def State.siteCores (s : State) (site : Nat) : List Nat :=
  (List.range 272).filterMap (fun i =>
    if i % 17 = (s.die site).spare (i / 17) then none else some (site * 272 + i))

/-- Every active core of the program. -/
def State.activeCores (s : State) : List Nat := s.sites.flatMap s.siteCores

/-- A die's scratchpads without contents. -/
def State.clearSpads (s : State) (site : Nat) : State :=
  { s with spad := SMap.clearRange s.spad (spadKey (site * 272) 0) (spadKey (site * 272 + 272) 0) }

/-- The scratchpad mode of a die: a change writes zero into every word (06 R161). -/
def State.setHashing (s : State) (site : Nat) (h : Bool) : State :=
  if (s.die site).hashing = h then s else (s.clearSpads site).updDie site (fun d => { d with hashing := h })

/-- Every site of the panel (01 R12). -/
def allSites : List Nat := List.range 144

/-- A die is usable (01 R22). -/
def Die.usable (d : Die) : Bool :=
  !d.quarantined && match d.st with
    | .active => true | .warmSpare => true | .coldSpare => true | .test => true
    | .frozen => false | .dark => false | .lost => false

/-- The grade: over the cells, the smaller of 8 and the usable dies (01 R23). -/
def State.grade (s : State) : Nat :=
  ((List.range 16).map (fun c =>
    min 8 (((List.range 9).filter (fun i => (s.die (9 * c + i)).usable)).length))).sum

/-! ## Reports and records (15 R411, R435) -/

/-- A detector's report on the attempt that runs (15 R411). `core` is the physical core that the fault is localised to. -/
def State.report (s : State) (det : Nat) (vd site : Option Nat) (core : Option Nat := none) : State :=
  { s with slots := { s.slots with reports := s.slots.reports ++ [{ det := det, vd := vd, site := site, core := core }] } }

/-- What a fault signature record says of the part concerned (15 R435). -/
structure FsrIn where
  part : Nat := 4
  index : Nat := 0
  unit : Nat := 0
  det : Nat
  cls : Nat := 3
  vcore : Nat := 0xFFFF
  operation : Nat := 0xFFFFFFFF
  retry : Nat := 0
  kind : Nat := 0
  action : Nat := 0
  detail : Bytes := []
  related : Nat := 0
  pattern : Bytes := []
  /-- The TCLR ordinal of a tile fault, or the bundle address: the last field of the pattern digest (15 R437). -/
  ord : Option Nat := none
  /-- The frame concerned, where it is not that of the attempt in progress. -/
  frame : Option Nat := none

/-- The sensors of a die: two for each of the 8 hot spots, then one for each quadrant, and the marks of the first 16:
0 good, 1 suspect, 2 failed (14 R390, R392). -/
def Die.sensor (d : Die) (i : Nat) : Int := SMap.get zeroI d.sensors i
def Die.mark (d : Die) (i : Nat) : Nat := SMap.get zeroD d.marks i

/-- The quadrant sensor nearest to a hot spot (14 R392; log 35). -/
def Die.quad (d : Die) (h : Nat) : Int := d.sensor (16 + h / 2)

/-- The value of a hot spot: the hotter of its two sensors, the one that has not failed, or the nearest quadrant sensor
plus 10 K (14 R391, R392). -/
def Die.hotSpot (d : Die) (h : Nat) : Int :=
  if d.mark (2 * h) = 2 then
    if d.mark (2 * h + 1) = 2 then d.quad h + 1000 else d.sensor (2 * h + 1)
  else if d.mark (2 * h + 1) = 2 then d.sensor (2 * h)
  else max (d.sensor (2 * h)) (d.sensor (2 * h + 1))

/-- The control temperature of a die: its hottest hot spot, 5 K more on calibration defaults (14 R391, 18 R505). -/
def Die.control (d : Die) : Int :=
  ((List.range 8).map d.hotSpot).foldl max (d.hotSpot 0) + (if d.calDef then 500 else 0)

/-- The temperature that a record of a part gives, as I16 (15 R435). -/
def State.partTemp (s : State) (part index : Nat) : Nat :=
  let v : Option Int := match part with
    | 0 => some (s.die index).control
    | 1 => some ((s.hub index).temps.foldl max ((s.hub index).temps.headD 0))
    | 2 => some ((s.portDie index).temps.foldl max ((s.portDie index).temps.headD 0))
    | 3 => some (s.stack index).temp
    | _ => none
  match v with | some x => (x % 65536).toNat | none => 0x8000

/-- Pfull of R379, in 0.1 W. -/
def pfull (i : Nat) : Nat := [611, 793, 1003, 1242, 1512, 1711, 1924, 2154, 2400, 2732, 3094, 3569].getD i 3569

/-- The nominal core-rail voltage of a point, in mV (13 R379). -/
def nominalMv (i : Nat) : Nat := [550, 580, 610, 640, 670, 690, 710, 730, 750, 780, 810, 850].getD i 850

/-- The calibration set in use on a die, by calibration index; its built-in defaults until a set is loaded
(18 R504, R505). -/
def State.calOf (s : State) (i : Nat) : Bytes :=
  match SMap.get noB s.access.calUse i with
  | [] => Config.defaultCalBlock i
  | b => b

/-- The last chain entry index; all ones before the first (10 R288). -/
def State.lastEntry (s : State) : Nat := if s.checks.entries = 0 then 2 ^ 64 - 1 else s.checks.entries - 1

/-- Bytes padded or cut to a length. -/
def fit (n : Nat) (b : Bytes) : Bytes := slice b 0 n

/-- The kind of a part with a defect record or calibration set: 0 compute die, 1 hub, 2 port die. -/
def calKind (i : Nat) : Nat := if i < 144 then 0 else if i < 160 then 1 else 2

/-- A signature by a vendor key, 0 firmware or 1 manufacturing, whose digest is checked against mask ROM before the use
(18 R493). -/
def vendorVerify (n : Nat) (sig msg : Bytes) : Bool :=
  let k := if n = 0 then Config.vendorFirmwareKey else Config.vendorManufacturingKey
  sha384 k == slice Config.vendorKeyDigests (48 * n) 48 && Config.verify k sig msg

/-- A defect record verifies: its constants, the kind of its part, the manufacturer's signature over bytes 0 to 79
(16 R445). -/
def drecOk (i : Nat) : Bool :=
  let b := Config.defectRecord i
  slice b 0 4 == [0x48, 0x47, 0x4E, 0x44] && field b 4 2 == 1 && field b 6 2 == calKind i &&
  vendorVerify 1 (slice b 80 96) (slice b 0 80)

/-- DREC.SPARECOL of a row (16 R445, 01 R21). -/
def drecSpare (site row : Nat) : Nat := min 16 (field (Config.defectRecord site) (24 + row) 1)

/-- A part's device certificate verifies and names the part's serial, as the key challenge needs (18 R494, R495). -/
def dcertOk (i : Nat) : Bool :=
  let b := Config.dieCert i
  slice b 0 4 == [0x48, 0x47, 0x4E, 0x49] && field b 4 2 == 1 && field b 6 2 == calKind i &&
  slice b 8 16 == slice (Config.defectRecord i) 8 16 && vendorVerify 1 (slice b 160 96) (slice b 0 160)

/-- The serial of a part by its index in the map: DREC.SERIAL, or a stack's own (16 R445, R446). -/
def partSerial (i : Nat) : Bytes :=
  if i < 168 then slice (Config.defectRecord i) 8 16 else fit 16 (Config.stackSerial (i - 168))

/-- The first 252 bytes of a fault signature record. FSR.ATTEMPT counts as 15 R412 does. A fault whose classification needs no
further attempt is written once, with its kind, and is not retried (15 R435; log 171). -/
def State.fsrBody (s : State) (seq : Nat) (r : FsrIn) : Bytes :=
  let frame := match r.frame, s.slots.att with | some f, _ => f | none, some a => a.frame | none, none => s.slots.nextFrame
  let prog : Bytes := match s.prog with | some p => p.digest | none => []
  bytesLE 4 0x464E4748 ++ bytesLE 2 1 ++ bytesLE 2 256 ++ bytesLE 8 seq ++ fit 16 Config.panelSerial ++
  fit 16 (if r.part = 0 then partSerial r.index else if r.part = 1 then partSerial (144 + r.index)
    else if r.part = 2 then partSerial (160 + r.index) else []) ++
  bytesLE 2 r.part ++ bytesLE 2 r.index ++ bytesLE 2 r.unit ++ bytesLE 2 r.det ++ bytesLE 1 r.cls ++
  bytesLE 1 (if r.part = 0 then (s.die r.index).op else 0xFF) ++ bytesLE 2 r.vcore ++ bytesLE 4 r.operation ++
  bytesLE 8 frame ++ bytesLE 8 s.slots.slot ++ bytesLE 8 s.time ++
  bytesLE 2 (if s.slots.failed = some frame then s.slots.attempts + 1 else 1) ++
  bytesLE 2 (s.partTemp r.part r.index) ++
  bytesLE 2 (if r.part ≠ 0 then 0
    else if (s.die r.index).calDef then nominalMv (s.die r.index).op + 30
    else field (s.calOf r.index) (160 + 2 * (s.die r.index).op) 2) ++ bytesLE 2 0 ++
  fit 48 (match r.ord with
    | some o => sha384 (fit 48 prog ++ bytesLE 8 frame ++ bytesLE 2 r.vcore ++ bytesLE 2 r.unit ++ bytesLE 8 o)
    | none => r.pattern) ++ bytesLE 1 (if r.kind ≠ 0 ∧ r.retry = 0 then 4 else r.retry) ++ bytesLE 1 r.kind ++ bytesLE 2 r.action ++ bytesLE 4 0 ++
  fit 32 r.detail ++ bytesLE 8 r.related ++ bytesLE 8 s.lastEntry ++ fit 48 prog ++ bytesLE 4 0

/-- A fault signature record written to the log, which keeps the last 65,536 (15 R435, R438). -/
def State.fsr (s : State) (r : FsrIn) : State :=
  let seq := s.num Obj.FSR_LAST_SEQ + 1
  let body := s.fsrBody seq r
  let rec' := body ++ bytesLE 4 (crc32c body)
  let s := s.setNum Obj.FSR_LAST_SEQ seq
  let log := (s.recovery.fsr ++ [rec'])
  let s := { s with recovery := { s.recovery with fsr := log.drop (log.length - 65536) } }
  if r.part = 0 then s.updDie r.index (fun d => { d with lastFsr := seq }) else s

/-- A fault of a die: the report to its sieve and the record. -/
def State.dieFault (s : State) (site det unit : Nat) : State :=
  (s.report det (s.die site).vd (some site)).fsr { part := 0, index := site, unit := unit, det := det }

/-- FSR.OPERATION: bundle address, slot, opcode (15 R435); none for what an interface does of itself. -/
def opWord (pc slot opc : Nat) : Nat := pc * 65536 + slot * 256 + opc
def noOp : Nat := 0xFFFFFFFF

/-- A fault met while a core worked: the report and the record, with the core and the operation (15 R435). Without an operation
the pattern digest is zero (15 R437; log 173). -/
def State.coreFault (s : State) (k op det unit : Nat) : State :=
  let site := k / 272
  (s.report det (s.die site).vd (some site) (some k)).fsr
    { part := 0, index := site, unit := unit, det := det, cls := if det = 0x02 then 1 else 3
      vcore := (s.vcoreOf k).getD 0xFFFF, ord := if op = noOp then none else some (op / 65536), operation := op }

/-- A field entry of a die in the panel defect map: code, unit, row, column; the map holds four (16 R446). -/
def Die.fieldEntry (d : Die) (det unit row col : Nat) : Die := { d with field := (d.field ++ [(det, unit, row, col)]).take 4 }

/-- The panel defect map is written (16 R446). While no half of the secure element can sign it is unsigned (18 R496). -/
def State.mapWrite (s : State) : State :=
  { s with bringup := { s.bringup with mapSeq := s.bringup.mapSeq + 1, mapTime := s.time, mapSigned := s.access.halves != 0 } }

/-- Lasting faults of a die within the window of R414. -/
def State.lastingIn (s : State) (site : Nat) : Nat :=
  ((s.die site).lasting.filter (fun t => decide (s.time ≤ t + s.num Obj.QUARANTINE_WINDOW_H * 3600 * 10 ^ 9))).length

/-- A migration requested; the highest of a site's priorities counts (15 R416). -/
def State.reqMig (s : State) (site prio : Nat) : State :=
  if (s.die site).vd.isNone then s
  else
    let old := s.recovery.reqs.find? (fun r => r.site == site)
    let reqs := match old with
      | some r => s.recovery.reqs.map (fun x => if x.site = site then { x with prio := min r.prio prio } else x)
      | none => s.recovery.reqs ++ [{ site := site, prio := prio }]
    { s with recovery := { s.recovery with reqs := reqs } }

/-- A die quarantined (15 R414): marked and unpowered; an ACTIVE die is first migrated out. -/
def State.quarantine (s : State) (site : Nat) (det : Nat := 0x12) : State :=
  let d := s.die site
  if d.quarantined then s
  else
    let s := (s.updDie site (fun d => { d with quarantined := true })).mapWrite
    let s := s.fsr { part := 0, index := site, det := det, kind := 2, action := 0x40 }
    match d.st with
    | .active => (s.updDie site (fun d => { d with after := 3 })).reqMig site 1
    | .warmSpare => (s.dieEnter site .coldSpare).updDie site (fun d => { d with powered := false })
    | .test => (s.dieEnter site .coldSpare).updDie site (fun d => { d with powered := false, corner := 0, hashing := false })
    | .coldSpare => s
    | .frozen => s
    | .dark => s
    | .lost => s

/-- A die joins the test queue in the order of ENT.TESTDUE (16 R456). -/
def State.joinTest (s : State) (site : Nat) : State :=
  let d := s.die site
  if s.bringup.testQ.contains site || d.quarantined || d.st == .dark || d.st == .lost || d.st == .frozen then s
  else
    let q := s.bringup.testQ
    let q' := q.takeWhile (fun i => decide (Die.testDue (s.die i) ≤ d.testDue)) ++ [site] ++
      q.dropWhile (fun i => decide (Die.testDue (s.die i) ≤ d.testDue))
    { s with bringup := { s.bringup with testQ := q' } }

/-- A lasting fault of a die: counted, entered in the defect map with the core that it was localised to, quarantine at the
threshold (15 R413, R414, 03 R80). -/
def State.lastingFault (s : State) (site det unit : Nat) (core : Option Nat := none) : State :=
  let row := match core with | some k => k % 272 / 17 | none => 0xFF
  let col := match core with | some k => k % 17 | none => 0xFF
  let s := (s.updDie site (fun d => { d.fieldEntry det unit row col with lasting := d.lasting ++ [s.time] })).mapWrite.count Obj.LASTING_FAULTS
  if s.num Obj.QUARANTINE_THRESHOLD ≤ s.lastingIn site then s.quarantine site det else s.joinTest site

/-! ## Ledgers (09 R253). Categories: 0 flits of the bulk channel, 1 channel credits, 2 HBM request credits, 3 ladle
tokens, 4 arrival increments, 5 stream bytes, 6 old-epoch flits, 7 flits of the control channel. -/

/-- A count of one interface: `x` is 0 created, 1 destroyed, 2 held. -/
def Net.ledAt (n : Net) (i cat x : Nat) : Int := SMap.get zeroI n.ledger (32 * i + 3 * cat + x)
/-- A count over the whole panel. -/
def Net.led (n : Net) (cat x : Nat) : Int := ((n.ledger.filter (fun e => e.1 % 32 == 3 * cat + x)).map (fun e => e.2)).sum
def Net.addLed (n : Net) (i cat x : Nat) (v : Int) : Net :=
  { n with ledger := SMap.upd zeroI n.ledger (32 * i + 3 * cat + x) (fun y => y + v) }
/-- `v` of a category created and held at an interface. -/
def State.ledCreate (s : State) (i cat : Nat) (v : Nat) : State :=
  { s with net := (s.net.addLed i cat 0 v).addLed i cat 2 v }
/-- `v` of a category destroyed at interface `i` that interface `j` accounts for as held. -/
def State.ledDestroy (s : State) (i j cat : Nat) (v : Nat) : State :=
  { s with net := (s.net.addLed i cat 1 v).addLed j cat 2 (-(v : Int)) }
/-- `v` of a category destroyed that no interface held: the audit sees the difference. -/
def State.ledSpurious (s : State) (i cat : Nat) (v : Nat) : State :=
  { s with net := s.net.addLed i cat 1 v }
/-- All that is held in a category destroyed where it is held. -/
def Net.drop (n : Net) (cat : Nat) : Net :=
  (n.ledger.filter (fun e => e.1 % 32 == 3 * cat + 2)).foldl (fun n e =>
    (n.addLed (e.1 / 32) cat 1 e.2).addLed (e.1 / 32) cat 2 (-e.2)) n

/-- An entry written into the inactive route version (09 R249, R251). -/
def State.writeRoute (s : State) (f : Route → Route) : State :=
  let n := s.net
  { s with net := if n.epochB then { n with a := f n.a } else { n with b := f n.b } }

/-- The inactive version may be written: free or being written, and no flip announced (09 R251). -/
def State.routeFree (s : State) : Bool := decide (s.net.invState ≤ 1)

/-- The hub that an interface's ledger goes to (09 R255). -/
def ifCell (i : Nat) : Nat :=
  if i < 144 then i / 9 else if i < 656 then (i - 144) / 32 else [0, 2, 3, 11, 15, 13, 12, 4].getD (i - 656) 0

/-! ## Sites, hubs, the log of an event -/

/-- The hub (cell) of a site; the cell of a stack (01 R12). -/
def cellOf (site : Nat) : Nat := site / 9
def cellOfStack (st : Nat) : Nat := st / 3

/-- The attempt's frame number; even when none runs. -/
def State.frameNow (s : State) : Nat := match s.slots.att with | some a => a.frame | none => s.slots.nextFrame

/-- THERM_ALERT_N, FAULT_N and other outputs are set with this. -/
def State.setPins (s : State) (f : Pins → Pins) : State := { s with pins := f s.pins }

/-- The outcome of a command: its next state, or the fault of a part that does not exist. -/
def onPart (ok : Bool) (t : State) : Host.Outcome State Fault Refusal := if ok then .next t else .fault .noSuchPart

end Sys2Proof.Machine
end

