-- ==== Sys2Proof/Machine/Operands.lean ====
section
/-! DEFINITION. Operand forms: sign extension, effective addresses (05 R127), capability windows and their views
(11 R302 to R309), HBM addresses (08 R202), the wheel wait (06 R155). -/

namespace Sys2Proof.Machine

/-! ## Addresses -/

/-- s[RA] + OFF modulo 2^64, with the offset sign-extended (05 R127). -/
def ea (c : Core) (ra : BitVec 5) (off : Int) : Nat := (c.sreg ra.toNat + BitVec.ofInt 64 off).toNat

/-- The address of a MOV operation (05 R140). -/
def movEa (c : Core) (f : MovF) : Nat := ea c f.ra f.off.toInt
/-- The low bits ignored: six for lines, log2 n for a scalar access (05 R127). -/
def alignTo (n a : Nat) : Nat := a / n * n
/-- The address of a MAT image, with its offset in lines (05 R132). -/
def imgEa (c : Core) (ra : BitVec 5) (off : BitVec 13) : Nat := alignTo 64 (ea c ra (64 * off.toInt))

/-- The length of FILL, COPY and LD.ARM in bytes (05 R141). -/
def movLen (f : MovF) : Nat := (f.n.toNat + 1) * (if f.sz.toNat % 2 = 1 then 1024 else 64)

/-! ## Scratchpad windows (11 R302 to R305) -/

/-- The windows that the loader granted to a virtual core. -/
def State.windows (s : State) (v : Nat) : List Win :=
  match s.prog with | some p => SMap.get (fun _ => []) p.windows v | none => []

/-- The windows of a physical core. -/
def State.coreWindows (s : State) (k : Nat) : List Win :=
  match s.vcoreOf k with | some v => s.windows v | none => []

/-- The scratchpad window that holds a whole range. -/
def findWin (ws : List Win) (a n : Nat) : Option Win :=
  ws.find? (fun w => w.kind != 0 && decide (w.base ≤ a) && decide (a + n ≤ w.base + w.len))

/-- Who accesses the scratchpad (11 R304). -/
inductive Who | core | engine | ni
  deriving DecidableEq, Repr

/-- What a window kind grants (11 R304): 1 CONST, 2 FSR, 3 FSW, 4 WORK, 5 RING, 6 WINDOW, 7 LADLE. -/
def grants (kind : Nat) (who : Who) (wr : Bool) : Bool :=
  match who, wr with
  | .core, false => true
  | .core, true => [3, 4, 6, 7].contains kind
  | .engine, false => true
  | .engine, true => [3, 4, 6].contains kind
  | .ni, false => [1, 2, 3, 4, 7].contains kind
  | .ni, true => [5, 6, 7].contains kind

/-- A range lies wholly inside one window that grants the access, below the end of the scratchpad (06 R150). -/
def State.allows (s : State) (k : Nat) (who : Who) (a n : Nat) (wr : Bool) : Bool :=
  match findWin (s.coreWindows k) a n with
  | some w => grants w.kind who wr && decide (a + n ≤ 393216)
  | none => false

/-- The window kind of an address; 0 outside every window. -/
def State.kindAt (s : State) (k a : Nat) : Nat :=
  match findWin (s.coreWindows k) a 1 with | some w => w.kind | none => 0

/-- The physical byte that an address reaches: FSR and FSW windows change places in odd frames (11 R305). -/
def swapView (ws : List Win) (odd : Bool) (a : Nat) : Nat :=
  if odd then
    match findWin ws a 1 with
    | some w =>
      if w.kind = 2 ∨ w.kind = 3 then
        match ws.find? (fun x => x.kind == 5 - w.kind) with
        | some o => o.base + (a - w.base)
        | none => a
      else a
    | none => a
  else a

def State.phys (s : State) (k a : Nat) : Nat := swapView (s.coreWindows k) (s.frameNow % 2 == 1) a

/-- Bytes read and written through the views of the attempt's frame. -/
def State.viewRead (s : State) (k a n : Nat) : Bytes := s.spadRead k (s.phys k a) n
def State.viewWrite (s : State) (k a : Nat) (b : Bytes) : State := s.spadWrite k (s.phys k a) b

/-- The frame-state gate: a verdict on an earlier attempt is outstanding (02 R46). -/
def State.gateClosed (s : State) : Bool := s.slots.ended.isSome

/-- A larder copy of checkpoint c has still to read a buffer that an attempt of frame c + 2 writes (08 R226). -/
def State.copyHolds (s : State) (b : CkBuf) : Bool :=
  s.larder.copying.any (fun c => c.wait.contains b && s.frameNow == c.resume + 1)

/-- A store to a scratchpad range is held by a frame-state rule, code 9 (03 R64). -/
def State.fsHold (s : State) (k a : Nat) : Bool :=
  s.kindAt k a == 3 &&
    (s.gateClosed || match s.vcoreOf k with | some v => s.copyHolds (.spad v) | none => false)

/-! ## HBM addresses (08 R202, 11 R306) -/

/-- The region that an HBM window names. -/
def State.regionOf (s : State) (i : Nat) : Option Region :=
  match s.prog with | some p => p.regions[i]? | none => none

/-- The HBM window, with its region, that holds a whole range of HBM addresses (08 R202). -/
def State.findHbm (s : State) (k a n : Nat) : Option (Win × Region) :=
  (s.coreWindows k).findSome? (fun w =>
    if w.kind = 0 then
      match s.regionOf w.region with
      | some r =>
        let lo := r.vstack * 2 ^ 37 + r.off + w.base
        if lo ≤ a ∧ a + n ≤ lo + w.len then some (w, r) else none
      | none => none
    else none)

/-- A region kind admits a core's write through its windows (11 R306): 2 HWORK, 3 HFS, 5 HOUTPUT, 6 HKV. -/
def hbmWritable (kind : Nat) : Bool := [2, 3, 5, 6].contains kind

/-- The offset of an address within its region. -/
def regOff (r : Region) (a : Nat) : Nat := a % 2 ^ 37 - r.off

/-- The address lies in the read view of an HFS region: half 0 (11 R306). -/
def inHfsRead (r : Region) (a : Nat) : Bool := r.kind == 3 && decide (regOff r a < r.len)

/-- An HBM access is inside the core's capability windows (08 R202, 11 R304, R306). -/
def State.hbmAllows (s : State) (k a n : Nat) (wr : Bool) : Bool :=
  decide (a < 48 * 2 ^ 37) && decide (a % 2 ^ 37 + n ≤ 0x1680000000) &&
  match s.findHbm k a n with
  | some (w, r) => if wr then w.rights == 3 && hbmWritable r.kind && !inHfsRead r a else w.rights % 2 == 1 && r.kind ≤ 6
  | none => false

/-- The place in HBM that a program's address reaches in frame `n`: the view of an HFS region changes halves in odd
frames, and the view of HOUTPUT is slot n mod PRM.OD (11 R305, R306, R309). -/
def hbmView (r : Region) (od out n a : Nat) : Nat :=
  let o := regOff r a
  if r.kind = 3 ∧ n % 2 = 1 then (if o < r.len then a + r.len else a - r.len)
  else if r.kind = 5 then a + (n % od) * out
  else a

def State.hbmAt (s : State) (k a n : Nat) : Nat :=
  match s.findHbm k a n, s.prog with
  | some (_, r), some p => hbmView r p.od p.output s.frameNow a
  | _, _ => a

/-- A write is held under code 9: the gate of R46 and the copy of R226 for HFS, and R309 for HOUTPUT, whose release counts the
reads of the collective entries (12 R350). -/
def State.hbmHold (s : State) (k a n : Nat) : Bool :=
  match s.findHbm k a n, s.prog with
  | some (w, r), some p =>
    if r.kind = 3 then s.gateClosed || s.copyHolds (.hfs w.region)
    else if r.kind = 5 then
      decide (p.od ≤ s.frameNow) &&
        ((s.checks.done ++ s.checks.release).any (fun d => d.att.frame == s.frameNow - p.od) ||
         (List.range p.colls.length).any (fun i => decide (SMap.get zeroD s.fabric.collNext i ≤ s.frameNow - p.od)))
    else false
  | _, _ => false

/-! ## The bank wheel (06 R153 to R155) -/

/-- The engines of R153. -/
inductive Eng | matA | matB | matC | vec | qin | qout | net | ctl
  deriving DecidableEq, Repr

def Eng.idx : Eng → Nat
  | .matA => 0 | .matB => 1 | .matC => 2 | .vec => 3 | .qin => 4 | .qout => 5 | .net => 6 | .ctl => 7

/-- The bank pair that an engine owns in a cycle. -/
def pairAt (e : Eng) (c : Nat) : Nat := (e.idx + c) % 8

/-- d: the cycles from `t0` until the engine owns bank pair `p`. -/
def wheelD (e : Eng) (t0 p : Nat) : Nat := (p + 16 - (e.idx + t0) % 8) % 8

/-- o: one extra transfer when an even run starts on an odd line. -/
def wheelO (line n : Nat) : Nat := if line % 2 = 1 ∧ n % 2 = 0 then 1 else 0

/-- A transfer run of `n` lines from address `a`, issued at cycle `t`: first transfer and wheel wait w. -/
structure Run where
  first : Nat
  w : Nat
  last : Nat
  deriving DecidableEq, Repr

def wheelRun (c : Core) (e : Eng) (t a n : Nat) : Run :=
  let t0 := max (t + 1) (c.engAt e.idx)
  let line := a / 64
  let d := wheelD e t0 (line / 2 % 8)
  let o := wheelO line n
  { first := t0 + d, w := d + o, last := t0 + d + ((n + 1) / 2 + o) - 1 }

/-- The engine is taken up to the last transfer of a run (06 R154). -/
def Core.useEng (c : Core) (e : Eng) (r : Run) : Core :=
  { c with engFree := SMap.put zeroD c.engFree e.idx (r.last + 1) }

/-! ## Hashing mode (06 R159) -/

/-- The bank and the row of a line. -/
def hashBank (l : Nat) : Nat := (l % 16) ^^^ (l / 16 % 16) ^^^ (l / 256 % 16)
def hashRow (l : Nat) : Nat := l / 16 % 512

/-- The engine that a bank serves: in turn, from the engine after the one that it last served. `last` is that engine's number
plus one, 0 before it has served any. -/
def hashGrant (last : Nat) (reqs : List Nat) : Option Nat :=
  ((List.range 8).map (fun i => (last + i) % 8)).find? (fun e => reqs.contains e)

/-- One cycle: each bank serves one line, of the requests given as engine and line; the answer is what has been served. -/
def Core.hashCycle (c : Core) (reqs : List (Nat × Nat)) : Core × List (Nat × Nat) :=
  (List.range 16).foldl (fun (r : Core × List (Nat × Nat)) b =>
    let mine := reqs.filter (fun q => hashBank q.2 == b)
    match hashGrant (SMap.get zeroD r.1.bankLast b) (mine.map (fun q => q.1)) with
    | some e => match mine.find? (fun q => q.1 == e) with
      | some q => ({ r.1 with bankLast := SMap.put zeroD r.1.bankLast b (e + 1) }, r.2 ++ [q])
      | none => r
    | none => r) (c, [])

/-- A transfer of `n` lines from line `l` by one engine: the panel does not bound when each line is served. -/
def Core.hashRun (c : Core) (e : Eng) (l n : Nat) : Core :=
  (List.range n).foldl (fun c i => (c.hashCycle [(e.idx, l + i)]).1) c

/-! ## Bindings (07 R173, 11 R310) -/

def State.bindingsOf (s : State) (v : Nat) : List Bnd :=
  match s.prog with | some p => SMap.get (fun _ => []) p.bindings v | none => []

/-- The binding of an outbound or inbound channel of a physical core: the first that the image lists (07 R173; log 59). -/
def State.bindOut (s : State) (k ch : Nat) : Option Bnd :=
  match s.vcoreOf k with
  | some v => (s.bindingsOf v).find? (fun b => b.ch == 16 + ch)
  | none => none
def State.bindIn (s : State) (k ch : Nat) : Option Bnd :=
  match s.vcoreOf k with
  | some v => (s.bindingsOf v).find? (fun b => b.ch == ch)
  | none => none

/-- The kind of a channel's binding; 0 where it is not bound. 1 operand port, 2 ring, 3 window, 4 destination,
5 multicast, 6 ladle, 7 shared window. -/
def State.outKind (s : State) (k ch : Nat) : Nat := match s.bindOut k ch with | some b => b.kind | none => 0
def State.inKind (s : State) (k ch : Nat) : Nat := match s.bindIn k ch with | some b => b.kind | none => 0

/-- The virtual cores of a multicast span without the sender (07 R183). -/
def mcastSpan (col : Bool) (first last me : Nat) : List Nat :=
  let x := first % 256
  let y := first / 256
  let l := if col then (List.range (last + 1 - y)).map (fun i => (y + i) * 256 + x)
    else (List.range (last + 1 - x)).map (fun i => y * 256 + x + i)
  l.filter (fun v => v != me)

/-- The virtual cores that an outbound channel delivers to. -/
def State.sinks (s : State) (k ch : Nat) : List Nat :=
  match s.bindOut k ch, s.vcoreOf k with
  | some b, some v =>
    if b.kind = 5 then mcastSpan (b.flags / 2 % 2 == 1) b.peer b.spanEnd v else [b.peer]
  | _, _ => []

/-- The inbound binding that an outbound channel reaches at its first sink. -/
def State.sinkBind (s : State) (k ch : Nat) : Option Bnd :=
  match s.bindOut k ch, (s.sinks k ch).head? with
  | some b, some v => (s.bindingsOf v).find? (fun x => x.ch == b.peerCh)
  | _, _ => none

/-- The channel delivers into a window (05 R140, 07 R182). -/
def State.toWindow (s : State) (k ch : Nat) : Bool :=
  match s.bindOut k ch with
  | some b => (b.kind == 4 || b.kind == 5) && (match s.sinkBind k ch with | some x => x.kind == 3 | none => false)
  | none => false

end Sys2Proof.Machine
end

