-- ==== Sys2Proof/Machine/Packet.lean ====
section
/-! DEFINITION. The header flit of a packet (09 R236 to R239), injection and ejection with their ledger counts (R253). -/

namespace Sys2Proof.Machine

/-- The fields of a header flit (09 R236). -/
structure Hdr where
  type : Nat
  len : Nat := 0
  vc : Nat := 0
  epoch : Bool := false
  dkind : Nat := 0
  skind : Nat := 0
  att : Nat := 0
  dst : Nat := 0
  src : Nat := 0
  dch : Nat := 0
  sch : Nat := 0
  arg : Nat := 0
  deriving DecidableEq, Repr

/-- Bits [127:0] of the flit. -/
def Hdr.low (h : Hdr) : Nat :=
  h.type % 16 + h.vc % 2 * 2 ^ 7 + h.len % 128 * 2 ^ 8 + (if h.epoch then 2 ^ 15 else 0) + h.dkind % 8 * 2 ^ 16 +
  h.skind % 8 * 2 ^ 19 + h.att % 4 * 2 ^ 22 + h.dst % 2 ^ 16 * 2 ^ 24 + h.src % 2 ^ 16 * 2 ^ 40 + h.dch % 16 * 2 ^ 56 +
  h.sch % 16 * 2 ^ 60 + h.arg % 2 ^ 64 * 2 ^ 64

/-- The flit with its HDR.HCRC. -/
def Hdr.flit (h : Hdr) : BitVec 512 := BitVec.ofNat 512 (h.low + crc32c (bytesLE 16 h.low) * 2 ^ 128)

/-- The fields of a flit. -/
def readHdr (v : BitVec 512) : Hdr :=
  let n := v.toNat
  { type := bits n 3 0, len := bits n 14 8, vc := bits n 7 7, epoch := bits n 15 15 == 1, dkind := bits n 18 16
    skind := bits n 21 19, att := bits n 23 22, dst := bits n 39 24, src := bits n 55 40, dch := bits n 59 56
    sch := bits n 63 60, arg := bits n 127 64 }

def pktH (p : Packet) : Hdr := readHdr p.hdr

/-- What every receiving interface checks of a header: HDR.HCRC, the type and the kinds (09 R236, R237, R239). -/
def hdrOk (v : BitVec 512) : Bool :=
  let n := v.toNat
  let h := readHdr v
  crc32c (bytesLE 16 n) == bits n 159 128 && h.type != 0 && h.type != 14 && h.type != 15 &&
  decide (h.dkind < 6) && decide (h.skind < 6)

/-- A header that a core's NI fills: its own source, the attempt tag, the current epoch (09 R237, R241, R249). -/
def State.coreHdr (s : State) (k : Nat) (h : Hdr) : Hdr :=
  { h with skind := 0, src := (s.vcoreOf k).getD 0xFFFF, att := s.slots.tag.toNat, epoch := s.net.epochB }

/-- The flits of a packet. -/
def pktFlits (p : Packet) : Nat := 1 + p.payload.length

/-- The flits of a packet that are in the mesh. -/
def Flying.flits (x : Flying) : Nat := x.pkt.payload.length + if x.begun then 0 else 1

/-- The ledger category of a packet's flits: by its virtual channel (09 R253). -/
def flitCat (p : Packet) : Nat := if (pktH p).vc = 1 then 7 else 0

/-! ## Lines of HBM (08 R201 to R204) -/

/-- The check of a line: CRC-32C over its bytes and its HBM address (08 R204). -/
def lineCheck (b : Bytes) (addr : Nat) : Nat := crc32c (b ++ bytesLE 8 addr)

/-- The check group of a line and its place in the stack: 15 lines to a group, a group to a DRAM row of 1 KiB (08 R201,
R203). -/
def lineGroup (l : Nat) : Nat := l / 15
def groupPch (g : Nat) : Nat := g % 32
def groupBank (g : Nat) : Nat := g / 32 % 64
def groupRow (g : Nat) : Nat := g / 2048

/-- The organisation of a stack (08 R199): pseudo-channels, banks of each, rows of each bank, bytes of a row. -/
def hbmPchs : Nat := 32
def hbmBanks : Nat := 64
def hbmRows : Nat := 49152
def hbmRowBytes : Nat := 1024
def hbmRawBytes : Nat := hbmPchs * hbmBanks * hbmRows * hbmRowBytes

/-! ## Routes (09 R232, R233) -/

/-- The cell of an endpoint that lies in one (09 R237); a port die lies in none. -/
def State.endCell (s : State) (epoch : Bool) (kind id : Nat) : Option Nat :=
  match kind with
  | 0 => some (((s.net.route epoch).site (vdOf s.gridW id)) / 9)
  | 1 => some (cellOfStack ((s.net.route epoch).stackOf (id % 64)))
  | 2 => some (id % 256 / 9)
  | 3 => some (id % 16)
  | 4 => none
  | _ => some (id % 64 / 3)

/-- The interface that an endpoint belongs to (09 R253): the NI of its die, the crossbar port of its stack, the agent of its
hub, the hub ports of its port die. -/
def State.ifOf (s : State) (epoch : Bool) (kind id : Nat) : Nat :=
  match kind with
  | 0 => (s.net.route epoch).site (vdOf s.gridW id)
  | 1 => let st := (s.net.route epoch).stackOf (id % 64)
         144 + 32 * cellOfStack st + 9 + st % 3
  | 2 => id % 256
  | 3 => 144 + 32 * (id % 16) + 16
  | 4 => 656 + id % 8
  | _ => 144 + 32 * cellOfStack (id % 64) + 9 + id % 64 % 3
def State.srcIf (s : State) (h : Hdr) : Nat := s.ifOf h.epoch h.skind h.src
def State.dstIf (s : State) (h : Hdr) : Nat := s.ifOf h.epoch h.dkind h.dst

/-- The part of an interface: kind and index as in FSR.PART and FSR.INDEX (15 R435). -/
def partOf (i : Nat) : Nat × Nat := if i < 144 then (0, i) else if i < 656 then (1, (i - 144) / 32) else (2, i - 656)

/-- The site at which a packet arrives, where its sink lies in a die. -/
def State.sinkSite (s : State) (h : Hdr) : Option Nat :=
  let i := s.dstIf h
  if (h.dkind = 0 ∨ h.dkind = 2) ∧ i < 144 then some i else none

/-- A packet injected whole at TIME `t` (09 R253). -/
def State.injectAt (s : State) (t : Nat) (p : Packet) : State :=
  let s := s.ledCreate (s.srcIf (pktH p)) (flitCat p) (pktFlits p)
  { s with net := { s.net with flight := s.net.flight ++ [{ time := t, pkt := p }] } }
def State.inject (s : State) (p : Packet) : State := s.injectAt s.time p

/-- The first flits of a message injected, or further ones of the message that is being injected: a packet is one header
flit and HDR.LEN payload flits (09 R236). -/
def State.injectFlit (s : State) (t : Nat) (p : Packet) (f : Flit) (first : Bool) : State :=
  let h := pktH p
  if first then
    let s := s.ledCreate (s.srcIf h) (flitCat p) 2
    { s with net := { s.net with flight := s.net.flight ++ [{ time := t, pkt := { p with payload := [f] }, left := h.len - 1 }] } }
  else
    let s := s.ledCreate (s.srcIf h) (flitCat p) 1
    { s with net := { s.net with flight := s.net.flight.map (fun x =>
      if x.pkt.hdr = p.hdr ∧ 0 < x.left then { x with pkt := { x.pkt with payload := x.pkt.payload ++ [f] }, left := x.left - 1 } else x) } }

/-- Hub-mesh hops between two cells (08 R215). -/
def hops (a b : Nat) : Nat :=
  (if a % 4 < b % 4 then b % 4 - a % 4 else a % 4 - b % 4) + (if a / 4 < b / 4 then b / 4 - a / 4 else a / 4 - b / 4)

/-- The two hubs that a port die is attached to (01 R17). -/
def portHubs (p : Nat) : Nat × Nat :=
  [(0, 1), (2, 3), (3, 7), (11, 15), (15, 14), (13, 12), (12, 8), (4, 0)].getD p (0, 1)

/-- The hub of a port die that lies nearer to a cell; the lower number where both lie equally far (09 R233). -/
def portHub (p c : Nat) : Nat :=
  let x := min (portHubs p).1 (portHubs p).2
  let y := max (portHubs p).1 (portHubs p).2
  if hops y c < hops x c then y else x

/-- The cells at which a packet enters and leaves the hub mesh. Between two port dies it leaves the source through the hub
nearer to the lower-numbered hub of the destination (log 109). -/
def State.endCells (s : State) (h : Hdr) : Nat × Nat :=
  match s.endCell h.epoch h.skind h.src, s.endCell h.epoch h.dkind h.dst with
  | some a, some b => (a, b)
  | some a, none => (a, portHub (h.dst % 8) a)
  | none, some b => (portHub (h.src % 8) b, b)
  | none, none =>
    let x := portHub (h.src % 8) (min (portHubs (h.dst % 8)).1 (portHubs (h.dst % 8)).2)
    (x, portHub (h.dst % 8) x)

/-- A node of the data mesh: a position of a die's core mesh, a die's NI, a hub, a port die (09 R230). -/
inductive MeshNode | pos (site row col : Nat) | ni (site : Nat) | hub (n : Nat) | port (n : Nat)
  deriving DecidableEq, Repr

/-- The numbers from `a` to `b`, both included, up or down. -/
def walk (a b : Nat) : List Nat :=
  if a ≤ b then (List.range (b - a + 1)).map (fun i => a + i) else (List.range (a - b + 1)).map (fun i => a - i)

/-- Inside a die: along the row of the first core, then along the column of the second. A spare position forwards like any
other (09 R232, 03 R79). -/
def diePath (site r c r' c' : Nat) : List MeshNode :=
  (walk c c').map (fun x => .pos site r x) ++ ((walk r r').drop 1).map (fun x => .pos site x c')
/-- From a core east along its row to the NI, and from the NI west along the core's row (09 R232). -/
def toNi (site r c : Nat) : List MeshNode := (walk c 16).map (fun x => .pos site r x) ++ [.ni site]
def fromNi (site r c : Nat) : List MeshNode := .ni site :: (walk 16 c).map (fun x => .pos site r x)

/-- Between cells: along the hub-mesh row to the destination's column, then along the column (09 R233). -/
def hubPath (a b : Nat) : List Nat :=
  (walk (a % 4) (b % 4)).map (fun x => a / 4 * 4 + x) ++ ((walk (a / 4) (b / 4)).drop 1).map (fun y => y * 4 + b % 4)

/-- The way of an endpoint to the hub of its cell; for the way from it the list is reversed. -/
def State.endPath (s : State) (epoch : Bool) (kind id : Nat) : List MeshNode :=
  match kind with
  | 0 => match s.coreOf epoch id with
    | some k => toNi (k / 272) (k % 272 / 17) (k % 17)
    | none => []
  | 2 => [.ni (id % 256)]
  | 4 => [.port (id % 8)]
  | _ => []

/-- The path of a packet (09 R232, R233): core mesh, NI, hub, hub mesh, hub, NI, core mesh. -/
def State.path (s : State) (h : Hdr) : List MeshNode :=
  match h.skind, h.dkind, s.coreOf h.epoch h.src, s.coreOf h.epoch h.dst with
  | 0, 0, some j, some k =>
    if j / 272 = k / 272 then diePath (j / 272) (j % 272 / 17) (j % 17) (k % 272 / 17) (k % 17)
    else toNi (j / 272) (j % 272 / 17) (j % 17) ++ (hubPath (s.endCells h).1 (s.endCells h).2).map .hub ++
      fromNi (k / 272) (k % 272 / 17) (k % 17)
  | _, _, _, _ => s.endPath h.epoch h.skind h.src ++ (hubPath (s.endCells h).1 (s.endCells h).2).map .hub ++
      (s.endPath h.epoch h.dkind h.dst).reverse

/-- The links between hubs on a path. -/
def pathHops (l : List MeshNode) : Nat := (l.filter (fun x => match x with | .hub _ => true | _ => false)).length - 1

/-- L of R235 for a packet of `f` flits. -/
def State.boundL (s : State) (h : Hdr) (f : Nat) : Nat := 200 + 120 * pathHops (s.path h) + f

/-- The packet that an arrival is part of: the first in the mesh with its header whose flits begin with those that arrive.
Only a channel message arrives in parts. -/
def Flying.holds (x : Flying) (p : Packet) : Bool :=
  x.pkt.hdr == p.hdr && x.pkt.off == p.off && x.pkt.chk == p.chk &&
  (if (pktH p).type ≤ 4 ∧ (pktH p).type ≠ 0 then p.payload.isPrefixOf x.pkt.payload && !p.payload.isEmpty
   else x.pkt.payload == p.payload && x.left == 0)

/-- What is left of a packet once flits of it have arrived. -/
def Flying.after (x : Flying) (p : Packet) : Flying :=
  { x with pkt := { x.pkt with payload := x.pkt.payload.drop p.payload.length }, begun := true }
def Flying.over (x : Flying) : Bool := x.left == 0 && x.pkt.payload.isEmpty && x.begun

/-- The list after flits of its entry `x` have arrived. -/
def dropFlits (l : List Flying) (x : Flying) (p : Packet) : List Flying :=
  l.flatMap (fun y => if y = x then (if (x.after p).over then [] else [x.after p]) else [y])

/-- The flits that an arrival brings: the header flit comes with the first of them. -/
def State.newFlits (s : State) (p : Packet) : Nat :=
  match s.net.flight.find? (fun x => x.holds p) with
  | some x => p.payload.length + if x.begun then 0 else 1
  | none => pktFlits p
/-- The arrival is the first of its packet. -/
def State.firstOf (s : State) (p : Packet) : Bool := decide (p.payload.length < s.newFlits p)

/-- An end of a link above the core mesh: a hub, the NI of a die, a port die. -/
def MeshNode.linkEnd : MeshNode → Option Nat
  | .pos _ _ _ => none
  | .ni site => some (16 + site)
  | .hub n => some n
  | .port n => some (160 + n)

/-- The key of the flit count of a link, from one end to the other (09 R253). -/
def linkKey (a b vc : Nat) (epoch : Bool) : Nat := ((a * 256 + b) * 2 + vc) * 2 + if epoch then 1 else 0

/-- `n` flits have crossed every link of a packet's path above the core mesh; the last link is not crossed by what a hub
discards before it (09 R253). -/
def State.cross (s : State) (i : Nat) (h : Hdr) (n : Nat) : State :=
  let l := (s.path h).filterMap MeshNode.linkEnd
  let l := if 144 ≤ i ∧ i < 656 ∧ (i - 144) % 32 < 9 then l.dropLast else l
  { s with net := { s.net with
    links := (l.zip (l.drop 1)).foldl (fun m e => SMap.upd zeroD m (linkKey e.1 e.2 h.vc h.epoch) (fun x => x + n)) s.net.links } }

/-- Flits leave the mesh at interface `i`, delivered or discarded (09 R253); what nothing injected shows in the audit. -/
def State.unflight (s : State) (i : Nat) (p : Packet) : State :=
  match s.net.flight.find? (fun x => x.holds p) with
  | some x =>
    let s := (s.ledDestroy i (s.srcIf (pktH p)) (flitCat p) (s.newFlits p)).cross i (pktH p) (s.newFlits p)
    { s with net := { s.net with flight := dropFlits s.net.flight x p } }
  | none => s.ledSpurious i (flitCat p) (pktFlits p)

/-- A packet at its sink: it leaves the mesh, and its delivery time is noted when its last flit has arrived (09 R235). -/
def State.eject (s : State) (p : Packet) : State :=
  let h := pktH p
  let s' := s.unflight (s.dstIf h) p
  match s.net.flight.find? (fun x => x.holds p) with
  | some x =>
    if (x.after p).over then
      let lat := s.time - x.time
      let s' := if s.boundL h (h.len + 1) < lat then s'.count Obj.PACKET_BOUND_EXCEEDED else s'
      { s' with net := { s'.net with latMax := match s'.net.latMax with | m :: t => max m lat :: t | [] => [lat] } }
    else s'
  | none => s'

/-- A packet of the firmware comes from a control core, which the model does not run: it is injected as it arrives. -/
def State.firmware (s : State) (p : Packet) : State :=
  if s.net.flight.any (fun x => x.holds p) then s else s.inject p

/-- No packet of the same source, sink, virtual channel and epoch is ahead of it (09 R240). A packet of which nothing is in
the mesh, while flits of it wait to be injected, holds up none: no flit waits in the mesh for room (07 R177). -/
def State.inOrder (s : State) (p : Packet) : Bool :=
  let h := pktH p
  match s.net.flight.find? (fun x =>
    let g := pktH x.pkt
    g.src == h.src && g.skind == h.skind && g.dst == h.dst && g.dkind == h.dkind && g.vc == h.vc && g.epoch == h.epoch &&
    !(x.begun && x.pkt.payload.isEmpty)) with
  | some x => x.holds p
  | none => true

/-- The arrival increments that a packet carries with its last flit, one for each sink that counts it (06 R163, 09 R253). -/
def State.increments (s : State) (p : Packet) : Nat :=
  let h := pktH p
  let counted (v ch : Nat) : Bool := (s.bindingsOf v).any (fun b => b.ch == ch && b.counter < 64 && (b.kind == 3 || b.kind == 7))
  let last := match s.net.flight.find? (fun x => x.holds p) with | some x => (x.after p).over | none => false
  if !last then 0
  else match h.type with
    | 2 => if counted h.dst h.dch then 1 else 0
    | 3 => ((mcastSpan (bits h.arg 8 8 == 1) h.dst (bits h.arg 7 0) h.src).filter (fun v => counted v h.dch)).length
    | 6 => if counted h.dst (16 + h.dch) then 1 else 0
    | _ => 0

/-- A packet discarded at interface `i`: its flits, and the increments that it carries, are destroyed (09 R253). -/
def State.discardAt (s : State) (i : Nat) (p : Packet) : State :=
  let n := s.increments p
  let f := s.newFlits p
  let s := s.unflight i p
  let s := if n = 0 then s else s.ledDestroy i (s.srcIf (pktH p)) 4 n
  { s with net := { s.net with discards := s.net.discards + f } }

/-- The header fault of a packet: discarded, entered in the ledger, reported to the die's sieve (09 R239). A hub or port
die has no sieve of a die. -/
def State.headerFault (s : State) (p : Packet) : State :=
  let h := pktH p
  let n := if s.firstOf p then 1 else 0
  let s := (s.discardAt (s.dstIf h) p).count Obj.HEADER_FAULTS n
  let s := { s with net := { s.net with header := true } }
  let i := s.dstIf h
  match s.sinkSite h with
  | some d => s.dieFault d 0x07 0x06
  | none => (s.report 0x07 none none).fsr { part := (partOf i).1, index := (partOf i).2, det := 0x07, unit := 0x0F }

/-- A late packet: discarded; other than CREDIT it fails a verdict (09 R241, R254). -/
def State.lateDiscard (s : State) (p : Packet) : State :=
  let h := pktH p
  let n := if s.firstOf p then 1 else 0
  let s := (s.discardAt (s.dstIf h) p).count Obj.LATE_DISCARDS n
  let s := { s with net := { s.net with lateSince := s.net.lateSince + n } }
  if h.type = 9 then s
  else
    let s := { s with net := { s.net with lateHeavy := true } }
    let mine := match s.slots.ended with
      | some e => if h.att % 4 = (s.slots.tag.toNat + 3) % 4 then some e else none
      | none => none
    let s := s.fsr { part := (partOf (s.dstIf h)).1, index := (partOf (s.dstIf h)).2, unit := 0x06, det := 0x08,
                     frame := mine.map (fun e => e.att.frame) }
    match mine with
    | some e => { s with slots := { s.slots with ended := some { e with reports := e.reports ++ [({ det := 0x08 } : Report)] } } }
    | none => s

/-- An inbound item of a sample's attempt goes into the capture; one that exceeds the declared size drops the sample
(10 R273, R274). -/
def State.noteCapture (s : State) (k : Nat) (b : Bytes) : State :=
  if s.checks.sampling then
    let vd := ((s.die (k / 272)).vd).getD 0
    let used := ((s.checks.capture.filter (fun x => x.1 == vd)).map (fun x => x.2.length)).sum
    if (match s.prog with | some p => p.capture | none => 0) < used + b.length then
      { s with checks := { s.checks with sampling := false, capture := [] } }.count Obj.R_CAPTURE_DROPS
    else { s with checks := { s.checks with capture := s.checks.capture ++ [(vd, b)] } }
  else s

/-- The bytes of a packet. -/
def pktBytes (p : Packet) : Bytes := flitBytes p.hdr ++ p.payload.flatMap flitBytes

/-- A packet for an isolated die: its hub discards it and enters the discard in the ledger of the port to the die (09 R250). -/
def State.isolatedDiscard (s : State) (p : Packet) : State :=
  let i := s.dstIf (pktH p)
  s.discardAt (144 + 32 * (i / 9) + i % 9) p

/-- The sink lies in an isolated die. -/
def State.toIsolated (s : State) (p : Packet) : Bool :=
  match s.sinkSite (pktH p) with | some d => (s.die d).isolated | none => false

/-- A packet's header passes its checks on arrival (09 R239). -/
def arrivesOk (p : Packet) : Bool := hdrOk p.hdr && !p.dbe

end Sys2Proof.Machine
end

