-- ==== Sys2Proof/Machine/Coder.lean ====
section
/-! DEFINITION. The checks of HBM lines and the larder coder: stripes, shares, their places, decoding (08 R201 to R206, R222,
R224, R228, 11 R315). -/

namespace Sys2Proof.Machine

/-! ## Checks of lines (08 R201, R204, R205) -/

/-- The keys of a line's check and of a check line's own check. -/
def badKey (stack off : Nat) : Nat := stack * 2 ^ 31 + off / 64
def ownKey (stack g : Nat) : Nat := 2 ^ 40 + stack * 2 ^ 31 + g
/-- How a stored check differs from the right one; 0 where it matches. -/
def State.lineDiff (s : State) (stack off : Nat) : Nat := SMap.get zeroD s.hbmBad (badKey stack off)
def State.ownDiff (s : State) (stack g : Nat) : Nat := SMap.get zeroD s.hbmBad (ownKey stack g)
def State.markLine (s : State) (stack off v : Nat) : State :=
  { s with hbmBad := SMap.put zeroD s.hbmBad (badKey stack off) v }
def State.markOwn (s : State) (stack g v : Nat) : State :=
  { s with hbmBad := SMap.put zeroD s.hbmBad (ownKey stack g) v }

/-- The check stored for the line at an offset, whose HBM address is `addr` (08 R201, R204). -/
def State.storedCheck (s : State) (stack off addr : Nat) : Nat := lineCheck (s.hbmRead stack off 64) addr ^^^ s.lineDiff stack off

/-- The check line of a group as the stack holds it: the checks of its 15 data lines, and its own check over bytes 0 to 59
and the address of data line 0 with bit 63 set (08 R201, R204). `v` is the virtual stack. -/
def State.checkLine (s : State) (stack v g : Nat) : Bytes :=
  let b := (List.range 15).flatMap (fun j => bytesLE 4 (s.storedCheck stack (64 * (15 * g + j)) (v * 2 ^ 37 + 64 * (15 * g + j))))
  b ++ bytesLE 4 (crc32c (b ++ [0, 0, 0, 0] ++ bytesLE 8 (2 ^ 63 + v * 2 ^ 37 + 64 * 15 * g)) ^^^ s.ownDiff stack g)

/-- The check groups of `n` lines from line `l`. -/
def groupsOf (l n : Nat) : List Nat := (List.range (lineGroup (l + n - 1) - lineGroup l + 1)).map (fun i => lineGroup l + i)
/-- The lines of a group outside the `n` lines from `l`: of a group covered in part there are some (08 R205). -/
def groupRest (l n g : Nat) : List Nat :=
  (List.range 15).filterMap (fun j => if l ≤ 15 * g + j ∧ 15 * g + j < l + n then none else some (15 * g + j))

/-- Lines written; `d` says how the check that came with each differs from the right one (08 R204). -/
def State.putLines (s : State) (stack off : Nat) (d : Nat → Nat) (b : Bytes) (n : Nat) : State :=
  (List.range n).foldl (fun s i =>
    (s.hbmWrite stack (off + 64 * i) (slice b (64 * i) 64)).markLine stack (off + 64 * i) (d i)) s

/-- The hub's work on the check lines of a write (08 R205): for a group covered in part it reads the check line, and where
that fails its own check the group's other lines stay without a valid check; it recomputes the own check. The answer says
whether a check line failed. -/
def State.hubChecks (s : State) (stack l n : Nat) : State × Bool :=
  (groupsOf l n).foldl (fun (r : State × Bool) g =>
    let rest := groupRest l n g
    let bad := !rest.isEmpty && r.1.ownDiff stack g != 0
    let s := if bad then rest.foldl (fun s x => if s.lineDiff stack (64 * x) = 0 then s.markLine stack (64 * x) 1 else s) r.1 else r.1
    (s.markOwn stack g 0, r.2 || bad)) (s, false)

/-- Lines that the firmware or a host writes, with the check lines that the hub keeps for them (08 R204, R205). -/
def State.writeLines (s : State) (stack off : Nat) (b : Bytes) (n : Nat) : State :=
  (s.hubChecks stack (off / 64) n).1.putLines stack off (fun _ => 0) b n

/-! ## The coder (08 R224) -/

/-- A product in GF(2^8) with x^8 + x^4 + x^3 + x^2 + 1. -/
def gfDouble (b : Byte) : Byte := (b <<< 1) ^^^ (if b.msb then 0x1D else 0)
def gfMul (a b : Byte) : Byte :=
  (List.range 8).foldr (fun i r => gfDouble r ^^^ (if b.getLsbD i then a else 0)) 0
/-- A power; the inverse of an element other than zero. -/
def gfPow (a : Byte) : Nat → Byte
  | 0 => 1
  | n + 1 => gfMul a (gfPow a n)
def gfInv (a : Byte) : Byte := gfPow a 254

/-- Byte-wise sums and multiples of shares. -/
def xorB (a b : Bytes) : Bytes := List.zipWith (fun x y => x ^^^ y) a b
def mulB (g : Byte) (a : Bytes) : Bytes := a.map (gfMul g)
def zeroShare : Bytes := List.replicate 1024 0

/-- P and Q of the pieces given as (index, piece). -/
def sumP (l : List (Nat × Bytes)) : Bytes := l.foldl (fun r x => xorB r x.2) zeroShare
def sumQ (l : List (Nat × Bytes)) : Bytes := l.foldl (fun r x => xorB r (mulB (gfPow 2 x.1) x.2)) zeroShare

/-- The pieces of a stripe of 8 KiB, and its ten shares. -/
def pieces (b : Bytes) : List (Nat × Bytes) := (List.range 8).map (fun i => (i, slice b (1024 * i) 1024))
def encodeStripe (b : Bytes) : List Bytes := (pieces b).map (fun x => x.2) ++ [sumP (pieces b), sumQ (pieces b)]

/-- The stripe from its shares, of which at most two are unavailable. -/
def decodeStripe (l : List (Option Bytes)) : Option Bytes :=
  let have' : List (Nat × Bytes) := (List.range 8).filterMap (fun i => (l.getD i none).map (fun b => (i, b)))
  let miss := (List.range 8).filter (fun i => (l.getD i none).isNone)
  let put (new : List (Nat × Bytes)) : Bytes := (List.range 8).flatMap (fun i =>
    match (have' ++ new).find? (fun x => x.1 == i) with | some x => x.2 | none => [])
  match miss, l.getD 8 none, l.getD 9 none with
  | [], _, _ => some (put [])
  | [i], some p, _ => some (put [(i, xorB p (sumP have'))])
  | [i], none, some q => some (put [(i, mulB (gfInv (gfPow 2 i)) (xorB q (sumQ have')))])
  | [i, j], some p, some q =>
    let pp := xorB p (sumP have')
    let di := mulB (gfInv (gfPow 2 i ^^^ gfPow 2 j)) (xorB (xorB q (sumQ have')) (mulB (gfPow 2 j) pp))
    some (put [(i, di), (j, xorB pp di)])
  | _, _, _ => none

/-- The stack of share `j` of stripe `n`: stack (n div 16) mod 3 of cell (n + j) mod 16. -/
def shareStack (n j : Nat) : Nat := 3 * ((n + j) % 16) + n / 16 % 3
/-- Its place in the slot of that stack: of every 48 stripes a stack holds each share number once (log 69). -/
def shareOff (n j : Nat) : Nat := 10240 * (n / 48) + 1024 * j
/-- The bytes that a slot of `n` stripes takes on each stack. -/
def slotBytes (n : Nat) : Nat := 10240 * ((n + 47) / 48)
def stripesOf (len : Nat) : Nat := (len + 8191) / 8192

/-- The LARDER (kind 16) or RETAIN (kind 17) region of a stack (11 R306, R315). -/
def Prog.area (p : Prog) (kind stack : Nat) : Option Region := p.regions.find? (fun r => r.kind == kind && r.vstack == stack)

/-- Where share `j` of stripe `n` of a slot lies: physical stack and offset. `total` is the stripes of a slot. -/
def State.shareAt (s : State) (p : Prog) (kind slot total n j : Nat) : Option (Nat × Nat) :=
  (p.area kind (shareStack n j)).map (fun r =>
    ((s.net.route s.net.epochB).stackOf (shareStack n j), r.off + slot * slotBytes total + shareOff n j))

/-- A share; none where it fails its check or lies on a stack out of service (08 R222, R224). -/
def State.readShare (s : State) (p : Prog) (kind slot total n j : Nat) : Option Bytes :=
  match s.shareAt p kind slot total n j with
  | some (st, off) =>
    if (s.stack st).st = 1 || (List.range 16).any (fun i => s.lineDiff st (off + 64 * i) != 0) then none
    else some (s.hbmRead st off 1024)
  | none => none

/-- A stripe written as its shares, each line with its check. -/
def State.writeStripe (s : State) (p : Prog) (kind slot total n : Nat) (b : Bytes) : State :=
  (List.range 10).foldl (fun s j =>
    match s.shareAt p kind slot total n j with
    | some (st, off) => s.writeLines st off ((encodeStripe b).getD j []) 16
    | none => s) s

/-- The shares of a stripe that can be read, and the stripe decoded from them. `bad` names shares, by stripe and number, that
a read finds unavailable or failing beside those that the state knows of. -/
def State.shares (s : State) (p : Prog) (kind slot total : Nat) (bad : List (Nat × Nat)) (n : Nat) : List (Option Bytes) :=
  (List.range 10).map (fun j => if bad.contains (n, j) then none else s.readShare p kind slot total n j)
def State.readStripe (s : State) (p : Prog) (kind slot total : Nat) (bad : List (Nat × Nat)) (n : Nat) : Option Bytes :=
  decodeStripe (s.shares p kind slot total bad n)

/-- Data written to a slot in stripes, from stripe 0. -/
def State.writeStripes (s : State) (p : Prog) (kind slot : Nat) (b : Bytes) : State :=
  (List.range (stripesOf b.length)).foldl (fun s n =>
    s.writeStripe p kind slot (stripesOf b.length) n (slice b (8192 * n) 8192)) s

/-- The stripes of a slot decoded; none where one has more than two shares unavailable (08 R228). -/
def State.readStripes (s : State) (p : Prog) (kind slot total : Nat) (bad : List (Nat × Nat)) : Option Bytes :=
  (List.range total).foldr (fun n r => match s.readStripe p kind slot total bad n, r with
    | some b, some t => some (b ++ t)
    | _, _ => none) (some [])

/-- The stripes of a slot of which a share is unavailable (08 R229). -/
def State.degradedIn (s : State) (p : Prog) (kind slot total : Nat) (bad : List (Nat × Nat)) : Nat :=
  ((List.range total).filter (fun n => (s.shares p kind slot total bad n).any Option.isNone)).length

/-! ## Retention (08 R222, 11 R306) -/

/-- A line of a retention slot at byte `o`, with the difference of its check: from the data share that holds it, decoded from the
other shares where that one is unavailable; a line that cannot be decoded fails its check. -/
def State.retainLine (s : State) (p : Prog) (slot o : Nat) : Bytes × Nat :=
  let total := stripesOf p.input
  let n := o / 8192
  let j := o % 8192 / 1024
  match s.readShare p 17 slot total n j with
  | some b => (slice b (alignTo 64 (o % 1024)) 64, 0)
  | none => match s.readStripe p 17 slot total [] n with
    | some b => (slice b (alignTo 64 (o % 8192)) 64, 0)
    | none => match s.shareAt p 17 slot total n j with
      | some (st, off) => (s.hbmRead st (off + alignTo 64 (o % 1024)) 64, 1)
      | none => (List.replicate 64 0, 1)

/-- What a retention slot holds; bytes that cannot be decoded read as the share has them. -/
def State.retainRead (s : State) (p : Prog) (slot : Nat) : Bytes :=
  fit p.input ((List.range (p.input / 64)).flatMap (fun i => (s.retainLine p slot (64 * i)).1))

/-- A retention slot written whole. -/
def State.retainWrite (s : State) (p : Prog) (slot : Nat) (b : Bytes) : State := s.writeStripes p 17 slot (fit p.input b)

end Sys2Proof.Machine
end

