-- ==== Sys2Proof/Machine/Float.lean ====
section
/-! DEFINITION. Number formats (04 R86 to R90), rounding and saturation (R103, R111), FP32 arithmetic (R110). A value
is an exact dyadic; each operation forms its exact result and rounds it once. -/

namespace Sys2Proof.Machine

/-- A value: ± m × 2^e, an infinity, or a NaN. -/
inductive Fp
  | fin (neg : Bool) (m : Nat) (e : Int)
  | inf (neg : Bool)
  | nan
  deriving DecidableEq, Repr

/-- Which codes of a format are special (R86). -/
inductive Spec | allFinite | ieee | e4m3
  deriving DecidableEq, Repr

/-- A floating-point format: exponent bits, mantissa bits, bias, special codes. -/
structure Fmt where
  eb : Nat
  mb : Nat
  bias : Nat
  spec : Spec
  deriving DecidableEq, Repr

def fFP32 : Fmt := ⟨8, 23, 127, .ieee⟩
def fBF16 : Fmt := ⟨8, 7, 127, .ieee⟩
def fFP16 : Fmt := ⟨5, 10, 15, .ieee⟩
def fE4M3 : Fmt := ⟨4, 3, 7, .e4m3⟩
def fE5M2 : Fmt := ⟨5, 2, 15, .ieee⟩
def fE3M2 : Fmt := ⟨3, 2, 3, .allFinite⟩
def fE2M3 : Fmt := ⟨2, 3, 1, .allFinite⟩
def fE2M1 : Fmt := ⟨2, 1, 1, .allFinite⟩

/-- The format codes of 05 R134 that name floating-point formats. 5 is INT8, 9 is INT32. -/
def fmtOf (c : Nat) : Fmt :=
  match c with
  | 0 => fE4M3 | 1 => fE5M2 | 2 => fE3M2 | 3 => fE2M3 | 4 => fE2M1 | 6 => fBF16 | 7 => fFP16 | _ => fFP32

/-- The width of a format code in bits. -/
def widthOf (c : Nat) : Nat :=
  match c with
  | 0 => 8 | 1 => 8 | 2 => 6 | 3 => 6 | 4 => 4 | 5 => 8 | 6 => 16 | 7 => 16 | _ => 32

/-- A code is an MX element format. -/
def isMx (c : Nat) : Bool := c < 5

/-- The value of a code (R87). -/
def decodeFp (f : Fmt) (b : Nat) : Fp :=
  let neg := b / 2 ^ (f.eb + f.mb) % 2 == 1
  let e := b / 2 ^ f.mb % 2 ^ f.eb
  let m := b % 2 ^ f.mb
  let top := 2 ^ f.eb - 1
  if f.spec = .ieee ∧ e = top then (if m = 0 then .inf neg else .nan)
  else if f.spec = .e4m3 ∧ e = top ∧ m = 2 ^ f.mb - 1 then .nan
  else if e = 0 then .fin neg m (1 - (f.bias : Int) - f.mb)
  else .fin neg (2 ^ f.mb + m) ((e : Int) - f.bias - f.mb)

/-- m × 2^e to the nearest multiple of 2^q, ties to even, in units of 2^q. -/
def rne (m : Nat) (e q : Int) : Nat :=
  if q ≤ e then m * 2 ^ (e - q).toNat
  else
    let d := 2 ^ (q - e).toNat
    let r := m % d
    let n := m / d
    if 2 * r > d ∨ (2 * r = d ∧ n % 2 = 1) then n + 1 else n

/-- The largest finite significand and its exponent. -/
def maxFin (f : Fmt) : Nat × Int :=
  match f.spec with
  | .ieee => (2 ^ (f.mb + 1) - 1, (2 ^ f.eb : Nat) - 2 - (f.bias : Int) - f.mb)
  | .e4m3 => (2 ^ (f.mb + 1) - 2, (2 ^ f.eb : Nat) - 1 - (f.bias : Int) - f.mb)
  | .allFinite => (2 ^ (f.mb + 1) - 1, (2 ^ f.eb : Nat) - 1 - (f.bias : Int) - f.mb)

/-- The code of the largest finite magnitude; of an infinity. -/
def maxCode (f : Fmt) : Nat :=
  match f.spec with
  | .ieee => (2 ^ f.eb - 1) * 2 ^ f.mb - 1
  | .e4m3 => 2 ^ (f.eb + f.mb) - 2
  | .allFinite => 2 ^ (f.eb + f.mb) - 1
def infCode (f : Fmt) : Nat := (2 ^ f.eb - 1) * 2 ^ f.mb
def signBit (f : Fmt) (neg : Bool) : Nat := if neg then 2 ^ (f.eb + f.mb) else 0

/-- What an overflowing result becomes (R103). -/
def overCode (f : Fmt) (sat : Bool) : Nat :=
  if sat then maxCode f
  else match f.spec with
    | .ieee => infCode f
    | .e4m3 => 2 ^ (f.eb + f.mb) - 1
    | .allFinite => maxCode f

/-- A finite value rounded once into a format; whether it overflowed (R103). -/
def roundFp (f : Fmt) (sat : Bool) (neg : Bool) (m : Nat) (e : Int) : Nat × Bool :=
  if m = 0 then (signBit f neg, false)
  else
    let l : Int := (Nat.log2 m : Int) + e
    let emin : Int := 1 - (f.bias : Int)
    let q : Int := max l emin - f.mb
    let r0 := rne m e q
    let up := decide (2 ^ (f.mb + 1) ≤ r0)
    let r := if up then r0 / 2 else r0
    let q := if up then q + 1 else q
    let mx := maxFin f
    if q > mx.2 ∨ (q = mx.2 ∧ r > mx.1) then (signBit f neg + overCode f sat, true)
    else if r < 2 ^ f.mb then (signBit f neg + r, false)
    else (signBit f neg + (q + f.mb + f.bias).toNat * 2 ^ f.mb + (r - 2 ^ f.mb), false)

/-! ## FP32 arithmetic (R110) -/

def qnan : BitVec 32 := 0x7FC00000
def f32 (b : BitVec 32) : Fp := decodeFp fFP32 b.toNat

/-- A value rounded to FP32; every NaN is the canonical one. -/
def toF32 : Fp → BitVec 32
  | .fin n m e => BitVec.ofNat 32 (roundFp fFP32 false n m e).1
  | .inf n => BitVec.ofNat 32 (signBit fFP32 n + infCode fFP32)
  | .nan => qnan

/-- m × 2^e as an integer multiple of 2^q, for q at most e. -/
def scaled (neg : Bool) (m : Nat) (e q : Int) : Int :=
  let v : Int := (m * 2 ^ (e - q).toNat : Nat)
  if neg then -v else v

/-- The exact sum. A sum that is exactly zero is +0 unless both terms are −0. -/
def fpAdd : Fp → Fp → Fp
  | .nan, _ => .nan
  | _, .nan => .nan
  | .inf a, .inf b => if a = b then .inf a else .nan
  | .inf a, .fin _ _ _ => .inf a
  | .fin _ _ _, .inf b => .inf b
  | .fin na ma ea, .fin nb mb eb =>
    let q := min ea eb
    let v := scaled na ma ea q + scaled nb mb eb q
    if v = 0 then .fin (ma = 0 && mb = 0 && na && nb) 0 q
    else .fin (v < 0) v.natAbs q

def fpNeg : Fp → Fp
  | .fin n m e => .fin (!n) m e
  | .inf n => .inf (!n)
  | .nan => .nan

/-- The exact product. -/
def fpMul : Fp → Fp → Fp
  | .nan, _ => .nan
  | _, .nan => .nan
  | .inf a, .inf b => .inf (a != b)
  | .inf a, .fin n m _ => if m = 0 then .nan else .inf (a != n)
  | .fin n m _, .inf b => if m = 0 then .nan else .inf (n != b)
  | .fin na ma ea, .fin nb mb eb => .fin (na != nb) (ma * mb) (ea + eb)

def faddF (a b : BitVec 32) : BitVec 32 := toF32 (fpAdd (f32 a) (f32 b))
def fsubF (a b : BitVec 32) : BitVec 32 := toF32 (fpAdd (f32 a) (fpNeg (f32 b)))
def fmulF (a b : BitVec 32) : BitVec 32 := toF32 (fpMul (f32 a) (f32 b))
/-- a × b + c rounded once. -/
def fmaF (a b c : BitVec 32) : BitVec 32 := toF32 (fpAdd (fpMul (f32 a) (f32 b)) (f32 c))

/-- a < b for values that are not NaN; −0 equals +0. -/
def fpLt : Fp → Fp → Bool
  | .nan, _ => false
  | _, .nan => false
  | .inf a, .inf b => a && !b
  | .inf a, .fin _ _ _ => a
  | .fin _ _ _, .inf b => !b
  | .fin na ma ea, .fin nb mb eb =>
    let q := min ea eb
    decide (scaled na ma ea q < scaled nb mb eb q)

def isNan (x : Fp) : Bool := match x with | .nan => true | _ => false
def fpEq (a b : Fp) : Bool := !isNan a && !isNan b && !fpLt a b && !fpLt b a

/-- The smaller of two lanes: the operand that is not NaN, −0 below +0, the canonical NaN of two NaNs (R110). -/
def fminF (a b : BitVec 32) : BitVec 32 :=
  if isNan (f32 a) then (if isNan (f32 b) then qnan else b)
  else if isNan (f32 b) then a
  else if fpLt (f32 a) (f32 b) then a
  else if fpLt (f32 b) (f32 a) then b
  else if a.msb then a else b
def fmaxF (a b : BitVec 32) : BitVec 32 :=
  if isNan (f32 a) then (if isNan (f32 b) then qnan else b)
  else if isNan (f32 b) then a
  else if fpLt (f32 a) (f32 b) then b
  else if fpLt (f32 b) (f32 a) then a
  else if a.msb then b else a

/-- FCMP: 0 EQ, 1 LT, 2 LE, 3 UNORD (05 R137). -/
def fcmpF (fn : Nat) (a b : BitVec 32) : Bool :=
  let x := f32 a
  let y := f32 b
  match fn with
  | 0 => fpEq x y
  | 1 => fpLt x y
  | 2 => fpLt x y || fpEq x y
  | _ => isNan x || isNan y

/-! ## Conversions (R104, R105, R111, 05 R139) -/

/-- An exact value to an integer of `w` bits, nearest even, saturating; whether it saturated. -/
def roundInt (w : Nat) (neg : Bool) (m : Nat) (e : Int) : Int × Bool :=
  let n : Int := rne m e 0
  let v := if neg then -n else n
  if v > 2 ^ (w - 1) - 1 then (2 ^ (w - 1) - 1, true)
  else if v < -(2 ^ (w - 1)) then (-(2 ^ (w - 1)), true)
  else (v, false)

/-- An FP32 lane to an integer code of `w` bits; NaN is 0 (R111). -/
def toInt (w : Nat) (x : Fp) : Nat :=
  let v : Int := match x with
    | .nan => 0
    | .inf n => if n then -(2 ^ (w - 1)) else 2 ^ (w - 1) - 1
    | .fin n m e => (roundInt w n m e).1
  (v % 2 ^ w).toNat

/-- A value, scaled by 2^−x, to a floating-point code (R104, R111). -/
def toNarrow (c : Nat) (sat : Bool) (x : Int) (v : Fp) : Nat :=
  let f := fmtOf c
  match v with
  | .fin n m e => (roundFp f sat n m (e - x)).1
  | .nan =>
    match c with
    | 0 => 0x7F | 1 => 0x7E | 6 => 0x7FC0 | 7 => 0x7E00 | _ => 0
  | .inf n =>
    match f.spec with
    | .ieee => signBit f n + infCode f
    | .e4m3 => signBit f n + (if sat then maxCode f else 0x7F)
    | .allFinite => signBit f n + maxCode f

/-- emax of an MX element format (R104). -/
def mxEmax (c : Nat) : Int := match c with | 0 => 8 | 1 => 15 | 2 => 4 | _ => 2

/-- floor(log2 |v|) of a finite non-zero value. -/
def fpLog (v : Fp) : Option Int :=
  match v with
  | .fin _ m e => if m = 0 then none else some ((Nat.log2 m : Int) + e)
  | _ => none

/-- The scale exponent X of a block: none when it holds no finite non-zero value (R104). -/
def mxScale (c : Nat) (vs : List Fp) : Option Int :=
  match vs.filterMap fpLog with
  | [] => none
  | l :: t => some (max (-127) (min 127 (t.foldl max l - mxEmax c)))

/-- The scale byte of a block (R104). -/
def mxByte (x : Option Int) : Nat := match x with | some v => (v + 127).toNat | none => 0x7F

/-- An element of a narrow format under a scale byte, converted to FP32 (R111). -/
def fromMx (c : Nat) (sat : Bool) (scale el : Nat) : BitVec 32 :=
  if scale = 0xFF then qnan
  else
    match decodeFp (fmtOf c) el with
    | .nan => qnan
    | .inf n => BitVec.ofNat 32 (signBit fFP32 n + infCode fFP32)
    | .fin n m e => BitVec.ofNat 32 (roundFp fFP32 sat n m (e + scale - 127)).1

end Sys2Proof.Machine
end

