-- ==== Sys2Proof/Machine/Flags.lean ====
section
/-! DEFINITION. The exact accumulator (04 R91 to R99), its flags, the exact form (R106, R107), conversion of a tile
(R103, R104) and the residues of the sieve (10 R259 to R261). -/

namespace Sys2Proof.Machine

/-- The prime of the residues, 2^61 − 1 (10 R259). -/
def rhoP : Nat := 2 ^ 61 - 1

/-- ρ of v × 2^e (10 R259): 2^61 is 1 modulo p, so only e modulo 61 counts. -/
def rho (v : Int) (e : Int) : Nat := ((v % rhoP).toNat * 2 ^ (e % 61).toNat) % rhoP

/-- The ends of the 256-bit range (R91). -/
def lo256 : Int := -(2 ^ 255)
def hi256 : Int := 2 ^ 255 - 1
def out256 (v : Int) : Bool := decide (v < lo256) || decide (hi256 < v)
/-- The visible value of an internal value (R94). -/
def clamp256 (v : Int) : Int := if v < lo256 then lo256 else if hi256 < v then hi256 else v

/-- v × 2^e in units of 2^u, truncated toward zero; whether bits were lost (R93). -/
def truncTo (v : Int) (e u : Int) : Int × Bool :=
  if u ≤ e then (v * 2 ^ (e - u).toNat, false)
  else (Int.tdiv v (2 ^ (u - e).toNat), decide (Int.tmod v (2 ^ (u - e).toNat) ≠ 0))

/-- The visible value of element `i` (R94). -/
def Tile.vis (t : Tile) (i : Nat) : Int := clamp256 (t.elem i).toInt

/-- The unit exponent of a tile (R91). -/
def Tile.unit (t : Tile) : Int := t.eref.toInt - 160

/-- The status word of R97. -/
def Tile.stat (t : Tile) : Nat :=
  t.eref.toNat * 65536 + (if t.nonfinite then 8 else 0) + (if t.clamped then 4 else 0) +
  (if t.overflow then 2 else 0) + (if t.inexact then 1 else 0)

/-- What a set of contributions does to a tile: the sum per element, and whether one lost bits or left the range. -/
structure Contrib where
  sums : List Int
  inexact : Bool
  overflow : Bool

/-- Contributions added to every element from `first` on (R93, R94, R96). -/
def Tile.add (t : Tile) (first : Nat) (c : Contrib) : Tile :=
  let sums := c.sums
  let at' (i : Nat) : BitVec 320 :=
    if first ≤ i ∧ i < first + sums.length then t.elem i + BitVec.ofInt 320 (sums.getD (i - first) 0) else t.elem i
  { t with
    elems := (List.range 1024).filterMap (fun i => if at' i = 0 then none else some (i, at' i))
    inexact := t.inexact || c.inexact
    overflow := t.overflow || c.overflow }

/-- The tile cleared by TCLR (R92): Eref, class, flags and check residue; the ordinal counts it (10 R260, R268). -/
def Tile.clear (t : Tile) (eref : BitVec 10) (cls : BitVec 2) : Tile :=
  { eref := eref, cls := cls, ord := t.ord + 1 }

/-! ## Operand images of MMA (05 R128) -/

/-- Element `i` of a row of `w`-bit elements that starts at byte `o` (04 R89). -/
def elemAt (b : Bytes) (o w i : Nat) : Nat := field b (o + w * i / 8) ((w * i % 8 + w + 7) / 8) / 2 ^ (w * i % 8) % 2 ^ w

/-- The size in bytes of an operand image: format code, sparse, B side (05 R128). -/
def imageLen (fc : Nat) (sparse bSide : Bool) : Nat :=
  if isMx fc then
    let bw := 4 * widthOf fc
    if sparse then (if bSide then 320 + 32 * bw else 64 + 64 * bw) else 64 + 32 * bw
  else 1024 * (widthOf fc / 8)

/-- A finite operand element with its block scale: value and exponent; none for an infinity, a NaN or scale 0xFF. -/
def opElem (fc scale code : Nat) : Option (Int × Int) :=
  if fc = 5 then some ((BitVec.ofNat 8 code).toInt, 0)
  else if isMx fc && scale = 0xFF then none
  else match decodeFp (fmtOf fc) code with
    | .fin n m e => some (if n then -(m : Int) else m, e + (if isMx fc then (scale : Int) - 127 else 0))
    | _ => none

/-- A(i, k) of an image; k runs to 63 for a sparse A (05 R128). -/
def aElem (b : Bytes) (fc : Nat) (sparse : Bool) (i k : Nat) : Option (Int × Int) :=
  let w := widthOf fc
  if isMx fc then
    if sparse then opElem fc (field b (32 * (k / 32) + i) 1) (elemAt b (64 + (2 * i + k / 32) * 4 * w) w (k % 32))
    else opElem fc (field b i 1) (elemAt b (64 + i * 4 * w) w k)
  else opElem fc 0 (elemAt b (i * 32 * (w / 8)) w k)

/-- B(k, j) of a dense image. -/
def bElem (b : Bytes) (fc : Nat) (j k : Nat) : Option (Int × Int) :=
  let w := widthOf fc
  if isMx fc then opElem fc (field b j 1) (elemAt b (64 + j * 4 * w) w k)
  else opElem fc 0 (elemAt b (j * 32 * (w / 8)) w k)

/-- Stored value `v` of column j of a sparse B, with the dense position it stands for (04 R108). -/
def bSparse (b : Bytes) (fc : Nat) (j v : Nat) : Nat × Option (Int × Int) :=
  let w := widthOf fc
  let g := v / 2
  (4 * g + bits (field b (64 + 8 * j) 8) (2 * v + 1) (2 * v),
    opElem fc (field b (if v < 16 then j else 32 + j) 1) (elemAt b (320 + j * 4 * w) w v))

/-- The pairs (A element, B element) whose products enter element (i, j). -/
def mmaPairs (sparse : Bool) (a b : Bytes) (fa fb i j : Nat) : List (Option (Int × Int) × Option (Int × Int)) :=
  (List.range 32).map (fun k =>
    if sparse then
      let x := bSparse b fb j k
      (aElem a fa true i x.1, x.2)
    else (aElem a fa false i k, bElem b fb j k))

/-- The truncated contributions of one element: sum, bits lost, out of range (R93, R96). -/
def mmaSum (u : Int) (ps : List (Option (Int × Int) × Option (Int × Int))) : Int × Bool × Bool :=
  ps.foldl (fun r p =>
    match p with
    | (some x, some y) =>
      let v := truncTo (x.1 * y.1) (x.2 + y.2) u
      (r.1 + v.1, r.2.1 || v.2, r.2.2 || out256 v.1)
    | _ => r) (0, false, false)

/-- Every contribution of an MMA (05 R134). -/
def mmaContrib (sparse : Bool) (a b : Bytes) (fa fb : Nat) (u : Int) : Contrib :=
  let l := (List.range 1024).map (fun n => mmaSum u (mmaPairs sparse a b fa fb (n / 32) (n % 32)))
  { sums := l.map (fun x => x.1), inexact := l.any (fun x => x.2.1), overflow := l.any (fun x => x.2.2) }

/-- An operand element or scale is an infinity or a NaN (R96). -/
def mmaNonfinite (sparse : Bool) (a b : Bytes) (fa fb : Nat) : Bool :=
  (List.range 1024).any (fun n => (mmaPairs sparse a b fa fb (n / 32) (n % 32)).any (fun p => p.1.isNone || p.2.isNone))

/-- An exact sum of dyadics. -/
def dySum (l : List (Int × Int)) : Int × Int :=
  l.foldl (fun r x => let q := min r.2 x.2; (r.1 * 2 ^ (r.2 - q).toNat + x.1 * 2 ^ (x.2 - q).toNat, q)) (0, 0)

/-- What an MMA adds to the check residue: Σ over k of ρ(cA_k) × ρ(rB_k) (10 R260). -/
def mmaResidue (sparse : Bool) (a b : Bytes) (fa fb : Nat) : Nat :=
  (List.range (if sparse then 64 else 32)).foldl (fun r k =>
    let ca := dySum ((List.range 32).filterMap (fun i => aElem a fa sparse i k))
    let rb := dySum (if sparse then
        (List.range 32).flatMap (fun j => (List.range 32).filterMap (fun v =>
          if (bSparse b fb j v).1 = k then (bSparse b fb j v).2 else none))
      else (List.range 32).filterMap (fun j => bElem b fb j k))
    (r + rho ca.1 ca.2 * rho rb.1 rb.2) % rhoP) 0

/-- The tile after an MMA (R93 to R98, 10 R260). -/
def Tile.mma (t : Tile) (sparse : Bool) (a b : Bytes) (fa fb : Nat) : Tile :=
  let t' := t.add 0 (mmaContrib sparse a b fa fb t.unit)
  let nf := mmaNonfinite sparse a b fa fb
  { t' with
    nonfinite := t'.nonfinite || nf
    overflow := t'.overflow || nf
    chk := (t.chk + mmaResidue sparse a b fa fb) % rhoP }

/-! ## The exact form (R106, R107, 05 R128) -/

/-- A 256-bit two's complement value of 32 bytes. -/
def exactAt (b : Bytes) (o : Nat) : Int := (BitVec.ofNat 256 (field b o 32)).toInt

/-- The header line of an exact-form image. -/
structure XHdr where
  eref : Int
  flags : Nat
  row0 : Nat
  rows : Nat
  clean : Bool
  deriving DecidableEq, Repr

def xHdr (b : Bytes) : XHdr :=
  { eref := (BitVec.ofNat 16 (field b 0 2)).toInt, flags := field b 2 1, row0 := field b 3 1, rows := field b 4 1,
    clean := (slice b 5 59).all (fun x => x == 0) }

/-- The contributions of `n` elements in exact form under Eref `er`, entering at unit `u` (R107). -/
def exactContrib (b : Bytes) (o n : Nat) (er u : Int) : Contrib :=
  let l := (List.range n).map (fun i => truncTo (exactAt b (o + 32 * i)) (er - 160) u)
  { sums := l.map (fun x => x.1), inexact := l.any (fun x => x.2), overflow := l.any (fun x => out256 x.1) }

/-- The tile after a TADD of an image whose header passed the checks (05 R133, 04 R107, 10 R260). The flags of an image whose row
count is 0 act as well: it adds no element, and the manual does not say that its flags are left out (log 55). -/
def Tile.tadd (t : Tile) (img : Bytes) : Tile :=
  let h := xHdr img
  let c := exactContrib img 64 (32 * h.rows) h.eref t.unit
  let t' := t.add (32 * h.row0) c
  { t' with
    inexact := t'.inexact || h.flags % 2 == 1
    overflow := t'.overflow || h.flags / 2 % 2 == 1 || h.flags / 8 % 2 == 1
    nonfinite := t'.nonfinite || h.flags / 8 % 2 == 1
    chk := (t.chk + rho c.sums.sum t.unit) % rhoP }

/-- The header line of an image. -/
def xHeader (eref : Int) (flags row0 rows : Nat) : Bytes :=
  fit 64 (bytesLE 2 (eref % 65536).toNat ++ bytesLE 1 flags ++ bytesLE 1 row0 ++ bytesLE 1 rows)

/-- An element leaves the tile outside the range (R96). -/
def Tile.leaves (t : Tile) (row0 rows : Nat) : Bool :=
  (List.range (32 * rows)).any (fun i => out256 (t.elem (32 * row0 + i)).toInt)

/-- The exact-form image of rows of a tile (05 R128, R133). -/
def Tile.exact (t : Tile) (row0 rows : Nat) : Bytes :=
  xHeader t.eref.toInt (t.stat % 16) row0 rows ++
  (List.range (32 * rows)).flatMap (fun i => bytesLE 32 (t.vis (32 * row0 + i) % 2 ^ 256).toNat)

/-! ## Conversion of a tile (R103, R104) -/

/-- The size of the converted-tile image (05 R128). -/
def convLen (fc : Nat) : Nat := if isMx fc then 64 + 32 * 4 * widthOf fc else 1024 * (widthOf fc / 8)

/-- An element as a value. -/
def Tile.fp (t : Tile) (i : Nat) : Fp := .fin (t.vis i < 0) (t.vis i).natAbs t.unit

/-- An element converted: code, and whether the result overflowed. An exact zero gives +0. -/
def convElem (fc : Nat) (sat : Bool) (x : Int) (v : Fp) : Nat × Bool :=
  match v with
  | .fin n m e =>
    if m = 0 then (0, false)
    else if fc = 5 ∨ fc = 9 then
      let r := roundInt (widthOf fc) n m e
      ((r.1 % 2 ^ widthOf fc).toNat, r.2)
    else roundFp (fmtOf fc) sat n m (e - x)
  | _ => (0, false)

/-- Codes of one row packed little-endian. -/
def packBits (w : Nat) (cs : List Nat) : Nat := cs.foldr (fun c r => c + 2 ^ w * r) 0

/-- One row converted: scale byte, bytes, overflow. -/
def Tile.convRow (t : Tile) (fc : Nat) (sat : Bool) (i : Nat) : Nat × Bytes × Bool :=
  let vs := (List.range 32).map (fun j => t.fp (32 * i + j))
  let x := if isMx fc then mxScale fc vs else none
  let cs := vs.map (convElem fc sat (x.getD 0))
  (mxByte x, bytesLE (4 * widthOf fc) (packBits (widthOf fc) (cs.map (fun c => c.1))), cs.any (fun c => c.2))

/-- The converted-tile image, and whether a result overflowed. -/
def Tile.convert (t : Tile) (fc : Nat) (sat : Bool) : Bytes × Bool :=
  let rows := (List.range 32).map (t.convRow fc sat)
  ((if isMx fc then fit 64 (rows.map (fun r => BitVec.ofNat 8 r.1)) else []) ++ rows.flatMap (fun r => r.2.1),
    rows.any (fun r => r.2.2))

/-- The residue of the tile's exact sum of visible values at a close (10 R260). -/
def Tile.sumRho (t : Tile) : Nat := rho (((List.range 1024).map t.vis).sum) t.unit

/-- The residues are compared at a close and differ (10 R261). -/
def Tile.mismatch (t : Tile) : Bool := t.cls.toNat < 2 && !t.inexact && t.sumRho != t.chk

end Sys2Proof.Machine
end

