-- ==== Sys2Proof/Machine/Issue.lean ====
section
/-! DEFINITION. How a core issues (03 R61 to R66, 05 R144 to R149): opening a bundle, results in flight, holds,
violations and the freeze, and the one way every slot operation is presented. -/

namespace Sys2Proof.Machine

/-! ## Time of a core -/

/-- The frequency of a core's die in MHz. -/
def State.coreMHz (s : State) (k : Nat) : Nat := opMHz (s.die (k / 272)).op

/-- TIME at core cycle `c` of the attempt: its first bundle, the cycles at the running point, the die's stretch
(03 R67, 02 R53). -/
def State.coreTime (s : State) (k c : Nat) : Nat :=
  (match s.slots.att with | some a => a.start | none => s.time) + c * 1000 / s.coreMHz k + (s.die (k / 272)).stallNs

/-- A core issues: the panel runs, an attempt is open, its die is ACTIVE with a virtual die, the core is not the spare
position, is not frozen and has not passed its last frame mark, whose bundle issues whole (02 R41, 03 R79, 05 R131, 15
R415). -/
def State.canRun (s : State) (k : Nat) (join : Bool) : Bool :=
  s.panel == .running &&
  (match s.slots.att with | some a => !a.restartWait | none => false) &&
  (s.die (k / 272)).st == .active && (s.vcoreOf k).isSome &&
  (s.core k).frozen.isNone && !(s.core k).halted && (!(s.core k).lastMark || join)

/-! ## Detected errors -/

/-- A Class D mismatch of a core's duplicated hardware (10 R267), with the operation that its record names. -/
def State.dupFault (s : State) (k op unit : Nat) : State :=
  let site := k / 272
  ((s.coreFault k op 0x02 unit).count Obj.DUP_MISMATCHES).updDie site (fun d => { d with checks := d.checks + 1 })

/-- A corrected word counts towards the hourly rate of 15 R413; past 1,024 the die receives a field entry. -/
def State.corrected (s : State) (site : Nat) : State :=
  let d := s.die site
  let fresh := decide (d.correctedFrom + 3600 * 10 ^ 9 < s.time)
  let n := if fresh then 1 else d.corrected + 1
  let s := s.updDie site (fun d => { d with corrected := n, correctedFrom := if fresh then s.time else d.correctedFrom })
  let s := { s with checks := { s.checks with corrected := s.checks.corrected + 1 } }
  if n = 1025 then
    (s.lastingFault site 0x1E 0).fsr { part := 0, index := site, det := 0x1E, kind := 2, action := 0x100 }
  else s

/-- What SEC-DED does on a scratchpad read (06 R162). -/
def State.spadEcc (s : State) (k op : Nat) (e : Ecc) : State :=
  let site := k / 272
  match e with
  | .clean => s
  | .single =>
    ((s.updDie site (fun d => { d with spadSbe := d.spadSbe + 1 })).count Obj.SPAD_SBE_COUNT).corrected site
  | .double =>
    (((s.updDie site (fun d => { d with spadDbe := d.spadDbe + 1 })).count Obj.SPAD_DBE_COUNT).setNum
      Obj.SPAD_LAST_DBE_SITE site).coreFault k op 0x04 0x07

/-- What SEC-DED does on the fetch of a bundle (03 R60): a double-bit error stops the core as a hardware fault. -/
def State.imemEcc (s : State) (k : Nat) (e : Ecc) : State :=
  let site := k / 272
  match e with
  | .clean => s
  | .single => (s.updDie site (fun d => { d with imemSbe := d.imemSbe + 1 })).corrected site
  | .double => (s.coreFault k (opWord (s.core k).pc 0 0) 0x05 0x09).updCore k (fun c => { c with halted := true })

/-- What a bundle's checkers saw is told once the bundle is complete (03 R61). -/
def State.tell (s : State) (k : Nat) (x : Seen × Nat) : State :=
  match x.1 with
  | .single => s.spadEcc k x.2 .single
  | .double => s.spadEcc k x.2 .double
  | .dup u => s.dupFault k x.2 u

/-- The tile's OVERFLOW flag is set: the sieve hears of it at once (04 R98). -/
def State.overflowTrap (s : State) (k : Nat) (old new : Tile) : State :=
  if new.overflow && !old.overflow then
    let site := k / 272
    (s.report 0x03 (s.die site).vd none).fsr
      { part := 0, index := site, unit := 1, det := 0x03, cls := new.cls.toNat, vcore := (s.vcoreOf k).getD 0xFFFF
        ord := some new.ord }
  else s

/-! ## Freeze (03 R72, 05 R149, 15 R415) -/

/-- The unit that a violation concerns: the queue engine for a gather descriptor, the NI for a ladle contribution, else that of
the slot (15 R436). -/
def violUnit (slot : Slot) (viol : Nat) : Nat :=
  if viol = 8 then 5 else if viol = 7 then 6 else match slot with | .sync => 3 | .mat => 1 | .vec => 2 | .mov => 4 | .ctl => 3

/-- The core frozen with its state retained, and its freeze record. Violations: 1 illegal encoding, 2 channel not
bound for the operation, 3 outside the windows, 4 store to the frame-state read buffer, 5 COPY overlap, 6 TADD image,
7 ladle contribution, 8 gather descriptor, 9 message outside its destination range. -/
def State.freezeAt (s : State) (k pc : Nat) (slot : Slot) (opc viol operation : Nat) (related : Nat := 0) : State :=
  let site := k / 272
  let sn := match slot with | .sync => 0 | .mat => 1 | .vec => 2 | .mov => 3 | .ctl => 4
  let s := s.updCore k (fun c => { c with frozen := some { pc := pc, slot := slot, violation := viol }, hold := none, openSlot := none })
  (s.report 0x14 (s.die site).vd none).fsr
    { part := 0, index := site, unit := violUnit slot viol, det := 0x14, vcore := (s.vcoreOf k).getD 0xFFFF,
      operation := if operation = 0 then opWord pc sn opc else operation, action := 0x20,
      detail := bytesLE 2 viol, ord := some pc, related := related }

/-- The core as it was before the open bundle. -/
def State.snap (s : State) (k : Nat) : Core := SMap.get coreD s.snaps k

/-- No slot of the open bundle takes effect and the core is frozen. -/
def State.freezeBundle (s : State) (k : Nat) (slot : Slot) (opc viol : Nat) : State :=
  ((if viol = 9 then s.count Obj.CH_WINDOW_VIOLATIONS else s).setCore k (s.snap k)).freezeAt k (s.snap k).pc slot opc viol 0

/-- The peak activity level that the program declares for the virtual die at a site (13 R377). -/
def State.peakOf (s : State) (site : Nat) : Nat :=
  match s.prog, (s.die site).vd with
  | some p, some v => (SMap.get (fun _ => (16, [])) p.power v).1
  | _, _ => 16

/-- Held cycles under a code counted in the objects that count them panel-wide (07 R198, 13 R377). -/
def State.countHeld (s : State) (k code n : Nat) : State :=
  if code = 7 then s.count Obj.CH_SEND_HOLD_CYCLES n
  else if code = 10 && decide (1000 * s.peakOf (k / 272) ≤ (s.die (k / 272)).allow) then s.count Obj.GOVERNOR_PEAK_HOLDS n
  else s

/-- The open bundle held for one cycle: nothing of it takes effect, the cause is counted (03 R61, R64, R66). Its names stay,
for the destination conflicts of its later slots (05 R145, R149). Where several slots are held, the cause counted is the
lowest code of the first of them (log 50). -/
def State.holdBundle (s : State) (k code what : Nat) (names : List (Nat × Nat)) : State :=
  let c := s.snap k
  let nm := (s.core k).named ++ names
  let s := s.countHeld k code 1
  s.setCore k { c.countStall code 1 with held := true, hold := some (code, what), openSlot := some .sync, named := nm }

/-! ## Results in flight (03 R62, 05 R147) -/

/-- Bytes of a scalar load to the register's 64 bits (05 R141). -/
def loadValue (b : Bytes) (sext : Bool) : BitVec 64 :=
  let v := BitVec.ofNat 64 (natLE b)
  if sext then ((BitVec.ofNat (8 * b.length) (natLE b)).signExtend 64) else v

/-- The lanes that lines of scratchpad give a vector register (05 R141). -/
def loadLanes (s : State) (k r l a n : Nat) : List (Nat × BitVec 32) :=
  (List.range (16 * n)).map (fun i => (64 * r + 16 * l + i, BitVec.ofNat 32 (natLE (s.spadRead k (a + 4 * i) 4))))

/-- A promotion entry of the frame is in the list (10 R268, R269). -/
def Checks.promoted (c : Checks) (frame v tile ord : Nat) : Bool := c.promos.contains (frame, v, tile, ord)

/-- A TCLR takes effect; in a promoted replay one that matches a promotion entry sets Class D (10 R269). -/
def State.landTclr (s : State) (k t : Nat) (e : BitVec 10) (cl : BitVec 2) : State :=
  let hit := (match s.slots.att with | some a => a.promoted | none => false) &&
    s.checks.promoted s.frameNow ((s.vcoreOf k).getD 0xFFFF) t (((s.core k).tile t).ord + 1)
  let s := s.updCore k (fun c => c.setTile t ((c.tile t).clear e (if hit then 1 else cl)))
  if hit then { s with checks := { s.checks with fallD := s.checks.fallD + 1 } } else s

/-- A result written. A load reads the scratchpad now, a store writes it now. -/
def State.landDest (s : State) (k : Nat) (d : Dest) : State :=
  match d with
  | .sreg r v => s.updCore k (fun c => c.setSreg r v)
  | .vreg _ l => s.updCore k (fun c => { c with vregs := SMap.putAll (fun _ => 0) c.vregs l })
  | .pred p v => s.updCore k (fun c => c.setPred p v)
  | .tclr t e cl => s.landTclr k t e cl
  | .load r a n sx => s.updCore k (fun c => c.setSreg r (loadValue (s.spadRead k a n) sx))
  | .loadv r l a n =>
    s.updCore k (fun c => { c with vregs := SMap.putAll (fun _ => 0) c.vregs (loadLanes s k r l a n) })
  | .store a b => s.spadWrite k a b

/-- The result in flight is due. -/
def due (t : Nat) (p : Pend) : Bool := decide (p.ready ≤ t)

/-- Every due result written, in the order of issue. -/
def State.landDue (s : State) (k t : Nat) : State :=
  let c := s.core k
  let l := c.pend.filter (due t)
  l.foldl (fun s p => s.landDest k p.dest)
    (s.updCore k (fun c => { c with pend := c.pend.filter (fun p => !due t p) }))

/-- The last core cycle of the attempt that ends by TIME `t` (03 R67). -/
def State.cycleAt (s : State) (k t : Nat) : Nat :=
  (t - (match s.slots.att with | some a => a.start | none => s.time) - (s.die (k / 272)).stallNs) * s.coreMHz k / 1000

/-- The cycle that a core's engines have reached: that of its last bundle, or what TIME has made of it since. -/
def State.nowCycle (s : State) (k : Nat) : Nat := max (s.core k).cycle (s.cycleAt k s.time)

/-- The NET engine reads source lines into the free places of a send queue, and frees the source range once the last
line of a message is in (07 R175, 05 R141). -/
def State.fillSend (s : State) (k ch : Nat) : State :=
  let c := s.core k
  let now := s.nowCycle k
  let q := c.sq ch
  let rd := (List.range q.length).map (fun i =>
    match q[i]? with
    | some f => (match f.src with
      | some a => if i < 8 && decide (f.after ≤ now) then { f with data := bytesFlit (s.spadRead k a 64), src := none } else f
      | none => f)
    | none => { data := 0, idx := 0, total := 0, off := 0, tag := 0 })
  let done := (rd.filter (fun f => f.src.isNone && f.idx + 1 == f.total && f.tag != 0)).map (fun f => f.tag)
  let lines := (List.range q.length).filterMap (fun i =>
    match q[i]?, rd[i]? with
    | some f, some g => if g.src.isNone then f.src else none
    | _, _ => none)
  let c := match lines with
    | a :: _ => c.useEng .net (wheelRun c .net now a lines.length)
    | [] => c
  s.setCore k { c.setSq ch rd with ranges := c.ranges.filter (fun r => !done.contains r.tag) }

def State.fillSends (s : State) (k : Nat) : State := (List.range 16).foldl (fun s ch => s.fillSend k ch) s

/-- The write run of a COPY that issues at cycle `t`: it starts the cycle after the first line is read (06 R157). -/
def copyWrite (c : Core) (t src dst n : Nat) : Run :=
  let r := wheelRun c .ctl t src n
  wheelRun c .vec (max t r.first) dst n

/-- The read run: where the write starts more than four cycles behind it, eight lines are held, and it pauses until the CTL
engine owns the bank pair of its next line again, one turn of the wheel later (06 R157; log 53). -/
def copyRead (c : Core) (t src dst n : Nat) : Run :=
  let r := wheelRun c .ctl t src n
  if r.first + 4 < (copyWrite c t src dst n).first ∧ 8 < n then { r with last := r.last + 8 } else r

/-- A range of the scoreboard ends. -/
def State.endRange (s : State) (k tag : Nat) : State :=
  (s.updCore k (fun c => { c with ranges := c.ranges.filter (fun r => r.tag != tag) })).fillSends k

/-! ## Long operations of the matrix engine and the memory -/

/-- The last K-step of an MMA ends (03 R68, 10 R260). -/
def State.mmaEnd (s : State) (k : Nat) (j : MmaJob) : State :=
  let old := (s.core k).tile j.tile
  let new := old.mma j.sparse j.a j.b j.fa.toNat j.fb.toNat
  (s.updCore k (fun c => c.setTile j.tile new)).overflowTrap k old new

/-- What a fault of a checksum datapath or of the output summer leaves in the comparison at the tile's close: its check
residue is off by `e` (10 R263). -/
def State.sieveErr (s : State) (k t e : Nat) : State :=
  s.updCore k (fun c => c.setTile t { (c.tile t) with chk := ((c.tile t).chk + e) % rhoP })

/-- A Class D tile's K-steps are compared between the two halves of the multiplier array; no other tile's are (10 R266). -/
def State.mmaDup (s : State) (k : Nat) (j : MmaJob) (dup : Bool) : State :=
  if dup && ((s.core k).tile j.tile).cls == 1 then s.dupFault k (opWord j.pc 1 (if j.sparse then 3 else 2)) 1 else s

/-- A tile is closed: the sieve compares, and a Class E tile with INEXACT set falls back (10 R261, R268 to R271). -/
def State.closeTile (s : State) (k t : Nat) : State :=
  let site := k / 272
  let tl := (s.core k).tile t
  let v := (s.vcoreOf k).getD 0xFFFF
  let s := if tl.cls = 0 && !tl.inexact then { s with checks := { s.checks with eTiles := s.checks.eTiles + 1 } } else s
  if tl.mismatch then
    ((s.report 0x01 (s.die site).vd (some site)).fsr
      { part := 0, index := site, unit := 0x0B, det := 0x01, cls := tl.cls.toNat, vcore := v,
        detail := bytesLE 2 t ++ bytesLE 8 tl.ord, ord := some tl.ord }).count Obj.RESIDUE_MISMATCHES
      |>.updDie site (fun d => { d with checks := d.checks + 1 })
  else if tl.cls = 0 && tl.inexact then
    let s := s.count Obj.INEXACT_E_TILES
    if s.fallbackD then
      let e := (s.frameNow, v, t, tl.ord)
      let s := if s.checks.promos.contains e then s
        else { s with checks := { s.checks with promos := s.checks.promos ++ [e] } }
      s.report 0x100 none none
    else
      { s with checks := { s.checks with fallR := s.checks.fallR + 1, classes := s.checks.classes ||| 4 } }.updCore k
        (fun c => c.setTile t { tl with cls := 2 })
  else s

/-- FSR.OPERATION of a tile transfer (05 R133). -/
def XferJob.word (j : XferJob) : Nat := opWord j.pc 1 (match j.kind with | .tcvt => 4 | .txf => 5 | .tadd => 6)

/-- A TCVT or TXF finishes: the flags of what leaves the tile, the image written, the close (05 R133, 04 R96, R103). -/
def State.xferWrite (s : State) (k : Nat) (j : XferJob) : State :=
  let old := (s.core k).tile j.tile
  let rows := if j.kind = .txf then j.rows else 32
  let row0 := if j.kind = .txf then j.row0 else 0
  let t1 := { old with overflow := old.overflow || old.leaves row0 rows }
  let cv := t1.convert j.fmt.toNat j.sat
  let t2 := if j.kind = .tcvt then { t1 with clamped := t1.clamped || cv.2 } else t1
  let img := if j.kind = .tcvt then cv.1 else t2.exact row0 rows
  ((((s.updCore k (fun c => c.setTile j.tile t2)).overflowTrap k old t2).spadWrite k j.addr img).closeTile k j.tile)

/-- The header of a TADD image passes the checks made at its read (05 R133). -/
def State.taddOk (s : State) (k : Nat) (j : XferJob) : Bool :=
  let h := xHdr (s.spadRead k j.addr 64)
  h.clean && decide (h.row0 + h.rows ≤ 32) && s.allows k .core j.vaddr (64 + 1024 * h.rows) false

/-- A TADD has read its header: an image that is refused adds nothing and freezes the core from this cycle (05 R133, 03 R72). -/
def State.taddHeader (s : State) (k : Nat) (j : XferJob) : State :=
  if s.taddOk k j then s.updCore k (fun c => { c with xfer := some { j with hdrAt := 0 } })
  else (((s.updCore k (fun c => { c with xfer := none })).freezeAt k j.pc .mat 6 6 0)).endRange k j.tag

/-- A TADD finishes (05 R133). -/
def State.xferRead (s : State) (k : Nat) (j : XferJob) : State :=
  let h := xHdr (s.spadRead k j.addr 64)
  let old := (s.core k).tile j.tile
  let new := old.tadd (s.spadRead k j.addr (64 + 1024 * h.rows))
  (s.updCore k (fun c => c.setTile j.tile new)).overflowTrap k old new

/-- A tile transfer finishes (05 R133); the conversion and exact-form write paths and their placement are built twice
(10 R264), and `off` is the residue error of the datapath that summed the tile or the image (10 R263). -/
def State.xferEnd (s : State) (k : Nat) (j : XferJob) (dup : Bool) (e : Ecc) (off : Nat) : State :=
  let s := s.updCore k (fun c => { c with xfer := none })
  let s := if j.kind = .tadd then ((s.xferRead k j).sieveErr k j.tile off).spadEcc k j.word e
    else (s.sieveErr k j.tile off).xferWrite k j
  let s := if dup && j.kind != .tadd then s.dupFault k j.word 1 else s
  s.endRange k j.tag

/-- A FILL or COPY ends its transfers (06 R157). -/
def State.memEnd (s : State) (k : Nat) (j : MemJob) : State :=
  let b := if j.fill then (List.range (j.len / 8)).flatMap (fun _ => bytesLE 8 j.value.toNat) else s.spadRead k j.src j.len
  ((s.updCore k (fun c => { c with mem := c.mem.filter (fun x => x.tag != j.tag) })).spadWrite k j.dst b).endRange k j.tag

/-- An EREF of an exact-form header outside −512 to 511 (07 R186). -/
def erefBad (e : Int) : Bool := decide (e < -512) || decide (511 < e)

/-- The ladle reads the header of an exact-mode target: EREF, the initial flags but CLAMPED, the first row (07 R186). -/
def Ladle.header (l : Ladle) (b : Bytes) : Ladle :=
  let h := xHdr b
  { l with
    r0 := h.row0, eref := h.eref, nonfinite := h.flags / 8 % 2 == 1
    overflow := h.flags / 2 % 2 == 1 || erefBad h.eref, inexact := h.flags % 2 == 1, hdrAt := 0 }

/-- The headers due by cycle `t` read. -/
def State.ladleHeaders (s : State) (k t : Nat) : State :=
  ((s.core k).ladles.filter (fun e => e.2.hdrAt != 0 && decide (e.2.hdrAt ≤ t))).foldl (fun s e =>
    s.updCore k (fun c => c.setLadle e.1 ((c.ladle e.1).header (s.spadRead k e.2.base 64)))) s

/-- The core's work up to cycle `t`: MMAs, the tile transfer, FILL and COPY, results, ranges, B buffers. -/
def State.settle (s : State) (k t : Nat) : State :=
  let s := ((s.core k).mmas.filter (fun j => j.done ≤ t)).foldl (fun s j => s.mmaEnd k j)
    (s.updCore k (fun c => { c with mmas := c.mmas.filter (fun j => !(j.done ≤ t)) }))
  let s := match (s.core k).xfer with
    | some j => if j.hdrAt ≠ 0 ∧ j.hdrAt ≤ t then s.taddHeader k j else s
    | none => s
  let s := match (s.core k).xfer with
    | some j => if j.done ≤ t then s.xferEnd k j false .clean 0 else s
    | none => s
  let s := ((s.core k).mem.filter (fun j => j.done ≤ t)).foldl (fun s j => s.memEnd k j) s
  let s := s.updCore k (fun c => { c with
    ranges := c.ranges.filter (fun r => match r.release with | some x => !(x ≤ t) | none => true)
    bbufs := c.bbufs.filter (fun b => b.busyTill == 0 || !(b.busyTill ≤ t)) })
  (s.landDue k t).ladleHeaders k t

/-- The cycles that pass while a bundle is held count as held (03 R66). -/
def State.heldUntil (s : State) (k t : Nat) : State :=
  let c := s.core k
  match c.held, c.hold with
  | true, some (code, _) => (s.updCore k (fun c => c.countStall code (t - c.cycle))).countHeld k code (t - c.cycle)
  | _, _ => s

/-- The core's clock carried to just before cycle `t`, with everything up to `t` done. -/
def State.advance (s : State) (k t : Nat) : State :=
  ((s.heldUntil k (t - 1)).settle k t).updCore k (fun c => { c with cycle := max c.cycle (t - 1), openSlot := none })

/-- Every core's work in flight up to TIME `t` done: results, transfers and MMAs go on after a core's last frame mark
(03 R62, 05 R131). -/
def State.settleAll (s : State) (t : Nat) : State :=
  if s.slots.att.isNone then s else s.cores.foldl (fun s x => s.settle x.1 (s.cycleAt x.1 t)) s

/-- Bytes that leave on a path of a sample's attempt (10 R275). -/
def Core.path (c : Core) (p : Nat) (b : Bytes) : Core :=
  { c with paths := SMap.upd (fun _ => (0, 0)) c.paths p (fun x => (x.1 + b.length, crc64 x.2 b)) }

/-- A store into the frame-state write buffer counts in a sample's transcript (10 R275). -/
def State.noteStore (s : State) (k a : Nat) (b : Bytes) (c : Core) : Core :=
  if s.checks.sampling && s.kindAt k a == 3 then c.path 32 (bytesLE 4 a ++ b) else c
def State.notePath (s : State) (p : Nat) (b : Bytes) (c : Core) : Core :=
  if s.checks.sampling then c.path p b else c

/-! ## What a bundle hands to the network (03 R72) -/

/-- The descriptor of a Q.GATH at physical address `a`, resolved; none for a descriptor fault (08 R216 to R218). -/
def State.resolveDesc (s : State) (k : Nat) (e : QEnt) (a : Nat) : Option QEnt :=
  let b := s.spadRead k a 32
  let w0 := field b 0 4
  let paged := bits w0 1 1 = 1
  let wr := bits w0 0 0 = 1
  let lines := bits w0 31 20 + 1
  let ps := bits w0 11 7
  let addr := field b 8 8
  let spad := alignTo 64 (field b 16 4)
  let ptb := alignTo 4 (field b 20 4)
  let ptl := field b 24 4
  let rsv := bits w0 19 12 = 0 && bits w0 6 2 = 0 && field b 4 4 = 0 && field b 28 4 = 0 &&
    (paged || (ps = 0 && ptb = 0 && field b 20 4 = 0 && ptl = 0))
  let idx := addr / 2 ^ ps
  let pte := field (s.viewRead k (ptb + 4 * idx) 4) 0 4
  let off := addr % 2 ^ ps
  let tr : Option Nat :=
    if !paged then some (alignTo 64 addr)
    else if ps < 12 || decide (20 < ps) || !s.allows k .engine ptb (4 * ptl) false || decide (ptl ≤ idx) || bits pte 31 31 = 0 ||
      decide (2 ^ ps < off + 64 * lines) then none
    else some (alignTo 64 (bits pte 30 0 * 2 ^ ps + off))
  match rsv, tr with
  | true, some h =>
    if s.allows k .engine spad (64 * lines) (!wr) && s.hbmAllows k h (64 * lines) wr then
      some { e with write := wr, lines := lines, spad := s.phys k spad, haddr := h, desc := none }
    else none
  | _, _ => none

/-- A page-table entry that a descriptor is translated through has been read in this frame (08 R219). -/
def State.noteTable (s : State) (k a : Nat) : State :=
  let w0 := field (s.spadRead k a 32) 0 4
  if bits w0 1 1 = 1 then
    let ent := alignTo 4 (field (s.spadRead k a 32) 20 4) + 4 * (field (s.spadRead k a 32) 8 8 / 2 ^ bits w0 11 7)
    match s.vcoreOf k with
    | some v => { s with larder := { s.larder with readBy := SMap.put zeroD s.larder.readBy (spadKey v ent) (s.frameNow + 1) } }
    | none => s
  else s

/-- A resolved entry is held by a frame-state rule (08 R226, 11 R304, R309). -/
def State.entHold (s : State) (k : Nat) (e : QEnt) : Bool :=
  if e.write then s.hbmHold k e.haddr (64 * e.lines)
  else s.gateClosed && (s.coreWindows k).any (fun w => w.kind == 3 &&
    decide (s.phys k w.base ≤ e.spad) && decide (e.spad < s.phys k w.base + w.len))

/-- The hub whose credits a request takes, keyed with the die (09 R234). -/
def State.reqKey (s : State) (k haddr : Nat) : Nat :=
  (k / 272) * 16 + cellOfStack ((s.net.route s.net.epochB).stackOf (haddr / 2 ^ 37))

/-- One request of an entry: all of a read, or up to 64 lines of a write, each line with its check (08 R204); none without a
credit (09 R234, R236, R238). The queue engine issues one request in a cycle (03 R73). -/
def State.sendReq (s : State) (k q : Nat) (e : QEnt) : Option (State × QEnt) :=
  let n := if e.write then min 64 (e.lines - e.out) else e.lines
  let c0 := s.core k
  let t := max (s.nowCycle k) c0.reqFree
  let key := s.reqKey k e.haddr
  let used := SMap.get zeroD s.net.reqTaken (2 * key)
  let usedL := SMap.get zeroD s.net.reqTaken (2 * key + 1)
  let r := wheelRun c0 .qout t (e.spad + 64 * e.out) n
  let t := if e.write then r.last + 1 else t
  if 256 ≤ used || (e.write && decide (1024 < usedL + n)) then none
  else
    let data : Bytes := if e.write then s.spadRead k (e.spad + 64 * e.out) (64 * n) else []
    let at' := s.hbmAt k (e.haddr + 64 * e.out) (64 * n)
    let arg := (if e.write then 2 ^ 63 else 0) + (n - 1) * 2 ^ 51 + q * 2 ^ 49 + e.num % 64 * 2 ^ 43 + at' % 2 ^ 43
    let h : Hdr := s.coreHdr k
      { type := 7, len := data.length / 64, vc := if e.write then 0 else 1, dkind := 1, dst := at' / 2 ^ 37, arg := arg }
    let m1 := SMap.put zeroD s.net.reqTaken (2 * key) (used + 1)
    let m2 := SMap.put zeroD m1 (2 * key + 1) (if e.write then usedL + n else usedL)
    let s := { s with net := { s.net with reqTaken := m2 } }
    let s := s.updCore k (fun c => { (if e.write then (s.notePath (16 + q) data c).useEng .qout r else c) with reqFree := t + 1 })
    let e' := { e with out := e.out + n, sent := decide (e.lines ≤ e.out + n), srcRead := decide (e.lines ≤ e.out + n) }
    some (s.injectAt (max s.time (s.coreTime k t))
      { hdr := h.flit, payload := toFlits (data.length / 64) data
        chk := (List.range (data.length / 64)).map (fun i => BitVec.ofNat 32 (lineCheck (slice data (64 * i) 64) (at' + 64 * i))) }, e')

/-- The requests of one entry, as many as its credits allow. -/
def State.sendReqs (k q : Nat) : Nat → State → QEnt → State × QEnt
  | 0, s, e => (s, e)
  | n + 1, s, e => if e.sent then (s, e) else
    match s.sendReq k q e with
    | some r => State.sendReqs k q n r.1 r.2
    | none => (s, e)

/-- The queue engine of the core is frozen for an entry: the faulting descriptor's, and those issued after it (08 R218). -/
def queueFrozen (c : Core) (e : QEnt) : Bool :=
  match c.frozen with | some f => (match f.queue with | some t => decide (t ≤ e.issueTime) | none => false) | none => false

/-- A descriptor fault: the core and its queue engine are frozen; a core that is frozen already has its record (08 R218). -/
def State.descFault (s : State) (k : Nat) (e : QEnt) : State :=
  let s := s.count Obj.QUEUE_DESC_FAULTS
  let s := if (s.core k).frozen.isSome then s else s.freezeAt k e.pc .mov 0x12 8 0
  s.updCore k (fun c => { c with frozen := c.frozen.map (fun f => { f with queue := some e.issueTime }) })

/-- The queue engine works through a queue from its oldest entry (08 R210, R216). A core frozen for another cause lets the
entries of its earlier bundles run (03 R72). -/
def State.pumpGo (k q : Nat) : List QEnt → State → State × List QEnt
  | [], s => (s, [])
  | e :: t, s =>
    if e.sent then
      let r := State.pumpGo k q t s
      (r.1, e :: r.2)
    else if decide (s.nowCycle k < e.after) || queueFrozen (s.core k) e then (s, e :: t)
    else
      match e.desc with
      | some a =>
        match s.resolveDesc k e a with
        | none => (s.descFault k e, e :: t)
        | some e1 =>
          let s := (s.noteTable k a).updCore k (fun c => c.useEng .qout (wheelRun c .qout (s.nowCycle k) a 1))
          if s.entHold k e1 then (s, e :: t)
          else
            let x := State.sendReqs k q 64 s e1
            if x.2.sent then
              let r := State.pumpGo k q t x.1
              (r.1, x.2 :: r.2)
            else (x.1, x.2 :: t)
      | none =>
        let x := State.sendReqs k q 64 s e
        if x.2.sent then
          let r := State.pumpGo k q t x.1
          (r.1, x.2 :: r.2)
        else (x.1, x.2 :: t)

def State.pump (s : State) (k q : Nat) : State :=
  let r := State.pumpGo k q ((s.core k).queue q) s
  r.1.updCore k (fun c => c.setQueue q r.2)

/-- The core has something that it has not told, or that the network has not taken yet. -/
def Core.loaded (c : Core) : Bool :=
  !c.outbox.isEmpty || c.armed != 0 || !c.seen.isEmpty || c.viol.isSome || c.queues.any (fun x => x.2.any (fun e => !e.sent))

/-- An SHRD request has its place in the merge table of the owner, of 16 entries (06 R170, 09 R234). -/
def State.mergeRoom (s : State) (v : Nat) : Bool :=
  let m := match s.coreOf s.net.epochB v with | some k => (s.core k).merge.length | none => 0
  decide (m + (s.net.flight.filter (fun x => (pktH x.pkt).type == 5 && (pktH x.pkt).dst == v)).length < 16)

/-- The outbox handed to the network in order, up to the first request without room at its owner. -/
def State.handPackets : List Packet → State → State × List Packet
  | [], s => (s, [])
  | p :: t, s =>
    if (pktH p).type = 5 ∧ !s.mergeRoom (pktH p).dst then (s, p :: t) else State.handPackets t (s.inject p)

/-- What a core's bundles hand to the network; without an attempt the NIs discard it (02 R49, R50, 08 R214). -/
def State.handOver (s : State) (k : Nat) : State :=
  let c := s.core k
  if s.slots.att.isNone then s.updCore k (fun c => { c with outbox := [], armed := 0, seen := [], openSlot := none })
  else
    let r := State.handPackets c.outbox s
    let s := r.1
    let s := if c.armed = 0 then s
      else
        let s := s.ledCreate (k / 272) 3 c.armed
        { s with net := { s.net with tokens := s.net.tokens + c.armed } }
    let s := s.updCore k (fun c => { c with outbox := r.2, armed := 0, seen := [], openSlot := none })
    (List.range 4).foldl (fun s q => s.pump k q) s

/-- The open bundle of a core is closed (log 9): a dynamic violation freezes it, what its checkers saw is told, and its
packets, ladle tokens and queue requests are handed over. -/
def State.flush (s : State) (k : Nat) : State :=
  let c := s.core k
  if c.loaded then
    match c.viol with
    | some v => (s.freezeBundle k v.1 v.2.1 v.2.2).handOver k
    | none => (c.seen.foldl (fun s x => s.tell k x) s).handOver k
  else s

/-- Every core's. -/
def State.flushAll (s : State) : State := s.cores.foldl (fun s x => s.flush x.1) s

/-! ## Presenting an operation -/

/-- A scratchpad access of an operation: virtual address, length, direction, who makes it. -/
structure Acc where
  lo : Nat
  n : Nat
  wr : Bool
  who : Who
  deriving DecidableEq, Repr

/-- What an operation is to the issue logic. Registers are pairs: 0 scalar, 1 vector, 2 predicate, 3 tile, with the
number. `holds` are the conditions of codes 5 to 9 that hold now, with what they wait on. -/
structure Op where
  slot : Slot
  opc : Nat
  illegal : Bool := false
  unbound : Bool := false
  names : List (Nat × Nat) := []
  srcs : List (Nat × Nat) := []
  dsts : List (Nat × Nat) := []
  accs : List Acc := []
  adds : Bool := false
  holds : List (Nat × Nat) := []
  dyn : Option Nat := none
  governed : Bool := false
  reads : Bool := false
  deriving DecidableEq, Repr

def slotNo : Slot → Nat
  | .sync => 0 | .mat => 1 | .vec => 2 | .mov => 3 | .ctl => 4

/-- A result for a register is in flight from an earlier bundle (03 R64; s0 and p0 never are). -/
def Core.pending (c : Core) (r : Nat × Nat) : Bool :=
  c.pend.any (fun p => p.issue != c.cycle && match p.dest with
    | .sreg x _ => r == (0, x) && x != 0
    | .load x _ _ _ => r == (0, x) && x != 0
    | .vreg x _ => r == (1, x)
    | .loadv x _ _ _ => r == (1, x)
    | .pred x _ => r == (2, x) && x != 0
    | .tclr x _ _ => r == (3, x)
    | .store _ _ => false) ||
  (r.1 == 3 && (c.mmas.any (fun j => j.tile == r.2) ||
    match c.xfer with | some j => j.kind == .tadd && j.tile == r.2 | none => false))

/-- A queue entry holds a range against the core (08 R212): a read entry its destination, except from the
destinations of later read entries; a write entry its source until QOUT has read it; a Q.GATH entry its descriptor. -/
def QEnt.blocks (e : QEnt) (lo hi : Nat) (wr engine : Bool) : Bool :=
  match e.desc with
  | some a => wr && decide (a < hi) && decide (lo < a + 32)
  | none => !e.done && decide (e.spad < hi) && decide (lo < e.spad + 64 * e.lines) &&
    (if e.write then wr && !e.srcRead else !(engine && wr))

def Core.queueBlocks (c : Core) (lo hi : Nat) (wr engine : Bool) : Bool :=
  (List.range 4).any (fun q => (c.queue q).any (fun e => e.blocks lo hi wr engine))

/-- The bytes of a range that its operation has passed by cycle `t`: two lines in a cycle, one in the first where the range
starts on an odd line (06 R153, R155). -/
def Rng.passed (r : Rng) (t : Nat) : Nat :=
  match r.run with
  | some f => if t ≤ f then 0 else 64 * (2 * (t - f) - r.lo / 64 % 2)
  | none => 0

/-- An access conflicts at cycle `t` with a range in use: it overlaps bytes that have not been passed, and one of them
writes (03 R64). -/
def Rng.clash (r : Rng) (t lo hi : Nat) (wr : Bool) : Bool :=
  decide (r.lo + r.passed t < hi) && decide (lo < r.hi) && (wr || r.wr)

/-- The first cycle at which the operation of a range has passed its bytes below `hi`. -/
def Rng.passes (r : Rng) (hi : Nat) : Nat :=
  match r.run, r.release with
  | some f, _ => f + 1 + ((min hi r.hi - 1) / 64 - r.lo / 64 + r.lo / 64 % 2) / 2
  | none, some t => t
  | none, none => 0

/-- Code 3 of R64 for an access. Remote writes and ladle ranges are not in the scoreboard (03 R65). -/
def State.rangeBusy (s : State) (k : Nat) (a : Acc) : Bool :=
  let c := s.core k
  let lo := s.phys k a.lo
  !(a.who == .ni && a.wr) &&
    (c.ranges.any (fun r => decide (r.tag ≤ c.openTag) && r.clash c.cycle lo (lo + a.n) a.wr) ||
      c.queueBlocks lo (lo + a.n) a.wr (a.who == .engine))

/-- The cycle from which an access of this bundle may touch its bytes: the MAT operation of the bundle has passed them
(05 R146). 0 where it need not wait. -/
def State.waitsFor (s : State) (k lo n : Nat) (wr : Bool) : Nat :=
  let c := s.core k
  ((c.ranges.filter (fun r => decide (c.openTag < r.tag) && r.clash c.cycle lo (lo + n) wr)).map (fun r => r.passes (lo + n))).foldl max 0

/-- The operations in progress that the scoreboard tracks (03 R65). -/
def Core.tracked (c : Core) : Nat := (c.ranges.map (fun r => r.tag)).dedup.length

/-- Code 10: the bundle would pass the core's share of the issue allowance (03 R75); level 16 is full activity. -/
def State.overShare (s : State) (k : Nat) (o : Op) : Bool :=
  o.governed && decide ((s.die (k / 272)).allow < 16000) &&
    decide ((s.die (k / 272)).allow < (s.core k).used + Config.bundleWeight (slotNo o.slot * 128 + o.opc))

/-- The unmet conditions of R64 of an operation, each code with what it waits on. -/
def State.unmet (s : State) (k : Nat) (o : Op) : List (Nat × Nat) :=
  let c := s.core k
  (if o.srcs.any c.pending then [(1, 0)] else []) ++
  (if o.dsts.any c.pending then [(2, 0)] else []) ++
  (if o.accs.any (s.rangeBusy k) then [(3, 0)] else []) ++
  (if o.adds && decide (16 ≤ c.tracked) then [(4, 0)] else []) ++
  o.holds ++
  (if s.overShare k o then [(10, 0)] else [])

/-- The hold that the core counts: the lowest code. -/
def minHold : List (Nat × Nat) → Option (Nat × Nat)
  | [] => none
  | x :: t => match minHold t with
    | none => some x
    | some y => some (if x.1 ≤ y.1 then x else y)

/-- A dynamic violation of an operation (05 R149): a window, the frame-state read buffer, or one of its own. -/
def State.violates (s : State) (k : Nat) (o : Op) : Option Nat :=
  match o.accs.find? (fun a => !s.allows k a.who a.lo a.n a.wr) with
  | some a => some (if a.wr && s.kindAt k a.lo == 2 then 4 else 3)
  | none => o.dyn

/-- A static violation (05 R148, R149): reserved bits, the opcode's own rules, a destination conflict of R145, an
unbound channel. -/
def staticViol (c : Core) (io : Issue) (o : Op) : Option Nat :=
  if io.rsvd || o.illegal || o.names.any (fun n => c.named.contains n) then some 1
  else if o.unbound then some 2 else none

/-- A bundle opened on a core: the next cycle, everything due written, the program counter moved on (05 R122). -/
def State.openBundle (s : State) (k : Nat) : State :=
  let c := s.core k
  let t := match c.firstTime with | none => 0 | some _ => max (c.cycle + 1) c.nextIssue
  let s := (((s.flush k).heldUntil k (t - 1)).settle k t).flush k
  let tm := s.coreTime k t
  let c := s.core k
  let c := { c with
    cycle := t, held := false, openSlot := none, named := [], openTag := c.nextTag
    firstTime := some (c.firstTime.getD tm) }
  let s := { s with snaps := SMap.put coreD s.snaps k c }
  (s.setCore k { c with pc := (c.pc + 1) % 2048 }).atTime tm

/-- The operation may be joined to the open bundle: its slot comes after the last one. -/
def Core.joinable (c : Core) (sl : Slot) : Bool :=
  match c.openSlot with | some x => c.held || decide (slotNo x < slotNo sl) | none => false

/-- What is common to every operation that has issued: its slot and destinations, the allowance used, what its
checkers saw. -/
def State.issued (s : State) (io : Issue) (o : Op) : State :=
  let k := io.core
  let s := s.updCore k (fun c => { c with
    openSlot := some o.slot, named := c.named ++ o.names, hold := none, lastIssueTime := s.coreTime k c.cycle
    used := if o.governed then c.used + Config.bundleWeight (slotNo o.slot * 128 + o.opc) else c.used
    seen := c.seen ++ ((match o.reads, io.ecc with | true, .single => [Seen.single] | true, .double => [Seen.double] | _, _ => []) ++
      (if io.dup then [Seen.dup (match o.slot with | .mat => 4 | .vec => 2 | .mov => 4 | _ => 3)] else [])).map (fun x =>
        (x, opWord (SMap.get coreD s.snaps k).pc (slotNo o.slot) o.opc)) })
  s

/-- The state in which an operation is considered: its bundle opened, or joined. -/
def State.atIssue (s : State) (io : Issue) : State := if io.join then s else s.openBundle io.core

/-- The operation issues: every condition is met and nothing is violated. -/
def State.issues (s : State) (io : Issue) (info : State → Op) : Bool :=
  let s1 := s.atIssue io
  let o := info s1
  s.canRun io.core io.join && decide (io.core < 39168) && (!io.join || (s.core io.core).joinable o.slot) &&
  (s1.core io.core).frozen.isNone && (staticViol (s1.core io.core) io o).isNone && !(s1.core io.core).held &&
  (s1.core io.core).viol.isNone &&
  (minHold (s1.unmet io.core o)).isNone && (s1.violates io.core o).isNone

/-- An operation of a bundle that will not take effect: its destinations count for the conflicts of R145. -/
def State.nameOp (s : State) (k : Nat) (o : Op) : State :=
  s.updCore k (fun c => { c with named := c.named ++ o.names, openSlot := some o.slot })

/-- The first dynamic violation of a bundle, kept until every slot has been judged (05 R149). -/
def State.noteViol (s : State) (k : Nat) (o : Op) (v : Nat) : State :=
  (s.nameOp k o).updCore k (fun c => { c with viol := some (o.slot, o.opc, v) })

/-- An operation presented for one cycle (log 9, 10): what was due may freeze the core first; else it freezes the core, is
held, or issues with its effect. -/
def present (s : State) (io : Issue) (info : State → Op) (eff : State → State) : State :=
  let k := io.core
  if !(s.canRun k io.join && decide (k < 39168)) then s
  else
    let s1 := s.atIssue io
    let o := info s1
    if io.join && !(s.core k).joinable o.slot then s
    else if (s1.core k).frozen.isSome then s1
    else match staticViol (s1.core k) io o with
      | some v => s1.freezeBundle k o.slot o.opc v
      | none =>
        if (s1.core k).held then s1.nameOp k o
        else match minHold (s1.unmet k o) with
          | some h => s1.holdBundle k h.1 h.2 o.names
          | none =>
            if (s1.core k).viol.isSome then s1.nameOp k o
            else match s1.violates k o with
              | some v => s1.noteViol k o v
              | none => (eff s1).issued io o

/-- A slot operation as a command. -/
def slotOp (s : State) (io : Issue) (info : State → Op) (eff : State → State) : Host.Outcome State Fault Refusal :=
  onPart (okCore io.core) (present s io info eff)

/-- A transfer that the QIN or NET engine makes for traffic: at the engine's next ownership of the bank pair, from the next
cycle on, after what the engine serves before it (06 R154, R158). TIME is carried to its end. In hashing mode the banks serve
the lines (06 R159). -/
def State.xferBy (s : State) (k : Nat) (e : Eng) (a n : Nat) : State :=
  if (s.die (k / 272)).hashing then s.updCore k (fun c => c.hashRun e (a / 64) n)
  else if s.slots.att.isNone || n == 0 then s
  else
    let r := wheelRun (s.core k) e (s.nowCycle k) a n
    (s.updCore k (fun c => c.useEng e r)).atTime (s.coreTime k (r.last + 1))

/-- The core's clock and TIME carried to cycle `t` (03 R67). -/
def State.runTo (s : State) (k t : Nat) : State := (s.advance k t).atTime (s.coreTime k t)

/-- A change of a core by an event of its own: it closes the core's open bundle (log 9). -/
def State.evCore (s : State) (k : Nat) (f : Core → Core) : State :=
  s.updCore k (fun c => { f c with openSlot := none })

/-- A Class D or Class R operation noted for the check summary (10 R286). -/
def Core.noteClass (c : Core) (cls : Nat) : Core :=
  { c with classes := c.classes ||| 2 ^ cls, dOps := if cls = 1 then c.dOps + 1 else c.dOps }

/-- A result put in flight by the operation that issues now. -/
def Core.send (c : Core) (d : Dest) (lat : Nat) : Core :=
  { c with pend := c.pend ++ [⟨d, c.cycle, c.cycle + lat⟩] }

/-- A range entered in the scoreboard under the newest tag. -/
def Core.track (c : Core) (lo n : Nat) (wr : Bool) (release : Option Nat) (run : Option Nat := none) : Core :=
  { c with ranges := c.ranges ++ [⟨lo, lo + n, wr, release, c.nextTag, run⟩] }
def Core.newTag (c : Core) : Core := { c with nextTag := c.nextTag + 1 }

/-- The operations of the bundle that a core fetches next: its instruction memory at its program counter, split into the five
slots (05 R120, R122). -/
def State.fetchOps (s : State) (k : Nat) : List Instr :=
  bundleOps k (SMap.get (fun _ => (0 : BitVec 256)) s.imem (imemKey k (s.core k).pc))

end Sys2Proof.Machine
end

