-- ==== Sys2Proof/Machine/Mat.lean ====
section
/-! DEFINITION. The MAT slot (05 R132 to R135): TCLR, MMA, MMA.SP, TCVT, TXF, TADD, TSTAT, and the ends of an MMA and
of a tile transfer. -/

namespace Sys2Proof.Machine

/-- The check class of a MAT operation is noted: that of its tile at issue (10 R286). -/
def Core.noteTile (c : Core) (t : Nat) : Core := { c with classes := c.classes ||| 2 ^ (c.tile t).cls.toNat }

/-- A TCVT or TXF still reads a tile (05 R135). -/
def tileRead (c : Core) (t : Nat) : Bool :=
  match c.xfer with | some j => j.kind != .tadd && j.tile == t | none => false

/-- A tile transfer is running (05 R135). -/
def xferHold (c : Core) : List (Nat × Nat) := if c.xfer.isSome then [(8, 0)] else []

/-! ## TCLR -/

def infoTclr (k : Nat) (acc : BitVec 3) (cls : BitVec 2) (s : State) : Op :=
  { slot := .mat, opc := 1, illegal := cls == 3, dsts := [(3, acc.toNat)], governed := true
    holds := if tileRead (s.core k) acc.toNat then [(8, 0)] else [] }
def effTclr (k : Nat) (acc : BitVec 3) (cls : BitVec 2) (eref : BitVec 10) (s : State) : State :=
  s.updCore k (fun c => (c.noteTile acc.toNat).send (.tclr acc.toNat eref cls) 1)
/-- TCLR (04 R92, 05 R133). -/
def execTclr (io : Issue) (acc : BitVec 3) (cls : BitVec 2) (eref : BitVec 10) (s : State) :
    Host.Outcome State Fault Refusal :=
  slotOp s io (infoTclr io.core acc cls) (effTclr io.core acc cls eref)

/-! ## MMA and MMA.SP -/

/-- The legal pairings of formats (04 R90, 05 R134). -/
def pairOk (sparse : Bool) (fa fb : Nat) : Bool :=
  if sparse then decide (2 ≤ fa) && decide (fa ≤ 4) && decide (2 ≤ fb) && decide (fb ≤ 4)
  else (isMx fa && isMx fb) || fa == fb

/-- K, the K-cycles of R133, doubled under Class D. -/
def kCycles (sparse : Bool) (fa fb : Nat) (cls : BitVec 2) : Nat :=
  (if fa ≥ 6 then 128 else if sparse then 16 else if fa ≤ 1 ∨ fb ≤ 1 ∨ fa = 5 then 32 else 16) *
    (if cls = 1 then 2 else 1)

/-- The fields that the B source leaves reserved are zero (05 R132). -/
def bsrcOk (f : MmaF) : Bool := if f.bsrc then f.rb == 0 && f.offB == 0 else f.chb == 0

/-- The MMA whose result is the last one under way, and the chain onto its tile (05 R135). -/
def lastMma (c : Core) : Option MmaJob := c.mmas.getLast?
def chains (c : Core) (t : Nat) : Bool := match lastMma c with | some j => j.tile == t | none => false
def mmaBusy (c : Core) : Bool :=
  match lastMma c with | some j => decide (c.cycle < j.issue + j.k) | none => false

/-- The B buffer that holds the whole image, from the operand port of a channel (07 R180). -/
def readyBuf (c : Core) (ch n : Nat) : Option BBuf :=
  c.bbufs.find? (fun b => b.ch == ch && b.busyTill == 0 && decide (n ≤ b.flits.length))

def bLines (sparse : Bool) (f : MmaF) : Nat := imageLen f.fb.toNat sparse true / 64

def infoMma (k : Nat) (sparse : Bool) (f : MmaF) (s : State) : Op :=
  let c := s.core k
  let t := f.acc.toNat
  { slot := .mat, opc := if sparse then 3 else 2, governed := true, adds := true, reads := true
    illegal := !pairOk sparse f.fa.toNat f.fb.toNat || !bsrcOk f
    unbound := f.bsrc && s.inKind k f.chb.toNat != 1
    srcs := [(0, f.ra.toNat)] ++ (if f.bsrc then [] else [(0, f.rb.toNat)]) ++ (if chains c t then [] else [(3, t)])
    accs := [⟨imgEa c f.ra f.offA, imageLen f.fa.toNat sparse false, false, .core⟩] ++
      (if f.bsrc then [] else [⟨imgEa c f.rb f.offB, imageLen f.fb.toNat sparse true, false, .core⟩])
    holds := (if f.bsrc && (readyBuf c f.chb.toNat (bLines sparse f)).isNone then [(5, 128 + f.chb.toNat)] else []) ++
      (if mmaBusy c || tileRead c t then [(8, 0)] else []) }

/-- The cycle by which the engine has read an image of `n` bytes in whatever order the wheel offers: the bound of 06 R156, at
which the model always releases the image (log 51). -/
def imgEnd (t n : Nat) : Nat := t + (n / 64 + 1) / 2 + 1

/-- A B buffer is taken for `n` flits until the MMA has read its last K-step (07 R180). -/
def takeBuf (c : Core) (ch n till : Nat) : Core :=
  match readyBuf c ch n with
  | some b => { c with bbufs := { b with flits := b.flits.take n, busyTill := till } :: c.bbufs.erase b }
  | none => c

def effMma (k : Nat) (sparse : Bool) (f : MmaF) (s : State) : State :=
  let c := s.core k
  let t := f.acc.toNat
  let na := imageLen f.fa.toNat sparse false
  let nb := imageLen f.fb.toNat sparse true
  let la := s.phys k (imgEa c f.ra f.offA)
  let lb := s.phys k (imgEa c f.rb f.offB)
  let kc := kCycles sparse f.fa.toNat f.fb.toNat (c.tile t).cls
  let b : Bytes := if f.bsrc then
      (match readyBuf c f.chb.toNat (nb / 64) with | some x => (x.flits.take (nb / 64)).flatMap flitBytes | none => [])
    else s.spadRead k lb nb
  let j : MmaJob := { tile := t, sparse := sparse, fa := f.fa, fb := f.fb, a := s.spadRead k la na, b := b
                      pc := (s.snap k).pc, issue := c.cycle, k := kc, done := c.cycle + kc + 6 }
  let c := (c.newTag).track la na false (some (imgEnd c.cycle na))
  let c := if f.bsrc then takeBuf c f.chb.toNat (nb / 64) (c.cycle + kc)
    else c.track lb nb false (some (imgEnd c.cycle nb))
  let c := c.noteClass (c.tile t).cls.toNat
  s.setCore k { c with mmas := c.mmas ++ [j] }

/-- MMA (03 R68, 04 R93, 05 R133 to R135). -/
def execMma (io : Issue) (f : MmaF) (s : State) : Host.Outcome State Fault Refusal :=
  slotOp s io (infoMma io.core false f) (effMma io.core false f)

/-- MMA.SP (04 R108, R109). -/
def execMmaSp (io : Issue) (f : MmaF) (s : State) : Host.Outcome State Fault Refusal :=
  slotOp s io (infoMma io.core true f) (effMma io.core true f)

/-! ## Tile transfers -/

/-- A store by an operation of the matrix engine or the memory is held by a frame-state rule (03 R64). -/
def fsHolds (s : State) (k a : Nat) : List (Nat × Nat) := if s.fsHold k a then [(9, 0)] else []

def infoTcvt (k : Nat) (acc : BitVec 3) (fmt : BitVec 4) (img : ImgF) (s : State) : Op :=
  let c := s.core k
  let a := imgEa c img.ra img.offA
  { slot := .mat, opc := 4, illegal := decide (9 < fmt.toNat), governed := true, adds := true
    srcs := [(0, img.ra.toNat), (3, acc.toNat)]
    accs := [⟨a, convLen fmt.toNat, true, .core⟩]
    holds := xferHold c ++ fsHolds s k a }

/-- A transfer of `n` bytes by the MAT-C engine starts; it is complete `fix` + w + ⌈n / 128⌉ cycles after issue. -/
def startXfer (c : Core) (j : XferJob) (fix n : Nat) : Core :=
  let r := wheelRun c .matC c.cycle j.addr (n / 64)
  let c := ((c.newTag).track j.addr n (j.kind != .tadd) none (some r.first)).useEng .matC r
  { c with xfer := some { j with
    done := c.cycle + fix + r.w + (n + 127) / 128, hdrAt := if j.kind = .tadd then r.first + 1 else 0, tag := c.nextTag } }

def effTcvt (k : Nat) (acc : BitVec 3) (fmt : BitVec 4) (sat : Bool) (img : ImgF) (s : State) : State :=
  let c := s.core k
  let a := imgEa c img.ra img.offA
  let j : XferJob := { kind := .tcvt, tile := acc.toNat, vaddr := a, addr := s.phys k a, fmt := fmt, sat := sat }
  s.setCore k (s.noteStore k a ((c.tile acc.toNat).convert fmt.toNat sat).1
    (startXfer (c.noteTile acc.toNat) j 4 (convLen fmt.toNat)))
/-- TCVT (04 R103, R104, 05 R133). -/
def execTcvt (io : Issue) (acc : BitVec 3) (fmt : BitVec 4) (sat : Bool) (img : ImgF) (s : State) :
    Host.Outcome State Fault Refusal :=
  slotOp s io (infoTcvt io.core acc fmt img) (effTcvt io.core acc fmt sat img)

def infoTxf (k : Nat) (acc : BitVec 3) (row0 rowsM1 : BitVec 5) (img : ImgF) (s : State) : Op :=
  let c := s.core k
  let a := imgEa c img.ra img.offA
  { slot := .mat, opc := 5, illegal := decide (31 < row0.toNat + rowsM1.toNat), governed := true, adds := true
    srcs := [(0, img.ra.toNat), (3, acc.toNat)]
    accs := [⟨a, 64 + 1024 * (rowsM1.toNat + 1), true, .core⟩]
    holds := xferHold c ++ fsHolds s k a }
def effTxf (k : Nat) (acc : BitVec 3) (row0 rowsM1 : BitVec 5) (img : ImgF) (s : State) : State :=
  let c := s.core k
  let a := imgEa c img.ra img.offA
  let rows := rowsM1.toNat + 1
  let j : XferJob := { kind := .txf, tile := acc.toNat, vaddr := a, addr := s.phys k a, row0 := row0.toNat, rows := rows }
  s.setCore k (s.noteStore k a ((c.tile acc.toNat).exact row0.toNat rows)
    (startXfer (c.noteTile acc.toNat) j 4 (64 + 1024 * rows)))
/-- TXF (04 R106, 05 R133). -/
def execTxf (io : Issue) (acc : BitVec 3) (row0 rowsM1 : BitVec 5) (img : ImgF) (s : State) :
    Host.Outcome State Fault Refusal :=
  slotOp s io (infoTxf io.core acc row0 rowsM1 img) (effTxf io.core acc row0 rowsM1 img)

/-- The bytes that a TADD reads: the header gives the row count (05 R133). -/
def taddLen (s : State) (k a : Nat) : Nat := 64 + 1024 * min 32 (xHdr (s.viewRead k a 64)).rows

def infoTadd (k : Nat) (acc : BitVec 3) (img : ImgF) (s : State) : Op :=
  let c := s.core k
  let a := imgEa c img.ra img.offA
  { slot := .mat, opc := 6, governed := true, adds := true
    srcs := [(0, img.ra.toNat), (3, acc.toNat)]
    accs := [⟨a, 64, false, .core⟩]
    holds := (if s.rangeBusy k ⟨a, taddLen s k a, false, .core⟩ then [(3, 0)] else []) ++ xferHold c }
def effTadd (k : Nat) (acc : BitVec 3) (img : ImgF) (s : State) : State :=
  let c := s.core k
  let a := imgEa c img.ra img.offA
  let j : XferJob := { kind := .tadd, tile := acc.toNat, vaddr := a, addr := s.phys k a, pc := (s.snap k).pc }
  s.setCore k (startXfer (c.noteTile acc.toNat) j 6 (taddLen s k a))
/-- TADD (04 R107, 05 R133). -/
def execTadd (io : Issue) (acc : BitVec 3) (img : ImgF) (s : State) : Host.Outcome State Fault Refusal :=
  slotOp s io (infoTadd io.core acc img) (effTadd io.core acc img)

def infoTstat (k : Nat) (acc : BitVec 3) (sd : BitVec 5) (s : State) : Op :=
  { slot := .mat, opc := 7, governed := true, srcs := [(3, acc.toNat)], dsts := [(0, sd.toNat)]
    names := if sd = 0 then [] else [(0, sd.toNat)], holds := xferHold (s.core k) }
def effTstat (k : Nat) (acc : BitVec 3) (sd : BitVec 5) (s : State) : State :=
  s.updCore k (fun c => (c.noteTile acc.toNat).send (.sreg sd.toNat (BitVec.ofNat 64 (c.tile acc.toNat).stat)) 1)
/-- TSTAT (04 R97, 05 R133). -/
def execTstat (io : Issue) (acc : BitVec 3) (sd : BitVec 5) (s : State) : Host.Outcome State Fault Refusal :=
  slotOp s io (infoTstat io.core acc sd) (effTstat io.core acc sd)

/-! ## Completions -/

/-- MMA_COMPLETE: the core's clock reaches the cycle in which the oldest MMA's tile is readable (03 R68). `e` is what
the halves of the multiplier array and the checksum datapaths found on the way (10 R263, R266). -/
def execMmaComplete (core : Nat) (e : TileEnd) (s : State) : Host.Outcome State Fault Refusal :=
  onPart (okCore core)
    (match (s.core core).mmas.head? with
    | some j => ((s.runTo core j.done).sieveErr core j.tile e.off).mmaDup core j e.dup
    | none => s)

/-- TILE_TRANSFER_COMPLETE: the core's clock reaches the end of the tile transfer (05 R133). -/
def execTileTransferComplete (core : Nat) (e : TileEnd) (ecc : Ecc) (s : State) :
    Host.Outcome State Fault Refusal :=
  onPart (okCore core)
    (match (s.core core).xfer with
    | some j =>
      let s := s.settle core (j.done - 1)
      let s := match (s.core core).xfer with
        | some j => s.xferEnd core j e.dup ecc e.off
        | none => s
      s.runTo core j.done
    | none => s)

end Sys2Proof.Machine
end

