-- ==== Sys2Proof/Machine/Sync.lean ====
section
/-! DEFINITION. The SYNC slot (05 R129 to R131), the NOP of every slot (R121), and results written (03 R62). -/

namespace Sys2Proof.Machine

/-- NOP of a slot: nothing for one cycle (05 R121). -/
def infoNop (slot : Slot) (_ : State) : Op := { slot := slot, opc := 0 }
def execNop (io : Issue) (slot : Slot) (s : State) : Host.Outcome State Fault Refusal :=
  slotOp s io (infoNop slot) id

/-- SYNC opcode 0x1F and every opcode that a slot's table does not list are illegal, and the record of the freeze names
them (05 R122, R130, R133, R137, R141, R143, R148). -/
def infoIll (sl : Slot) (opc : BitVec 7) (_ : State) : Op := { slot := sl, opc := opc.toNat, illegal := true }
def execIll (q : IllF) (s : State) : Host.Outcome State Fault Refusal :=
  slotOp s q.io (infoIll q.slot q.opc) id

/-- The 16-bit operand of WAIT.AC, AC.SET and AC.ADD, or the low 32 bits of a scalar register (05 R129). -/
def acOperand (c : Core) (src : Bool) (imm : BitVec 16) (sext : Bool) : BitVec 32 :=
  if src then (c.sreg (imm.toNat % 32)).setWidth 32 else if sext then imm.signExtend 32 else imm.setWidth 32

/-- With SRC = 1 the bits above the register number are reserved (05 R129, R148). -/
def acIllegal (src : Bool) (imm : BitVec 16) : Bool := src && decide (32 ≤ imm.toNat)
def acSrcs (src : Bool) (imm : BitVec 16) : List (Nat × Nat) := if src then [(0, imm.toNat % 32)] else []

/-- WAIT.AC holds until ac[IDX] is at least the threshold, and can subtract it (05 R130). -/
def infoWaitAc (k : Nat) (idx : BitVec 6) (src : Bool) (imm : BitVec 16) (s : State) : Op :=
  let c := s.core k
  { slot := .sync, opc := 1, illegal := acIllegal src imm, srcs := acSrcs src imm
    holds := if c.ac idx.toNat < acOperand c src imm false then [(5, idx.toNat)] else [] }
def effWaitAc (k : Nat) (idx : BitVec 6) (cons src : Bool) (imm : BitVec 16) (s : State) : State :=
  if cons then s.updCore k (fun c => c.setAc idx.toNat (c.ac idx.toNat - acOperand c src imm false)) else s
def execWaitAc (io : Issue) (idx : BitVec 6) (cons src : Bool) (imm : BitVec 16) (s : State) :
    Host.Outcome State Fault Refusal :=
  slotOp s io (infoWaitAc io.core idx src imm) (effWaitAc io.core idx cons src imm)

/-- Slot ARG of a queue holds a completion; or the ARG oldest entries have completed (05 R130). -/
def queueReady (c : Core) (q : Nat) (count : Bool) (arg : Nat) : Bool :=
  let l := c.queue q
  if count then decide (arg ≤ l.length) && (l.take arg).all (fun e => e.done)
  else l.any (fun e => e.num % 64 == arg && e.done)

/-- WAIT.Q (05 R130): QMODE 1 retires the entries it waited for. -/
def infoWaitQ (k : Nat) (q : BitVec 2) (count : Bool) (arg : BitVec 7) (s : State) : Op :=
  { slot := .sync, opc := 2
    illegal := if count then arg.toNat == 0 || decide (64 < arg.toNat) else decide (63 < arg.toNat)
    holds := if queueReady (s.core k) q.toNat count arg.toNat then [] else [(5, 64 + q.toNat)] }
def effWaitQ (k : Nat) (q : BitVec 2) (count : Bool) (arg : BitVec 7) (s : State) : State :=
  if count then s.updCore k (fun c => c.setQueue q.toNat ((c.queue q.toNat).drop arg.toNat)) else s
def execWaitQ (io : Issue) (q : BitVec 2) (count : Bool) (arg : BitVec 7) (s : State) :
    Host.Outcome State Fault Refusal :=
  slotOp s io (infoWaitQ io.core q count arg) (effWaitQ io.core q count arg)

/-- Messages of a ring that count towards WAIT.CH (06 R167); flits of an operand port not yet consumed (07 R181). -/
def ringCount (r : Ring) : Nat := (r.recs.filter (fun x => x.done && !x.skip)).length
def portCount (c : Core) (ch : Nat) : Nat :=
  (c.land ch).length + ((c.bbufs.filter (fun b => b.ch == ch && b.busyTill == 0)).map (fun b => b.flits.length)).sum
def chCount (c : Core) (kind ch : Nat) : Nat := if kind = 1 then portCount c ch else ringCount (c.ring ch)

/-- WAIT.CH (05 R130, 07 R525). -/
def infoWaitCh (k : Nat) (ch : BitVec 4) (arg : BitVec 7) (s : State) : Op :=
  let kind := s.inKind k ch.toNat
  { slot := .sync, opc := 3
    illegal := arg.toNat == 0 || decide (64 < arg.toNat) || (kind == 1 && decide (16 < arg.toNat))
    unbound := kind != 1 && kind != 2
    holds := if chCount (s.core k) kind ch.toNat < arg.toNat then [(5, 128 + ch.toNat)] else [] }
def execWaitCh (io : Issue) (ch : BitVec 4) (arg : BitVec 7) (s : State) : Host.Outcome State Fault Refusal :=
  slotOp s io (infoWaitCh io.core ch arg) id

/-- WAIT.LD holds until the entry is COMPLETE (05 R130, 07 R184). -/
def infoWaitLd (k : Nat) (ld : BitVec 5) (s : State) : Op :=
  { slot := .sync, opc := 4
    holds := if ((s.core k).ladle ld.toNat).st = .complete then [] else [(5, 256 + ld.toNat)] }
def execWaitLd (io : Issue) (ld : BitVec 5) (s : State) : Host.Outcome State Fault Refusal :=
  slotOp s io (infoWaitLd io.core ld) id

/-- AC.SET (05 R130). -/
def infoAcSet (src : Bool) (imm : BitVec 16) (_ : State) : Op :=
  { slot := .sync, opc := 5, illegal := acIllegal src imm, srcs := acSrcs src imm }
def effAcSet (k : Nat) (idx : BitVec 6) (src : Bool) (imm : BitVec 16) (s : State) : State :=
  s.updCore k (fun c => c.setAc idx.toNat (acOperand c src imm false))
def execAcSet (io : Issue) (idx : BitVec 6) (src : Bool) (imm : BitVec 16) (s : State) :
    Host.Outcome State Fault Refusal :=
  slotOp s io (infoAcSet src imm) (effAcSet io.core idx src imm)

/-- AC.ADD, modulo 2^32, with the immediate sign-extended (05 R130). -/
def infoAcAdd (src : Bool) (imm : BitVec 16) (_ : State) : Op :=
  { slot := .sync, opc := 6, illegal := acIllegal src imm, srcs := acSrcs src imm }
def effAcAdd (k : Nat) (idx : BitVec 6) (src : Bool) (imm : BitVec 16) (s : State) : State :=
  s.updCore k (fun c => c.setAc idx.toNat (c.ac idx.toNat + acOperand c src imm true))
def execAcAdd (io : Issue) (idx : BitVec 6) (src : Bool) (imm : BitVec 16) (s : State) :
    Host.Outcome State Fault Refusal :=
  slotOp s io (infoAcAdd src imm) (effAcAdd io.core idx src imm)

/-- The core has an uncompleted queue entry, or a send that has not left its send queue (05 R131). -/
def markWaits (c : Core) : Bool :=
  (List.range 4).any (fun q => (c.queue q).any (fun e => !e.done)) || (List.range 16).any (fun ch => !(c.sq ch).isEmpty)

/-- Lateness at a mark in nanoseconds (03 R67): time since the first bundle less index / f_floor, the quotient rounded down
(log 54). -/
def lateness (s : State) (k index : Nat) : Nat :=
  let c := s.core k
  let tm := s.coreTime k c.cycle
  let fl := opMHz (match s.prog with | some p => p.floor | none => 0)
  (tm - c.firstTime.getD tm) - index * 1000 / fl

/-- MARK (05 R131). -/
def infoMark (k : Nat) (last : Bool) (s : State) : Op :=
  { slot := .sync, opc := 8, holds := if last && markWaits (s.core k) then [(5, 511)] else [] }
def effMark (k : Nat) (last : Bool) (index4 : BitVec 26) (s : State) : State :=
  s.updCore k (fun c => { c with
    ordinal := c.ordinal + 1, lastMark := last, late := max c.late (lateness s k (4 * index4.toNat)) })
def execMark (io : Issue) (last : Bool) (index4 : BitVec 26) (s : State) : Host.Outcome State Fault Refusal :=
  slotOp s io (infoMark io.core last) (effMark io.core last index4)

/-- PWR.HINT (03 R76): the hint reaches the governor 100 ns after issue; its step time is when the core's cycle count
reaches issue plus lead. -/
def infoPwrHint (level : BitVec 5) (_ : State) : Op := { slot := .sync, opc := 0x0C, illegal := decide (16 < level.toNat) }
def effPwrHint (k : Nat) (level : BitVec 5) (lead : BitVec 17) (s : State) : State :=
  s.updCore k (fun c => { c with
    hints := c.hints ++ [(s.coreTime k c.cycle + 100, level.toNat, s.coreTime k (c.cycle + lead.toNat))] })
def execPwrHint (io : Issue) (level : BitVec 5) (lead : BitVec 17) (s : State) : Host.Outcome State Fault Refusal :=
  slotOp s io (infoPwrHint level) (effPwrHint io.core level lead)

/-- The next cycle at which a result in flight is written. -/
def nextDue (c : Core) : Option Nat :=
  c.pend.foldl
    (fun r p => match r with | none => some p.ready | some x => some (min x p.ready)) none

/-- RESULT_WRITEBACK: the core's clock reaches the next due result, which is written (03 R62); the fetch of the next
bundle is checked (03 R60). -/
def execResultWriteback (core : Nat) (ecc : Ecc) (s : State) : Host.Outcome State Fault Refusal :=
  onPart (okCore core)
    (match nextDue (s.core core) with
    | some t => (s.advance core t).imemEcc core ecc
    | none => s.imemEcc core ecc)

end Sys2Proof.Machine
end

