-- ==== Sys2Proof/Machine/Mov.lean ====
section
/-! DEFINITION. The MOV slot (05 R140, R141): loads and stores, FILL and COPY (06 R157), sends (07), CH.REL (06 R168),
SHRD (06 R170), queue operations (08), LD.ARM (07 R184). -/

namespace Sys2Proof.Machine

/-- Fields that an opcode leaves reserved, by name (05 R140). -/
def rsvX (f : MovF) : Bool := f.x != 0
def rsvRa (f : MovF) : Bool := f.ra != 0
def rsvRb (f : MovF) : Bool := f.rb != 0
def rsvSz (f : MovF) : Bool := f.sz != 0
def rsvRoff (f : MovF) : Bool := f.roff != 0
def rsvN (f : MovF) : Bool := f.n != 0
def rsvOff (f : MovF) : Bool := f.off != 0

/-- N + 1. -/
def cnt (f : MovF) : Nat := f.n.toNat + 1

/-- A range in the scoreboard until a cycle, under a tag of its own. -/
def trackUntil (c : Core) (lo n : Nat) (wr : Bool) (till first : Nat) : Core := c.newTag.track lo n wr (some till) (some first)

/-- The cycle from which an access counts, and its transfers on an engine: after the bundle's issue, and after the MAT operation
of the bundle has passed the bytes (05 R146). -/
def State.accFrom (s : State) (k a n : Nat) (wr : Bool) : Nat := max (s.core k).cycle (s.waitsFor k a n wr - 1)
def State.accRun (s : State) (k : Nat) (e : Eng) (a n : Nat) (wr : Bool) : Run :=
  wheelRun (s.core k) e (s.accFrom k a n wr) a ((n + 63) / 64)

/-! ## Scalar loads and stores -/

/-- Width in bytes of SZ (05 R141). -/
def szBytes (sz : Nat) : Nat := match sz % 4 with | 0 => 1 | 1 => 2 | 2 => 4 | _ => 8

def infoLds (k : Nat) (f : MovF) (s : State) : Op :=
  let n := szBytes f.sz.toNat
  { slot := .mov, opc := 1, illegal := f.sz == 7 || rsvRb f || rsvRoff f || rsvN f, adds := true, reads := true
    names := if f.x = 0 then [] else [(0, f.x.toNat)], srcs := [(0, f.ra.toNat)], dsts := [(0, f.x.toNat)]
    accs := [⟨alignTo n (movEa (s.core k) f), n, false, .core⟩] }
def effLds (k : Nat) (f : MovF) (s : State) : State :=
  let c := s.core k
  let n := szBytes f.sz.toNat
  let a := s.phys k (alignTo n (movEa c f))
  let r := s.accRun k .ctl a n false
  s.setCore k (((trackUntil c a n false (r.last + 1) r.first).useEng .ctl r).send
    (.load f.x.toNat a n (decide (4 ≤ f.sz.toNat))) (s.accFrom k a n false - c.cycle + 4 + r.w))
/-- LDS (05 R141). -/
def execLds (io : Issue) (f : MovF) (s : State) : Host.Outcome State Fault Refusal :=
  slotOp s io (infoLds io.core f) (effLds io.core f)

def infoSts (k : Nat) (f : MovF) (s : State) : Op :=
  let n := szBytes f.sz.toNat
  let a := alignTo n (movEa (s.core k) f)
  { slot := .mov, opc := 2, illegal := decide (3 < f.sz.toNat) || rsvRb f || rsvRoff f || rsvN f, adds := true
    reads := decide (f.sz.toNat < 3), srcs := [(0, f.ra.toNat), (0, f.x.toNat)]
    accs := [⟨a, n, true, .core⟩], holds := fsHolds s k a }
/-- A read-modify-write that finds a double-bit error does not write (06 R152, R162). -/
def effSts (k : Nat) (f : MovF) (ecc : Ecc) (s : State) : State :=
  let c := s.core k
  let n := szBytes f.sz.toNat
  let va := alignTo n (movEa c f)
  let a := s.phys k va
  let b := bytesLE n (c.sreg f.x.toNat).toNat
  let r := s.accRun k .ctl a n true
  let t := s.accFrom k a n true
  let c := (trackUntil c a n true (t + 3 + r.w) r.first).useEng .ctl r
  if ecc = .double ∧ n < 8 then s.setCore k c
  else s.setCore k (s.noteStore k va b (c.send (.store a b) (t - c.cycle + 3 + r.w)))
/-- STS (05 R141). -/
def execSts (io : Issue) (f : MovF) (s : State) : Host.Outcome State Fault Refusal :=
  slotOp s io (infoSts io.core f) (effSts io.core f io.ecc)

/-! ## Vector loads and stores -/

/-- ROFF + N > 3 (05 R141). -/
def lineBad (f : MovF) : Bool := decide (3 < f.roff.toNat + f.n.toNat)

def infoLdv (k : Nat) (f : MovF) (s : State) : Op :=
  { slot := .mov, opc := 3, illegal := lineBad f || rsvRb f || rsvSz f, adds := true, reads := true
    names := [(1, f.x.toNat)], srcs := [(0, f.ra.toNat)], dsts := [(1, f.x.toNat)]
    accs := [⟨alignTo 64 (movEa (s.core k) f), 64 * cnt f, false, .core⟩] }
def effLdv (k : Nat) (f : MovF) (s : State) : State :=
  let c := s.core k
  let a := s.phys k (alignTo 64 (movEa c f))
  let r := s.accRun k .vec a (64 * cnt f) false
  s.setCore k (((trackUntil c a (64 * cnt f) false (r.last + 1) r.first).useEng .vec r).send
    (.loadv f.x.toNat f.roff.toNat a (cnt f)) (s.accFrom k a (64 * cnt f) false - c.cycle + 4 + r.w))
/-- LDV (05 R141). -/
def execLdv (io : Issue) (f : MovF) (s : State) : Host.Outcome State Fault Refusal :=
  slotOp s io (infoLdv io.core f) (effLdv io.core f)

/-- The bytes of lines of a vector register. -/
def vregBytes (c : Core) (r line n : Nat) : Bytes :=
  (List.range (16 * n)).flatMap (fun i => bytesLE 4 (c.lane r (16 * line + i)).toNat)

def infoStv (k : Nat) (f : MovF) (s : State) : Op :=
  let a := alignTo 64 (movEa (s.core k) f)
  { slot := .mov, opc := 4, illegal := lineBad f || rsvRb f || rsvSz f, adds := true
    srcs := [(0, f.ra.toNat), (1, f.x.toNat)]
    accs := [⟨a, 64 * cnt f, true, .core⟩], holds := fsHolds s k a }
def effStv (k : Nat) (f : MovF) (s : State) : State :=
  let c := s.core k
  let va := alignTo 64 (movEa c f)
  let a := s.phys k va
  let b := vregBytes c f.x.toNat f.roff.toNat (cnt f)
  let r := s.accRun k .vec a (64 * cnt f) true
  let t := s.accFrom k a (64 * cnt f) true
  let c := ((trackUntil c a (64 * cnt f) true (t + 3 + r.w) r.first).useEng .vec r).send (.store a b) (t - c.cycle + 3 + r.w)
  s.setCore k (s.noteStore k va b c)
/-- STV (05 R141). -/
def execStv (io : Issue) (f : MovF) (s : State) : Host.Outcome State Fault Refusal :=
  slotOp s io (infoStv io.core f) (effStv io.core f)

/-! ## FILL and COPY (06 R157) -/

def infoFill (k : Nat) (f : MovF) (s : State) : Op :=
  let a := alignTo 64 (movEa (s.core k) f)
  { slot := .mov, opc := 5, illegal := rsvX f || rsvRoff f || decide (1 < f.sz.toNat), adds := true
    srcs := [(0, f.ra.toNat), (0, f.rb.toNat)]
    accs := [⟨a, movLen f, true, .core⟩], holds := fsHolds s k a }
def effFill (k : Nat) (f : MovF) (s : State) : State :=
  let c := s.core k
  let va := alignTo 64 (movEa c f)
  let a := s.phys k va
  let n := movLen f
  let v := c.sreg f.rb.toNat
  let r := s.accRun k .ctl a n true
  let c := (c.newTag.track a n true none (some r.first)).useEng .ctl r
  let j : MemJob := { fill := true, src := 0, dst := a, len := n, value := v, done := r.last + 1, tag := c.nextTag }
  s.setCore k (s.noteStore k va ((List.range (n / 8)).flatMap (fun _ => bytesLE 8 v.toNat)) { c with mem := c.mem ++ [j] })
/-- FILL (06 R157). -/
def execFill (io : Issue) (f : MovF) (s : State) : Host.Outcome State Fault Refusal :=
  slotOp s io (infoFill io.core f) (effFill io.core f)

/-- The source of a COPY: s[RB], with its low six bits ignored. -/
def copySrc (c : Core) (f : MovF) : Nat := alignTo 64 (c.sreg f.rb.toNat).toNat

def infoCopy (k : Nat) (f : MovF) (s : State) : Op :=
  let c := s.core k
  let d := alignTo 64 (movEa c f)
  let a := copySrc c f
  let n := movLen f
  { slot := .mov, opc := 6, illegal := rsvX f || rsvRoff f || decide (1 < f.sz.toNat), adds := true, reads := true
    srcs := [(0, f.ra.toNat), (0, f.rb.toNat)]
    accs := [⟨d, n, true, .core⟩, ⟨a, n, false, .core⟩], holds := fsHolds s k d
    dyn := if a < d + n ∧ d < a + n then some 5 else none }
def effCopy (k : Nat) (f : MovF) (s : State) : State :=
  let c := s.core k
  let vd := alignTo 64 (movEa c f)
  let d := s.phys k vd
  let a := s.phys k (copySrc c f)
  let n := movLen f
  let t := max (s.accFrom k a n false) (s.accFrom k d n true)
  let rd := copyRead c t a d (n / 64)
  let wr := copyWrite c t a d (n / 64)
  let c := (((c.newTag.track d n true none (some wr.first)).track a n false none (some rd.first)).useEng .ctl rd).useEng .vec wr
  let c := { c with mem := c.mem ++
    [{ fill := false, src := a, dst := d, len := n, value := 0, done := wr.last + 1, tag := c.nextTag }] }
  s.setCore k (s.noteStore k vd (s.spadRead k a n) c)
/-- COPY (06 R157, 05 R141). -/
def execCopy (io : Issue) (f : MovF) (s : State) : Host.Outcome State Fault Refusal :=
  slotOp s io (infoCopy io.core f) (effCopy io.core f)

/-- FILL_COPY_END: the core's clock reaches the end of the oldest FILL or COPY (06 R157). -/
def execFillCopyEnd (core : Nat) (s : State) : Host.Outcome State Fault Refusal :=
  onPart (okCore core)
    (match (s.core core).mem.head? with
    | some j => s.runTo core j.done
    | none => s)

/-! ## Sends (07 R173 to R183) -/

/-- The kinds that a send accepts (07 R525). -/
def sendable (kind : Nat) : Bool := kind == 4 || kind == 5 || kind == 6

/-- The ranges of the inbound bindings that a window channel reaches. -/
def State.sinkSizes (s : State) (k ch : Nat) : List Nat :=
  match s.bindOut k ch with
  | some b => (s.sinks k ch).map (fun v => match (s.bindingsOf v).find? (fun x => x.ch == b.peerCh) with
    | some x => x.size | none => 0)
  | none => []

/-- A message that does not lie inside the destination range (07 R182). -/
def outside (s : State) (k ch off n : Nat) : Option Nat :=
  if s.toWindow k ch && (s.sinkSizes k ch).any (fun z => decide (z < off + 64 * n)) then some 9 else none

/-- A message's flits put behind those of a send queue. -/
def queueMsg (c : Core) (ch : Nat) (l : List (Flit × Option Nat)) (off tag after : Nat) : Core :=
  c.setSq ch (c.sq ch ++ (List.range l.length).map (fun i =>
    let x := l.getD i (0, none)
    { data := x.1, src := x.2, idx := i, total := l.length, off := off / 64, tag := tag, after := after }))

def infoSend (k : Nat) (f : MovF) (s : State) : Op :=
  let c := s.core k
  let ch := f.x.toNat
  let win := s.toWindow k ch
  { slot := .mov, opc := 8, adds := true, reads := true
    illegal := decide (15 < ch) || rsvSz f || rsvRoff f || (!win && rsvRb f)
    unbound := !sendable (s.outKind k ch)
    srcs := [(0, f.ra.toNat)] ++ (if win then [(0, f.rb.toNat)] else [])
    accs := [⟨alignTo 64 (movEa c f), 64 * cnt f, false, .ni⟩]
    holds := if 8 ≤ (c.sq ch).length then [(7, 512 + ch)] else []
    dyn := outside s k ch (alignTo 64 (c.sreg f.rb.toNat).toNat) (cnt f) }
def effSend (k : Nat) (f : MovF) (s : State) : State :=
  let c := s.core k
  let a := s.phys k (alignTo 64 (movEa c f))
  let off := if s.toWindow k f.x.toNat then alignTo 64 (c.sreg f.rb.toNat).toNat else 0
  let after := s.waitsFor k a (64 * cnt f) false
  let c := c.newTag.track a (64 * cnt f) false none
  (s.setCore k (queueMsg c f.x.toNat ((List.range (cnt f)).map (fun i => (0, some (a + 64 * i)))) off c.nextTag after)).fillSend
    k f.x.toNat
/-- SEND (05 R141, 07 R182). -/
def execSend (io : Issue) (f : MovF) (s : State) : Host.Outcome State Fault Refusal :=
  slotOp s io (infoSend io.core f) (effSend io.core f)

def infoSendv (k : Nat) (f : MovF) (s : State) : Op :=
  let c := s.core k
  let ch := f.x.toNat
  let win := s.toWindow k ch
  { slot := .mov, opc := 9
    illegal := decide (15 < ch) || rsvSz f || lineBad f || rsvOff f || (!win && rsvRa f)
    unbound := !sendable (s.outKind k ch)
    srcs := [(1, f.rb.toNat)] ++ (if win then [(0, f.ra.toNat)] else [])
    holds := if 8 ≤ (c.sq ch).length then [(7, 512 + ch)] else []
    dyn := outside s k ch (alignTo 64 (c.sreg f.ra.toNat).toNat) (cnt f) }
def effSendv (k : Nat) (f : MovF) (s : State) : State :=
  s.updCore k (fun c =>
    let off := if s.toWindow k f.x.toNat then alignTo 64 (c.sreg f.ra.toNat).toNat else 0
    queueMsg c f.x.toNat ((toFlits (cnt f) (vregBytes c f.rb.toNat f.roff.toNat (cnt f))).map (fun d => (d, none))) off 0 0)
/-- SENDV (05 R141). -/
def execSendv (io : Issue) (f : MovF) (s : State) : Host.Outcome State Fault Refusal :=
  slotOp s io (infoSendv io.core f) (effSendv io.core f)

/-! ## CH.REL (06 R168) -/

/-- The oldest `n` messages released; the head moves past a skip record that follows them, to 0. -/
def ringRelease : Nat → List RingRec → List RingRec × Nat × Nat → List RingRec × Nat × Nat
  | _, [], r => ([], r.2)
  | 0, x :: t, r => if x.skip then (t, 0, r.2.2 + x.foot) else (x :: t, r.2)
  | n + 1, x :: t, r =>
    if x.skip then ringRelease (n + 1) t ([], 0, r.2.2 + x.foot)
    else ringRelease n t ([], x.addr + x.foot, r.2.2 + x.foot)

/-- A ring after the release of `n` messages. -/
def Ring.release (r : Ring) (size n : Nat) : Ring :=
  let x := ringRelease n r.recs ([], r.h, 0)
  { r with recs := x.1, h := if x.2.1 = size then 0 else x.2.1, u := r.u - x.2.2 }

/-- The size S of the ring of an inbound channel. -/
def State.ringSize (s : State) (k ch : Nat) : Nat := match s.bindIn k ch with | some b => b.size | none => 0

def infoChRel (k : Nat) (f : MovF) (s : State) : Op :=
  let ch := f.x.toNat
  { slot := .mov, opc := 10
    illegal := decide (15 < ch) || rsvRa f || rsvRb f || rsvSz f || rsvRoff f || rsvOff f
    unbound := s.inKind k ch != 2
    holds := if ringCount ((s.core k).ring ch) < cnt f then [(5, 128 + ch)] else [] }
def effChRel (k : Nat) (f : MovF) (s : State) : State :=
  let ch := f.x.toNat
  s.updCore k (fun c => c.setRing ch ((c.ring ch).release (s.ringSize k ch) (cnt f)))
/-- CH.REL (06 R168, 05 R141). -/
def execChRel (io : Issue) (f : MovF) (s : State) : Host.Outcome State Fault Refusal :=
  slotOp s io (infoChRel io.core f) (effChRel io.core f)

/-! ## SHRD (06 R169, R170) -/

/-- The byte offset in the shared window. -/
def shrdOff (c : Core) (f : MovF) : Nat := alignTo 64 (c.sreg f.rb.toNat).toNat

def infoShrd (k : Nat) (f : MovF) (s : State) : Op :=
  let c := s.core k
  let ch := f.x.toNat
  { slot := .mov, opc := 11, illegal := decide (15 < ch) || rsvSz f || rsvRoff f
    unbound := s.outKind k ch != 7
    holds := if c.outbox.any (fun p => (pktH p).type == 5) then [(7, 512 + ch)] else []
    srcs := [(0, f.ra.toNat), (0, f.rb.toNat)]
    accs := [⟨alignTo 64 (movEa c f), 64 * cnt f, true, .ni⟩]
    dyn := match s.bindOut k ch with
      | some b => if b.size < shrdOff c f + 64 * cnt f then some 3 else none
      | none => some 3 }
def effShrd (k : Nat) (f : MovF) (s : State) : State :=
  let c := s.core k
  match s.bindOut k f.x.toNat with
  | some b =>
    let arg := shrdOff c f / 64 + (cnt f - 1) * 2 ^ 13 + alignTo 64 (movEa c f) / 64 * 2 ^ 19
    let h := s.coreHdr k { type := 5, vc := 1, dkind := 0, dst := b.peer, sch := f.x.toNat, arg := arg }
    s.setCore k { c with outbox := c.outbox ++ [{ hdr := h.flit, payload := [] }] }
  | none => s
/-- SHRD (06 R170, 05 R141). While an earlier request of the core has no room at its owner, the core is held as a send is
(06 R170, 09 R234; log 52). -/
def execShrd (io : Issue) (f : MovF) (s : State) : Host.Outcome State Fault Refusal :=
  slotOp s io (infoShrd io.core f) (effShrd io.core f)

/-! ## Queue operations (08 R210, R212, R216) -/

/-- The queue has no room for `n` entries (03 R64). -/
def qFull (c : Core) (q n : Nat) : List (Nat × Nat) := if 64 < (c.queue q).length + n then [(6, 64 + q)] else []

/-- An entry allocated in issue order. -/
def alloc (c : Core) (q : Nat) (e : QEnt) : Core :=
  let n := SMap.get zeroD c.qCount q
  { c.setQueue q (c.queue q ++ [{ e with num := n, issueTime := c.cycle }]) with qCount := SMap.put zeroD c.qCount q (n + 1) }

/-- The HBM address of a queue operation: s[RB], with its low six bits ignored (08 R202). -/
def qAddr (c : Core) (f : MovF) : Nat := alignTo 64 (c.sreg f.rb.toNat).toNat

def infoQRd (k : Nat) (f : MovF) (s : State) : Op :=
  let c := s.core k
  let a := alignTo 64 (movEa c f)
  { slot := .mov, opc := 0x10, illegal := decide (3 < f.x.toNat) || rsvSz f || rsvRoff f
    srcs := [(0, f.ra.toNat), (0, f.rb.toNat)]
    accs := [⟨a, 64 * cnt f, true, .engine⟩], holds := qFull c f.x.toNat 1 ++ fsHolds s k a
    dyn := if s.hbmAllows k (qAddr c f) (64 * cnt f) false then none else some 3 }
def effQRd (k : Nat) (f : MovF) (s : State) : State :=
  let c := s.core k
  let a := s.phys k (alignTo 64 (movEa c f))
  s.setCore k (alloc c f.x.toNat { num := 0, write := false, lines := cnt f, spad := a, haddr := qAddr c f, issueTime := 0
                                   pc := (s.snap k).pc, after := s.waitsFor k a (64 * cnt f) true })
/-- Q.RD (08 R210). -/
def execQRd (io : Issue) (f : MovF) (s : State) : Host.Outcome State Fault Refusal :=
  slotOp s io (infoQRd io.core f) (effQRd io.core f)

/-- A Q.WR to the read view of an HFS region is a store to the frame-state read buffer (11 R306). -/
def qwrViol (s : State) (k h n : Nat) : Option Nat :=
  if s.hbmAllows k h n true then none
  else match s.findHbm k h n with
    | some (_, r) => if inHfsRead r h then some 4 else some 3
    | none => some 3

def infoQWr (k : Nat) (f : MovF) (s : State) : Op :=
  let c := s.core k
  let h := qAddr c f
  { slot := .mov, opc := 0x11, illegal := decide (3 < f.x.toNat) || rsvSz f || rsvRoff f, reads := true
    srcs := [(0, f.ra.toNat), (0, f.rb.toNat)]
    accs := [⟨alignTo 64 (movEa c f), 64 * cnt f, false, .engine⟩]
    holds := qFull c f.x.toNat 1 ++ (if s.hbmHold k h (64 * cnt f) then [(9, 0)] else [])
    dyn := qwrViol s k h (64 * cnt f) }
def effQWr (k : Nat) (f : MovF) (s : State) : State :=
  let c := s.core k
  let a := s.phys k (alignTo 64 (movEa c f))
  s.setCore k (alloc c f.x.toNat { num := 0, write := true, lines := cnt f, spad := a, haddr := qAddr c f, issueTime := 0
                                   pc := (s.snap k).pc, after := s.waitsFor k a (64 * cnt f) false })
/-- Q.WR (08 R210). -/
def execQWr (io : Issue) (f : MovF) (s : State) : Host.Outcome State Fault Refusal :=
  slotOp s io (infoQWr io.core f) (effQWr io.core f)

/-- The line of Q.GATH's first descriptor: the address with its low six bits ignored, as Q.RD's and Q.WR's are (DESIGN CHOICE,
log 68: descriptors are 32 bytes, two to a line). -/
def infoQGath (k : Nat) (f : MovF) (s : State) : Op :=
  let c := s.core k
  { slot := .mov, opc := 0x12, illegal := decide (3 < f.x.toNat) || rsvRb f || rsvSz f || rsvRoff f, reads := true
    srcs := [(0, f.ra.toNat)]
    accs := [⟨alignTo 64 (movEa c f), 32 * cnt f, false, .engine⟩]
    holds := qFull c f.x.toNat (cnt f) }
/-- One entry for each descriptor, in descriptor order; QOUT reads them afterwards (08 R216). -/
def effQGath (k : Nat) (f : MovF) (s : State) : State :=
  let c := s.core k
  let a := alignTo 64 (movEa c f)
  let pc := (s.snap k).pc
  s.setCore k ((List.range (cnt f)).foldl (fun c i =>
    let p := s.phys k (a + 32 * i)
    alloc c f.x.toNat { num := 0, write := false, lines := 0, spad := 0, haddr := 0, issueTime := 0, pc := pc
                        after := s.waitsFor k (alignTo 64 p) 64 false, desc := some p }) c)
/-- Q.GATH (08 R216). -/
def execQGath (io : Issue) (f : MovF) (s : State) : Host.Outcome State Fault Refusal :=
  slotOp s io (infoQGath io.core f) (effQGath io.core f)

/-! ## LD.ARM (07 R184 to R187) -/

/-- Contributors n and the mode of LD.ARM (05 R141). -/
def armN (f : MovF) : Nat := f.off.toNat % 64 + 1
def armOrdered (f : MovF) : Bool := f.sz.toNat / 2 % 2 == 1
/-- The bytes of the target, with the staging range of ordered mode. -/
def armLen (f : MovF) : Nat := if armOrdered f then movLen f else 64 + 1024 * cnt f
def armSpan (f : MovF) : Nat := if armOrdered f then movLen f * (1 + armN f) else armLen f
/-- Modes above 1, reserved OFF bits, and the two encodings that R184 names (05 R141, R148). -/
def armIllegal (f : MovF) : Bool :=
  decide (3 < f.sz.toNat) || decide (63 < f.off.toNat) || rsvRb f || rsvRoff f ||
  (!armOrdered f && (f.sz.toNat % 2 == 0 || decide (31 < f.n.toNat)))
def armTarget (c : Core) (f : MovF) : Nat := alignTo 64 (c.sreg f.ra.toNat).toNat

/-- A range lies wholly inside one LADLE window (07 R184). -/
def inLadle (s : State) (k a n : Nat) : Bool :=
  match findWin (s.coreWindows k) a n with | some w => w.kind == 7 | none => false

def infoLdArm (k : Nat) (f : MovF) (s : State) : Op :=
  let c := s.core k
  { slot := .mov, opc := 0x18, illegal := armIllegal f, srcs := [(0, f.ra.toNat)]
    accs := [⟨armTarget c f, armSpan f, true, .core⟩]
    holds := if (c.ladle f.x.toNat).st = .armed then [(5, 256 + f.x.toNat)] else []
    dyn := if inLadle s k (armTarget c f) (armSpan f) then none else some 3 }

/-- The entry as armed; what waits in the landing buffer stays (07 R184). In exact mode it reads the header of its target, after
the MAT operation of its bundle has passed it (07 R186, 05 R146). -/
def armed (s : State) (k : Nat) (f : MovF) : Ladle :=
  let c := s.core k
  let a := s.phys k (armTarget c f)
  let l : Ladle := { st := .armed, n := armN f, base := a, waiting := (c.ladle f.x.toNat).waiting }
  if armOrdered f then { l with ordered := true, len := movLen f }
  else
    let l := { l with len := 1024 * cnt f, rows := cnt f }
    let t := s.waitsFor k a (64 + 1024 * cnt f) true
    if t = 0 then l.header (s.spadRead k a 64) else { l with hdrAt := t }
def effLdArm (k : Nat) (f : MovF) (s : State) : State :=
  let l := armed s k f
  s.updCore k (fun c => { c.setLadle f.x.toNat l with armed := c.armed + armN f })
/-- LD.ARM (07 R184). -/
def execLdArm (io : Issue) (f : MovF) (s : State) : Host.Outcome State Fault Refusal :=
  slotOp s io (infoLdArm io.core f) (effLdArm io.core f)

end Sys2Proof.Machine
end

