-- ==== Sys2Proof/Machine/Net.lean ====
section
/-! DEFINITION. The data mesh: flits leave send queues, packets arrive (07 R173 to R183, 06 R163 to R171, 08 R201 to
R213, 09 R234 to R241), route-version entries and control-core traffic. -/

namespace Sys2Proof.Machine

/-! ## Leaving a send queue (07 R176) -/

/-- Credits an outbound channel has taken from a destination. -/
def Core.takenOf (c : Core) (ch v : Nat) : Nat := SMap.get zeroD c.taken (ch * 65536 + v)
def Core.setTaken (c : Core) (ch v n : Nat) : Core := { c with taken := SMap.put zeroD c.taken (ch * 65536 + v) n }

/-- The header of a channel message: its type by the kinds of its two bindings (09 R236, R238). -/
def State.msgHdr (s : State) (k ch : Nat) (b : Bnd) (total off seq : Nat) : Hdr :=
  let sq := seq % 65536 * 65536
  let h : Hdr := match b.kind with
    | 5 => { type := 3, dst := b.peer, dch := b.peerCh,
             arg := sq + b.spanEnd % 256 + (if b.flags / 2 % 2 = 1 then 256 else 0) }
    | 6 => { type := 4, dst := b.peer, arg := sq + b.contrib % 64 + b.peerCh % 32 * 64 }
    | _ => if s.toWindow k ch then { type := 2, dst := b.peer, dch := b.peerCh, arg := sq + off % 8192 }
           else ({ type := 1, dst := b.peer, dch := b.peerCh, arg := sq } : Hdr)
  s.coreHdr k { h with len := total, sch := ch }

/-- The sinks whose arrival counter a window message will increment (06 R163, 09 R253). -/
def State.countedSinks (s : State) (k ch : Nat) : Nat :=
  match s.bindOut k ch with
  | some b => ((s.sinks k ch).filter (fun v =>
      match (s.bindingsOf v).find? (fun x => x.ch == b.peerCh) with
      | some x => x.kind == 3 && decide (x.counter < 64)
      | none => false)).length
  | none => 0

/-- A flit leaves a send queue with one credit from each destination, one flit in a cycle (07 R176, 03 R73). The first flit of
a message brings the header flit, which counts against no credit (09 R236). The table of R238 gives a multicast no field for
the line offset of a window; it travels beside the header (log 12). -/
def State.flitOut (s : State) (k ch : Nat) (b : Bnd) (f : SFlit) : State :=
  let t := max (s.nowCycle k) (s.core k).netFree
  let seq := SMap.get zeroD (s.core k).seqOut ch
  let h := s.msgHdr k ch b f.total f.off seq
  let last := decide (f.idx + 1 = f.total)
  let c := (s.sinks k ch).foldl (fun c v => c.setTaken ch v (c.takenOf ch v + 1))
    ((s.core k).setSq ch (((s.core k).sq ch).drop 1))
  let c := { c with
    seqOut := if last then SMap.put zeroD c.seqOut ch (seq + 1) else c.seqOut
    netFree := t + 1, openSlot := none }
  let s := s.setCore k (s.notePath ch (flitBytes f.data) c)
  let s := s.injectFlit (max s.time (s.coreTime k t))
    { hdr := h.flit, payload := [], off := if b.kind = 5 then f.off else 0 } f.data (f.idx == 0)
  let s := if last then s.ledCreate (k / 272) 4 (s.countedSinks k ch) else s
  let s := if last && b.kind == 5 then s.count Obj.CH_MCAST_MESSAGES else s
  s.fillSend k ch

/-- The flits that have a place in the landing buffer of an inbound channel of a virtual core: in the mesh, or waiting there
(07 R175, R177, 09 R234). -/
def State.landingUsed (s : State) (v ch : Nat) : Nat :=
  ((s.net.flight.filter (fun x =>
      let h := pktH x.pkt
      h.dch == ch && (((h.type == 1 || h.type == 2) && h.dst == v) ||
        (h.type == 3 && (mcastSpan (bits h.arg 8 8 == 1) h.dst (bits h.arg 7 0) h.src).contains v)))).map
    (fun x => x.pkt.payload.length)).sum +
  match s.coreOf s.net.epochB v with
  | some k => (((s.core k).ring ch).waiting.map (fun p => p.payload.length)).sum + ((s.core k).land ch).length
  | none => 0

/-- Every destination of a channel has a credit for the sender and room in its landing buffer (07 R176, R177). -/
def State.roomFor (s : State) (k ch : Nat) (b : Bnd) : Bool :=
  (s.sinks k ch).all (fun v => decide ((s.core k).takenOf ch v < 16) && (b.kind == 6 || decide (s.landingUsed v b.peerCh < 16)))

/-- FLIT_INJECT (07 R176). -/
def execFlitInject (core ch : Nat) (s : State) : Host.Outcome State Fault Refusal :=
  onPart (okCore core && decide (ch < 16))
    (let s := (s.flushAll).fillSend core ch
    match (s.core core).sq ch, s.bindOut core ch with
    | f :: _, some b =>
      if f.src.isSome || !s.roomFor core ch b then s
      else s.flitOut core ch b f
    | _, _ => s)

/-! ## Arrival (09 R236 to R241) -/

/-- What the receiving interface makes of a packet: done with it, or accepted at a core. -/
inductive Arrival
  | over (s : State)
  | at (s : State) (k : Nat)

/-- The checks of a packet for a core, in the order of R239, R250 and R241. A packet that is not next in its order, or
of another type, has not arrived. The copies of a multicast are discarded die by die. -/
def State.arriveAt (s : State) (p : Packet) (type : Nat) : Arrival :=
  let s := s.flushAll
  let h := pktH p
  match s.coreOf h.epoch h.dst with
  | none => if arrivesOk p && h.type != type then .over s else .over (s.headerFault p)
  | some k =>
    if !arrivesOk p then .over (s.headerFault p)
    else if h.type != type || h.dkind != 0 || !s.inOrder p then .over s
    else if type != 3 && (s.die (k / 272)).isolated then .over (s.isolatedDiscard p)
    else if h.att != s.slots.tag.toNat then .over (s.lateDiscard p)
    else .at s k

/-- A credit return for `n` flits (07 R176, 09 R238). -/
def State.sendCredit (s : State) (k src ch n : Nat) : State :=
  if n = 0 then s
  else s.inject { hdr := (s.coreHdr k { type := 9, vc := 1, dkind := 0, dst := src, arg := n * 256 + ch }).flit, payload := [] }

/-- SEQ of a message is the one expected from that sender on that channel of the sender (09 R238). -/
def arrKey (h : Hdr) : Nat := h.sch * 65536 + h.src
def seqOk (c : Core) (h : Hdr) : Bool := SMap.get zeroD c.seqIn (arrKey h) % 65536 == bits h.arg 31 16

/-- Progress of a message by `n` flits of `len`; at its end the count of R238 rises. -/
def Core.progress (c : Core) (key : Nat) (a : Arr) (n len : Nat) : Core :=
  if len ≤ a.got + n then
    { c.setArr key {} with seqIn := SMap.put zeroD c.seqIn key (SMap.get zeroD c.seqIn key + 1) }
  else c.setArr key { a with got := a.got + n }

/-! ### Rings (06 R165 to R168) -/

/-- The place of a record of footprint `f` in a ring of size `z`: the ring, its offset, the offset of a skip record. A
skip record holds the rest of the ring (log 13). -/
def Ring.place (r : Ring) (z f : Nat) : Option (Ring × Nat × Option Nat) :=
  let fwd := decide (r.h ≤ r.t) || r.u == 0
  let put (t : Nat) : Ring := { r with
    recs := r.recs ++ [{ addr := t, foot := f }], t := if t + f = z then 0 else t + f, u := r.u + f }
  if fwd && decide (f ≤ z - r.u) && decide (f ≤ z - r.t) then some (put r.t, r.t, none)
  else if fwd && decide (f ≤ r.h) then
    if r.t = z then some ({ put 0 with t := f }, 0, none)
    else some ({ r with
      recs := r.recs ++ [{ addr := r.t, foot := z - r.t, skip := true, done := true }, { addr := 0, foot := f }]
      t := f, u := r.u + (z - r.t) + f }, 0, some r.t)
  else if !fwd && decide (f ≤ r.h - r.t) then some (put r.t, r.t, none)
  else none

/-- The header line of a record (06 R166). -/
def ringHdr (kind flits src sch seq : Nat) : Bytes :=
  fit 64 (bytesLE 1 kind ++ bytesLE 1 flits ++ bytesLE 1 src ++ bytesLE 1 (src / 256) ++ bytesLE 4 sch ++ bytesLE 8 seq)

/-- Flits of a message taken into its ring; none while it has to wait (06 R167, case 4). -/
def State.ringTake (s : State) (k ch : Nat) (p : Packet) : Option State :=
  let h := pktH p
  let key := arrKey h
  let c := s.core k
  let a := c.arrOf key
  match s.bindIn k ch with
  | none => none
  | some b =>
    let placed : Option (State × Nat) := match a.base with
      | some x => some (s, x)
      | none => match (c.ring ch).place b.size (64 * (h.len + 1)) with
        | some (r, x, sk) =>
          let s := s.updCore k (fun c => c.setRing ch r)
          some (match sk with | some t => s.spadWrite k (b.base + t) (ringHdr 2 0 0 0 0) | none => s, x)
        | none => none
    match placed with
    | none => none
    | some (s, x) =>
      let n := p.payload.length
      let s := (s.spadWrite k (b.base + x + 64 * (1 + a.got)) (p.payload.flatMap flitBytes)).xferBy k .net (b.base + x + 64 * (1 + a.got)) n
      let seq := SMap.get zeroD (s.core k).seqIn key
      let s := if h.len ≤ a.got + n then
          (s.spadWrite k (b.base + x) (ringHdr 1 h.len h.src h.sch seq)).updCore k (fun c =>
            let r := c.ring ch
            c.setRing ch { r with recs := r.recs.map (fun y => if y.addr = x ∧ !y.skip then { y with done := true } else y) })
        else s
      let s := s.updCore k (fun c => { c.progress key { a with base := some x } n h.len with openSlot := none })
      some (s.sendCredit k h.src h.sch n)

/-- Waiting flits taken in turn while the ring has room. A message that comes to the head and finds none has waited under case
4 (06 R167, R172). -/
def State.ringDrain (k ch : Nat) : Nat → State → State
  | 0, s => s
  | n + 1, s =>
    let r := (s.core k).ring ch
    match r.waiting with
    | [] => s
    | p :: _ =>
      match s.ringTake k ch p with
      | some s' => State.ringDrain k ch n (s'.updCore k (fun c => c.setRing ch
          { c.ring ch with waiting := (c.ring ch).waiting.drop 1, counted := false }))
      | none =>
        if r.counted then s
        else (s.count Obj.RING_WAIT_EVENTS).updCore k (fun c => c.setRing ch { c.ring ch with counted := true })

/-- RING_RECORD_PLACE: room has come free in a ring (06 R167). -/
def execRingRecordPlace (core ch : Nat) (s : State) : Host.Outcome State Fault Refusal :=
  onPart (okCore core && decide (ch < 16))
    (let s := s.flushAll
    State.ringDrain core ch ((s.core core).ring ch).waiting.length s)

/-- Flits of a message at a ring-bound channel: taken, or waiting with those behind them. -/
def State.ringArrive (s : State) (k ch : Nat) (p : Packet) : State :=
  let wait (first : Bool) (s : State) : State :=
    s.updCore k (fun c => { c.setRing ch { c.ring ch with
      waiting := (c.ring ch).waiting ++ [p], counted := first || (c.ring ch).counted } with openSlot := none })
  if !((s.core k).ring ch).waiting.isEmpty then wait false s
  else match s.ringTake k ch p with
    | some s' => s'
    | none => wait true (s.count Obj.RING_WAIT_EVENTS)

/-! ### Windows, operand ports, multicast (07 R180 to R183) -/

/-- Flits of a message at a window-bound channel: written, and counted once the last line is in (06 R163). -/
def State.winArrive (s : State) (k ch lineOff : Nat) (p : Packet) : State :=
  let h := pktH p
  let key := arrKey h
  match s.bindIn k ch with
  | none => s
  | some b =>
    let a := (s.core k).arrOf key
    let n := p.payload.length
    let s := (s.spadWrite k (b.base + 64 * (lineOff + a.got)) (p.payload.flatMap flitBytes)).xferBy k .net (b.base + 64 * (lineOff + a.got)) n
    let fin := decide (h.len ≤ a.got + n)
    let s := s.updCore k (fun c =>
      let c := { c.progress key a n h.len with openSlot := none }
      if fin then c.incAc b.counter else c)
    let s := if fin && decide (b.counter < 64) then s.ledDestroy (k / 272) (s.srcIf h) 4 1 else s
    s.sendCredit k h.src h.sch n

/-- Flits at an operand port: into its receive FIFO (07 R180). -/
def State.portArrive (s : State) (k ch : Nat) (p : Packet) : State :=
  let h := pktH p
  let key := arrKey h
  s.updCore k (fun c =>
    { (c.setLand ch (c.land ch ++ p.payload)).progress key (c.arrOf key) p.payload.length h.len with openSlot := none })

/-- Delivery by the kind of the inbound binding. -/
def State.deliver (s : State) (k ch lineOff : Nat) (p : Packet) : State :=
  let s := s.noteCapture k (pktBytes p)
  match s.inKind k ch with
  | 1 => s.portArrive k ch p
  | 2 => s.ringArrive k ch p
  | 3 => s.winArrive k ch lineOff p
  | _ => s

/-- MSG (06 R167, 07 R180). -/
def execMsg (p : Packet) (s : State) : Host.Outcome State Fault Refusal :=
  .next (match s.arriveAt p 1 with
    | .over s => s
    | .at s k =>
      let h := pktH p
      if !seqOk (s.core k) h then s.headerFault p
      else (s.eject p).deliver k h.dch 0 p)

/-- WIN (07 R182, 06 R163). -/
def execWin (p : Packet) (s : State) : Host.Outcome State Fault Refusal :=
  .next (match s.arriveAt p 2 with
    | .over s => s
    | .at s k =>
      let h := pktH p
      if !seqOk (s.core k) h then s.headerFault p
      else (s.eject p).deliver k h.dch (bits h.arg 12 0) p)

/-- The physical cores of a multicast packet's span, without its sender (07 R183), on dies that no hub has isolated. -/
def State.mcastAll (s : State) (h : Hdr) : List Nat :=
  (mcastSpan (bits h.arg 8 8 == 1) h.dst (bits h.arg 7 0) h.src).filterMap (fun v => s.coreOf h.epoch v)
def State.mcastCores (s : State) (h : Hdr) : List Nat :=
  (s.mcastAll h).filter (fun k => !(s.die (k / 272)).isolated)

/-- MCAST: every receiver of the span takes the flits (07 R183); the hub of an isolated die discards that die's copies, with
the increments they carry (09 R250). -/
def execMcast (p : Packet) (s : State) : Host.Outcome State Fault Refusal :=
  .next (match s.arriveAt p 3 with
    | .over s => s
    | .at s k =>
      let h := pktH p
      let ks := s.mcastCores h
      let lost := (s.mcastAll h).filter (fun k => (s.die (k / 272)).isolated)
      if ks.any (fun k => !seqOk (s.core k) h) then s.headerFault p
      else
        let f := s.newFlits p
        let gone := if h.len ≤ (((s.core k).arrOf (arrKey h)).got + p.payload.length) then
          (lost.filter (fun k => match s.bindIn k h.dch with | some b => b.kind == 3 && decide (b.counter < 64) | none => false)).length else 0
        let s := ks.foldl (fun s k => s.deliver k h.dch p.off p) (s.eject p)
        let s := if lost.isEmpty then s else { s with net := { s.net with discards := s.net.discards + f * lost.length } }
        if gone = 0 then s else s.ledDestroy (s.srcIf h) (s.srcIf h) 4 gone)

/-- The B buffer that a fill goes to: the one being filled for the channel, or a free one of the two. -/
def fillable (c : Core) (ch n : Nat) : Option (Option BBuf) :=
  match c.bbufs.find? (fun b => b.ch == ch && b.busyTill == 0 && decide (b.flits.length < n)) with
  | some b => some (some b)
  | none => if c.bbufs.length < 2 && !c.bbufs.any (fun b => b.ch == ch && b.busyTill == 0) then some none else none

/-- B_BUFFER_FILL: up to two flits move into a B buffer for the MMA that is the next MAT operation to issue: the command
names its channel and the flits of its B image (07 R180; log 62). -/
def execBBufferFill (q : BFill) (s : State) : Host.Outcome State Fault Refusal :=
  onPart (okCore q.core)
    (let core := q.core
    let ch := q.ch
    let flits := q.flits
    let s := s.flushAll
    let c := s.core core
    match fillable c ch flits, s.bindIn core ch with
    | some ob, some b =>
      let old : BBuf := ob.getD { ch := ch, flits := [] }
      let m := min 2 (min (c.land ch).length (flits - old.flits.length))
      if m = 0 || b.kind != 1 then s
      else
        let new : BBuf := { old with flits := old.flits ++ (c.land ch).take m }
        let rest := match ob with | some x => c.bbufs.erase x | none => c.bbufs
        let s := s.setCore core { c.setLand ch ((c.land ch).drop m) with bbufs := rest ++ [new], openSlot := none }
        s.sendCredit core b.peer b.peerCh m
    | _, _ => s)

/-! ## Shared windows (06 R169 to R171) -/

/-- SHRD_REQ: joins a pending entry of the merge table, or opens one (06 R170). -/
def execShrdReq (p : Packet) (s : State) : Host.Outcome State Fault Refusal :=
  .next (match s.arriveAt p 5 with
    | .over s => s
    | .at s k =>
      let h := pktH p
      let c := s.core k
      let base := match (s.bindingsOf h.src).find? (fun b => b.ch == 16 + h.sch) with | some b => b.base | none => 0
      let a := base + 64 * bits h.arg 12 0
      let n := bits h.arg 18 13 + 1
      let q : Asker := { vcore := h.src, line := bits h.arg 31 19, ch := h.sch }
      let hit (e : MergeEnt) : Bool := e.addr == a && e.lines == n && decide (e.askers.length < 64)
      if c.merge.any hit then
        let m := (List.range c.merge.length).map (fun i =>
          let e := c.merge.getD i ⟨0, 0, []⟩
          if c.merge.findIdx hit = i then { e with askers := e.askers ++ [q] } else e)
        ((s.eject p).setCore k { c with merge := m, openSlot := none }).count Obj.SHRD_MERGED
      else if 16 ≤ c.merge.length then s
      else (s.eject p).setCore k { c with merge := c.merge ++ [⟨a, n, [q]⟩], openSlot := none })

/-- The arrival counter of a requester's shared window. -/
def State.shrdCounter (s : State) (v ch : Nat) : Nat :=
  match (s.bindingsOf v).find? (fun b => b.ch == 16 + ch) with | some b => b.counter | none => 255

/-- SHRD_MERGE_READ: the NET engine reads an entry once and replies to each requester (06 R170). The reply names the
requester's channel in HDR.DCH (log 12). -/
def execShrdMergeRead (core : Nat) (q : MergeRead) (s : State) : Host.Outcome State Fault Refusal :=
  onPart (okCore core)
    (let s := s.flushAll
    match (s.core core).merge[q.idx]? with
    | none => s
    | some e =>
      let data := toFlits e.lines (s.viewRead core e.addr (64 * e.lines))
      let s := ((s.updCore core (fun c => { c with merge := c.merge.eraseIdx q.idx, openSlot := none })).xferBy core .net
        (s.phys core e.addr) e.lines).spadEcc core noOp q.ecc
      e.askers.foldl (fun s q =>
        let h := s.coreHdr core { type := 6, len := e.lines, dkind := 0, dst := q.vcore, dch := q.ch
                                  arg := q.line + (e.lines - 1) * 2 ^ 13 }
        let s := s.inject { hdr := h.flit, payload := data }
        if s.shrdCounter q.vcore q.ch < 64 then s.ledCreate (core / 272) 4 1 else s) s)

/-- SHRD_REP: the lines land and the counter of the binding is incremented (06 R163, R170). -/
def execShrdRep (p : Packet) (s : State) : Host.Outcome State Fault Refusal :=
  .next (match s.arriveAt p 6 with
    | .over s => s
    | .at s k =>
      let h := pktH p
      let cn := s.shrdCounter h.dst h.dch
      let s := ((((s.eject p).noteCapture k (pktBytes p)).spadWrite k (64 * bits h.arg 12 0) (p.payload.flatMap flitBytes)).xferBy
        k .net (64 * bits h.arg 12 0) p.payload.length).evCore k (fun c => c.incAc cn)
      if cn < 64 then s.ledDestroy (k / 272) (s.srcIf h) 4 1 else s)

/-! ## HBM (08 R201 to R213) -/

/-- The HINPUT region that holds an address, and the offset in it (11 R306). -/
def State.inputAt (s : State) (a : Nat) : Option Nat :=
  match s.prog with
  | some p =>
    (p.regions.find? (fun r => r.kind == 4 && r.vstack == a / 2 ^ 37 && decide (r.off ≤ a % 2 ^ 37) &&
      decide (a % 2 ^ 37 < r.off + r.len))).map (fun r => regOff r a)
  | none => none

/-- `n` lines at a program's address, each with the difference of its check: HINPUT addresses reach the data share of the frame's
retention slot that holds them (11 R306, 08 R222). -/
def State.hbmLines (s : State) (epoch : Bool) (a n : Nat) : List (Bytes × Nat) :=
  let st := (s.net.route epoch).stackOf (a / 2 ^ 37)
  let off := a % 2 ^ 37
  (List.range n).map (fun i =>
    match s.inputAt (a + 64 * i), s.prog with
    | some o, some p => s.retainLine p (s.frameNow % max 1 p.rd) o
    | _, _ => (s.hbmRead st (off + 64 * i) 64, s.lineDiff st (off + 64 * i)))

/-- The refresh window that TIME lies in: its number in the slot, and its end, which the next tick may cut short (08 R207). -/
def State.window (s : State) : Nat := (s.time - s.tickOf s.slots.slot) / 240
def State.windowEnd (s : State) : Nat := min (s.tickOf s.slots.slot + 240 * (s.window + 1)) (s.tickOf (s.slots.slot + 1))

/-- A bank of the current refresh set is refreshed in this window: in every refresh cycle at the doubled rate, else in the
even ones (08 R207, R208; log 61). -/
def State.refreshing (s : State) (stack bank : Nat) : Bool :=
  bank % 8 == s.window % 8 && ((s.stack stack).doubled || s.window / 8 % 2 == 0)

/-- A request that reaches such a bank waits until the window ends; no other waits (08 R209). -/
def State.waitRefresh (s : State) (stack l n : Nat) : State :=
  if (groupsOf l n).any (fun g => s.refreshing stack (groupBank g)) then s.atTime s.windowEnd else s

/-- A completion packet of the stack controller. -/
def State.qCmpPkt (s : State) (h : Hdr) (stack : Nat) (last bad : Bool) (idx : Nat) (data : Bytes) : Packet :=
  let n := data.length / 64
  let g : Hdr :=
    { type := 8, len := n, vc := if n = 0 then 1 else 0, epoch := s.net.epochB, dkind := 0, skind := 5, att := h.att,
      dst := h.src, src := stack,
      arg := (if last then 2 ^ 52 else 0) + (if bad then 2 ^ 51 else 0) + bits h.arg 50 43 * 2 ^ 43 + idx }
  { hdr := g.flit, payload := toFlits n data }

/-- An earlier request of the same core and queue to overlapping lines is still on its way (08 R211). -/
def State.qBefore (s : State) (p : Packet) : Bool :=
  let h := pktH p
  let lo := bits h.arg 42 0
  let hi := lo + 64 * (bits h.arg 62 51 + 1)
  ((s.net.flight.map (fun x => x.pkt)).takeWhile (fun x => x != p)).any (fun x =>
    let g := pktH x
    let a := bits g.arg 42 0
    g.type == 7 && g.src == h.src && bits g.arg 50 49 == bits h.arg 50 49 && decide (a < hi) &&
    decide (lo < a + 64 * (bits g.arg 62 51 + 1)))

/-- The completions of a read: packets of up to 64 lines, each line with its stored check; a check line that fails its own
check marks the lines of its group (08 R204, R206, 09 R236, R238). -/
def State.readCmps (s : State) (h : Hdr) (stack lo n : Nat) : State :=
  let lines := s.hbmLines h.epoch lo n
  let off := lo % 2 ^ 37
  let plain := (s.inputAt lo).isNone
  (List.range ((n + 63) / 64)).foldl (fun s i =>
    let m := min 64 (n - 64 * i)
    let bad := plain && (groupsOf (off / 64 + 64 * i) m).any (fun g => s.ownDiff stack g != 0)
    let l := (lines.drop (64 * i)).take m
    let chk := (List.range m).map (fun j =>
      let x := l.getD j ([], 0)
      BitVec.ofNat 32 (lineCheck x.1 (lo + 64 * (64 * i + j)) ^^^ x.2))
    s.inject { s.qCmpPkt h stack (decide (n ≤ 64 * i + m)) bad (64 * i) (l.flatMap (fun x => x.1)) with chk := chk }) s

/-- Q_REQ at a stack controller (08 R203 to R206, R209, R211). `err` is what the way has done to the checks of a write's lines;
`rot` are the groups whose check line is found to fail its own check from here on. One request credit goes back. -/
def execQReq (p : Packet) (err : List (BitVec 32)) (rot : List Nat) (s : State) : Host.Outcome State Fault Refusal :=
  .next (
    let s := s.flushAll
    let h := pktH p
    if !arrivesOk p then s.headerFault p
    else if h.type != 7 || h.dkind != 1 || !s.inOrder p || s.qBefore p then s
    else if h.att != s.slots.tag.toNat then s.lateDiscard p
    else
      let s := s.eject p
      let a := bits h.arg 42 0
      let n := bits h.arg 62 51 + 1
      let stack := (s.net.route h.epoch).stackOf (a / 2 ^ 37)
      let off := a % 2 ^ 37
      let s := s.waitRefresh stack (off / 64) n
      let s := (rot.filter (fun g => (groupsOf (off / 64) n).contains g)).foldl (fun s g => s.markOwn stack g 1) s
      let s := if bits h.arg 63 63 = 1 then
          let b := p.payload.flatMap flitBytes
          let d (i : Nat) : Nat :=
            (match p.chk[i]? with | some c => c.toNat ^^^ lineCheck (slice b (64 * i) 64) (a + 64 * i) | none => 0) ^^^ (err.getD i 0).toNat
          let r := s.hubChecks stack (off / 64) n
          (r.1.putLines stack off d b n).inject (s.qCmpPkt h stack true r.2 0 [])
        else s.readCmps h stack a n
      s.inject { hdr := ({ type := 9, vc := 1, epoch := s.net.epochB, dkind := 0, skind := 3, att := h.att, dst := h.src
                           src := cellOfStack stack, arg := 65536 + 256 } : Hdr).flit, payload := [] })

/-- A line of a read that fails its check, or a write that found its check line bad: the sieve hears of it, the stack
and the address are kept (08 R206, 15 R411, R427). -/
def State.e2eFault (s : State) (k haddr lines : Nat) : State :=
  let st := (s.net.route s.net.epochB).stackOf (haddr / 2 ^ 37)
  let s := ((s.count Obj.HBM_E2E_ERRORS lines).setNum Obj.HBM_LAST_E2E_STACK st).updStack st (fun x => { x with e2e := x.e2e + lines })
  let s := { s with recovery := { s.recovery with hbmBad := s.recovery.hbmBad ++ [haddr] } }
  (s.report 0x06 none none).fsr
    { part := 3, index := st, unit := 8, det := 0x06, vcore := (s.vcoreOf k).getD 0xFFFF, detail := bytesLE 8 haddr }

/-- B of R215 for an entry. -/
def State.boundB (s : State) (k : Nat) (e : QEnt) : Nat :=
  1400 + 250 * hops (cellOf (k / 272)) (cellOfStack ((s.net.route s.net.epochB).stackOf (e.haddr / 2 ^ 37))) + 3 * e.lines

/-- An entry completed: its time since issue is noted (08 5010.02, 5010.03). -/
def State.noteDone (s : State) (k : Nat) (e : QEnt) : State :=
  let ns := s.time - s.coreTime k e.issueTime
  let s := if s.boundB k e < ns then s.count Obj.QUEUE_BOUND_EXCEEDED else s
  { s with net := { s.net with qMax := match s.net.qMax with | m :: t => max m ns :: t | [] => [ns] } }

/-- An older read entry of the core still writes bytes that this one writes, or a descriptor issued before it has still to be
read (08 R212). The entries of one Q.GATH stand in the order of their descriptors. -/
def olderRead (c : Core) (e : QEnt) (q : Nat) : Bool :=
  (List.range 4).any (fun i => (c.queue i).any (fun x =>
    !x.done && (decide (x.issueTime < e.issueTime) || (x.issueTime == e.issueTime && i == q && decide (x.num < e.num))) &&
    (if x.desc.isSome then !queueFrozen c x
     else !x.write && decide (x.spad < e.spad + 64 * e.lines) && decide (e.spad < x.spad + 64 * x.lines))))

/-- The entry of a queue slot that has not completed. -/
def slotEnt (c : Core) (q sl : Nat) : Option QEnt := (c.queue q).find? (fun e => e.num % 64 == sl && !e.done)

/-- Q_CMP: QIN writes the lines after the end-to-end check; `err` is what the way has done to the checks of the lines; the entry completes
with its last part (08 R206, R210). -/
def execQCmp (p : Packet) (err : List (BitVec 32)) (s : State) : Host.Outcome State Fault Refusal :=
  .next (match s.arriveAt p 8 with
    | .over s => s
    | .at s k =>
      let h := pktH p
      let q := bits h.arg 50 49
      let idx := bits h.arg 11 0
      match slotEnt (s.core k) q (bits h.arg 48 43) with
      | none => s.eject p
      | some e =>
        if !e.write && olderRead (s.core k) e q then s
        else
          let s := s.eject p
          let s := if e.write then s else s.noteCapture k (pktBytes p)
          let n := p.payload.length
          let lines := (List.range n).filter (fun i =>
            match p.chk[i]? with
            | some c => (c ^^^ err.getD i 0).toNat !=
                lineCheck (flitBytes (p.payload.getD i 0)) (s.hbmAt k e.haddr (64 * e.lines) + 64 * (idx + i))
            | none => err.getD i 0 != 0)
          let bad := bits h.arg 51 51 = 1 || !lines.isEmpty
          let s := if e.write then s else (s.spadWrite k (e.spad + 64 * idx) (p.payload.flatMap flitBytes)).xferBy k .qin (e.spad + 64 * idx) n
          let got := e.got + (if e.write then 1 else n)
          let e' := { e with got := got, check := e.check || bad, done := decide ((if e.write then (e.lines + 63) / 64 else e.lines) ≤ got) }
          let s := s.evCore k (fun c => c.setQueue q ((c.queue q).map (fun x => if x = e then e' else x)))
          let s := if e.write then
              let key := 2 * s.reqKey k e.haddr + 1
              { s with net := { s.net with reqTaken := SMap.upd zeroD s.net.reqTaken key (fun x => x - min 64 (e.lines - 64 * e.got)) } }
            else s
          let s := if bad then s.e2eFault k (e.haddr + 64 * (idx + lines.headD 0)) (max 1 lines.length) else s
          if e'.done then s.noteDone k e else s)

/-! ## Credits (07 R176, 09 R234, R238) -/

/-- CREDIT: a channel credit comes back to its sender, or an HBM request credit to the die (09 R238). A late channel
credit has no further effect (09 R241); an HBM credit is never destroyed (09 R253) and is not late. -/
def execCredit (p : Packet) (s : State) : Host.Outcome State Fault Refusal :=
  .next (
    let h := pktH p
    let n := bits h.arg 15 8
    if bits h.arg 16 16 = 1 && arrivesOk p && h.type == 9 then
      let s := s.flushAll
      match s.coreOf h.epoch h.dst with
      | some k =>
        if !s.inOrder p then s
        else if (s.die (k / 272)).isolated then s.isolatedDiscard p
        else
        let key := 2 * (k / 272 * 16 + h.src)
        let s := s.eject p
        { s with net := { s.net with reqTaken := SMap.upd zeroD s.net.reqTaken key (fun x => x - n) } }
      | none => s.headerFault p
    else match s.arriveAt p 9 with
      | .over s => s
      | .at s k =>
        let ch := bits h.arg 3 0
        (s.eject p).evCore k (fun c => c.setTaken ch h.src (c.takenOf ch h.src - n)))

end Sys2Proof.Machine
end

