-- ==== Sys2Proof/Machine/StreamUnit.lean ====
section
/-! DEFINITION. Raw streams (09 R244 to R248). -/

namespace Sys2Proof.Machine

def streamD : Nat → Stream := fun _ => {}
def State.stream (s : State) (i : Nat) : Stream := SMap.get streamD s.net.streams i
def State.setStream (s : State) (i : Nat) (x : Stream) : State :=
  { s with net := { s.net with streams := SMap.put streamD s.net.streams i x } }

/-- The entry that the sending engine has reached. -/
def Stream.cur (x : Stream) : Option StreamEnt := x.list[x.entry]?
/-- The physical core of an end of an entry, under the current route version. -/
def State.endCore (s : State) (v : Nat) : Option Nat := s.coreOf s.net.epochB v

/-- The sending engine works: an attempt runs, the source core is not frozen (15 R415), neither die is isolated (09 R250). -/
def State.streamRuns (s : State) (x : Stream) (e : StreamEnt) (k : Nat) : Bool :=
  s.panel == .running && s.slots.att.isSome && (s.core k).frozen.isNone &&
  !(s.die ((s.net.route s.net.epochB).site x.srcVd)).isolated && !(s.die ((s.net.route s.net.epochB).site x.dstVd)).isolated &&
  decide (0 < e.lines)

/-- STREAM_ENTRY_START: the trigger counter has reached the threshold (09 R245). -/
def execStreamEntryStart (st : Nat) (s : State) : Host.Outcome State Fault Refusal :=
  .next (
    let s := s.flushAll
    let x := s.stream st
    match x.cur with
    | some e => match s.endCore e.srcCore with
      | some k =>
        if !x.started && s.streamRuns x e k && decide (e.threshold ≤ ((s.core k).ac e.trigger).toNat) then
          s.setStream st { x with started := true, line := 0 }
        else s
      | none => s
    | none => s)

/-- STREAM_SEGMENT_SEND: up to 16 lines read by the source core's NET engine, checked by ECC, and sent for one credit; they
enter the digest (09 R245, R246, R248, 06 R162). -/
def execStreamSegmentSend (q : StreamRead) (s : State) : Host.Outcome State Fault Refusal :=
  .next (
    let st := q.stream
    let s := s.flushAll
    let x := s.stream st
    match x.cur with
    | some e => match s.endCore e.srcCore with
      | some k =>
        if x.started && s.streamRuns x e k && decide (0 < x.credits) && decide (x.line < e.lines) then
          let n := min 16 (e.lines - x.line)
          let b := s.viewRead k (e.srcAddr + 64 * x.line) (64 * n)
          let s := (s.setStream st { x with
            line := x.line + n, credits := x.credits - 1, flight := x.flight ++ [(x.entry, b)]
            txCrc := BitVec.ofNat 64 (crc64 x.txCrc.toNat b), txBytes := x.txBytes + 64 * n }).ledCreate (k / 272) 5 (64 * n)
          ((s.xferBy k .net (s.phys k (e.srcAddr + 64 * x.line)) n).spadEcc k noOp q.ecc).evCore k (fun c => c)
        else s
      | none => s
    | none => s)

/-- STREAM_ENTRY_READ_DONE: the last line of the entry has been read; the release counter is incremented (09 R245). -/
def execStreamEntryReadDone (st : Nat) (s : State) : Host.Outcome State Fault Refusal :=
  .next (
    let s := s.flushAll
    let x := s.stream st
    match x.cur with
    | some e => match s.endCore e.srcCore with
      | some k =>
        if x.started && s.streamRuns x e k && decide (e.lines ≤ x.line) then
          let s := (s.setStream st { x with entry := x.entry + 1, started := false, line := 0 }).evCore k (fun c => c.incAc e.release)
          if e.arrival < 64 then s.ledCreate (k / 272) 4 1 else s
        else s
      | none => s
    | none => s)

/-- The site of a virtual die under the current route version. -/
def State.vdSite (s : State) (vd : Nat) : Nat := (s.net.route s.net.epochB).site vd

/-- STREAM_SEGMENT_RECEIVE: the destination core's NET engine writes the oldest segment; after an entry's last line the
arrival counter is incremented (09 R245, R246). The hub of an isolated die refuses the segment: its bytes, and the
increment that it carries, are destroyed (09 R250). -/
def execStreamSegmentReceive (st : Nat) (s : State) : Host.Outcome State Fault Refusal :=
  .next (
    let s := s.flushAll
    let x := s.stream st
    match x.flight with
    | (i, b) :: t =>
      match x.list[i]? with
      | some e => match s.endCore e.dstCore with
        | some k =>
          let n := b.length / 64
          let fin := decide (e.lines ≤ x.landed + n)
          let src := s.vdSite x.srcVd
          let x' := { x with
            flight := t, landed := if fin then 0 else x.landed + n, landedEntry := if fin then i + 1 else x.landedEntry }
          let lost := (s.die (k / 272)).isolated
          let port := if lost then 144 + 32 * cellOf (k / 272) + k / 272 % 9 else k / 272
          let s := s.ledDestroy port src 5 b.length
          let s := if fin && decide (e.arrival < 64) then s.ledDestroy port src 4 1 else s
          if lost then s.setStream st x'
          else
            let s := (s.noteCapture k b).setStream st { x' with
              owed := x.owed + 1, rxCrc := BitVec.ofNat 64 (crc64 x.rxCrc.toNat b), rxBytes := x.rxBytes + b.length }
            let s := (s.spadWrite k (e.dstAddr + 64 * x.landed) b).xferBy k .net (e.dstAddr + 64 * x.landed) n
            s.evCore k (fun c => if fin then c.incAc e.arrival else c)
        | none => s
      | none => s
    | [] => s)

/-- STREAM_CREDIT_RETURN: a segment written gives its credit back (09 R246). -/
def execStreamCreditReturn (st : Nat) (s : State) : Host.Outcome State Fault Refusal :=
  .next (
    let x := s.stream st
    if 0 < x.owed then s.setStream st { x with owed := x.owed - 1, credits := x.credits + 1 } else s)

end Sys2Proof.Machine
end

