-- ==== Sys2Proof/Machine/Glp.lean ====
section
/-! DEFINITION. The firmware image in use, the group, GLP frames, routes between panels, ports and the concord record
(16 R450, 12 R328 to R342, 18 R501). -/

namespace Sys2Proof

open Machine

/-! ## Frames: the fields (12 R331, R332) -/

def GlpFrame.bits (f : GlpFrame) (hi lo : Nat) : Nat := Sys2Proof.bits f.hdr.toNat hi lo
def GlpFrame.cls (f : GlpFrame) : Nat := f.bits 175 172
def GlpFrame.dl (f : GlpFrame) : Nat := f.bits 171 171
def GlpFrame.len (f : GlpFrame) : Nat := f.bits 169 163
def GlpFrame.dstp (f : GlpFrame) : Nat := f.bits 162 157
def GlpFrame.srcp (f : GlpFrame) : Nat := f.bits 156 151
def GlpFrame.dkind (f : GlpFrame) : Nat := f.bits 150 148
def GlpFrame.dst (f : GlpFrame) : Nat := f.bits 147 132
def GlpFrame.src (f : GlpFrame) : Nat := f.bits 128 113
def GlpFrame.op (f : GlpFrame) : Nat := f.bits 95 88
def GlpFrame.arg (f : GlpFrame) : Nat := f.bits 63 0
def GlpFrame.lseq (f : GlpFrame) : Nat := f.bits 223 212
def GlpFrame.lack (f : GlpFrame) : Nat := f.bits 211 200
/-- The channel 2 × class + dateline channel, and the flits and credits a frame takes: its header and its payload. -/
def GlpFrame.chan (f : GlpFrame) : Nat := 2 * f.cls + f.dl
def GlpFrame.units (f : GlpFrame) : Nat := f.len + 1
/-- The bytes of a frame on a port (12 R332). -/
def GlpFrame.size (f : GlpFrame) : Nat := 40 + 64 * f.len

/-- The LCRC over header, payload and PCRC. -/
def GlpFrame.lcrcOf (f : GlpFrame) : Nat := crc32c (bytesLE 32 f.hdr.toNat ++ f.payload ++ bytesLE 4 f.pcrc.toNat)

/-- The dateline channel rewritten at a hop. -/
def GlpFrame.setDl (f : GlpFrame) (dl : Nat) : GlpFrame :=
  { f with hdr := BitVec.ofNat 256 (f.hdr.toNat - f.dl * 2 ^ 171 + dl * 2 ^ 171) }

/-- The link fields and the LCRC of a frame that leaves a port (12 R331). -/
def GlpFrame.link (f : GlpFrame) (lseq lack crvc crcnt : Nat) : GlpFrame :=
  let h := f.hdr.toNat % 2 ^ 184 + crcnt * 2 ^ 184 + crvc * 2 ^ 196 + lack * 2 ^ 200 + lseq * 2 ^ 212 + f.bits 255 224 * 2 ^ 224
  let f := { f with hdr := BitVec.ofNat 256 h }
  { f with lcrc := BitVec.ofNat 32 f.lcrcOf }

end Sys2Proof

namespace Sys2Proof.Machine

/-! ## Firmware (16 R450, R454) -/

/-- The image in flash, and the image that the panel's digest names. -/
def State.fwFlash (s : State) : Bytes := match s.bringup.fwImage with | [] => Config.factoryFirmware | b => b
def State.fwRun (s : State) : Bytes := match s.bringup.fwRunning with | [] => Config.factoryFirmware | b => b

def fwSeries (b : Bytes) : Nat := field b 6 2
def fwRelease (b : Bytes) : Nat := field b 8 4
def fwSchema (b : Bytes) : Nat := field b 72 2

/-- The panel firmware digest (16 R450, R454). -/
def State.fwDigest (s : State) : Bytes := sha384 s.fwRun

/-- The digest of the loaded program; zero when none is loaded (11 R301). -/
def State.progDigest (s : State) : Bytes := fit 48 (match s.prog with | some p => p.digest | none => [])

/-! ## The group (12 R328, R329) -/

/-- A setting as the last link bring-up took it (12 R364). -/
def State.effObj (s : State) (k : Nat) : ObjVal := SMap.get odDefault s.fabric.eff k
def State.effNum (s : State) (k : Nat) : Nat := match s.effObj k with | .num n => n | .oct b => natLE b
def State.effOct (s : State) (k : Nat) : Bytes := match s.effObj k with | .num _ => [] | .oct b => b

/-- The settings that a link bring-up takes (12 R339, R341, R364). -/
def effSettings : List Nat :=
  [Obj.GROUP_ID, Obj.GROUP_DIMS, Obj.GROUP_COORD, Obj.GROUP_BRIDGE, Obj.GROUP_ROUTE_EPOCH, Obj.GROUP_TIME_EPOCH,
   Obj.TIME_MASTER, Obj.FRAME_PERIOD, Obj.HOST_ADDR]

/-- Firmware series, calibration schema and firmware digest. While the firmware recovery of R452 serves the panel, the series is 0
(18 R501). -/
def State.fwFields (s : State) : Bytes :=
  let series := if s.bringup.halted && s.bringup.stage == some 7 then 0 else fwSeries s.fwRun
  bytesLE 2 series ++ bytesLE 2 (fwSchema s.fwRun) ++ fit 48 s.fwDigest
/-- Those of the last link bring-up: a re-exchange keeps them (12 R339). -/
def State.bringFw (s : State) : Bytes := if s.fabric.fw.isEmpty then s.fwFields else s.fabric.fw

/-- A link bring-up takes the settings and the firmware's fields as they stand. -/
def State.takeSettings (s : State) : State :=
  { s with fabric := { s.fabric with
    eff := effSettings.foldl (fun m k => SMap.put odDefault m k (s.obj k)) s.fabric.eff, fw := s.fwFields, master := none } }

/-- The torus direction of a port (12 R328). -/
def dirOf (port : Nat) : Nat := if port < 32 then 3 else if port < 64 then 0 else if port < 96 then 2 else 1
/-- The ports of a direction, ascending (12 R328). -/
def portsOf (d : Nat) : List Nat :=
  (List.range 32).map (fun i => (if d = 0 then 32 else if d = 1 then 96 else if d = 2 then 64 else 0) + i)
/-- The facing direction. -/
def facing (d : Nat) : Nat := if d % 2 = 0 then d + 1 else d - 1

/-- The dimensions of the group, this panel's index and its neighbour in a direction (12 R329). -/
def State.dims (s : State) : Nat × Nat := (max 1 (s.effNum Obj.GROUP_DIMS % 256), max 1 (s.effNum Obj.GROUP_DIMS / 256))
def State.panelIndex (s : State) : Nat := s.effNum Obj.GROUP_COORD / 256 * 8 + s.effNum Obj.GROUP_COORD % 256

/-- The panel one step from `p` in a direction, in a group of `x` by `y`. -/
def stepPanel (x y p d : Nat) : Nat :=
  let gx := p % 8
  let gy := p / 8
  match d with
  | 0 => 8 * gy + (gx + 1) % x
  | 1 => 8 * gy + (gx + x - 1) % x
  | 2 => 8 * ((gy + 1) % y) + gx
  | _ => 8 * ((gy + y - 1) % y) + gx

def State.neighbour (s : State) (d : Nat) : Nat := stepPanel s.dims.1 s.dims.2 s.panelIndex d

/-- A panel of the group. -/
def State.inGroup (s : State) (p : Nat) : Bool := decide (p % 8 < s.dims.1) && decide (p / 8 < s.dims.2) && decide (p < 64)

/-- The time master in force, and whether this panel is it (12 R344, R345). -/
def State.masterPanel (s : State) : Nat := s.fabric.master.getD (s.effNum Obj.TIME_MASTER)
def State.isMaster (s : State) : Bool := s.panelIndex == s.masterPanel

/-- This panel is the bridge (12 R329). -/
def State.isBridge (s : State) : Bool := s.panelIndex == s.effNum Obj.GROUP_BRIDGE

/-! ## Routes (12 R337) -/

/-- The way along a ring of size `n` from `a` to `b`: up, down or arrived; up when both are equally long. -/
def ringWay (n a b : Nat) : Option Bool :=
  if a = b then none else if (b + n - a) % n ≤ (a + n - b) % n then some true else some false

/-- The direction of the next hop: along X first, then Y. -/
def nextDir (x y cur dst : Nat) : Option Nat :=
  match ringWay x (cur % 8) (dst % 8) with
  | some up => some (if up then 0 else 1)
  | none => match ringWay y (cur / 8) (dst / 8) with
    | some up => some (if up then 2 else 3)
    | none => none

/-- The link that leaves a panel in a direction is a dateline link. -/
def dateline (x y cur d : Nat) : Bool :=
  match d with
  | 0 => cur % 8 == x - 1
  | 1 => cur % 8 == 0
  | 2 => cur / 8 == y - 1
  | _ => cur / 8 == 0

/-- The dateline channel of the next hop of a packet that came with direction `from` on channel `dl`. -/
def nextDl (x y cur d : Nat) (came : Option Nat) (dl : Nat) : Nat :=
  if dateline x y cur d then 1
  else match came with
    | some f => if f / 2 = d / 2 then dl else 0
    | none => 0

/-- The hops of a packet: panel, direction, dateline channel. -/
def glpRoute (x y : Nat) : Nat → Nat → Nat → Option Nat → Nat → List (Nat × Nat × Nat)
  | 0, _, _, _, _ => []
  | n + 1, cur, dst, came, dl =>
    match nextDir x y cur dst with
    | none => []
    | some d =>
      let l := nextDl x y cur d came dl
      (cur, d, l) :: glpRoute x y n (stepPanel x y cur d) dst (some d) l

/-! ## Frames (12 R331, R332) -/

/-- The header's check over bits [183:0] with bit 171 taken as zero. -/
def glpHcrc (h : Nat) : Nat := crc32c (bytesLE 23 (h % 2 ^ 171 + (h / 2 ^ 172 % 2 ^ 12) * 2 ^ 172))

/-- What a source puts into a frame. -/
structure GlpSpec where
  cls : Nat
  op : Nat
  arg : Nat := 0
  dstp : Nat
  dkind : Nat := 4
  dst : Nat := 0
  skind : Nat := 4
  src : Nat := 0
  tag : Nat := 0
  payload : Bytes := []

/-- A frame as its source makes it. -/
def State.mkFrame (s : State) (g : GlpSpec) (dl : Nat) : GlpFrame :=
  let n := (g.payload.length + 63) / 64
  let p := fit (64 * n) g.payload
  let h := g.arg % 2 ^ 64 + g.op * 2 ^ 88 + (g.tag % 65536) * 2 ^ 97 + g.src * 2 ^ 113 + g.skind * 2 ^ 129 + g.dst * 2 ^ 132 +
    g.dkind * 2 ^ 148 + s.panelIndex * 2 ^ 151 + g.dstp * 2 ^ 157 + n * 2 ^ 163 + g.cls * 2 ^ 172 +
    (s.effNum Obj.GROUP_ID % 256) * 2 ^ 176
  { hdr := BitVec.ofNat 256 (h + dl * 2 ^ 171 + glpHcrc h * 2 ^ 224), payload := p, pcrc := BitVec.ofNat 32 (crc32c p), lcrc := 0 }

/-! ## Ports (12 R333, R335) -/

/-- A frame leaves a port with the acknowledgement and the credits that are due; a sequenced one is kept until it is
acknowledged. -/
def Port.emit (p : Port) (f : GlpFrame) : Port :=
  let lack := (p.rxSeq + 4095) % 4096
  let cr : Nat × Nat := match p.owed with | [] => (15, 0) | (k, v) :: _ => (k, min v 4095)
  let p := if cr.1 = 15 then p else { p with owed := SMap.upd zeroD p.owed cr.1 (fun v => v - cr.2) }
  if f.cls = 15 then { p with onLane := some (f.link 0 lack cr.1 cr.2) }
  else
    let g := f.link (p.txSeq % 4096) lack cr.1 cr.2
    { p with
      onLane := some g, txSeq := (p.txSeq + 1) % 4096, retry := p.retry ++ [g]
      spent := SMap.upd zeroD p.spent f.chan (fun v => v + f.units)
      sent := SMap.upd zeroD p.sent f.chan (fun v => v + f.units) }

/-- A waiting frame may leave: the retry buffer has room and its channel has credits. -/
def Port.may (p : Port) (cap : Nat → Nat) (f : GlpFrame) : Bool :=
  f.cls == 15 || (decide (p.retry.length < 2048) && decide ((p.retry.map GlpFrame.size).sum + f.size ≤ 262144) &&
    decide (SMap.get zeroD p.spent f.chan + f.units ≤ cap f.chan))

/-- Waiting frames leave in order; one that must wait holds back its channel only. Of the EXP frames of panel `me` as many leave
as `q` allows (12 R347). -/
def pumpList (cap : Nat → Nat) (me : Nat) : List GlpFrame → List Nat → Nat → Port → Port × Nat
  | [], _, q, p => (p, q)
  | f :: t, blocked, q, p =>
    let own := f.cls == 4 && f.srcp == me
    if !blocked.contains f.chan && p.may cap f && (!own || decide (0 < q)) then
      pumpList cap me t blocked (if own then q - 1 else q) (p.emit f)
    else pumpList cap me t (f.chan :: blocked) q { p with wait := p.wait ++ [f] }

/-- EXP frames go before all others (12 R347). -/
def expFirst (l : List GlpFrame) : List GlpFrame := l.filter (fun f => f.cls == 4) ++ l.filter (fun f => f.cls != 4)

/-- The bytes of a frame that the collective table routes out of this panel in a direction, on a dateline channel. -/
def State.collShare (s : State) (d dl : Nat) : Nat :=
  match s.prog with
  | none => 0
  | some p =>
    let x := s.dims.1
    let y := s.dims.2
    ((List.range 64).filter s.inGroup).map (fun src =>
      (p.colls.map (fun c =>
        let dx := ((((src % 8 : Nat) : Int) - c.dx) % x).toNat
        let dy := ((((src / 8 : Nat) : Int) - c.dy) % y).toNat
        if (glpRoute x y 16 src (8 * dy + dx) none 0).contains (s.panelIndex, d, dl) then c.len else 0)).sum) |>.sum

/-- The buffer of a channel in 64-byte units (12 R335). The COLL pool is divided in proportion to the collective table,
at least 16 KiB for each channel. -/
def State.glpCap (s : State) (d ch : Nat) : Nat :=
  match ch / 2 with
  | 3 =>
    let a := s.collShare d 0
    let b := s.collShare d 1
    let c0 := if a + b = 0 then 2048 else min 3840 (max 256 (4096 * a / (a + b)))
    if ch % 2 = 0 then c0 else 4096 - c0
  | 4 => 64
  | _ => 256

/-- A port sends what may leave; a direction takes at most 4 EXP packets of this panel in a microsecond (12 R347). -/
def State.portPump (s : State) (port : Nat) : State :=
  let d := dirOf port
  let us := s.time / 1000
  let q := if (s.dir d).expAt = us then 4 - (s.dir d).expN else 4
  let p := s.port port
  if !p.up then s
  else
    let r := pumpList (s.glpCap d) s.panelIndex (expFirst p.wait) [] q { p with wait := [] }
    (s.updPort port (fun _ => r.1)).updDir d (fun x => if r.2 = q then x else { x with expAt := us, expN := 4 - r.2 })

/-- A frame put into a port's queue. -/
def State.queueFrame (s : State) (port : Nat) (f : GlpFrame) : State :=
  (s.updPort port (fun p => { p with wait := p.wait ++ [f] })).portPump port

/-! ## Modes (12 R340 to R342) -/

/-- The ports of a direction that carry fabric traffic and hold lock, ascending, and those whose link the concord record has not
left down (12 R328, R330, R340). -/
def State.portRole (s : State) (port : Nat) : Nat := field (s.octets Obj.PORT_ROLE) port 1
def State.dirPorts (s : State) (d : Nat) : List Nat := (portsOf d).filter (fun i => (s.port i).up && s.portRole i == 0)
def State.dirUp (s : State) (d : Nat) : List Nat := (s.dirPorts d).filter (fun i => (s.port i).base != 0)

/-- The mode of a port's link, coded as object 4820.03: 0 down, 1 management-only, 2 full service, 3 low-rate (12 R340 to R342,
R345). -/
def State.portMode (s : State) (port : Nat) : Nat :=
  let p := s.port port
  if !p.up || s.portRole port != 0 || p.base == 0 || s.neighbour (dirOf port) == s.panelIndex then 0
  else if s.panel = .simmer then 3
  else if s.fabric.drift || s.num Obj.FRAME_PERIOD != s.effNum Obj.FRAME_PERIOD || fit 48 p.peerProgram != s.progDigest then 1
  else p.base
/-- The mode of a direction: the highest of its links' (log 74). -/
def State.linkMode (s : State) (d : Nat) : Nat := ((s.dirUp d).map s.portMode).foldl max 0

/-- An operation that a link in a mode carries (12 R342). -/
def modeAllows (mode op : Nat) : Bool :=
  mode == 2 || op == 0x20 || op == 0x21 || op == 0x22 ||
  (mode != 0 && [0x06, 0x07, 0x08, 0x09, 0x10, 0x11, 0x12, 0x13].contains op)

/-- The class of an operation (12 R334). -/
def opClasses (op : Nat) : List Nat :=
  if op = 0x01 ∨ op = 0x06 ∨ op = 0x08 then [0, 1]
  else if op = 0x0A then [3]
  else if 0x02 ≤ op ∧ op ≤ 0x0B then [2]
  else if 0x10 ≤ op ∧ op ≤ 0x13 then [4]
  else if 0x20 ≤ op ∧ op ≤ 0x22 then [15]
  else []

/-- Flits discarded and entered in the ledger (12 R333, R342). -/
def State.glpDiscard (s : State) (n : Nat) : State := { s with net := { s.net with discards := s.net.discards + n } }

/-- The port of a direction that carries a packet (12 R330; the bytes that its CRC covers are the model's, log 75). -/
def State.choosePort (s : State) (d : Nat) (f : GlpFrame) : Option Nat :=
  let l := s.dirUp d
  l[crc32c (bytesLE 1 f.srcp ++ bytesLE 2 f.src ++ bytesLE 1 f.dstp ++ bytesLE 2 f.dst) % max 1 l.length]?

/-- A packet queued towards its destination, on a fresh source or in transit from direction `came`; where the link does
not carry it, it is discarded and entered in the ledger. -/
def State.forward (s : State) (f : GlpFrame) (came : Option Nat) : State :=
  match nextDir s.dims.1 s.dims.2 s.panelIndex f.dstp with
  | none => s
  | some d =>
    let g := f.setDl (nextDl s.dims.1 s.dims.2 s.panelIndex d came f.dl)
    match s.choosePort d g with
    | some p => if modeAllows (s.portMode p) f.op then s.queueFrame p g else s.glpDiscard g.units
    | none => s.glpDiscard g.units

/-- A packet of this panel sent to another. -/
def State.glpSend (s : State) (g : GlpSpec) : State :=
  if g.dstp = s.panelIndex then s else s.forward (s.mkFrame g 0) none

/-- A packet for the host leaves the bridge by its first host-mode port; another panel sends it to the bridge
(12 R353, R356). -/
def State.toHost (s : State) (op arg sess tag : Nat) (payload : Bytes) : State :=
  let g : GlpSpec := { cls := 2, op := op, arg := arg, dstp := s.effNum Obj.GROUP_BRIDGE, dkind := 6, dst := sess, tag := tag, payload := payload }
  if s.isBridge then
    match (List.range 128).find? (fun i => (s.port i).up && s.portRole i == 1) with
    | some i => s.updPort i (fun p => { p with onLane := some (s.mkFrame g 0) })
    | none => s
  else s.glpSend g

/-! ## The concord record (12 R339, 18 R501) -/

/-- The record of a port (12 R339). -/
def State.concordRecord (s : State) (port : Nat) : Bytes :=
  let b := bytesLE 4 0x4B4E4748 ++ bytesLE 2 1 ++ bytesLE 2 0 ++ fit 16 Config.panelSerial ++ s.bringFw ++ s.progDigest ++ bytesLE 4 (s.effNum Obj.FRAME_PERIOD) ++
    bytesLE 4 (s.effNum Obj.GROUP_ROUTE_EPOCH) ++ bytesLE 4 (s.effNum Obj.GROUP_TIME_EPOCH) ++ fit 16 (s.effOct Obj.GROUP_ID) ++
    bytesLE 2 (s.effNum Obj.GROUP_DIMS) ++ bytesLE 2 (s.effNum Obj.GROUP_COORD) ++ bytesLE 1 (dirOf port) ++ bytesLE 1 port ++
    bytesLE 2 0 ++ bytesLE 8 s.time ++ bytesLE 8 0
  b ++ fit 96 (Config.sign 0 b)

/-- A CONCORD frame with the record and the panel certificate, sent on a port. -/
def State.sendConcordOn (s : State) (port : Nat) : State :=
  let g : GlpSpec := { cls := 15, op := 0x20, dstp := s.neighbour (dirOf port), payload := s.concordRecord port ++ fit 256 Config.panelCert }
  let s := { s with access := { s.access with signCount := s.access.signCount + 1 } }
  s.queueFrame port (s.mkFrame g 0)

/-- The links of a direction exchange records; while no half of the secure element can sign the exchange waits
(12 R339, 18 R496). -/
def State.sendConcord (s : State) (d : Nat) : State :=
  if s.access.halves = 0 then
    { s with fabric := { s.fabric with bringWait := if s.fabric.bringWait.contains d then s.fabric.bringWait else s.fabric.bringWait ++ [d] } }
  else (s.dirPorts d).foldl (fun s p => s.sendConcordOn p) s

/-- The exchange at a program load or unload (12 R339). -/
def State.reConcord (s : State) : State := (List.range 4).foldl (fun s d => s.sendConcord d) s

end Sys2Proof.Machine
end

