-- ==== Sys2Proof/Machine/Panel.lean ====
section
/-! DEFINITION. What the commands of the panel share: targets and migrations, slot descriptors, stopping an attempt,
HOLD and SAFE, entering and leaving a die, the loss of a die, the quench, revocation records. -/

namespace Sys2Proof.Machine

/-! ## Records completed (15 R435) -/

/-- A record with its final kind, retry and action, under a new sequence number and related to the first. -/
def fsrPatch (r : Bytes) (seq retry kind action : Nat) : Bytes :=
  let b := slice r 0 8 ++ bytesLE 8 seq ++ slice r 16 128 ++ bytesLE 1 retry ++ bytesLE 1 kind ++ bytesLE 2 action ++
    slice r 148 36 ++ bytesLE 8 (field r 8 8) ++ slice r 192 60
  b ++ bytesLE 4 (crc32c b)

/-- Every record of frame `f` that is still pending receives its second record. -/
def State.classify (s : State) (f retry kind action : Nat) : State :=
  let done := s.recovery.fsr.map (fun r => field r 184 8)
  let l := s.recovery.fsr.filter (fun r =>
    field r 145 1 == 0 && field r 64 8 == f && field r 184 8 == 0 && !done.contains (field r 8 8))
  l.foldl (fun s r =>
    let seq := s.num Obj.FSR_LAST_SEQ + 1
    let s := s.setNum Obj.FSR_LAST_SEQ seq
    let log := s.recovery.fsr ++ [fsrPatch r seq retry kind action]
    { s with recovery := { s.recovery with fsr := log.drop (log.length - 65536) } }) s

/-! ## Targets (01 R28) -/

/-- Sites reserved as the target of a pending migration or by a load in progress. -/
def State.reserved (s : State) : List Nat :=
  s.recovery.migs.map (fun m => m.dst) ++ (match s.loading with | some l => l.place | none => []) ++
  (match s.recovery.roll with | some r => r.moves.map (fun m => m.2) | none => [])

/-- ACTIVE dies of a cell, reserved targets among them. -/
def State.cellActive (s : State) (c : Nat) : Nat :=
  ((List.range 9).filter (fun i => (s.die (9 * c + i)).st == .active || s.reserved.contains (9 * c + i))).length

/-- The entry with the least key; the lowest site among equals. -/
def minKey : List (Nat × Nat) → Option (Nat × Nat)
  | [] => none
  | x :: t => match minKey t with
    | none => some x
    | some y => some (if x.1 < y.1 ∨ (x.1 = y.1 ∧ x.2 ≤ y.2) then x else y)

/-- A site in a die state that may take a virtual die; a die with a field entry first passes field test (15 R413), and
control core 3 prepares it (01 R31). -/
def State.offers (s : State) (st : DieSt) (i : Nat) : Bool :=
  let d := s.die i
  d.st == st && !d.quarantined && !d.isolated && d.after == 0 && d.field.isEmpty && !s.reserved.contains i && decide (d.noTargetUntil ≤ s.time) &&
  !d.haltedPairs.contains 3

/-- The target of R28 for a virtual die at site `src`, among the sites in state `st`. -/
def State.targetIn (s : State) (st : DieSt) (src : Nat) : Option Nat :=
  let c := cellOf src
  let own := allSites.filter (fun i => s.offers st i && cellOf i == c)
  let cand := if own.isEmpty then allSites.filter (fun i => s.offers st i && decide (s.cellActive (cellOf i) < 8)) else own
  (minKey (cand.map (fun i =>
    (2 * hops c (cellOf i) + (if s.checks.reps.any (fun r => r.site == i) then 1 else 0), i)))).map (fun x => x.2)

def State.target (s : State) (src : Nat) : Option Nat := s.targetIn .warmSpare src

/-- A replay whose die is taken is abandoned; another die takes it up (10 R277). -/
def State.abandonRep (s : State) (site : Nat) : State :=
  let mine := s.checks.reps.filter (fun r => r.site == site)
  { s with checks := { s.checks with
    reps := s.checks.reps.filter (fun r => r.site != site)
    waitReplay := s.checks.waitReplay ++ (mine.filter (fun r => !r.second)).map (fun r => r.vd)
    again := s.checks.again ++ mine.filter (fun r => r.second)
    regrow := s.checks.regrow + 2 * mine.length } }

/-- A die put into the queue for power-on (13 R385). -/
def State.wantPower (s : State) (site : Nat) : State :=
  let d := s.die site
  if d.st == .coldSpare && !d.powered && !s.power.queue.contains site then
    { s with power := { s.power with queue := s.power.queue ++ [site] } }
  else s

/-! ## Slot descriptors (02 R43) -/

/-- The EMPTY descriptors that `n` slots displace are taken out; the first other one moves, and every later one with it. -/
def dropEmpties : Nat → List Desc → List Desc
  | 0, l => l
  | _, [] => []
  | n + 1, d :: t => if d.kind = .empty then dropEmpties n t else d :: t

/-- The head of the list belongs to the slot that runs: a CONTINUATION, or a later slot of a BLANK. -/
def Desc.bound (d : Desc) : Bool := d.kind == .continuation || d.cont

/-- Descriptors that displace the posted ones from the next slot on. A stretched pair is not split. -/
def State.displace (s : State) (ds : List Desc) : State :=
  let pre := s.slots.posted.takeWhile Desc.bound
  let rest := s.slots.posted.drop pre.length
  { s with slots := { s.slots with posted := pre ++ ds ++ dropEmpties ds.length rest } }

/-- Descriptors put in behind the last posted BLANK slot, where they displace what follows. -/
def afterBlank (l ds : List Desc) : List Desc :=
  let n := l.length - (l.reverse.takeWhile (fun d => d.kind != .blank)).length
  l.take n ++ ds ++ dropEmpties ds.length (l.drop n)

/-- The slot for which the next descriptor is posted. -/
def State.postSlot (s : State) : Nat := s.slots.slot + 1 + s.slots.posted.length

/-- A frame that starts in slot `n` is stretched (02 R56). -/
def State.stretchedAt (s : State) (n : Nat) : Bool :=
  s.slots.stretchOn && decide (s.slots.stretchFrom ≤ n) && (match s.slots.stretchEnd with | some e => decide (n < e) | none => true)

/-- A PROGRAM or REPLAY descriptor turned EMPTY; a BLANK slot stays. -/
def Desc.emptied (d : Desc) : Desc := if d.kind = .blank then d else {}

/-- A frame and, where it takes two slots, its CONTINUATION. -/
def framePair (d : Desc) : List Desc := if d.two then [d, { kind := .continuation }] else [d]

/-- BLANK lasts one slot, or as many as hold 120 µs (02 R55). -/
def State.blanks (s : State) : List Desc :=
  let n := max 1 ((120000 + s.period - 1) / s.period)
  { kind := .blank } :: List.replicate (n - 1) { kind := .blank, cont := true }

/-- The REPLAY of a frame in slot `n`: promoted where the frame has promotion entries (10 R269), stretched where frames
are (02 R56). -/
def State.replayDescs (s : State) (frame n : Nat) (late : Bool) : List Desc :=
  let pr := s.fallbackD && s.checks.promos.any (fun p => p.1 == frame)
  framePair { kind := .replay, frame := frame, promoted := pr, two := pr || s.stretchedAt n, late := late }

/-- The migration of a swapped-out suspect is cancelled: its frame waits again in EMPTY slots (15 R412, R418). -/
def State.unswap (s : State) (src : Nat) : State :=
  match s.slots.swapped, s.slots.failed with
  | some (site, _), some f =>
    if site = src ∧ s.slots.posted.any (fun d => d.kind == .replay) then
      { s with slots := { s.slots with posted := s.slots.posted.map Desc.emptied }
               recovery := { s.recovery with waitFrame := some f } }
    else s
  | _, _ => s

/-! ## The end of an attempt's work (02 R49, R50) -/

/-- A packet that belongs to an attempt or carries an HBM credit; firmware traffic is neither (09 R241). -/
def ofAttempt (p : Packet) : Bool := decide ((pktH p).type ≤ 9)

/-- A stream at the start of an attempt: the first entry of its list, full credits, empty digests (09 R245, R246, R248). -/
def Stream.restart (x : Stream) : Stream :=
  { srcVd := x.srcVd, dstVd := x.dstVd, pairs := x.pairs, txEng := x.txEng, rxEng := x.rxEng, list := x.list }

/-- The NIs discard the attempt's traffic and enter every discard in their ledgers. -/
def State.discard (s : State) : State :=
  let gone := s.net.flight.filter (fun x => ofAttempt x.pkt)
  let n := (gone.map Flying.flits).sum
  let s := gone.foldl (fun s x => s.ledDestroy (s.srcIf (pktH x.pkt)) (s.srcIf (pktH x.pkt)) (flitCat x.pkt) x.flits) s
  { s with net := { ((s.net.drop 3).drop 4).drop 5 with
    flight := s.net.flight.filter (fun x => !ofAttempt x.pkt), discards := s.net.discards + n, reqTaken := []
    streams := SMap.mapV streamD Stream.restart s.net.streams } }

/-- The attempt in progress is stopped before its end; the rest of the slot is ABANDONED (02 R50, 15 R420, 14 R403). -/
def State.stopAttempt (s : State) : State :=
  match s.slots.att with
  | none => s
  | some a =>
    let s := s.discard
    { s with
      snaps := []
      slots := { s.slots with
        att := none, kind := .abandoned, reports := []
        posted := s.slots.posted.dropWhile (fun d => d.kind == .continuation) }
      checks := { s.checks with capture := [], sampling := false, sampleLate := s.checks.sampleLate || s.checks.sampling }
      larder := { s.larder with copying := s.larder.copying.filter (fun c => c.resume != a.frame) } }

/-! ## HOLD and SAFE (17 R480, R483) -/

/-- A pending command dropped (17 R483). -/
def State.dropCmd (s : State) (p : Bool) : State := if p then s.count Obj.COMMANDS_DROPPED else s

/-- A cause to enter HOLD at the next boundary; the first one stands. -/
def State.holdNext (s : State) (cause : Nat) : State :=
  if s.slots.wantHold = 0 then { s with slots := { s.slots with wantHold := cause } } else s

/-- RUNNING to HOLD: posted PROGRAM and REPLAY slots turn EMPTY (02 R43). -/
def State.toHold (s : State) (cause : Nat) : State :=
  if s.panel = .running then
    let s := s.dropCmd (s.slots.pHold && cause != 1)
    let s := (s.enter .hold).setNum Obj.HOLD_CAUSE cause
    { s with
      slots := { s.slots with pHold := false, wantHold := 0, posted := s.slots.posted.map Desc.emptied }
      recovery := { s.recovery with waitFrame := none } }
  else { s with slots := { s.slots with wantHold := 0 } }

/-- Flags of a response record (12 R357). -/
def rspLast : Nat := 2

/-- A request holds a KV page on a stack that is out of service (08 R221). -/
def State.kvLost (s : State) (id : Nat) : Bool :=
  match s.prog with
  | none => false
  | some p => s.larder.owner.any (fun o => o.2 == id + 1 &&
      (let e := (SMap.get (fun _ => (0 : BitVec 32)) s.larder.tables o.1).toNat
       decide (2 ^ 31 ≤ e) &&
       (s.stack ((s.net.route s.net.epochB).stackOf (e % 2 ^ 31 * 2 ^ p.services.pageLog / 2 ^ 37))).st == 1))

/-- Every request held is ended: with status KV_LOST where a page that it holds is lost, else ENDED (08 R221, 12 R357, 15 R428,
11 R323). -/
def State.endHeld (s : State) : State :=
  let lost := s.fabric.held.filter (fun r => s.kvLost r.id)
  let s := if lost.isEmpty then s else s.count Obj.KV_LOST_REQUESTS lost.length
  { s with fabric := { s.fabric with
    held := []
    responses := s.fabric.responses ++ s.fabric.held.map (fun r =>
      { sess := r.sess, tag := r.tag, id := r.id, status := if s.kvLost r.id then 3 else 4, flags := rspLast, frame := 0, entry := 0
        body := [] }) } }

/-- Announced flips and BLANK slots cancelled. -/
def State.cancelFlips (s : State) : State :=
  let s := if s.recovery.migs.isEmpty then s else s.count Obj.MIGRATIONS_CANCELLED s.recovery.migs.length
  { s with
    net := { s.net with invState := if s.net.invState = 2 then 1 else s.net.invState, flipAt := 0, flipDue := false }
    recovery := { s.recovery with migs := [], waitFrame := none }
    slots := { s.slots with stretchEnd := none, posted := s.slots.posted.map (fun d => if d.kind = .blank then {} else d) } }

/-- SAFE with its cause (15 R427): every posted descriptor turns EMPTY, announced flips are cancelled, nothing more is
released, and but for cause 4 the held requests end. A later cause replaces cause 4. -/
def State.toSafe (s : State) (cause : Nat) : State :=
  if s.panel = .loaded ∨ s.panel = .running ∨ s.panel = .hold then
    let s := s.stopAttempt
    let s := ((((s.dropCmd s.slots.pHold).dropCmd s.slots.pResume).dropCmd s.slots.pUnload).dropCmd s.slots.pStart).cancelFlips
    let s := ((s.enter .safe).setNum Obj.SAFE_CAUSE cause)
    let s := { s with
      slots := { s.slots with
        posted := [], ended := none, snap := none, pHold := false, pResume := false, pUnload := false, pStart := false
        wantHold := 0, stretchOn := false, stretchEnd := none, opAt := 0, opNew := [], opDue := false
        failed := (match s.slots.ended with | some e => some e.att.frame | none => s.slots.failed) }
      recovery := { s.recovery with roll := none, reqs := [] } }
    let s := s.fsr { part := 4, det := 0x19, kind := 2, action := 0x10 }
    if cause = 4 then s else s.endHeld
  else if s.panel = .safe ∧ s.num Obj.SAFE_CAUSE = 4 ∧ cause ≠ 4 then (s.setNum Obj.SAFE_CAUSE cause).endHeld
  else s

/-! ## Dies entered and left (11 R321, 17 R486) -/

/-- A master on a die is frozen: a control-core pair, or a compute core (15 R415). -/
def State.frozenOn (s : State) (site : Nat) : Bool :=
  !(s.die site).frozenPairs.isEmpty || s.cores.any (fun x => x.1 / 272 == site && x.2.frozen.isSome)

/-- The fill bundle: SYNC opcode 0x1F and zero elsewhere (05 R122). -/
def fillBundle : BitVec 256 := BitVec.ofNat 256 (31 * 2 ^ 251)

/-- The physical cores of a site with the virtual cores that virtual die `vd` puts on them (01 R20, R21). -/
def State.placeOn (s : State) (site vd : Nat) : List (Nat × Nat) :=
  (List.range 16).flatMap (fun i => (List.range 16).map (fun j =>
    let sp := (s.die site).spare i
    (site * 272 + i * 17 + (if j < sp then j else j + 1), vcoreId s.gridW (vd) i j)))

/-- The instruction memory of a core with its code block, and the fill bundle after it. -/
def codeList (code : List (BitVec 256)) (k : Nat) : SMap (BitVec 256) :=
  (List.range 2048).filterMap (fun a =>
    let b := (code[a]?).getD fillBundle
    if b = 0 then none else some (imemKey k a, b))

/-- The code of a virtual die written into a site (11 R321 step 3). -/
def State.writeCode (s : State) (p : Prog) (site vd : Nat) : State :=
  (s.placeOn site vd).foldl (fun s x =>
    let l := codeList (SMap.get (fun _ => []) p.code x.2) x.1
    { s with imem := SMap.splice (fun _ => 0) s.imem (imemKey x.1 0) (imemKey x.1 2048) l }) s

/-- The initial scratchpad image of a virtual die written into a site from LOADCOPY; every other byte is zero. -/
def State.writeLoadCopy (s : State) (p : Prog) (site vd : Nat) : State :=
  let lo := spadKey (site * 272) 0
  let hi := spadKey (site * 272 + 272) 0
  (s.placeOn site vd).foldl (fun s x =>
    let l := (SMap.range p.loadCopy (spadKey x.2 0) (spadKey x.2 (2 ^ 19))).map (fun e => (spadKey x.1 (e.1 % 2 ^ 19), e.2))
    { s with spad := SMap.splice zByte s.spad (spadKey x.1 0) (spadKey x.1 (2 ^ 19)) l })
    { s with spad := SMap.clearRange s.spad lo hi }

/-- A migration target prepared, or entered from LOADCOPY (15 R417, R424). -/
def State.enterDie (s : State) (site vd : Nat) (fromLoad : Bool) : State :=
  match s.prog with
  | some p => let s := (s.setHashing site false).writeCode p site vd
              if fromLoad then s.writeLoadCopy p site vd else s
  | none => s

/-- The cores of a site without their state. -/
def State.clearCores (s : State) (site : Nat) : State :=
  { s with cores := SMap.clearRange s.cores (site * 272) (site * 272 + 272)
           snaps := SMap.clearRange s.snaps (site * 272) (site * 272 + 272) }

/-- A die leaves ACTIVE by a flip or an unload: FROZEN while a master on it is frozen, else as its cause requires
(17 R486): 1 TEST, 3 quarantine, 5 powered off, else WARM-SPARE. Control core 3 runs on it again (03 R83, R84, 17 R485;
log 67). -/
def State.leave (s : State) (site : Nat) : State :=
  let d := s.die site
  let fr := s.frozenOn site
  let st : DieSt := if d.st = .dark then .dark else if fr then .frozen
    else if d.after = 1 then .test else if d.after = 3 ∨ d.after = 5 ∨ !d.powered then .coldSpare else .warmSpare
  let s := if fr || d.st == .dark then s else s.clearCores site
  let s := if d.st = .dark then s else (s.setHashing site (st == .test)).dieEnter site st
  s.updDie site (fun d => { d with
    vd := none, services := [], hubTelemetry := false, after := 0, powered := d.powered && st != .coldSpare && st != .dark, rehearsedFrame := none
    haltedPairs := if fr then d.haltedPairs else []
    corner := if st = .test then 1 else 0, cornerAt := s.time })

/-- The program leaves the panel: dies become spares, maps and routes are cleared, services stop (11 R323). -/
def State.clearProgram (s : State) : State :=
  let s := (allSites.filter (fun i => (s.die i).vd.isSome)).foldl (fun s i => s.leave i) s
  { s with
    prog := none
    slots := { slot := s.slots.slot, tag := s.slots.tag }
    checks := { lastCert := s.checks.lastCert, lastRevoke := s.checks.lastRevoke }
    larder := {}
    net := {}
    recovery := { lastRecon := s.recovery.lastRecon, fsr := s.recovery.fsr, restart := s.recovery.restart }
    fabric := { s.fabric with collSent := [], landed := [], emptySince := none, lostPanels := s.fabric.lostPanels } }

/-- Unload takes effect (11 R323). -/
def State.unloadNow (s : State) : State := (((s.stopAttempt.endHeld).clearProgram).enter .ready).reConcord

/-! ## The loss of a die (15 R420 to R424) -/

/-- What a die holds in the categories of R253, which its isolation destroys. Flits count with the path that they are on. -/
def State.dieHeld (s : State) (site : Nat) : List Nat :=
  [0, 1, 2, 3, 4, 5, 0].map (fun c => if c = 0 then 0 else (s.net.ledAt site c 2).toNat)

/-- The reconciliation record (15 R421). -/
def reconRecord (site cause time slot : Nat) (am : List Nat) : Bytes :=
  bytesLE 2 site ++ bytesLE 2 cause ++ bytesLE 4 0 ++ bytesLE 8 time ++ bytesLE 8 slot ++ am.flatMap (bytesLE 8)

/-- A site isolated by its hub and its ledger closed (09 R250, 15 R421). -/
def State.isolateDie (s : State) (site cause : Nat) : State :=
  let am := s.dieHeld site
  let rec' := reconRecord site cause s.time s.slots.slot am
  let s := [1, 2, 3, 4, 5].foldl (fun s c => s.ledDestroy site site c (am.getD c 0)) s
  (({ s with recovery := { s.recovery with recons := s.recovery.recons ++ [rec'], lastRecon := rec' } }).setOct
    Obj.RECON_LAST rec').updDie site (fun d => { d with isolated := true })

/-- A rollback begins, or is begun again with one more virtual die (15 R424, R419). Recovery slots displace what is posted;
a BLANK slot stays, and the PROGRAM slots are posted again behind the REPLAYs. -/
def State.startRoll (s : State) (vd : Nat) (att : Option Nat) : State :=
  let s := s.count Obj.ROLLBACK_COUNT
  let resume := match s.larder.committed with | some c => c.resume | none => 0
  let failed := match s.recovery.roll with
    | some r => r.failed
    | none => match s.slots.ended, att with
      | some e, some a => some (max e.att.frame a)
      | some e, none => some e.att.frame
      | none, some a => some a
      | none, none => match s.slots.failed with
        | some f => some f
        | none => if 0 < s.slots.nextFrame then some (s.slots.nextFrame - 1) else none
  let old := match s.recovery.roll with | some r => r.vds.filter (fun v => v != vd) | none => []
  let mv := match s.recovery.roll with | some r => if r.flipped then [] else r.moves.filter (fun m => m.1 != vd) | none => []
  let again := match s.recovery.roll with | some r => r.flipped | none => false
  let slot : Desc := { kind := .empty, recovery := true }
  let r : Rollback := { vds := (if again then [] else old) ++ [vd], moves := mv, resume := resume, failed := failed }
  { s with
    recovery := { s.recovery with roll := some r, waitFrame := none }
    slots := { s.slots with
      ended := none, failed := none, sigs := [], attempts := 0, ran := 0, swapped := none
      posted := if s.slots.posted.isEmpty then [slot] else s.slots.posted.map (fun d => if d.kind = .blank then d else slot) } }

/-- The hub-mesh links of a path (09 R233): each as (hub, next hub). -/
def hubLinks (a b : Nat) : List (Nat × Nat) := (hubPath a b).zip ((hubPath a b).drop 1)

/-- The crossbar ports of a stream's path, with their pairs: 1,024 of a die link, 1,536 of a hub-mesh port. `place` gives the site
of a virtual die. -/
def streamPorts (place : Nat → Nat) (x : Stream) : List (Nat × Nat × Nat) :=
  let a := place x.srcVd
  let b := place x.dstVd
  (100 + a, 1000, 1024) :: (1000, 100 + b, 1024) :: (hubLinks (cellOf a) (cellOf b)).map (fun l => (l.1, l.2, 1536))

/-- The pairs reserved for every stream on every port of its path, the first that are free (09 R243; log 64). -/
def reservePairs (place : Nat → Nat) (l : List Stream) : List Pairs :=
  (List.range l.length).foldl (fun r i =>
    let x := l.getD i {}
    r ++ (streamPorts place x).map (fun p =>
      ({ stream := i, src := p.1, dst := p.2.1, count := x.pairs
         first := ((r.filter (fun y => y.src == p.1 && y.dst == p.2.1)).map (fun y => y.count)).sum } : Pairs))) []

/-- The streams of the load. -/
def State.streamList (s : State) : List Stream := s.net.streams.map (fun x => x.2)

/-- The route version with virtual dies placed on new sites, written into the inactive version (09 R251, 15 R417). -/
def State.writeMoves (s : State) (mv : List (Nat × Nat)) : State :=
  let r := s.net.route s.net.epochB
  let die := mv.foldl (fun m x => SMap.put (fun _ => 144) m x.1 x.2) r.dieMap
  let r' : Route := { r with
    dieMap := die
    streams := reservePairs (fun v => SMap.get (fun _ => 144) die v) s.streamList
    coreMap := mv.foldl (fun m x => (List.range 16).foldl (fun m i =>
      SMap.put (fun _ => 16) m (16 * x.2 + i) ((s.die x.2).spare i)) m) r.coreMap }
  let s := s.writeRoute (fun _ => r')
  { s with net := { s.net with invState := 1, writes := [] } }

/-- Targets of a rollback: chosen under R28, a cold spare powered where no warm one qualifies; the route version is
written once every virtual die has its target and the inactive version is free (15 R424). -/
def State.rollTargets (s : State) : State :=
  match s.recovery.roll with
  | none => s
  | some r =>
    let s := (r.vds.filter (fun v => !r.moves.any (fun m => m.1 == v))).foldl (fun s v =>
      let src := (s.net.route s.net.epochB).site v
      match s.target src with
      | some t =>
        let s := s.abandonRep t
        { s with recovery := { s.recovery with roll := s.recovery.roll.map (fun (x : Rollback) => { x with moves := x.moves ++ [(v, t)] }) } }
      | none => match s.targetIn .coldSpare src with
        | some t => s.wantPower t
        | none => s.holdNext 5) s
    match s.recovery.roll with
    | none => s
    | some r =>
      if r.vds.all (fun v => r.moves.any (fun m => m.1 == v)) && !r.flipped && !r.written then
        if s.net.invState = 0 ∨ (s.net.invState = 1 ∧ s.recovery.migs.isEmpty) then
          let s := (r.moves.foldl (fun s m => s.enterDie m.2 m.1 true) s).writeMoves
            (r.moves ++ s.recovery.migs.map (fun m => (m.vd, m.dst)))
          { s with recovery := { s.recovery with roll := some { r with written := true } } }
        else s
      else s

/-- Every virtual die of a rollback has its target. -/
def Rollback.ready (r : Rollback) : Bool := r.vds.all (fun v => r.moves.any (fun m => m.1 == v))

/-- The recovery slots that a rollback displaces the posted ones with are BLANK once every target is chosen (15 R424). -/
def State.rollSlots (s : State) : State :=
  match s.recovery.roll with
  | some r => if r.ready then
      { s with slots := { s.slots with posted := s.slots.posted.map (fun d => if d.recovery then { d with kind := .blank } else d) } }
    else s
  | none => s

/-- The frame whose attempt is in progress. -/
def State.attFrame (s : State) : Option Nat := match s.slots.att with | some a => some a.frame | none => none

/-- The services of a logical control core of a site start again on the pair of the same number of another ACTIVE die,
the one with the lowest site index (03 R83; log 33). -/
def State.restartServices (s : State) (site pair : Nat) : State :=
  let v := SMap.get zeroD (s.die site).services pair
  if v = 0 then s
  else match allSites.find? (fun i => i != site && (s.die i).st == .active && !(s.die i).haltedPairs.contains pair) with
    | some i =>
      (s.updDie site (fun d => { d with services := SMap.put zeroD d.services pair 0 })).updDie i
        (fun d => { d with services := SMap.upd zeroD d.services pair (fun x => x ||| v) })
    | none => s

/-- A compute die lost (15 R413, R420 to R424): dark and isolated, with a reconciliation record; the attempt in
progress ends; after the loss of an ACTIVE die a rollback begins. Migrations it takes part in follow R419. -/
def State.dieLoss (s : State) (site det unit : Nat) : State :=
  let d := s.die site
  if d.st = .dark ∨ d.st = .lost ∨ d.st = .coldSpare then s
  else
    let vd := d.vd
    let fr := s.attFrame
    let s := (s.isolateDie site det).fsr { part := 0, index := site, unit := unit, det := det, kind := 2, action := 0x100 + (if vd.isSome then 4 else 1) }
    let s := s.stopAttempt
    let mine := s.recovery.migs.find? (fun m => m.src == site)
    let late := s.slots.kind == .blank && s.net.invState == 2 && decide (s.tickOf (s.slots.slot + 1) ≤ s.time + 5000) &&
      !(match s.slots.posted.head? with | some d => d.cont | none => false)
    let asDst := if late then none else s.recovery.migs.find? (fun m => m.dst == site)
    let s := (List.range 3).foldl (fun s p => s.restartServices site p) s
    let s := ((s.dieEnter site .dark).updDie site (fun d => { d with powered := false, vd := none, corner := 0 })).clearCores site
    let s := { s with spad := SMap.clearRange s.spad (spadKey (site * 272) 0) (spadKey (site * 272 + 272) 0) }
    let s := s.lastingFault site det unit
    let s := s.abandonRep site
    let s := { s with
      bringup := { s.bringup with testQ := s.bringup.testQ.filter (fun i => i != site) }
      recovery := { s.recovery with reqs := s.recovery.reqs.filter (fun r => r.site != site) } }
    let s := match asDst with
      | some m =>
        let s := s.count Obj.MIGRATIONS_CANCELLED
        let s := { s with
          recovery := { s.recovery with migs := s.recovery.migs.filter (fun x => x.dst != site) }
          net := { s.net with flipAt := 0, flipDue := false, invState := if s.net.invState = 2 then 1 else s.net.invState } }
        (s.reqMig m.src m.prio).unswap m.src
      | none => s
    match vd with
    | none => s
    | some v =>
      if s.prog.isNone || !(s.panel == .loaded || s.panel == .running || s.panel == .hold) then s
      else
        let s : State := s.startRoll v fr
        let s : State := match mine with
          | some m => { s with recovery := { s.recovery with
              migs := s.recovery.migs.map (fun x => { x with fromLoad := true })
              roll := s.recovery.roll.map (fun r => { r with moves := r.moves ++ [(v, m.dst)] }) } }
          | none => { s with recovery := { s.recovery with migs := s.recovery.migs.map (fun x => { x with fromLoad := true }) } }
        let s := if allSites.any (fun i => s.offers .warmSpare i || s.offers .coldSpare i) then s else s.holdNext 5
        s.rollTargets.rollSlots

/-- A hub is lost: its three stacks go with it, and the panel enters SAFE (15 R427). -/
def State.hubLoss (s : State) (hub det : Nat) : State :=
  let s := (s.updHub hub (fun h => { h with lost := true })).fsr { part := 1, index := hub, unit := 0x0F, det := det, kind := 2, action := 0x10 }
  let s := (List.range 3).foldl (fun s i => s.updStack (3 * hub + i) (fun x => { x with st := 1 })) s
  s.toSafe 2

/-! ## Revocation (10 R281, R285) -/

/-- A revocation record written, numbered and sent to the host. `first` to `last` must hold a frame. -/
def State.revoke (s : State) (reason first last sample vd site r1 r2 : Nat) : State :=
  let n := s.checks.revokeSeq + 1
  let body := bytesLE 4 0x524E4748 ++ bytesLE 2 1 ++ bytesLE 2 reason ++ bytesLE 8 n ++ bytesLE 8 first ++ bytesLE 8 last ++
    bytesLE 8 sample ++ bytesLE 2 vd ++ bytesLE 2 site ++ bytesLE 2 r1 ++ bytesLE 2 r2 ++ bytesLE 8 s.time ++ fit 48 s.checks.head
  let rec' := body ++ fit 96 (Config.sign 0 body)
  (({ s with
    checks := { s.checks with revokeSeq := n, lastRevoke := rec' }
    fabric := { s.fabric with notices := s.fabric.notices ++ [(1, 0, rec')] }
    access := { s.access with signCount := s.access.signCount + 1 } }).setNum Obj.REVOKE_SEQ n).setOct Obj.REVOKE_LAST rec'

/-! ## The quench (14 R402 to R406) -/

/-- A compute die at or above 95 °C. -/
def State.hotDies (s : State) : Nat := (allSites.filter (fun i => (s.die i).powered && decide (9500 ≤ (s.die i).control))).length

/-- The quench record (14 R405). The dies at or above 95 °C are those at detection. -/
def State.quenchRecord (s : State) (q : Quench) : Bytes :=
  let c := match s.prog, s.checks.lastCertified with | some _, some x => x | _, _ => (0, 0)
  let r := match s.prog, s.larder.committed with | some _, some k => k.resume | _, _ => 0
  fit 64 (bytesLE 4 0x514E4748 ++ bytesLE 2 1 ++ bytesLE 2 q.cause ++ bytesLE 8 q.time ++ bytesLE 8 q.slot ++ bytesLE 8 c.1 ++
    bytesLE 8 c.2 ++ bytesLE 8 r ++ bytesLE 1 q.stage ++ bytesLE 1 (if s.net.epochB then 1 else 0) ++ bytesLE 2 q.hot)

/-- The record written to its object and sent to the host as a response of tag 0 (14 R405). -/
def State.sendQuench (s : State) (q : Quench) : State :=
  let b := s.quenchRecord q
  let s := s.setOct Obj.QUENCH_RECORD b
  { s with thermal := { s.thermal with quench := some q }
           fabric := { s.fabric with objOut := s.fabric.objOut ++ [(0, b)] } }

/-- The quench (14 R403, R404, R406): issue stops, every die drops to OP0, the stacks go into self-refresh,
announcements are cancelled, recovery steps and tests stop, RUNNING enters HOLD. -/
def State.quench (s : State) (cause : Nat) : State :=
  if s.thermal.quench.isSome ∨ s.panel = .cold ∨ s.panel = .aux then s
  else
    let s := (s.count Obj.QUENCH_COUNT).fsr { part := 4, det := 0x1B, kind := 6, action := 8 }
    let q : Quench := { cause := cause, time := s.time, slot := s.slots.slot, hot := s.hotDies }
    let s := s.stopAttempt
    let s := { s with slots := { s.slots with
      failed := match s.slots.ended with
        | some e => if e.audit.isSome then s.slots.failed else some e.att.frame
        | none => s.slots.failed
      ended := match s.slots.ended with | some e => if e.audit.isSome then some e else none | none => none
      opAt := 0, opNew := [], opDue := false, stretchFrom := 0 } }
    let s := s.cancelFlips
    let s := { s with
      dies := SMap.mapV dieD (fun (x : Die) => { x with op := 0, allow := 0, allowAt := if x.allow = 0 then x.allowAt else s.time, steps := [] }) s.dies
      hbmStacks := SMap.mapV stackD (fun (x : Stack) => if x.st = 0 then { x with st := 2 } else x) s.hbmStacks
      net := { s.net with flight := s.net.flight.filter (fun x => (pktH x.pkt).type != 7) }
      recovery := { s.recovery with roll := s.recovery.roll.map (fun (r : Rollback) => { r with restored := false, entered := false }) }
      power := { s.power with queue := [], soft := none }
      thermal := { s.thermal with release := true } }
    let s : State := (allSites.filter (fun i => (s.die i).st == .test)).foldl (fun s i =>
      let s := (s.dieEnter i .coldSpare).updDie i (fun d => { d with powered := false, corner := 0 })
      { s with bringup := { s.bringup with testQ := i :: s.bringup.testQ.filter (fun x => x != i) } }) s
    let s : State := if s.panel == .bringup then
        (allSites.filter (fun i => (s.die i).powered)).foldl (fun s i =>
          (s.dieEnter i .coldSpare).updDie i (fun d => { d with powered := false })) s
      else s
    let s : State := if s.panel == .running then s.toHold 4 else s
    let s := { s with slots := { s.slots with posted := if s.prog.isSome then [] else s.slots.posted } }
    s.sendQuench q

end Sys2Proof.Machine
end

