-- ==== Sys2Proof/Machine/Frame.lean ====
section
/-! DEFINITION. Slots, ticks, attempts, descriptors, audits, verdicts and operating points (02, 15 R412, 10 R286). -/

namespace Sys2Proof.Machine

/-! ## The audit's snapshot (09 R253 to R256) -/

/-- What a hub sums of a category over the ledgers of its cell: Σ created − Σ destroyed − Σ held (09 R254, R255). -/
def Net.cellSum (n : Net) (cell cat : Nat) : Int :=
  ((n.ledger.filter (fun e => e.1 % 32 / 3 == cat && e.1 % 32 < 24 && ifCell (e.1 / 32) == cell)).map (fun e =>
    if e.1 % 32 = 3 * cat then e.2 else -e.2)).sum

/-- The sums of every cell, by category (09 R255). -/
def Net.cellSums (n : Net) : List (List Int) := (List.range 16).map (fun c => (List.range 8).map (fun k => n.cellSum c k))

/-- A category's sum over the panel. -/
def catSum (l : List (List Int)) (cat : Nat) : Int := (l.map (fun c => c.getD cat 0)).sum

/-- What a root makes of the sums that reach it: bit i for category i of R253; the flits of either virtual channel count
in bit 0 (09 R253, R254, R256). `err` is what the way to the root has done to the sums. -/
def rootBits (l : List (List Int)) (err : List (Nat × Int)) : Nat :=
  let v (k : Nat) : Int := catSum l k + ((err.filter (fun e => e.1 == k)).map (fun e => e.2)).sum
  (if v 0 = 0 ∧ v 7 = 0 then 0 else 1) + ((List.range 5).map (fun i => if v (i + 1) = 0 then 0 else 2 ^ (i + 1))).sum

/-- The streams whose two digests differ (09 R248). -/
def State.streamsBad (s : State) : List Stream :=
  (s.net.streams.filter (fun x => x.2.txCrc != x.2.rxCrc || x.2.txBytes != x.2.rxBytes)).map (fun x => x.2)

/-- LEDGER.IMBALANCE but for what the roots sum: outstanding tokens show in bit 3 (07 R191), digests that differ, header
faults, late discards. -/
def State.imbalance (s : State) : Nat :=
  let n := s.net
  (if n.led 3 2 = 0 then 0 else 8) + (if s.streamsBad.isEmpty then 0 else 128) + (if n.header then 256 else 0) +
  (if n.lateHeavy then 512 else 0)

/-- The ledger summary of a boundary (09 R256). -/
def State.ledgerSummary (s : State) (slot : Nat) : Bytes :=
  fit 64 (bytesLE 8 slot ++ bytesLE 8 (s.net.led 0 0 + s.net.led 7 0).toNat ++ bytesLE 8 s.net.discards ++ bytesLE 4 s.net.tokens ++
    bytesLE 4 s.net.lateSince ++ bytesLE 2 s.imbalance ++ bytesLE 1 (if s.net.epochB then 1 else 0) ++
    bytesLE 1 s.net.streams.length ++
    bytesLE 8 (s.net.streams.foldl (fun x e => x ^^^ e.2.rxCrc) (0 : BitVec 64)).toNat)

/-- Sites that old flits are addressed to: of an attempt that has ended or of an epoch that is not current (09 R252). -/
def State.oldSites (s : State) : List Nat :=
  ((s.net.flight.filter (fun x =>
    let h := pktH x.pkt
    (ofAttempt x.pkt && h.att != s.slots.tag.toNat) || s.slots.att.isNone && ofAttempt x.pkt || h.epoch != s.net.epochB)).map (fun x =>
      (s.sinkSite (pktH x.pkt)).getD 144)).dedup

/-- The snapshot of a boundary: the summary that the audit judges; stream digests that differ are reported (09 R248,
R254). -/
def State.takeSnap (s : State) (slot : Nat) : State :=
  let bad := s.streamsBad
  let snap : Snap := { boundary := s.tickOf slot, summary := s.ledgerSummary slot, cells := s.net.cellSums }
  let s := ({ s with slots := { s.slots with snap := some snap } }).setNum
    Obj.LADLE_TOKENS_OUTSTANDING (s.net.led 3 2).toNat
  let s := bad.foldl (fun s x =>
    let site := (s.net.route s.net.epochB).site x.dstVd
    let s := s.count Obj.STREAM_DIGEST_FAILS
    let s := match s.slots.ended with
      | some e => { s with slots := { s.slots with ended := some { e with reports := e.reports ++ [({ det := 0x09, vd := some x.dstVd, site := some site } : Report)] } } }
      | none => s
    s.fsr { part := 0, index := site, unit := 6, det := 0x09, frame := s.slots.ended.map (fun e => e.att.frame) }) s
  { s with net := { s.net with lateSince := 0, lateHeavy := false, header := false, undrained := s.oldSites } }

/-- The fold of the old-epoch counts: at zero the inactive version is free (09 R251). -/
def State.foldEpoch (s : State) : State :=
  let n := ((s.net.flight.filter (fun x => (pktH x.pkt).epoch != s.net.epochB)).map Flying.flits).sum
  { s with net := { s.net with oldFlits := n, invState := if s.net.invState = 3 ∧ n = 0 then 0 else s.net.invState } }

/-! ## The end of an attempt (02 R49, R51, 10 R283 to R286, 07 R197) -/

/-- The largest lateness of the cores of a site in the attempt (03 R67). -/
def State.siteLate (s : State) (site : Nat) : Nat :=
  (s.cores.filter (fun x => x.1 / 272 == site)).foldl (fun m x => max m x.2.late) 0

/-- The virtual cores that missed their last frame mark, with the last mark passed (02 R51). -/
def State.overrunSet (s : State) : List (Nat × Nat) :=
  s.activeCores.filterMap (fun k =>
    let c := s.core k
    if c.lastMark then none else some ((s.vcoreOf k).getD 0xFFFF, c.ordinal))

/-- The cores held under code 5, 6 or 7 that have issued nothing for σ × P (07 R197). -/
def State.stuckCores (s : State) : List Nat :=
  s.activeCores.filter (fun k =>
    let c := s.core k
    c.frozen.isNone && !c.lastMark && decide (s.slack ≤ s.time - c.lastIssueTime) &&
    match c.hold with | some h => h.1 == 5 || h.1 == 6 || h.1 == 7 | none => false)

/-- Stall of the attempt per die, the share of slack used, the runs of R429. -/
def State.noteStall (s : State) : State :=
  let sites := s.sites.filter (fun i => decide (i < 144))
  let safes := sites.map (fun i => (s.die i).safe)
  let med := (safes.mergeSort (fun a b => decide (a ≤ b))).getD (safes.length / 2) 0
  let floor := match s.prog with | some p => p.floor | none => 0
  let worst := sites.foldl (fun m i => max m (s.siteLate i)) 0
  let s1 := sites.foldl (fun t i =>
    let late := s.siteLate i
    t.updDie i (fun d => { d with
      stallHist := (late :: d.stallHist).take 16
      floorRun := if d.safe = floor ∧ floor + 2 ≤ med then d.floorRun + 1 else 0 })) s
  { s1 with slots := { s1.slots with slackHist := ((if s.slack = 0 then 0 else min 255 (worst * 100 / s.slack)) :: s.slots.slackHist).take 64 } }

/-- The rehearsal of the dies whose turn it is: flagged, or a checker fault, after which the die rehearses no further (10 R283
to R285). -/
def State.rehearse (s : State) (frame : Nat) (missed : List Nat) : State :=
  let t := s.num Obj.REHEARSAL_PERIOD
  (s.sites.filter (fun i => decide (i < 144) && !(s.die i).quarantined && t != 0 && (frame + i) % t == 0)).foldl (fun s i =>
    let d := s.die i
    if missed.contains i then
      let s := ((s.count Obj.REHEARSAL_MISSES).setNum Obj.REHEARSAL_LAST_MISS_SITE i).dieFault i 0x12 0x0B
      let first := match d.rehearsedFrame with | some f => f + 1 | none => 0
      let s := match s.checks.lastReleased with
        | some l => if first ≤ l then s.revoke 3 first l frame ((d.vd).getD 0xFFFF) i 0xFFFF 0xFFFF else s
        | none => s
      (s.quarantine i).reqMig i 2
    else
      let s := (s.count Obj.REHEARSAL_COUNT).updDie i (fun d => { d with rehearsals := d.rehearsals + 1, rehearsedFrame := some frame })
      { s with checks := { s.checks with rehearsed := s.checks.rehearsed + 1 } }) s

/-- The classes and Class D comparisons of the attempt's cores (10 R286). -/
def State.classBits (s : State) : Nat := s.cores.foldl (fun m x => m ||| x.2.classes) s.checks.classes
def State.dCount (s : State) : Nat := s.cores.foldl (fun m x => m + x.2.dOps) s.checks.dOps

/-- The check summary; CHK.FINAL and CHK.REVOKESEQ are filled in when the entry is formed (10 R286). -/
def State.checkSummary (s : State) (a : Attempt) (sample : Bool) : Bytes :=
  let c := s.checks
  let prov := match s.prog with | some p => p.rBearing | none => false
  let flags := (if prov then 1 else 0) + (if sample then 2 else 0) + (if a.promoted then 4 else 0) +
    (if a.stretched then 8 else 0) + (if a.replay then 16 else 0) + (if a.rollback then 32 else 0)
  bytesLE 8 c.eTiles ++ bytesLE 8 s.dCount ++ bytesLE 4 c.fallD ++ bytesLE 4 c.fallR ++ bytesLE 4 c.rehearsed ++
  bytesLE 4 c.corrected ++ bytesLE 2 flags ++ bytesLE 1 s.classBits ++ bytesLE 1 0 ++ bytesLE 4 a.no ++ bytesLE 8 a.slot ++
  bytesLE 8 0 ++ bytesLE 8 0

/-- The outbound transcript digest of a virtual die: its cores in row-major order, its streams by engine index (10 R275; log 71). -/
def State.transcript (s : State) (vd : Nat) : Bytes :=
  let site := (s.net.route s.net.epochB).site vd
  let cores := (s.placeOn site vd).map (fun x => s.core x.1)
  let rec' (p : Nat) (x : Nat × Nat) : Bytes := bytesLE 1 p ++ bytesLE 8 x.1 ++ bytesLE 8 x.2
  sha384 ((cores.flatMap (fun c => (List.range 20).flatMap (fun p => rec' p (SMap.get (fun _ => (0, 0)) c.paths p)))) ++
    (((s.net.streams.filter (fun x => x.2.srcVd == vd)).mergeSort (fun a b => decide (a.2.txEng ≤ b.2.txEng))).flatMap (fun x =>
      rec' (20 + x.2.txEng) (x.2.txBytes, x.2.txCrc.toNat))) ++
    (cores.flatMap (fun c => bytesLE 8 (SMap.get (fun _ => (0, 0)) c.paths 32).2)))

/-- The frame is a sample: its capture completed and every replay of the sample before it has ended (10 R273). -/
def State.isSample (s : State) : Bool := s.checks.sampling && s.checks.reps.isEmpty && s.checks.waitReplay.isEmpty

/-- The frame was due to be a sample (10 R273). -/
def State.sampleDue (s : State) (frame : Nat) : Bool :=
  (match s.prog with | some p => p.rBearing | none => false) &&
  (frame % max 1 (s.num Obj.R_SAMPLE_INTERVAL) == 0 || s.checks.sampleLate)

/-! ## A failed attempt (15 R412, R413, 02 R51) -/

/-- The site named by the most pairs of a signature, ties to the lowest site (15 R412). -/
def State.suspect (s : State) (sig : Sig) : Option (Nat × Nat) :=
  let named := sig.pairs.filterMap (fun p => match p.2 with
    | some v => if [0x01, 0x02, 0x04, 0x05, 0x07, 0x09, 0x0D, 0x12].contains p.1 then some (p.1, v) else none
    | none => none)
  let sites := (named.map (fun x => (s.net.route s.net.epochB).site x.2)).dedup
  match minKey (sites.map (fun i => (1000 - (named.filter (fun x => (s.net.route s.net.epochB).site x.2 == i)).length, i))) with
  | some x => (named.find? (fun n => (s.net.route s.net.epochB).site n.2 == x.2)).map (fun n => (x.2, n.1))
  | none => none

/-- The die with the largest stall in the last attempt, ties to the lowest site (02 R51). -/
def State.slowest (s : State) : Option Nat :=
  (minKey ((s.sites.filter (fun i => decide (i < 144))).map (fun i => (10 ^ 12 - (s.die i).stallHist.headD 0, i)))).map (fun x => x.2)

/-- The second failure of a frame is a program fault (15 R412, 02 R51). -/
def programFault (a b : Sig) : Bool :=
  if !a.overrun.isEmpty && !b.overrun.isEmpty then a.overrun == b.overrun
  else
    a.pairs == b.pairs && !b.pairs.isEmpty &&
    b.pairs.all (fun p => p.1 == 0x03 || p.1 == 0x08 || p.1 == 0x0B || (p.1 == 0x0A && a.tokensOnly && b.tokensOnly))

/-- The fault ends in HOLD at the next boundary. -/
def State.fault (s : State) (frame cause retry : Nat) : State :=
  let s := s.count (if cause = 2 then Obj.PROGRAM_FAULTS else Obj.UNRESOLVED_FAULTS)
  (s.classify frame retry (if cause = 2 then 3 else 4) 8).holdNext cause

/-- The REPLAY of a frame from the next slot on. -/
def State.postReplay (s : State) (frame : Nat) (late : Bool) : State :=
  s.displace (s.replayDescs frame (s.slots.slot + 1) late)

/-- A suspect die migrates before attempt 3; the frame waits in EMPTY slots until then (15 R412, R430). Where its BLANK slot
is posted already, attempt 3 follows it. -/
def State.swapOut (s : State) (frame site det : Nat) : State :=
  let going := s.recovery.migs.any (fun m => m.src == site)
  if going || (s.target site).isSome || (s.targetIn .coldSpare site).isSome then
    let s := { s with slots := { s.slots with swapped := some (site, det), posted := s.slots.posted.map Desc.emptied } }
    if going then
      { s with slots := { s.slots with posted := afterBlank s.slots.posted (s.replayDescs frame (s.slots.slot + 2) false) } }
    else
      let s := s.reqMig site 1
      { s with recovery := { s.recovery with waitFrame := some frame } }
  else s.fault frame 3 5

/-- The last suspected-deadlock record of a core, to which its freeze record refers (07 R197). -/
def State.deadlockSeq (s : State) (k : Nat) : Nat :=
  match (s.recovery.fsr.filter (fun r => field r 54 2 == 0x0C && some (field r 58 2) == s.vcoreOf k)).getLast? with
  | some r => field r 8 8
  | none => 0

/-- An attempt of a frame has failed. -/
def State.failAttempt (s : State) (a : Attempt) (sig : Sig) (inexactOnly late : Bool) : State :=
  let s := { s with slots := { s.slots with failed := some a.frame, ran := a.no } }
  if inexactOnly && !a.promoted then
    let s := { s with slots := { s.slots with attempts := 0, sigs := [] } }
    if s.panel = .running then s.postReplay a.frame late else s
  else
    let n := s.slots.attempts + 1
    let first := s.slots.sigs.head?
    let s := { s with slots := { s.slots with attempts := n, sigs := s.slots.sigs ++ [sig] } }
    if s.panel != .running then s
    else if n = 1 then s.postReplay a.frame late
    else if n = 2 then
      match first with
      | none => s.postReplay a.frame late
      | some f =>
        if sig.hbm.any (fun h => f.hbm.contains h) then s.toSafe 2
        else if programFault f sig then
          let both := sig.stuck.filter (fun k => f.stuck.contains k)
          let s := both.foldl (fun s k => s.freezeAt k (s.core k).pc .sync 0 10 0 (s.deadlockSeq k)) s
          s.fault a.frame 2 5
        else if !sig.overrun.isEmpty then
          match s.slowest with
          | some i => s.swapOut a.frame i 0x0B
          | none => s.fault a.frame 3 5
        else match s.suspect sig with
          | some x => s.swapOut a.frame x.1 x.2
          | none => s.fault a.frame 3 5
    else s.fault a.frame 3 3

/-- The pairs of a signature. -/
def pairsOf (l : List Report) : List (Nat × Option Nat) :=
  ((l.filter (fun r => r.det != 0x100)).map (fun r => (r.det, r.vd))).dedup

/-- The physical cores that reports name. -/
def coresOf (l : List Report) : List Nat := (l.filterMap (fun r => r.core)).dedup

/-- The suspected-deadlock records of an overrun (07 R197). -/
def State.deadlockRecords (s : State) (l : List Nat) : State :=
  l.foldl (fun s k =>
    let h := ((s.core k).hold).getD (0, 0)
    ((s.count Obj.DEADLOCK_SUSPECTS).setNum Obj.DEADLOCK_LAST_CORE ((s.vcoreOf k).getD 0xFFFF)).fsr
      { part := 0, index := k / 272, unit := 3, det := 0x0C, vcore := (s.vcoreOf k).getD 0xFFFF,
        detail := bytesLE 2 h.1 ++ bytesLE 2 h.2, ord := some (s.core k).pc }) s

/-- The attempt reaches the tick that ends it (02 R42, R45, R49). A frozen core ends it in HOLD without a replay
(15 R415): a program fault where no detector of codes 0x01 to 0x07 spoke of the core's die, or where the replay after a release
freezes the same core at the same bundle (log 172). -/
def State.finishAttempt (s : State) (a : Attempt) (missed : List Nat) : State :=
  let s := s.noteStall
  let ov := s.overrunSet
  let stuck := s.stuckCores
  let frozen := s.cores.any (fun x => x.2.frozen.isSome && (s.vcoreOf x.1).isSome)
  let s := if a.frame = s.slots.nextFrame then { s with slots := { s.slots with nextFrame := a.frame + 1 } } else s
  let sampled := s.isSample
  let due := s.sampleDue a.frame
  let s := s.rehearse a.frame missed
  let missedMark := !ov.isEmpty
  let s := if missedMark then
      let s := ((s.count Obj.OVERRUN_COUNT).setNum Obj.LAST_OVERRUN_FRAME a.frame)
      let vds := (ov.map (fun x => vdOf s.gridW x.1)).dedup
      let s := vds.foldl (fun s v => s.report 0x0B (some v) none) s
      let s := s.fsr { part := 4, det := 0x0B, detail := fit 32 (sha384 (ov.flatMap (fun x => bytesLE 2 x.1 ++ bytesLE 2 x.2))) }
      (s.deadlockRecords stuck).discard
    else s
  let bad := s.recovery.hbmBad
  let reps := s.slots.reports
  let s := { s with
    recovery := { s.recovery with hbmBad := [] }
    slots := { s.slots with att := none, reports := [] }
    snaps := [] }
  if frozen then
    let again := s.cores.any (fun x => match x.2.frozen with
      | some z => s.slots.thawed.contains ((s.vcoreOf x.1).getD 0xFFFF, z.pc)
      | none => false)
    let sites := (s.cores.filter (fun x => x.2.frozen.isSome)).map (fun x => x.1 / 272)
    let k := if !again && reps.any (fun r => decide (1 ≤ r.det) && decide (r.det ≤ 7) &&
        (match r.vd with | some v => sites.contains ((s.net.route s.net.epochB).site v) | none => false)) then 4 else 3
    let s := (s.count (if k = 3 then Obj.PROGRAM_FAULTS else Obj.UNRESOLVED_FAULTS)).classify a.frame 4 k 0x28
    let s := { s with
      slots := { s.slots with failed := some a.frame, ran := a.no, wantHold := 6 }
      checks := { s.checks with capture := [], sampling := false, sampleLate := due } }
    if missedMark then s else s.discard
  else if missedMark then
    let s := { s with checks := { s.checks with capture := [], sampling := false, sampleLate := due } }
    s.failAttempt a { pairs := pairsOf reps, cores := coresOf reps, overrun := ov, stuck := stuck, hbm := bad } false true
  else
    let e : Ended := { att := a, boundary := s.tickOf s.slots.slot, reports := reps, sample := sampled, hbm := bad,
                       stuck := stuck, summary := s.checkSummary a sampled }
    let vds := List.range s.gridV
    let tr := if sampled then vds.foldl (fun m v => SMap.put noB m v (s.transcript v)) s.checks.transcripts else s.checks.transcripts
    { s with
      slots := { s.slots with ended := some e }
      checks := { s.checks with sampling := false, sampleLate := due && !sampled, transcripts := tr
                                sampleBuf := if sampled then s.checks.readBuf else s.checks.sampleBuf
                                capture := if sampled then s.checks.capture else [] } }

/-! ## The start of an attempt (05 R123, 07 R179, 09 R241, R245) -/

/-- A core at the start of an attempt. The hints it has given the governor stay with the governor. -/
def Core.atStart (c : Core) : Core := { hints := c.hints, hintLevel := c.hintLevel }

/-- A physical core of a virtual die on an ACTIVE site. -/
def State.isActiveCore (s : State) (k : Nat) : Bool := (s.die (k / 272)).st == .active && (s.vcoreOf k).isSome

/-- Channel credits, at load and at each attempt start: 16 for each sender, channel and sink, by the NI of the sender's die
(09 R253). -/
def State.channelCredits (s : State) : List (Nat × Nat) :=
  match s.prog with
  | none => []
  | some p => p.bindings.map (fun b =>
      ((s.net.route s.net.epochB).site (vdOf p.w b.1),
        ((b.2.filter (fun x => decide (4 ≤ x.kind) && decide (x.kind ≤ 6))).map (fun x =>
          if x.kind = 5 then 16 * (mcastSpan (x.flags / 2 % 2 == 1) x.peer x.spanEnd b.1).length else 16)).sum))
def State.giveCredits (s : State) : State := s.channelCredits.foldl (fun s x => s.ledCreate x.1 1 x.2) s

/-- The state of a core's frame-state read buffer of frame `n`, keyed by virtual core and physical byte (08 R223). -/
def State.readBuffers (s : State) (n : Nat) : SMap Byte :=
  match s.prog with
  | none => []
  | some p => p.windows.flatMap (fun w =>
      match w.2.find? (fun x => x.kind == 2), s.coreOf s.net.epochB w.1 with
      | some r, some k =>
        let lo := swapView w.2 (n % 2 == 1) r.base
        (SMap.range s.spad (spadKey k lo) (spadKey k (lo + r.len))).map (fun e => (spadKey w.1 (e.1 % 2 ^ 19), e.2))
      | _, _ => [])

/-- The current halves of the checkpointed HBM frame state for frame `n`, keyed by virtual stack (08 R223, 11 R306). -/
def State.readHalves (s : State) (n : Nat) : SMap Byte :=
  match s.prog with
  | none => []
  | some p => (p.regions.filter (fun r => r.kind == 3 && r.flags % 2 == 1)).flatMap (fun r =>
      let off := r.off + (if n % 2 = 1 then r.len else 0)
      let st := (s.net.route s.net.epochB).stackOf r.vstack
      (SMap.range s.hbm (hbmKey st off) (hbmKey st (off + r.len))).map (fun e => (hbmKey r.vstack (e.1 % 2 ^ 37), e.2)))

/-- The buffers that a checkpoint copies (08 R226). -/
def Prog.buffers (p : Prog) : List CkBuf :=
  ((p.windows.filter (fun w => w.2.any (fun x => x.kind == 2))).map (fun w => CkBuf.spad w.1)) ++
  (((List.range p.regions.length).filter (fun i =>
    match p.regions[i]? with | some r => r.kind == 3 && r.flags % 2 == 1 | none => false)).map CkBuf.hfs)

/-- What the SERVICE regions hold (11 R306, R314). -/
def State.serviceBytes (s : State) (p : Prog) : Bytes :=
  (p.regions.filter (fun r => r.kind == 20)).flatMap (fun r =>
    s.hbmRead ((s.net.route s.net.epochB).stackOf r.vstack) r.off r.len)

/-- Checkpoint c with what its buffers and the services hold before frame c + 1 (08 R223). -/
def State.checkpoint (s : State) (p : Prog) (frame : Nat) : Ck :=
  { resume := frame, wait := p.buffers, spad := s.readBuffers frame, hbm := s.readHalves frame, service := s.serviceBytes p
    tables := s.larder.tables, kvFree := s.larder.kvFree, kvPending := s.larder.kvPending }

/-- The copy of checkpoint c begins, or begins again, in an attempt of frame c + 1 (08 R225). -/
def State.startCopy (s : State) (frame : Nat) : State :=
  match s.prog with
  | some p =>
    if frame % max 1 p.k = 0 ∧ frame ≠ 0 then
      { s with larder := { s.larder with
        copying := s.larder.copying.filter (fun c => c.resume != frame) ++ [s.checkpoint p frame]
        holdHist := (0 :: s.larder.holdHist).take 64 } }
    else s
  | none => s

/-- The state of every active core at the start of an attempt; a frozen core keeps its own (15 R415). -/
def State.startCores (s : State) : State :=
  { s with
    cores := s.cores.filterMap (fun x =>
      let c := if s.isActiveCore x.1 && x.2.frozen.isNone then x.2.atStart else x.2
      if c = {} then none else some (x.1, c))
    snaps := [] }

/-- The arrival counter of every page-table copy is incremented once for the frame (08 R219; log 30). -/
def State.tableCounts (s : State) : State :=
  match s.prog with
  | none => s
  | some p => p.services.pts.foldl (fun s t =>
      match s.coreOf s.net.epochB t.1 with
      | some k => s.updCore k (fun c => c.incAc t.2.2)
      | none => s) s

/-- An attempt opens at the tick of its slot. -/
def State.startAttempt (s : State) (a : Attempt) (kind : SlotKind) : State :=
  let s := (s.startCores.setNum Obj.FRAME_NOW a.frame)
  let s := if a.replay then s.count Obj.REPLAY_COUNT else s
  let s := if a.promoted then s.count Obj.PROMOTED_REPLAYS else s
  let s := { s with
    slots := { s.slots with att := some a, kind := kind, reports := [], tag := s.slots.tag + 1 }
    checks := { s.checks with
      eTiles := 0, dOps := 0, fallD := 0, fallR := 0, rehearsed := 0, corrected := 0, classes := 0, capture := []
      promos := s.checks.promos.filter (fun p => p.1 == a.frame || some p.1 == s.slots.failed ||
        (match s.slots.ended with | some e => p.1 == e.att.frame | none => false))
      sampling := s.sampleDue a.frame, readBuf := if s.sampleDue a.frame then s.readBuffers a.frame else s.checks.readBuf }
    dies := SMap.mapV dieD (fun (d : Die) => { d with stallNs := 0 }) s.dies
    fabric := { s.fabric with expMax := (0 :: s.fabric.expMax).take 64 }
    net := { s.net.drop 1 with
      tokens := 0, qMax := (0 :: s.net.qMax).take 64, latMax := (0 :: s.net.latMax).take 64
      streams := SMap.mapV streamD Stream.restart s.net.streams } }
  (s.giveCredits.tableCounts).startCopy a.frame

/-! ## The trivet's work at a boundary (13 R382, 14 R397, 15 R429) -/

/-- The panel cap: object 3030.01, one point lower while VIN is low (02 R52, 13 R367). -/
def State.panelCap (s : State) : Nat := s.num Obj.OP_CAP_PANEL - (if s.power.vinLow then 1 else 0)

/-- The caps of a site other than the trivet's: IVRs, panel, a hot stack of its cell (02 R52, 13 R372, 14 R393). -/
def State.siteCap (s : State) (site : Nat) : Nat :=
  min (s.die site).ivrCap (min s.panelCap (s.hub (cellOf site)).hotCap)

/-- The running point of R52: the least of safe point, caps and the panel cap, at or above the floor where the safe
point allows. -/
def State.pointOf (s : State) (site cap : Nat) : Nat :=
  let floor := match s.prog with | some p => p.floor | none => 0
  min (s.die site).safe (max floor (min cap (s.siteCap site)))

/-- The floor of the loaded program: a die that enters ACTIVE starts at it, where its safe point allows (02 R52). -/
def State.panelFloor (s : State) : Nat := match s.prog with | some p => p.floor | none => 0

/-- The power of a site in mW when an ACTIVE die `i` is counted at point `pt i`; a die in TEST counts 380 W (13 R378,
R382, 16 R458), and one on calibration defaults at level 16 (18 R505). -/
def State.dieMw (s : State) (pt : Nat → Nat) (i : Nat) : Nat :=
  let d := s.die i
  if d.st = .test then 380000
  else if d.st = .active then (if d.calDef then 100 * pfull (pt i) else Config.diePowerMw (s.calOf i) (pt i) (s.peakOf i))
  else if d.st = .warmSpare then 15000
  else if d.powered then Config.diePowerMw (s.calOf i) d.op 0 else 0

/-- The power of the panel in mW (13 R378). -/
def State.estimate (s : State) (pt : Nat → Nat) : Nat :=
  let dies := (allSites.map (s.dieMw pt)).sum
  let hubs := 180000 * ((List.range 16).filter (fun h => !(s.hub h).lost)).length
  let mem := 28000 * ((List.range 48).filter (fun i => (s.stack i).st == 0)).length
  let ports := 90000 * ((List.range 8).filter (fun i => !(s.portDie i).off)).length
  (dies + hubs + mem + ports + (if s.power.soft.isSome then 216000 else 0)) * 1055 / 1000

/-- The budget and the current condition of 13 R380 for an estimate in mW. -/
def State.fits (s : State) (mw : Nat) : Bool :=
  let pcap := min (1000 * s.power.capW) s.thermal.ptherm
  let vmin := if s.power.vminSlot = 0 then 1700 else s.power.vminSlot
  decide (105 * mw ≤ 100 * pcap) && decide (105 * mw ≤ 100 * s.power.capA * vmin)

/-- The panel state lets tests run: from READY to HOLD, outside a quench (17 R481, 14 R406). -/
def State.testing (s : State) : Bool :=
  (s.panel == .ready || s.panel == .loaded || s.panel == .running || s.panel == .hold) && s.thermal.quench.isNone

/-- A die in TEST at a corner, or on its way there by a migration. -/
def Die.inTest (d : Die) : Bool := (d.st == .test && d.corner != 0) || (d.st == .active && d.after == 1)

/-- Control core 3 of a die does not run: it halted since the die was powered on (03 R84). Such a die is not tested. -/
def Die.noCore3 (d : Die) : Bool := d.powered && d.haltedPairs.contains 3 && d.st != .active

/-- The head of the test queue: dies on their way to TEST by a migration have been admitted already. -/
def State.testHead (s : State) : Option Nat := s.bringup.testQ.find? (fun i => !(s.die i).inTest && !(s.die i).noCore3)

/-- What a test of the die adds to the estimate, in mW (16 R458). -/
def Die.testAdds (d : Die) : Nat :=
  match d.st with
  | .test => 0
  | .coldSpare => 380000
  | _ => 365000

/-- The amount reserved for the head of the test queue before any die is raised above the floor (16 R458). -/
def State.testReserve (s : State) : Nat :=
  match s.testHead with
  | some i => if s.testing && s.num Obj.TEST_ENABLE == 1 then (s.die i).testAdds * 1055 / 1000 else 0
  | none => 0

/-- Dies raised one point at a time, lowest running point first, while the budget holds with the amount reserved for a test
(13 R382, 16 R458). -/
def State.raise (s : State) : Nat → SMap Nat → SMap Nat
  | 0, caps => caps
  | n + 1, caps =>
    let cap (i : Nat) : Nat := SMap.get zeroD caps i
    let open' := (s.sites.filter (fun i => decide (i < 144))).filter (fun i =>
      decide (cap i < min (s.die i).safe (s.siteCap i)))
    match minKey (open'.map (fun i => (cap i, i))) with
    | none => caps
    | some x =>
      let caps' := SMap.put zeroD caps x.2 (cap x.2 + 1)
      if s.fits (s.estimate (fun i => SMap.get zeroD caps' i) + s.testReserve) then s.raise n caps' else caps

/-- Writes of the power and current caps that fall due (13 R383). -/
def State.capsDue (s : State) : State :=
  let due := s.power.capDue.filter (fun x => decide (x.1 ≤ s.time))
  { s with power := { due.foldl (fun (p : Power) x => if x.2.1 then { p with capA := x.2.2 } else { p with capW := x.2.2 }) s.power with
    capDue := s.power.capDue.filter (fun x => !decide (x.1 ≤ s.time)) } }

/-- The water temperature and flow that the trivet takes: the report's, or 32 °C and 60 L/min (14 R400). -/
def State.tin (s : State) : Int := if s.thermal.stale then 3200 else ofI32 (s.num Obj.COOLANT_INLET)
def State.flow (s : State) : Nat := if s.thermal.stale then 60000 else s.num Obj.COOLANT_FLOW

/-- Ptherm of R399 in mW. -/
def State.pthermBase (s : State) : Nat :=
  let above := (max 0 (s.tin - 3200)).toNat
  max 20000000 (40000000 - 12500 * above)

/-- Ptherm at a boundary: 2 % lower once per 10 ms while cooling is degraded; 1 % higher per 10 ms, back to R399's
value, once neither condition has held for 10 s (14 R399, R401). -/
def State.thermalBudget (s : State) : State :=
  let th := s.thermal
  let base := s.pthermBase
  let ok := match th.degradedOkSince with | some t => decide (t + 10000000000 ≤ s.time) | none => false
  let p : Nat × Nat :=
    if th.degraded then
      if th.pthermAt + 10000000 ≤ s.time then (max 20000000 (min base (th.ptherm * 98 / 100)), s.time) else (min base th.ptherm, th.pthermAt)
    else if base ≤ th.ptherm then (base, th.pthermAt)
    else match th.degradedOkSince with
      | none => (base, th.pthermAt)
      | some _ => if ok && decide (th.pthermAt + 10000000 ≤ s.time) then (min base (th.ptherm * 101 / 100), s.time) else (th.ptherm, th.pthermAt)
  { s with thermal := { th with ptherm := p.1, pthermAt := p.2 } }

/-- VIN of the slot that ends goes into the history of 64 slots (13 R389). -/
def State.vinSlot (s : State) : State :=
  { s with power := { s.power with vinHist := ((0, 0) :: s.power.vinHist).take 64, vminSlot := 0 } }

/-- The estimates of the last slot in objects 2000.03 to 2000.05 and in the per-site blocks (13 R389, 17 R487). -/
def State.notePower (s : State) : State :=
  if s.panel = .cold ∨ s.panel = .aux ∨ s.panel = .simmer then s
  else
    let pt (i : Nat) : Nat := (s.die i).op
    let e := s.estimate pt
    let head : Int := (1000 * s.power.capW : Int) * 100 / 105 - e
    let s := allSites.foldl (fun s i => s.updDie i (fun d => { d with powerW := s.dieMw pt i / 1000 })) s
    let s := (s.setNum Obj.POWER_EST_W (e / 1000)).setNum Obj.POWER_HEADROOM_W (i32 (head / 1000))
    s.setNum Obj.CURRENT_EST_A (e / (if s.power.vminSlot = 0 then 1800 else s.power.vminSlot))

/-- The caps of the ACTIVE dies from the budget, and the change of points that they lead to (13 R382, 02 R54). The budget
caps no spare: it runs at the lower of its safe point and its other caps (02 R52). -/
def State.budget (s : State) : State :=
  let s := s.notePower
  let sites := s.sites.filter (fun i => decide (i < 144))
  let caps := s.raise 1536 (sites.foldl (fun m i => SMap.put zeroD m i s.panelFloor) [])
  let s := sites.foldl (fun s i => s.updDie i (fun d => { d with trivetCap := SMap.get zeroD caps i })) s
  let spares := allSites.filter (fun i => (s.die i).powered && (s.die i).st == .warmSpare)
  let new := (sites.map (fun i => (i, s.pointOf i (SMap.get zeroD caps i))) ++ spares.map (fun i => (i, s.pointOf i 11))).filter
    (fun x => (s.die x.1).op != x.2)
  if s.slots.opAt = 0 ∧ !new.isEmpty ∧ s.thermal.quench.isNone then
    { s with slots := { s.slots with opAt := s.time + 2 * s.period, opNew := new } }
  else s

/-- The mean of the last `n` samples of a die's control temperature. -/
def Die.meanOf (d : Die) (n : Nat) : Int :=
  let l := d.hist.take n
  if l.isEmpty then 0 else l.sum / l.length

/-- The median of a list of temperatures: the middle one, or the mean of the two middle ones. -/
def medianI (l : List Int) : Int :=
  let m := l.mergeSort (fun a b => decide (a ≤ b))
  (m.getD ((l.length - 1) / 2) 0 + m.getD (l.length / 2) 0) / 2

/-- Thermal rotation (14 R397): at most one per cell and 100 ms, to a spare of the cell at least 8 K cooler by the means of
1 ms (14 R391). -/
def State.rotate (s : State) : State :=
  (List.range 16).foldl (fun s c =>
    let act := (List.range 9).map (fun i => 9 * c + i) |>.filter (fun i => (s.die i).st == .active)
    let med := medianI (act.map (fun i => (s.die i).meanOf 100))
    let lim : Int := if s.thermal.degraded then 500 else 800
    let spares := (List.range 9).map (fun i => 9 * c + i) |>.filter (fun i =>
      s.offers .warmSpare i && decide ((s.die i).noRotateUntil ≤ s.time))
    let last := SMap.get zeroD s.thermal.rotAt c
    match act.find? (fun i => decide (med + lim < (s.die i).meanOf 100) &&
        spares.any (fun t => decide ((s.die t).meanOf 10 + 800 ≤ (s.die i).meanOf 10))) with
    | some i =>
      if last = 0 ∨ last + 100000000 ≤ s.time then
        let s := { s with thermal := { s.thermal with rotAt := SMap.put zeroD s.thermal.rotAt c s.time } }
        s.reqMig i 5
      else s
    | none => s) s

/-- Stragglers (15 R429). -/
def State.stragglers (s : State) : State :=
  (s.sites.filter (fun i => decide (i < 144))).foldl (fun s i =>
    let d := s.die i
    if 8 ≤ (d.stallHist.filter (fun x => decide (s.slack < 2 * x))).length ∨ 64 ≤ d.floorRun then s.reqMig i 6 else s) s

/-! ## Migrations (15 R416, R417) -/

/-- A spare that does not run the new image is no target of a rollout (16 R453 step 5). -/
def State.keepNew (s : State) : State :=
  (allSites.filter (fun i => !(s.die i).newFw)).foldl (fun s i => s.updDie i (fun d => { d with isolated := true })) s

/-- A die in TEST of the cell gives way to a migration of priority 1 to 4: its test stops at the next boundary (16 R460). -/
def State.stopTest (s : State) (r : MigReq) : State :=
  if 1 ≤ r.prio ∧ r.prio ≤ 4 then
    match (List.range 9).find? (fun i => (s.die (9 * cellOf r.site + i)).st == .test) with
    | some i => s.updDie (9 * cellOf r.site + i) (fun d => { d with after := 2 })
    | none => s
  else s

/-- Tests that stop at this boundary: the die becomes WARM-SPARE and heads the test queue (16 R460). -/
def State.stopTests (s : State) : State :=
  (allSites.filter (fun i => (s.die i).st == .test && (s.die i).after == 2)).foldl (fun s i =>
    let s := ((s.setHashing i false).dieEnter i (if (s.die i).powered then .warmSpare else .coldSpare)).updDie i (fun d =>
      { d with after := 0, corner := 0 })
    { s with bringup := { s.bringup with testQ := i :: s.bringup.testQ.filter (fun x => x != i) } }) s

/-- The target of a request: by R397 for a rotation, by R28 for the rest. -/
def State.targetFor (s : State) (r : MigReq) : Option Nat :=
  if r.prio = 5 then
    (minKey ((allSites.filter (fun i => s.offers .warmSpare i && cellOf i == cellOf r.site && decide ((s.die i).noRotateUntil ≤ s.time) &&
      decide ((s.die i).meanOf 10 + 800 ≤ (s.die r.site).meanOf 10))).map (fun i =>
        (((s.die i).meanOf 10 + 1000000).toNat, i)))).map (fun x => x.2)
  else if r.prio = 8 then (s.keepNew).target r.site
  else s.target r.site

/-- One request taken up where its cell has none yet, eight are not reached and a target exists; else a cold spare is
powered for it (15 R416, R430). A rotation without a spare does not take place (14 R397). -/
def State.takeReq (s : State) (r : MigReq) : State :=
  let drop (s : State) : State := { s with recovery := { s.recovery with reqs := s.recovery.reqs.filter (fun x => x.site != r.site) } }
  match (s.die r.site).vd with
  | none => drop s
  | some v =>
    if s.recovery.migs.any (fun m => cellOf m.src == cellOf r.site) || decide (8 ≤ s.recovery.migs.length) then s
    else match s.targetFor r with
      | some t =>
        let m : Mig := { vd := v, src := r.site, dst := t, prio := r.prio }
        let s := s.abandonRep t
        { s with recovery := { s.recovery with
          migs := s.recovery.migs ++ [m], reqs := s.recovery.reqs.filter (fun x => x.site != r.site) } }
      | none =>
        let s := s.stopTest r
        match s.targetIn .coldSpare r.site with
        | some t => if r.prio = 5 then drop s else s.wantPower t
        | none => if r.prio = 5 then drop s else s

/-- The migrations of the next BLANK slot: chosen by priority, their targets prepared, the route version written. A
version that is not free refuses the write (15 R416, R417, R419). -/
def State.chooseMigs (s : State) : State :=
  if s.recovery.migs.isEmpty && s.recovery.roll.isNone && !s.recovery.reqs.isEmpty && s.thermal.quench.isNone &&
      (s.panel == .running || s.panel == .hold || s.panel == .loaded) then
    if s.net.invState ≤ 1 then
      let l := (List.range 9).flatMap (fun p => s.recovery.reqs.filter (fun r => r.prio == p))
      let s := l.foldl (fun s r => s.takeReq r) s
      if s.recovery.migs.isEmpty then s
      else
        let s := s.recovery.migs.foldl (fun s m => s.enterDie m.dst m.vd false) s
        s.writeMoves (s.recovery.migs.map (fun m => (m.vd, m.dst)))
    else s.count Obj.ROUTE_FLIPS_REFUSED
  else s

/-! ## The tick (02 R40 to R44) -/

/-- The flip of the migrations of a BLANK slot is cancelled; each is requested again (15 R418). -/
def State.cancelMigs (s : State) : State :=
  let s := s.count Obj.MIGRATIONS_CANCELLED s.recovery.migs.length
  let l := s.recovery.migs
  let s := { s with
    recovery := { s.recovery with migs := [] }
    net := { s.net with invState := if s.net.invState = 2 then 1 else s.net.invState, flipAt := 0, flipDue := false } }
  l.foldl (fun s m => (s.reqMig m.src m.prio).unswap m.src)
    { s with slots := { s.slots with stretchEnd := none } }

/-- The migrations of a BLANK slot that ends: those without a matching copy are cancelled and requested again
(15 R418). Without an announced flip none takes place. -/
def State.endBlank (s : State) : State :=
  if s.slots.kind = .blank ∧ !s.recovery.migs.isEmpty then
    let ok (m : Mig) : Bool := (m.copied || m.fromLoad) && s.net.invState == 2 && decide (s.net.flipAt ≤ s.time)
    let lost := s.recovery.migs.filter (fun m => !ok m)
    if lost.isEmpty then s else s.cancelMigs
  else s

/-- What is announced falls due at a boundary: a flip of migrations at the boundary that ends their BLANK slot, an
operating-point change but at the opening of a promoted replay (02 R54, 10 R269, 09 R251). -/
def State.dueNow (s : State) : State :=
  let blankEnd := s.slots.kind == .blank
  let flip := s.net.flipAt != 0 && decide (s.net.flipAt ≤ s.time) && s.net.invState == 2 && (s.recovery.migs.isEmpty || blankEnd)
  let prom := match s.slots.posted.head? with | some d => d.promoted | none => false
  let op := s.slots.opAt != 0 && decide (s.slots.opAt ≤ s.time) && !prom
  { s with
    net := { s.net with flipDue := flip || s.net.flipDue }
    slots := { s.slots with opDue := op || s.slots.opDue } }

/-- The commands that wait for a boundary (17 R480, R483). -/
def State.pendingCmds (s : State) : State :=
  let s := if s.slots.pHold && s.panel == .running then s.toHold 1 else s
  let s := if s.slots.wantHold ≠ 0 then s.toHold s.slots.wantHold else s
  if s.slots.pUnload && (s.panel == .hold || s.panel == .loaded) then s.unloadNow else s

/-- At a boundary every fabric port that is up sends its counts, by class and dateline channel (12 R352). -/
def State.portCounts (s : State) (slot : Nat) : State :=
  (s.fabric.ports.map (fun x => x.1)).foldl (fun s i =>
    let p := s.port i
    if p.linked && !p.lost && s.portRole i == 0 then
      let g : GlpSpec := { cls := 4, op := 0x12, arg := slot, dstp := s.neighbour (dirOf i)
                           payload := (List.range 10).flatMap (fun c => bytesLE 8 (SMap.get zeroD p.sent c)) }
      let s := s.updPort i (fun p => { p with gotAudit := false, missed := if p.gotAudit then 0 else p.missed })
      if p.up then s.queueFrame i (s.mkFrame g 0) else s
    else s) s

/-- The boundary: the attempt ends, snapshots and folds, what waits for it, and the trivet's work (02 R44). -/
def State.boundary (s : State) (slot : Nat) (missed : List Nat) : State :=
  let s := match s.slots.att with | some a => s.finishAttempt a missed | none => s
  let s := if s.panel == .running || s.panel == .hold then s.takeSnap slot else s
  let s := (s.portCounts slot).foldEpoch
  let s := s.endBlank.stopTests
  let s := match s.slots.stretchEnd with
    | some e => if e ≤ slot then { s with slots := { s.slots with stretchOn := false, stretchEnd := none } } else s
    | none => s
  let s := s.dueNow
  let s := s.pendingCmds
  let s := if s.thermal.quench.isNone then { s with thermal := { s.thermal with release := false } } else s
  let s := (((s.capsDue).thermalBudget).budget).vinSlot
  let s := if s.panel == .running then (s.rotate).stragglers else s
  s.rollTargets

/-- The slot opens without an attempt. -/
def State.openKind (s : State) (kind : SlotKind) : State := { s with slots := { s.slots with kind := kind } }

/-- A descriptor taken from the head of the posted ones. -/
def State.popDesc (s : State) : State := { s with slots := { s.slots with posted := s.slots.posted.tail } }

/-- A slot of a rollback opens: as it was posted, or, where a frame's slot was posted before every die is restored, as a
recovery slot that displaces it. A BLANK slot after the flip restores the read buffers (15 R424). -/
def State.openRoll (s : State) (r : Rollback) : State :=
  let d := (s.slots.posted.head?).getD { kind := if r.ready then .blank else .empty }
  let s := if d.kind == .blank || d.kind == .empty then s.popDesc else s
  let kind : SlotKind := if d.kind == .blank || d.kind == .empty then d.kind else if r.ready then .blank else .empty
  ({ s with recovery := { s.recovery with roll := some { r with entered := r.entered || (r.flipped && kind == SlotKind.blank) } } }).openKind kind

/-- The rollback has restored every die: its frames are to be run again (15 R424). -/
def State.endRoll (s : State) (r : Rollback) : State :=
  let s := { s with recovery := { s.recovery with roll := none } }
  match r.failed with
  | some f =>
    { s with slots := { s.slots with
      nextFrame := r.resume, rollFrom := some (r.resume, f), failed := none, attempts := 0, ran := 0, sigs := []
      passed := if r.resume = 0 then none else some (r.resume - 1) } }
  | none => s

/-- A stretch of the frames is announced, at least two slots ahead and not before a slot that is posted (02 R56). -/
def State.announceStretch (s : State) : State :=
  if s.slots.stretchOn then { s with slots := { s.slots with stretchEnd := none } }
  else { s with slots := { s.slots with stretchOn := true, stretchFrom := max (s.slots.slot + 2) s.postSlot, stretchEnd := none } }

/-- What the trivet does when a die's safe point is below the floor (02 R55): a migration, a stretch, or HOLD. LOADED has no
way to HOLD: the die is looked at again when the program runs (log 108). -/
def State.belowFloor (s : State) (site : Nat) : State :=
  match s.prog with
  | none => s
  | some p =>
    let d := s.die site
    if d.st = .active ∧ d.safe < p.floor ∧ (s.panel = .running ∨ s.panel = .hold ∨ s.panel = .loaded) then
      if (s.target site).isSome then s.reqMig site 3
      else if p.stretch ≠ 255 ∧ p.stretch ≤ d.safe then (s.reqMig site 3).announceStretch
      else if s.panel = .running then s.holdNext 5 else s
    else s

/-- Every ACTIVE die below the floor looked at when the program begins to run. -/
def State.floorsHeld (s : State) : State := s.sites.foldl (fun s i => s.belowFloor i) s

/-- A frame is one that a rollback recomputes (15 R424). -/
def State.inRoll (s : State) (f : Nat) : Bool :=
  match s.slots.rollFrom with | some r => decide (r.1 ≤ f) && decide (f ≤ r.2) | none => false

/-- The posted slot opens (02 R41, R42, R57, 11 R322). -/
def State.openPosted (s : State) (slot : Nat) : State :=
  let d := (s.slots.posted.head?).getD {}
  let s := s.popDesc
  let may := s.prog.isSome && s.thermal.quench.isNone &&
    (s.panel == .running || (s.panel == .loaded && s.slots.pStart) || (s.panel == .hold && s.slots.pResume))
  let run (s : State) (a : Attempt) (kind : SlotKind) : State :=
    let s := if s.panel = .running then s
      else (({ s with slots := { s.slots with pStart := false, pResume := false } }).enter .running).floorsHeld
    s.startAttempt a kind
  let start := s.tickOf slot + (if d.late then 2000 else 0)
  match d.kind with
  | .program =>
    if may then
      let f := s.slots.nextFrame
      let rb := s.inRoll f
      let a : Attempt := { frame := f, no := 1, slot := slot, start := start, replay := rb, rollback := rb
                           stretched := d.two && !d.promoted, promoted := d.promoted }
      run s a (if rb then .replay else .program)
    else s.openKind .empty
  | .replay =>
    if may then
      let f := if d.roll then s.slots.nextFrame else d.frame
      let a : Attempt := { frame := f, no := if s.slots.failed = some f then s.slots.ran + 1 else 1, slot := slot, start := start
                           replay := !d.roll || s.inRoll f, rollback := s.inRoll f
                           stretched := d.two && !d.promoted, promoted := d.promoted, restartWait := d.late }
      run s a (if a.replay then .replay else .program)
    else s.openKind .empty
  | .blank => s.openKind .blank
  | .continuation => s.openKind .empty
  | .abandoned => s.openKind .empty
  | .empty => s.openKind .empty

/-- The slot opens: a rollback's slots displace the posted ones. -/
def State.openSlot (s : State) (slot : Nat) : State :=
  match s.recovery.roll with
  | some r =>
    if r.flipped && r.entered && r.restored then (s.endRoll r).openPosted slot
    else if s.thermal.quench.isSome then s.openKind .empty
    else s.openRoll r
  | none => s.openPosted slot

/-- The number of the next slot: TIME div P at its tick. -/
def State.nextSlot (s : State) : Nat := if s.slots.slot < s.time / s.period then s.time / s.period else s.time / s.period + 1

/-- The tick between the two slots of a stretched frame, or within a BLANK of several slots, is no boundary (02 R44,
R55). -/
def State.innerTick (s : State) : Bool :=
  match s.slots.posted.head? with
  | some d => (d.kind == .continuation && s.slots.att.isSome) || (d.cont && s.slots.kind == .blank)
  | none => false

/-- A refresh window opens: the start of a refresh cycle of eight windows takes the rate that a stack's temperature asks
for, and the banks of the window's set are refreshed in every stack that is in service, at the normal rate in every second
cycle (08 R207, R208; log 61). -/
def State.openWindow (s : State) (j : Nat) : State :=
  { s with hbmStacks := SMap.mapV stackD (fun (x : Stack) =>
      let x := if j % 8 = 0 then { x with doubled := x.wantDoubled } else x
      if x.st = 0 ∧ (x.doubled ∨ j / 8 % 2 = 0) then { x with refs := SMap.upd zeroD x.refs (j % 8) (fun n => n + 1) } else x) s.hbmStacks }

/-- SLOT_TICK (02 R40). `missed` are the sites whose rehearsal flag did not arrive. -/
def execSlotTick (missed : List Nat) (s : State) : Host.Outcome State Fault Refusal :=
  .next (
    if s.panel = .cold then s
    else
      let n := s.nextSlot
      let inner := s.innerTick
      let kind := ((s.slots.posted.head?).getD {}).kind
      let s := ((s.settleAll (s.tickOf n)).flushAll).atTime (s.tickOf n)
      let s := { s with slots := { s.slots with slot := n } }.openWindow 0
      if inner then s.popDesc.openKind kind else (s.boundary n missed).openSlot n)

/-- REPLAY_RESTART: 2 µs into the slot the cores start the frame again (02 R49). -/
def execReplayRestart (s : State) : Host.Outcome State Fault Refusal :=
  .next (match s.slots.att with
    | some a => if a.restartWait then
        ({ s with slots := { s.slots with att := some { a with restartWait := false } } }).atTime a.start
      else s
    | none => s)

/-! ## Descriptors (02 R43, 12 R351) -/

/-- Every collective input of frame `m` has landed (12 R351). -/
def State.collLanded (s : State) (m : Nat) : Bool :=
  match s.prog with
  | none => true
  | some p => (List.range p.colls.length).all (fun i =>
      match p.colls[i]? with
      | some c => decide (m < c.lag) || s.fabric.landed.any (fun l => l.1 == i && l.2.1 == m - c.lag && decide (c.len ≤ l.2.2))
      | none => true)

/-- The frame of the next PROGRAM descriptor. -/
def State.postFrame (s : State) : Nat :=
  s.slots.nextFrame + (match s.slots.att with | some a => if a.frame = s.slots.nextFrame then 1 else 0 | none => 0) +
    (s.slots.posted.filter (fun d => d.kind == .program || d.roll)).length

def State.putDescs (s : State) (ds : List Desc) : State := { s with slots := { s.slots with posted := s.slots.posted ++ ds } }

/-- The stretch ends after the BLANK slot that is posted last, where its migrations leave no die below the floor (02 R56). -/
def State.endStretch (s : State) : State :=
  if s.slots.stretchOn && (s.sites.filter (fun i => decide ((s.die i).safe < s.panelFloor))).all (fun i =>
      s.recovery.migs.any (fun m => m.src == i)) then
    { s with slots := { s.slots with stretchEnd := some s.postSlot } }
  else s

/-- The panel runs frames, or will from the next frame slot that is posted (17 R480). -/
def State.postsFrames (s : State) : Bool :=
  s.panel == .running || (s.panel == .loaded && s.slots.pStart) || (s.panel == .hold && s.slots.pResume)

/-- The slot of the next frame: a REPLAY within a rollback; EMPTY while a collective input of its frame is missing (12 R351). -/
def State.postProgram (s : State) : State :=
  let f := s.postFrame
  let two := s.stretchedAt s.postSlot
  if s.inRoll f then s.putDescs (framePair { kind := .replay, roll := true, two := two })
  else if s.collLanded f then
    { s with fabric := { s.fabric with emptySince := none } }.putDescs (framePair { kind := .program, two := two })
  else
    (({ s with fabric := { s.fabric with
      emptySince := some (s.fabric.emptySince.getD s.time) } }).count Obj.COLL_EMPTY_SLOTS).putDescs [{}]

/-- A slot of a rollback (15 R424): EMPTY until the targets are chosen, BLANK to the slot at which the flip falls, then
REPLAYs where frames run. -/
def State.postRoll (s : State) (r : Rollback) : State :=
  let after := r.flipped || (r.written && s.net.invState == 2 && decide (s.net.flipAt / s.period < s.postSlot))
  if !after then s.putDescs [{ kind := if r.ready then .blank else .empty, recovery := true }]
  else match r.failed with
    | some f =>
      if !s.postsFrames then s.putDescs [{}]
      else if r.resume + (s.slots.posted.filter (fun d => d.roll)).length ≤ f then
        s.putDescs (framePair { kind := .replay, roll := true, two := s.stretchedAt s.postSlot })
      else s.putDescs (framePair { kind := .program, two := s.stretchedAt s.postSlot })
    | none => s.putDescs [{}]

/-- What is posted for slot s + 2, and the state with what posting it changes. -/
def State.postNext (s : State) : State :=
  if s.prog.isNone || s.thermal.quench.isSome || s.panel == .safe then s.putDescs [{}]
  else match s.recovery.roll with
  | some r => s.postRoll r
  | none =>
    let had := !s.recovery.migs.isEmpty
    let s := s.chooseMigs
    if !had && !s.recovery.migs.isEmpty then
      let s := (s.putDescs s.blanks).endStretch
      match s.recovery.waitFrame with
      | some f =>
        if s.postsFrames then
          let s := { s with recovery := { s.recovery with waitFrame := none } }
          s.putDescs (s.replayDescs f s.postSlot false)
        else s
      | none => s
    else if s.recovery.waitFrame.isSome || !s.postsFrames then s.putDescs [{}]
    else match (if s.slots.pResume && !s.slots.posted.any (fun d => d.kind == .replay) then s.slots.failed else none) with
      | some f => s.putDescs (s.replayDescs f s.postSlot false)
      | none => s.postProgram

/-- SLOT_DESCRIPTOR_POST: at offset P / 2 of slot s the descriptor of slot s + 2 is posted; a slot s + 1 for which none was
posted is EMPTY (02 R43, 12 R351). -/
def execSlotDescriptorPost (s : State) : Host.Outcome State Fault Refusal :=
  .next (
    if s.slots.posted.length ≤ 1 then
      let s := s.atTime (s.tickOf s.slots.slot + s.period / 2)
      ({ s with slots := { s.slots with posted := if s.slots.posted.isEmpty then [{}] else s.slots.posted } }).postNext
    else s)

/-! ## Audit and verdict (09 R255, 02 R45, R50) -/

/-- AUDIT: at 20 µs after the boundary the two roots have judged the sums that reached them on the two paths; where they
disagree the audit fails (09 R254, R255). -/
def execAudit (err : RootErr) (s : State) : Host.Outcome State Fault Refusal :=
  .next (match s.slots.snap with
    | none => s
    | some n =>
      let s := s.atTime (n.boundary + 20000)
      let r0 := rootBits n.cells err.hub0
      let r15 := rootBits n.cells err.hub15
      let imb := (field n.summary 32 2 ||| r0 ||| r15) + (if r0 = r15 then 0 else 1024)
      let sum' := slice n.summary 0 32 ++ bytesLE 2 imb ++ slice n.summary 34 30
      let s := { s with slots := { s.slots with snap := none } }
      let heavy := imb &&& 0x43F
      let s := match s.slots.ended with
        | some e =>
          if e.boundary = n.boundary then
            let reps := e.reports ++ (if heavy = 0 then [] else [({ det := 0x0A } : Report)]) ++
              (if imb / 512 % 2 = 0 then [] else [({ det := 0x08 } : Report)])
            { s with slots := { s.slots with ended := some { e with
              audit := some (imb == 0), ledger := sum', reports := reps, tokensOnly := heavy == 8 } } }
          else s
        | none => s
      if imb = 0 then s.setNum Obj.AUDIT_LAST_RESULT 0
      else
        let s := (((s.setNum Obj.AUDIT_LAST_RESULT 1).count Obj.AUDIT_FAIL_COUNT).setNum Obj.AUDIT_LAST_IMBALANCE imb).setNum
          Obj.AUDIT_LAST_FAIL_SLOT (field n.summary 0 8)
        if heavy = 0 then s
        else
          let f := s.slots.ended.map (fun e => e.att.frame)
          s.fsr { part := 4, unit := 0x0F, det := 0x0A, detail := bytesLE 2 imb, frame := f })

/-- The lines of the output regions of a frame, in ascending order of virtual stack and offset (10 R287, 11 R309). -/
def State.outputOf (s : State) (frame : Nat) : Bytes :=
  match s.prog with
  | none => []
  | some p =>
    let rs := (List.range 48).flatMap (fun v => (p.regions.filter (fun r => r.kind == 5 && r.vstack == v)).mergeSort
      (fun a b => decide (a.off ≤ b.off)))
    rs.flatMap (fun r => s.hbmRead ((s.net.route s.net.epochB).stackOf r.vstack) (r.off + frame % max 1 p.od * p.output) p.output)

/-- The response messages that a frame produces, in ascending order of request identity (10 R287). -/
def State.frameResponses (s : State) (frame : Nat) : List (Nat × Bool × Bytes) :=
  (Config.frameResponses (s.outputOf frame)).mergeSort (fun a b => decide (a.1 ≤ b.1))

/-- The output digest (10 R287). -/
def State.outDigest (s : State) (frame : Nat) : Bytes :=
  sha384 ((s.frameResponses frame).flatMap (fun r => r.2.2) ++ s.outputOf frame)

/-- The frame record of a frame that governs and is retained: not one that a revocation covers (10 R282). -/
def State.entryOf (s : State) (frame : Nat) : Option (Nat × Bytes) :=
  (s.checks.recs.filter (fun r => field r.2 48 8 == frame &&
    (decide (frame < s.checks.reviseFrom) || decide (s.checks.reviseEntry ≤ r.1)))).getLast?

/-- The output digest of a frame's governing chain entry (10 R282). -/
def State.entryDigest (s : State) (frame : Nat) : Option Bytes := (s.entryOf frame).map (fun r => slice r.2 56 48)

/-- A recomputed frame that keeps its chain entry (15 R425, 10 R282). -/
def State.keepsEntry (s : State) (a : Attempt) : Bool :=
  a.rollback && (s.entryDigest a.frame).isSome

/-- The verdict on a frame passes. A lasting fault is localised to a core where every report of the failed attempts that names a
core of the die names that one (03 R80; log 65). -/
def State.passFrame (s : State) (e : Ended) : State :=
  let f := e.att.frame
  let prov := match s.prog with | some p => p.rBearing | none => false
  let s := match s.slots.sigs.length with
    | 0 => s
    | 1 => (s.classify f 1 1 1).count Obj.TRANSIENT_FAULTS
    | _ => match s.slots.swapped with
      | some (i, det) =>
        let named := ((s.slots.sigs.flatMap Sig.cores).filter (fun k => k / 272 == i)).dedup
        (s.classify f 2 2 3).lastingFault i det 0 (match named with | [k] => some k | _ => none)
      | none => s.classify f 1 1 1
  let d : Done := { att := e.att, boundary := e.boundary, summary := e.summary, ledger := e.ledger, provisional := prov }
  let s := { s with
    slots := { s.slots with
      ended := none, attempts := 0, ran := 0, sigs := [], swapped := none, failed := none, passed := some f, thawed := []
      rollFrom := match s.slots.rollFrom with | some r => if r.2 ≤ f then none else some r | none => none }
    checks := { s.checks with
      promos := s.checks.promos.filter (fun p => p.1 != f)
      done := if s.keepsEntry e.att then s.checks.done else s.checks.done ++ [d] } }
  if e.sample then
    { s with checks := { s.checks with
      sampleFrame := some f, regrow := 0, waitReplay := List.range s.gridV, failsBefore := s.checks.fails, fails := []
      sampleSites := (List.range s.gridV).foldl (fun m v => SMap.put zeroD m v ((s.net.route s.net.epochB).site v)) [] } }
  else s

/-- VERDICT: at 24 µs after the boundary (02 R45). It waits for the audit's result. A failure stops the attempt in
progress and the failed frame is replayed in the next slot, or after the BLANK slot in progress (02 R50, 15 R419). -/
def execVerdict (s : State) : Host.Outcome State Fault Refusal :=
  .next (match s.slots.ended with
    | none => s
    | some e =>
      match e.audit with
      | none => s
      | some ok =>
        if s.panel != .running && s.panel != .hold then s
        else
          let s := s.flushAll.atTime (e.boundary + 24000)
          let differs := s.keepsEntry e.att && some (s.outDigest e.att.frame) != s.entryDigest e.att.frame
          let reps := if differs then e.reports ++ [({ det := 0x1F } : Report)] else e.reports
          if ok && reps.isEmpty then s.passFrame e
          else
            let s := if differs then s.fsr { part := 4, det := 0x1F, frame := some e.att.frame } else s
            let s := { s with slots := { s.slots with ended := none } }
            let redo := match s.slots.att with | some a => if a.replay then some a else none | none => none
            let s := s.stopAttempt
            let s := match redo with
              | some a => s.displace (framePair { kind := .replay, frame := a.frame, promoted := a.promoted, two := a.promoted || a.stretched
                                                  roll := a.rollback })
              | none => s
            s.failAttempt e.att { pairs := pairsOf reps, cores := coresOf reps, tokensOnly := e.tokensOnly, hbm := e.hbm, stuck := [] }
              (reps.all (fun r => r.det == 0x100) && ok && !reps.isEmpty) false)

/-! ## Operating points (02 R52 to R56) -/

/-- OP_SWITCH: at the announced boundary every changing die switches (02 R54). -/
def execOpSwitch (s : State) : Host.Outcome State Fault Refusal :=
  .next (
    if s.slots.opDue then
      let s' := s.slots.opNew.foldl (fun t x => t.updDie x.1 (fun d => { d with op := min x.2 d.safe })) s
      { s' with slots := { s'.slots with opAt := 0, opNew := [], opDue := false } }
    else s)

/-- The safe point of a die: the lowest that its monitors, its throttling, its IVRs and its calibration defaults allow
(02 R52, R55, 13 R373, 14 R394, 18 R505). -/
def State.reSafe (s : State) (site : Nat) : State :=
  let cal := if (s.die site).calDef then 2 else 11
  (s.updDie site (fun d => { d with safe := min d.mon (min d.heatCap (min d.ivrCap cal)) })).belowFloor site

/-- A die's safe point set by its monitors (02 R52, R55). -/
def State.setSafe (s : State) (site point : Nat) : State :=
  (s.updDie site (fun d => { d with mon := min point 11 })).reSafe site

/-- SAFE_POINT_CHANGE (02 R55). -/
def execSafePointChange (site point : Nat) (s : State) : Host.Outcome State Fault Refusal :=
  onPart (decide (site < 144)) (s.setSafe site point)

/-- CLOCK_STRETCH: the die stretches its cycles for `ns`, which count as stall, and then reports a lower safe point
(02 R53). -/
def execClockStretch (site ns safe : Nat) (s : State) : Host.Outcome State Fault Refusal :=
  onPart (decide (site < 144)) (
    if s.slots.att.isSome && (s.die site).st == .active then
      (s.updDie site (fun d => { d with stallNs := d.stallNs + ns })).setSafe site (min safe (s.die site).safe)
    else s)

/-! ## The ramp governor (03 R75 to R77, 13 R376, R377) -/

/-- The mean of the latest targets of a die's active cores, in thousandths of a level (03 R76). -/
def State.hintTarget (s : State) (site : Nat) : Nat :=
  let cs := s.cores.filter (fun x => x.1 / 272 == site && (s.vcoreOf x.1).isSome)
  1000 * (cs.map (fun x => x.2.hintLevel)).sum / 256

/-- HINT_ARRIVAL: the oldest hint of a site reaches its governor; it is effective when its step lies at least 2 µs
later, and an effective rise pre-boosts (03 R76, 13 R376). -/
def execHintArrival (site : Nat) (s : State) : Host.Outcome State Fault Refusal :=
  onPart (decide (site < 144)) (
    match minKey ((s.cores.filter (fun x => x.1 / 272 == site && !x.2.hints.isEmpty)).map (fun x =>
        ((x.2.hints.head?.map (fun h => h.1)).getD 0, x.1))) with
    | none => s
    | some (t, k) =>
      match (s.core k).hints with
      | [] => s
      | h :: rest =>
        let s := (s.atTime t).updCore k (fun c => { c with hints := rest, hintLevel := h.2.1 })
        if t + 2000 ≤ h.2.2 then
          let tg := min (s.hintTarget site) (1000 * s.peakOf site)
          let s := if (s.die site).allow < tg then s.count Obj.PREBOOST_COUNT else s
          s.updDie site (fun d => { d with steps := (d.steps ++ [(h.2.2, tg)]) })
        else s)

/-- GOVERNOR_TICK: every 100 ns the allowance moves to a due step's target, rises by at most 0.2 level or falls by at
most 0.4 with filler work, within the declared peak; it stays at 0 in a quench (03 R77, 13 R377). -/
def execGovernorTick (site : Nat) (s : State) : Host.Outcome State Fault Refusal :=
  onPart (decide (site < 144)) (
    let s := s.nextSample (s.die site).govAt 100
    let d := s.die site
    let peak := 1000 * s.peakOf site
    let mine := s.cores.filter (fun x => x.1 / 272 == site)
    let held := mine.any (fun x => match x.2.hold with | some h => h.1 == 10 | none => false)
    let busy := mine.foldl (fun m x => max m x.2.used) 0
    let want := min peak (if held then 16000 else busy)
    let due := d.steps.filter (fun x => decide (x.1 ≤ s.time))
    let stop := s.thermal.quench.isSome || s.thermal.release
    let a := if stop then 0
      else match due.getLast? with
        | some x => min peak x.2
        | none => if d.allow < want then min want (d.allow + 200) else max want (d.allow - 400)
    let s := s.updDie site (fun d => { d with
      govAt := s.time, allow := a, allowAt := if a = d.allow then d.allowAt else s.time, filler := a - min a want, steps := d.steps.filter (fun x => !decide (x.1 ≤ s.time)) })
    { s with cores := s.cores.filterMap (fun x =>
        let c := if x.1 / 272 = site then { x.2 with used := 0 } else x.2
        if c = {} then none else some (x.1, c)) })

/-- REFRESH_WINDOW: the next window of 240 ns after the tick; the next tick cuts the last one short (08 R207). -/
def execRefreshWindow (s : State) : Host.Outcome State Fault Refusal :=
  .next (
    let t0 := s.tickOf s.slots.slot
    let j := (s.time - t0) / 240 + 1
    if s.tickOf (s.slots.slot + 1) ≤ t0 + 240 * j then s
    else (s.atTime (t0 + 240 * j)).openWindow j)

end Sys2Proof.Machine
end

