-- ==== Sys2Proof/Machine/Keys.lean ====
section
/-! DEFINITION. Firmware images and their digest (16 R450, R454), the panel defect map (16 R446), calibration sets and
their digest (18 R502 to R506). -/

namespace Sys2Proof.Machine

/-! ## Firmware images (16 R450, R451) -/

/-- What is wrong with an image: 0 nothing, 1 header, 2 signature, 3 digest (16 R450, R451, R461). -/
def fwFault (b : Bytes) : Nat :=
  if slice b 0 4 != [0x48, 0x47, 0x4E, 0x57] || field b 4 2 != 1 || decide (1 < field b 12 4) ||
      field b 16 8 != b.length || decide (b.length < 256) || decide (2 ^ 30 < b.length) then 1
  else if !vendorVerify 0 (slice b 160 96) (slice b 0 160) then 2
  else if sha384 (b.drop 256) != slice b 24 48 then 3
  else 0

/-! ## The panel defect map (16 R446). The layout inside its header is the model's (log 31). -/

/-- The entry of a part: sites 0 to 143, hubs, port dies, stacks. -/
def State.mapEntry (s : State) (i : Nat) : Bytes :=
  let d := s.die i
  if i < 144 then
    fit 64 (partSerial i ++ bytesLE 1 (if d.st = .lost then 1 else if d.quarantined then 2 else 0) ++
      bytesLE 1 d.field.length ++ bytesLE 8 d.testDue ++ bytesLE 8 d.lastPass ++
      d.field.flatMap (fun e => bytesLE 1 e.1 ++ bytesLE 1 e.2.1 ++ bytesLE 1 e.2.2.1 ++ bytesLE 1 e.2.2.2 ++ bytesLE 2 0))
  else fit 64 (partSerial i)

def State.mapHeader (s : State) : Bytes :=
  fit 64 (bytesLE 4 0x4D4E4748 ++ bytesLE 2 1 ++ bytesLE 2 0 ++ bytesLE 4 s.bringup.mapSeq ++ bytesLE 4 0 ++ bytesLE 8 s.bringup.mapTime)

def State.mapImage (s : State) : Bytes :=
  let b := s.mapHeader ++ (List.range 216).flatMap s.mapEntry
  b ++ (if s.bringup.mapSigned then fit 96 (Config.sign 0 b) else List.replicate 96 0)

/-! ## Calibration (18 R502 to R506) -/

/-- Fields of a set: I16, U16 and I32 in a range; an F32 in a range of numbers that are not negative. -/
def inI16 (b : Bytes) (o : Nat) (lo hi : Int) : Bool :=
  let v : Int := (BitVec.ofNat 16 (field b o 2)).toInt
  decide (lo ≤ v) && decide (v ≤ hi)
def inI32 (b : Bytes) (o : Nat) (lo hi : Int) : Bool :=
  let v : Int := (BitVec.ofNat 32 (field b o 4)).toInt
  decide (lo ≤ v) && decide (v ≤ hi)
def inU16 (b : Bytes) (o : Nat) (lo hi : Nat) : Bool := decide (lo ≤ field b o 2) && decide (field b o 2 ≤ hi)
def inF32 (b : Bytes) (o : Nat) (lo hi : Nat) : Bool :=
  let v := field b o 4
  (decide (lo ≤ v) && decide (v ≤ hi)) || (lo == 0 && v == 0x80000000)

/-- Every field of the body in its range and every reserved byte of it zero (18 R503, R504). -/
def calBodyOk (kind : Nat) (b : Bytes) : Bool :=
  let all (n : Nat) (f : Nat → Bool) : Bool := (List.range n).all f
  let zero (o n : Nat) : Bool := (slice b o n).all (fun x => x == 0)
  match kind with
  | 0 =>
    all 48 (fun i => inI16 b (64 + 2 * i) (-2000) 2000) && all 12 (fun i => inU16 b (160 + 2 * i) 550 850) &&
    all 11 (fun i => decide (field b (160 + 2 * i) 2 ≤ field b (162 + 2 * i) 2)) &&
    all 20 (fun i => inI16 b (184 + 2 * i) (-1000) 1000) &&
    all 12 (fun i => inU16 b (224 + 4 * i) 0 255 && inU16 b (226 + 4 * i) 10 80) &&
    all 16 (fun i => inF32 b (272 + 4 * i) 0 0x461C4000) && inF32 b 336 0 0x42A00000 && inF32 b 340 0 0x3DCCCCCC &&
    inF32 b 344 0x3F800000 0x40C00000 && zero 348 4 && all 64 (fun i => inF32 b (352 + 4 * i) 0x3F800000 0x461C4000) &&
    zero 672 248
  | 1 =>
    all 8 (fun i => inI16 b (64 + 2 * i) (-1000) 1000) && all 4 (fun i => inI32 b (80 + 4 * i) (-500) 500) && zero 576 344
  | _ => all 4 (fun i => inI16 b (64 + 2 * i) (-1000) 1000) && zero 584 336

/-- A set passes its check for the die of a calibration index (18 R504). -/
def State.calOk (s : State) (i : Nat) (b : Bytes) : Bool :=
  b.length == 1024 && slice b 0 8 == [0x48, 0x47, 0x4E, 0x54, 0, 0, 0, 0] && field b 8 2 == 1 &&
  field b 10 2 == fwSchema s.fwRun && slice b 12 16 == partSerial i && field b 28 2 == calKind i &&
  decide (field b 30 2 ≤ 2) && (slice b 40 24).all (fun x => x == 0) && field b 924 4 == 0 &&
  field b 920 4 == crc32c (slice b 0 920) &&
  (if field b 30 2 = 1 then (slice b 928 96).all (fun x => x == 0)
   else vendorVerify 1 (slice b 928 96) (slice b 0 924)) &&
  calBodyOk (calKind i) b

/-- The set that flash holds for a calibration index. -/
def State.calSet (s : State) (i : Nat) : Bytes :=
  match SMap.get noB s.access.calStored i with | [] => Config.factoryCalSet i | b => b

/-- A die loads its stored set: it comes into use when it passes its check, and the defaults do otherwise
(18 R504, R505). -/
def State.calLoad (s : State) (i : Nat) : State :=
  let b := s.calSet i
  let ok := s.calOk i b
  let s := { s with access := { s.access with
    calUse := SMap.put noB s.access.calUse i (if ok then b else [])
    calStatus := SMap.put zeroD s.access.calStatus i (if ok then 0 else 1) } }
  if i < 144 then s.updDie i (fun d => { d with calDef := !ok }) else s

/-- The calibration digest in use, and over the stored sets (18 R506). -/
def State.calDigest (s : State) : Bytes := sha384 ((List.range 168).flatMap s.calOf)
def State.calDigestStored (s : State) : Bytes := sha384 ((List.range 168).flatMap s.calSet)

/-- Dies on their defaults (18 R505). -/
def State.calDefaults (s : State) : Nat :=
  ((List.range 168).filter (fun i => SMap.get zeroD s.access.calStatus i == 1 ||
    (SMap.get zeroD s.access.calStatus i == 2 && (if i < 144 then (s.die i).calDef else s.bringup.reachedS10 && (SMap.get noB s.access.calUse i).isEmpty)))).length

end Sys2Proof.Machine
end

