-- ==== Sys2Proof/Machine/Trans.lean ====
section
/-! DEFINITION. The six transcendentals (04 R112 to R116) and the random function (R117, R118). An internal value is
m × 2^e with at most 48 bits of m; the tables and coefficients are the closed forms of R115 rounded to nearest even
at 48 bits. -/

namespace Sys2Proof.Machine

/-- An exact result truncated toward zero to 48 bits (R112). -/
def t48 (v : Int × Int) : Int × Int :=
  let n := Nat.log2 v.1.natAbs + 1 - 48
  if n = 0 then v else (v.1.sign * ((v.1.natAbs / 2 ^ n : Nat) : Int), v.2 + n)

/-- The exact product, sum and difference, each truncated (R112). -/
def tMul (a b : Int × Int) : Int × Int := t48 (a.1 * b.1, a.2 + b.2)
def exAdd (a b : Int × Int) : Int × Int :=
  let q := min a.2 b.2
  (a.1 * 2 ^ (a.2 - q).toNat + b.1 * 2 ^ (b.2 - q).toNat, q)
def tAdd (a b : Int × Int) : Int × Int := t48 (exAdd a b)
def tSub (a b : Int × Int) : Int × Int := tAdd a (-b.1, b.2)

/-- A fraction rounded to nearest even at 48 bits (R112). -/
def rnd48 (n d : Nat) : Int × Int :=
  let k := Nat.log2 d + 49
  let q := n * 2 ^ k / d
  let sticky := if n * 2 ^ k % d = 0 then 0 else 1
  let e : Int := (Nat.log2 q : Int) - 47
  ((rne (2 * q + sticky) (-1) e : Nat), e - k)

/-- Horner's rule from the highest coefficient (R112). -/
def horner (cs : List (Int × Int)) (x : Int × Int) : Int × Int :=
  match cs.reverse with
  | [] => (0, 0)
  | c :: t => t.foldl (fun r a => tAdd (tMul r x) a) c

/-- floor of an internal value; exact. -/
def fl (v : Int × Int) : Int := if v.2 ≥ 0 then v.1 * 2 ^ v.2.toNat else v.1 / 2 ^ (-v.2).toNat

def tabT1 : List (Int × Int) :=
  [(0x800000000000, -47), (0x8164D1F3BC03, -47), (0x82CD8698AC2C, -47), (0x843A28C3ACDE, -47), (0x85AAC367CC48, -47),
   (0x871F61969E8D, -47), (0x88980E8092DB, -47), (0x8A14D575496F, -47), (0x8B95C1E3EA8C, -47), (0x8D1ADF5B7E5C, -47),
   (0x8EA4398B45CD, -47), (0x9031DC431467, -47), (0x91C3D373AB12, -47), (0x935A2B2F13E7, -47), (0x94F4EFA8FEF7, -47),
   (0x96942D372018, -47), (0x9837F0518DB9, -47), (0x99E0459320B8, -47), (0x9B8D39B9D54E, -47), (0x9D3ED9A72D00, -47),
   (0x9EF5326091A1, -47), (0xA0B0510FB971, -47), (0xA27043030C49, -47), (0xA43515AE09E7, -47), (0xA5FED6A9B151, -47),
   (0xA7CD93B4E965, -47), (0xA9A15AB4EA7C, -47), (0xAB7A39B5A93F, -47), (0xAD583EEA42A1, -47), (0xAF3B78AD690A, -47),
   (0xB123F581D2AC, -47), (0xB311C412A911, -47), (0xB504F333F9DE, -47), (0xB6FD91E328D1, -47), (0xB8FBAF4762FC, -47),
   (0xBAFF5AB2133E, -47), (0xBD08A39F580C, -47), (0xBF1799B67A73, -47), (0xC12C4CCA6671, -47), (0xC346CCDA2497, -47),
   (0xC5672A115507, -47), (0xC78D74C8ABBA, -47), (0xC9B9BD866E2F, -47), (0xCBEC14FEF272, -47), (0xCE248C151F85, -47),
   (0xD06333DAEF2B, -47), (0xD2A81D91F12B, -47), (0xD4F35AABCFEE, -47), (0xD744FCCAD69D, -47), (0xD99D15C278B0, -47)]

def tabT2 : List (Int × Int) :=
  [(0xDBFBB797DAF2, -47), (0xDE60F4825E0F, -47), (0xE0CCDEEC2A95, -47), (0xE33F8972BE8A, -47), (0xE5B906E77C83, -47),
   (0xE8396A503C4C, -47), (0xEAC0C6E7DD24, -47), (0xED4F301ED994, -47), (0xEFE4B99BDCDB, -47), (0xF281773C5A00, -47),
   (0xF5257D152487, -47), (0xF7D0DF730AD1, -47), (0xFA83B2DB722A, -47), (0xFD3E0C0CF487, -47)]

/-- T[i] = 2^(i/64), i from 0 to 63. -/
def tabT : List (Int × Int) := tabT1 ++ tabT2

def tabL1 : List (Int × Int) :=
  [(-0xD47FCB8C0853, -49), (-0xCCD83954B636, -49), (-0xC544C055FDEA, -49), (-0xBDC4F8167955, -49), (-0xB6587B432E47, -49),
   (-0xAEFEE78F7570, -49), (-0xA7B7DD96762D, -49), (-0xA08300BE1F65, -49), (-0x995FF71B8773, -49), (-0x924E69589E6B, -49),
   (-0x8B4E029B1F8B, -49), (-0x845E706CAFD2, -49), (-0xFAFEC54831F2, -50), (-0xED61169F220F, -50), (-0xDFE33D3FFFA6, -50),
   (-0xD284A5AA6941, -50), (-0xC544C055FDEA, -50), (-0xB823018E3CFC, -50), (-0xAB1EE14FFD66, -50), (-0x9E37DB2866F3, -50),
   (-0x916D6E1559A5, -50), (-0x84BF1C673032, -50), (-0xF058D74797EB, -51), (-0xD769C8D5B33A, -51), (-0xBEB024B67DDA, -51),
   (-0xA62B07F3457C, -51), (-0x8DD9953002A5, -51), (-0xEB75E8F8FF60, -52), (-0xBB9CA64ECAC7, -52), (-0x8C25C7262B58, -52),
   (-0xBA1F7430F9AB, -53), (-0xB963DD107B99, -54), (0x0, 0), (0xB7F285B77843, -54), (0xB73CB42E1691, -53),
   (0x88E68EA899A1, -52), (0xB5D69BAC77EC, -52), (0xE26FD5C8555B, -52), (0x8759C4FD14FD, -51), (0x9D517EE93F8E, -51),
   (0xB31FB7D64899, -51), (0xC8C50B72319B, -51), (0xDE4212056D5E, -51), (0xF397608BFD2E, -51), (0x8462C466D3CF, -50),
   (0x8EE68CBAA95C, -50), (0x99574F13C571, -50), (0xA3B54FCC1FBA, -50), (0xAE00D1CFDEB4, -50), (0xB83A16A77814, -50)]

def tabL2 : List (Int × Int) :=
  [(0xC2615E81781E, -50), (0xCC76E83BF387, -50), (0xD67AF16DA765, -50), (0xE06DB66ECA6F, -50), (0xEA4F726192CB, -50),
   (0xF4205F3A7352, -50), (0xFDE0B5C81340, -50), (0x83C856DD8180, -49), (0x88983ED6985C, -49), (0x8D602D948F84, -49),
   (0x92203D58703A, -49), (0x96D887E26CD5, -49), (0x9B892675266F, -49), (0xA03231D8D822, -49), (0xA4D3C25E68DC, -49),
   (0xA96DEFE264B6, -49), (0xAE00D1CFDEB4, -49), (0xB28C7F233BDD, -49), (0xB7110E6CE867, -49), (0xBB8E95D3F7DA, -49),
   (0xC0052B18B0E3, -49), (0xC474E3970591, -49), (0xC8DDD448F8B8, -49), (0xCD4011C8F119, -49), (0xD19BB053FB03, -49),
   (0xD5F0C3CBF8FA, -49), (0xDA3F5FB9C415, -49), (0xDE87974F3C82, -49), (0xE2C97D694ADB, -49), (0xE7052491D2C4, -49),
   (0xEB3A9F019750, -49), (0xEF69FEA211B2, -49), (0xF393550F3AA7, -49), (0xF7B6B3994711, -49), (0xFBD42B465836, -49),
   (0xFFEBCCD41FFD, -49), (0x81FED45CBCCC, -48), (0x8404E793FB82, -48), (0x86082806B1D5, -48), (0x88089D8A9E47, -48),
   (0x8A064FD50F2A, -48), (0x8C01467B94BB, -48), (0x8DF988F4AE80, -48), (0x8FEF1E987409, -48), (0x91E20EA1393E, -48),
   (0x93D2602C2E60, -48), (0x95C01A39FBD7, -48)]

/-- L[i] = log2(1 + i/128), i from −32 to 64: minus the logarithm of the closed form of R[i] (log 20). -/
def tabL : List (Int × Int) := tabL1 ++ tabL2

def tabRq1 : List (Int × Int) :=
  [(0xFF017D84582E, -48), (0xFD0D3DDB0E9D, -48), (0xFB2451D190FC, -48), (0xF9464D9C075C, -48), (0xF772CAF5D4A7, -48),
   (0xF5A968C59E9B, -48), (0xF3E9CAC88923, -48), (0xF2339943FCEF, -48), (0xF08680BD628C, -48), (0xEEE231B74AB9, -48),
   (0xED4660738A4F, -48), (0xEBB2C4B9DC43, -48), (0xEA2719A2A70B, -48), (0xE8A31D658C36, -48), (0xE726912B71AA, -48),
   (0xE5B138E3BB84, -48), (0xE442DB1C7486, -48), (0xE2DB40DD28EA, -48), (0xE17A35843D2F, -48), (0xE01F86A68F0E, -48),
   (0xDECB03F13388, -48), (0xDD7C7F0D28A5, -48), (0xDC33CB84D557, -48), (0xDAF0BEAB3502, -48), (0xD9B32F848F33, -48),
   (0xD87AF6B09EA1, -48), (0xD747EE560D13, -48), (0xD619F20F2BD0, -48), (0xD4F0DED7D25F, -48), (0xD3CC92FC4EF8, -48),
   (0xD2ACEE0955EB, -48), (0xD191D0BCDE70, -48), (0xD07B1CF7DCF2, -48), (0xCF68B5B0CC00, -48), (0xCE5A7EE6F62C, -48),
   (0xCD505D96744D, -48), (0xCC4A37ACD45E, -48), (0xCB47F3FE5E2A, -48), (0xCA497A3BEBC7, -48), (0xC94EB2E94C87, -48),
   (0xC857875429C1, -48), (0xC763E18B6570, -48), (0xC673AC56EB2D, -48), (0xC586D32FEC9C, -48), (0xC49D423982D7, -48),
   (0xC3B6E639AECB, -48), (0xC2D3AC92B308, -48), (0xC1F3833CC1A4, -48), (0xC11658BFF976, -48), (0xC03C1C2EAE07, -48)]

def tabRq2 : List (Int × Int) :=
  [(0xBF64BD1FF5FF, -48), (0xBE902BAA7C12, -48), (0xBDBE585F8EB8, -48), (0xBCEF34466B33, -48), (0xBC22B0D7C0A4, -48),
   (0xBB58BFF96819, -48), (0xBA9153FA4EBB, -48), (0xB9CC5F8E8F73, -48), (0xB909D5CBB977, -48), (0xB849AA25415D, -48),
   (0xB78BD0691A89, -48), (0xB6D03CBC76D4, -48), (0xB616E398AA73, -48), (0xB55FB9C83247, -48), (0xB4AAB463DADC, -48),
   (0xB3F7C8D00669, -48), (0xB346ECBA1049, -48), (0xB2981615CC7F, -48), (0xB1EB3B1B21D1, -48), (0xB1405243BD45, -48),
   (0xB0975248DDB7, -48), (0xAFF03221365D, -48), (0xAF4AE8FEE730, -48), (0xAEA76E4D8A22, -48), (0xAE05B9B0542B, -48),
   (0xAD65C3004945, -48), (0xACC7824A8270, -48), (0xAC2AEFCE84E8, -48), (0xAB9003FCA9D4, -48), (0xAAF6B774958F, -48),
   (0xAA5F0303BDFE, -48), (0xA9C8DFA3FF28, -48), (0xA934467A3D76, -48), (0xA8A130D51510, -48), (0xA80F982B95A9, -48),
   (0xA77F761C0A47, -48), (0xA6F0C46ACC75, -48), (0xA6637D012269, -48), (0xA5D799EC2799, -48), (0xA54D155BBF64, -48),
   (0xA4C3E9A1914D, -48), (0xA43C11300E6C, -48), (0xA3B586997FB4, -48), (0xA330448F1CA4, -48), (0xA2AC45E02A24, -48),
   (0xA22985792116, -48), (0xA1A7FE62DC6C, -48), (0xA127ABC1CE60, -48), (0xA0A888D53C8D, -48), (0xA02A90F682A2, -48)]

def tabRq3 : List (Int × Int) :=
  [(0x9FADBF985B69, -48), (0x9F3210462FEE, -48), (0x9EB77EA36C72, -48), (0x9E3E066ADB09, -48), (0x9DC5A36E039F, -48),
   (0x9D4E51949128, -48), (0x9CD80CDBBBD7, -48), (0x9C62D155B826, -48), (0x9BEE9B292A7A, -48), (0x9B7B66909F3E, -48),
   (0x9B092FDA0749, -48), (0x9A97F3663860, -48), (0x9A27ADA871C0, -48), (0x99B85B25E468, -48), (0x9949F8753F29, -48),
   (0x98DC823E3E39, -48), (0x986FF5393E35, -48), (0x98044E2ED276, -48), (0x979989F75E94, -48), (0x972FA57AB2FC, -48),
   (0x96C69DAFAC7E, -48), (0x965E6F9BD6B8, -48), (0x95F718531147, -48), (0x959094F7379D, -48), (0x952AE2B7CB72, -48),
   (0x94C5FED1A1A9, -48), (0x9461E68E91A5, -48), (0x93FE974526E9, -48), (0x939C0E5854FA, -48), (0x933A49372D67, -48),
   (0x92D9455C97F1, -48), (0x9279004F0CB0, -48), (0x921977A05034, -48), (0x91BAA8ED3187, -48), (0x915C91DD4A07, -48),
   (0x90FF3022BEFD, -48), (0x90A2817A04F8, -48), (0x904683A9A4C5, -48), (0x8FEB34820208, -48), (0x8F9091DD235C, -48),
   (0x8F36999E7C02, -48), (0x8EDD49B2B6F2, -48), (0x8E84A00F8365, -48), (0x8E2C9AB362B3, -48), (0x8DD537A5778B, -48),
   (0x8D7E74F5566B, -48), (0x8D2850BAD75F, -48), (0x8CD2C915E8F0, -48), (0x8C7DDC2E643A, -48), (0x8C298833E22E, -48)]

def tabRq4 : List (Int × Int) :=
  [(0x8BD5CB5D91E3, -48), (0x8B82A3EA0FFE, -48), (0x8B30101F3F1D, -48), (0x8ADE0E4A214B, -48), (0x8A8C9CBEB261, -48),
   (0x8A3BB9D7C363, -48), (0x89EB63F6D6C2, -48), (0x899B9983FD82, -48), (0x894C58EDB53E, -48), (0x88FDA0A8C702, -48),
   (0x88AF6F3026F2, -48), (0x8861C304D4C3, -48), (0x88149AADBCEE, -48), (0x87C7F4B79AAA, -48), (0x877BCFB4DA9D, -48),
   (0x87302A3D7E3C, -48), (0x86E502EEFFE4, -48), (0x869A586C3793, -48), (0x8650295D404C, -48), (0x8606746F5E19, -48),
   (0x85BD3854E4AC, -48), (0x857473C51E98, -48), (0x852C257C3515, -48), (0x84E44C3B1863, -48), (0x849CE6C768AB, -48),
   (0x8455F3EB5F6F, -48), (0x840F7275B97D, -48), (0x83C96139A162, -48), (0x8383BF0E9A59, -48), (0x833E8AD06BB9, -48),
   (0x82F9C35F0CD2, -48), (0x82B5679E9143, -48), (0x8271767715C3, -48), (0x822DEED4AD4D, -48), (0x81EACFA74EC2, -48),
   (0x81A817E2C2EC, -48), (0x8165C67E92E8, -48), (0x8123DA75F6F7, -48), (0x80E252C7C5A2, -48), (0x80A12E766350, -48),
   (0x80606C87B220, -48), (0x80200C050231, -48)]

/-- R[i] = 1 / √(1 + (2i + 1)/128), i from 0 to 191. -/
def tabRq : List (Int × Int) := tabRq1 ++ tabRq2 ++ tabRq3 ++ tabRq4

def tabS1 : List (Int × Int) :=
  [(0x0, 0), (0xC90AAFBD1B34, -53), (0xC8FB2F886EC1, -52), (0x96A9049670D0, -51), (0xC8BD35E14DA1, -51),
   (0xFAB272B54B98, -51), (0x96408374730A, -50), (0xAF10A22459FE, -50), (0xC7C5C1E34D30, -50), (0xE05C1353F27B, -50),
   (0xF8CFCBD90AF9, -50), (0x888E93158FB4, -49), (0x94A03176ACF8, -49), (0xA09AE4A0BB30, -49), (0xAC7CD3AD58FF, -49),
   (0xB8442987D22D, -49), (0xC3EF1535754B, -49), (0xCF7BCA1D476C, -49), (0xDAE8804F0AE6, -49), (0xE63374C98E23, -49),
   (0xF15AE9C037B2, -49), (0xFC5D26DFC4D6, -49), (0x839C3CC917FF, -48), (0x88F59AA0DA59, -48), (0x8E39D9CD7346, -48),
   (0x93682A66E897, -48), (0x987FBFE70B82, -48), (0x9D7FD1490286, -48), (0xA267992848EF, -48), (0xA73655DF1F2F, -48),
   (0xABEB49A46765, -48), (0xB085BAA8E967, -48), (0xB504F333F9DE, -48), (0xB96841BF7FFD, -48), (0xBDAEF913557D, -48),
   (0xC1D8705FFCBB, -48), (0xC5E40358A8BA, -48), (0xC9D1124C9320, -48), (0xCD9F023F9C3A, -48), (0xD14D3D02313C, -48),
   (0xD4DB3148750D, -48), (0xD84852C0A810, -48), (0xDB941A28CB72, -48), (0xDEBE05637CA9, -48), (0xE1C5978C05EE, -48),
   (0xE4AA5909A090, -48), (0xE76BD7A1E63C, -48), (0xEA09A68A6E4A, -48), (0xEC835E79946A, -48), (0xEED89DB66612, -48)]

def tabS2 : List (Int × Int) :=
  [(0xF1090827B437, -48), (0xF31447624709, -48), (0xF4FA0AB6316F, -48), (0xF6BA073B424B, -48), (0xF853F7DC9187, -48),
   (0xF9C79D63272C, -48), (0xFB14BE7FBAE6, -48), (0xFC3B27D38A5D, -48), (0xFD3AABF84529, -48), (0xFE1323870CFF, -48),
   (0xFEC46D1E8929, -48), (0xFF4E6D680C42, -48), (0xFFB10F1BCB6C, -48), (0xFFEC43042668, -48), (0x800000000000, -47)]

/-- S[i] = sin(πi/128), i from 0 to 64; C[i] = S[64 − i]. -/
def tabS : List (Int × Int) := tabS1 ++ tabS2

/-- (ln 2)^k / k!, k from 0 to 5. -/
def coefE : List (Int × Int) :=
  [(0x800000000000, -47), (0xB17217F7D1CF, -48), (0xF5FDEFFC162C, -50), (0xE35846B82506, -52), (0x9D955B7DD274, -54),
   (0xAEC3FF3C533A, -57)]

/-- (−1)^(k+1) / (k ln 2), k from 1 to 6. -/
def coefL : List (Int × Int) :=
  [(0xB8AA3B295C18, -47), (-0xB8AA3B295C18, -48), (0xF6384EE1D020, -49), (-0xB8AA3B295C18, -49), (0x93BB62877CE0, -49),
   (-0xF6384EE1D020, -50)]

/-- C(−1/2, k), k from 0 to 5. -/
def coefQ : List (Int × Int) :=
  [(0x800000000000, -47), (-0x800000000000, -48), (0xC00000000000, -49), (-0xA00000000000, -49), (0x8C0000000000, -49),
   (-0xFC0000000000, -50)]

/-- (−1)^k π^(2k+1) / (2k+1)!, k from 0 to 3. -/
def coefS : List (Int × Int) :=
  [(0xC90FDAA22169, -46), (-0xA55DE7312DF3, -45), (0xA335E33BAD57, -46), (-0x9969667315EC, -48)]

/-- (−1)^k π^(2k) / (2k)!, k from 0 to 3. -/
def coefC : List (Int × Int) :=
  [(0x800000000000, -47), (-0x9DE9E64DF22F, -45), (0x81E0F840DAD6, -45), (-0xAAE9E3F1E600, -47)]

/-- An entry of a table. -/
def ent (t : List (Int × Int)) (i : Int) : Int × Int := t.getD i.toNat (0, 0)

/-- The final rounding to FP32 (R112). -/
def fin32 (neg : Bool) (v : Int × Int) : BitVec 32 :=
  BitVec.ofNat 32 (roundFp fFP32 false neg v.1.natAbs v.2).1

def pinf : BitVec 32 := 0x7F800000
def ninf : BitVec 32 := 0xFF800000
def one32 : BitVec 32 := 0x3F800000

/-- A signed internal value of a finite input. -/
def sg (n : Bool) (m : Nat) (e : Int) : Int × Int := (if n then -(m : Int) else m, e)

def exp2F (x : Fp) : BitVec 32 :=
  match x with
  | .nan => qnan
  | .inf n => if n then 0 else pinf
  | .fin s m e =>
    if m = 0 then one32
    else
      let v := sg s m e
      if fl v ≥ 128 then pinf
      else if fl v < -151 then 0
      else
        let n := fl v
        let f := tSub v (n, 0)
        let i := fl (f.1, f.2 + 6)
        let r := tSub f (i, -6)
        let p := tMul (ent tabT i) (horner coefE r)
        fin32 false (p.1, p.2 + n)

def log2F (x : Fp) : BitVec 32 :=
  match x with
  | .nan => qnan
  | .inf n => if n then qnan else pinf
  | .fin s m e =>
    if m = 0 then ninf
    else if s then qnan
    else
      let k := Nat.log2 m
      let hi := decide (3 * 2 ^ k ≤ 2 * m)
      let ex : Int := k + e + (if hi then 1 else 0)
      let mt : Int × Int := (m, -(k : Int) - (if hi then 1 else 0))
      let i := fl (exAdd ((exAdd mt (-1, 0)).1, (exAdd mt (-1, 0)).2 + 7) (1, -1))
      let r := if i = 0 then (1, 0) else rnd48 128 (128 + i).toNat
      let u := tSub (tMul mt r) (1, 0)
      let v := tAdd (tAdd (ex, 0) (ent tabL (i + 32))) (tMul u (horner coefL u))
      fin32 (decide (v.1 < 0)) v

def rcpF (x : Fp) : BitVec 32 :=
  match x with
  | .nan => qnan
  | .inf n => if n then 0x80000000 else 0
  | .fin s m e =>
    if m = 0 then (if s then ninf else pinf)
    else
      let k := Nat.log2 m
      let i : Nat := m * 128 / 2 ^ k - 128
      let r := rnd48 256 (257 + 2 * i)
      let u := tSub (tMul (m, -(k : Int)) r) (1, 0)
      let v := tMul r (horner [(1, 0), (-1, 0), (1, 0), (-1, 0), (1, 0), (-1, 0)] u)
      fin32 s (v.1, v.2 - (k + e))

def rsqrtF (x : Fp) : BitVec 32 :=
  match x with
  | .nan => qnan
  | .inf n => if n then qnan else 0
  | .fin s m e =>
    if m = 0 then (if s then ninf else pinf)
    else if s then qnan
    else
      let h : Int := ((Nat.log2 m : Int) + e) / 2
      let mt : Int × Int := (m, e - 2 * h)
      let i := fl (mt.1, mt.2 + 6) - 64
      let r := ent tabRq i
      let u := tSub (tMul (tMul mt r) r) (1, 0)
      let v := tMul r (horner coefQ u)
      fin32 false (v.1, v.2 - h)

/-- The nearest integer, ties to even, of an exact value. -/
def rneInt (v : Int × Int) : Int :=
  let n : Int := rne v.1.natAbs v.2 0
  if v.1 < 0 then -n else n

/-- y = x − 2 × rne(x / 2), exact (R115). -/
def piY (v : Int × Int) : Int × Int := exAdd v (-2 * rneInt (v.1, v.2 - 1), 0)

/-- v is at most one half. -/
def leHalf (v : Int × Int) : Bool := (exAdd v (-1, -1)).1 ≤ 0

/-- S[i] × cp + C[i] × sp at t (R115). -/
def sinAt (t : Int × Int) : Int × Int :=
  let i := fl (exAdd (t.1, t.2 + 7) (1, -1))
  let d := t48 (exAdd t (-i, -7))
  let d2 := tMul d d
  let sp := tMul d (horner coefS d2)
  let cp := horner coefC d2
  tAdd (tMul (ent tabS i) cp) (tMul (ent tabS (64 - i)) sp)

def sinpiF (x : Fp) : BitVec 32 :=
  match x with
  | .nan => qnan
  | .inf _ => qnan
  | .fin s m e =>
    let v := sg s m e
    if (exAdd (-fl v, 0) v).1 = 0 then (if s then 0x80000000 else 0)
    else
      let y := piY v
      let a : Int × Int := (y.1.natAbs, y.2)
      let t := if leHalf a then a else exAdd (1, 0) (-a.1, a.2)
      fin32 (decide (y.1 < 0)) (sinAt t)

def cospiF (x : Fp) : BitVec 32 :=
  match x with
  | .nan => qnan
  | .inf _ => qnan
  | .fin s m e =>
    let v := sg s m e
    if m = 0 then one32
    else if (exAdd v (-(2 * fl v + 1), -1)).1 = 0 then 0
    else
      let y := piY v
      let a : Int × Int := (y.1.natAbs, y.2)
      if leHalf a then fin32 false (sinAt (exAdd (1, -1) (-a.1, a.2)))
      else fin32 true (sinAt (exAdd a (-1, -1)))

/-! ## The random function (R117, R118) -/

/-- One round of rng. -/
def rngRound (key : BitVec 64) (x : BitVec 64) (r : Nat) : BitVec 64 :=
  let x := x + key.rotateLeft (16 * r)
  let x := x ^^^ (x >>> 31)
  let x := x * 0xC3A59E1D7B246F8B
  x ^^^ (x >>> 29)

def rng (key ctr : BitVec 64) : BitVec 64 := (List.range 6).foldl (rngRound key) (ctr ^^^ key)

/-- What the sampling service draws: the key of the request, and a counter of the token position and the draw's index in
that position, so that no frame number, slot, die or TIME enters (R119). -/
def sampleDraw (key : BitVec 64) (pos draw : Nat) : BitVec 64 := rng key (BitVec.ofNat 64 (pos * 2 ^ 20 + draw))

/-- Element `e` of a vector random operation: form 0 raw, 1 in [0, 1), 2 in (0, 1] (R118). -/
def rngElem (form : Nat) (key base : BitVec 64) (e : Nat) : BitVec 32 :=
  let w := rng key (base + BitVec.ofNat 64 (e / 2))
  let x : BitVec 32 := if e % 2 = 0 then w.setWidth 32 else (w >>> 32).setWidth 32
  match form with
  | 0 => x
  | 1 => toF32 (.fin false (x.toNat / 256) (-24))
  | _ => toF32 (.fin false (x.toNat / 256 + 1) (-24))

end Sys2Proof.Machine
end

