-- ==== Sys2Proof/Machine/Check.lean ====
section
/-! DEFINITION. Appending to the frame digest chain, releasing outputs, certificates, replays of samples and their
outcome (10 R276 to R291). -/

namespace Sys2Proof.Machine

/-- The last byte index of the head: H of the last entry, or the root (10 R288). -/
def State.chainHead (s : State) : Bytes := if s.checks.entries = 0 then s.checks.root else s.checks.head

/-- The highest final frame advances: the object and the notice to the host (10 R280, 12 R359). -/
def State.advanceFinal (s : State) (f : Nat) : State :=
  if (match s.checks.finalFrame with | some g => decide (f ≤ g) | none => false) then s
  else
    let e := match s.entryOf f with | some r => r.1 | none => s.lastEntry
    let s := s.setNum Obj.R_FINAL_FRAME f
    { s with
      checks := { s.checks with finalFrame := some f }
      fabric := { s.fabric with notices := s.fabric.notices ++ [(0, 0, bytesLE 8 f ++ bytesLE 8 e)] } }

/-- The entry up to which a certificate has been issued or is due. -/
def State.certBase (s : State) : Nat :=
  match s.checks.certDue.getLast?, s.checks.lastCertified with
  | some d, _ => d.1 + 1
  | none, some c => c.2 + 1
  | none, none => 0

/-- CHAIN_APPEND: the frame record of a certified frame is appended (10 R286 to R290). -/
def execChainAppend (s : State) : Host.Outcome State Fault Refusal :=
  .next (match s.checks.done with
    | [] => s
    | d :: rest =>
      let s := s.atTime (d.boundary + 32000)
      let f := d.att.frame
      let j := s.checks.entries
      let final := if d.provisional then s.checks.finalFrame.getD 0 else f
      let sum := slice d.summary 0 48 ++ bytesLE 8 final ++ bytesLE 8 s.checks.revokeSeq
      let rec' := fit 48 s.chainHead ++ bytesLE 8 f ++ s.outDigest f ++ fit 64 sum ++ fit 64 d.ledger
      let recs := s.checks.recs ++ [(j, rec')]
      let due := decide (s.checks.certN ≤ j + 1 - s.certBase) || s.checks.onDemand
      let od := s.checks.onDemand
      let s := { s with checks := { s.checks with
        done := rest, release := s.checks.release ++ [{ d with entry := j }], head := sha384 rec', entries := j + 1
        recs := recs.drop (recs.length - 65536)
        certDue := if due then s.checks.certDue ++ [(j, od)] else s.checks.certDue
        onDemand := if due then false else s.checks.onDemand } }
      if d.provisional then s else s.advanceFinal f)

/-- What the sampling service draws for a held request: its REQ.KEY, the token position and the index of the draw (04 R119,
12 R356). -/
def Request.draw (r : Request) (pos i : Nat) : BitVec 64 := sampleDraw (BitVec.ofNat 64 (field r.data 8 8)) pos i

/-- The response records that a frame's messages form for the requests held (12 R357). -/
def State.responsesOf (s : State) (d : Done) : List Response :=
  (s.frameResponses d.att.frame).filterMap (fun m =>
    match s.fabric.held.find? (fun r => r.id == m.1) with
    | some r => some { sess := r.sess, tag := r.tag, id := r.id, status := 0
                       flags := (if d.provisional then 1 else 0) + (if m.2.1 then 2 else 0) + (if d.att.rollback then 4 else 0)
                       frame := d.att.frame, entry := d.entry, body := m.2.2 }
    | none => none)

/-- OUTPUT_RELEASE: the outputs of the oldest certified frame go to the host, and its output slot is read (10 R289,
11 R309). Nothing is released in SAFE or while a rollback is under way (10 R282, 15 R427). -/
def execOutputRelease (s : State) : Host.Outcome State Fault Refusal :=
  .next (match s.checks.release with
    | [] => s
    | d :: rest =>
      if s.panel = .safe ∨ s.recovery.roll.isSome then s
      else
        let s := s.atTime (d.boundary + 40000)
        let rs := s.responsesOf d
        let last := (rs.filter (fun r => r.flags / 2 % 2 == 1)).map (fun r => r.id)
        { s with
          checks := { s.checks with
            release := rest
            lastReleased := some (match s.checks.lastReleased with | some l => max l d.att.frame | none => d.att.frame) }
          fabric := { s.fabric with
            responses := s.fabric.responses ++ rs
            held := s.fabric.held.filter (fun r => !last.contains r.id) } })

/-- The certificate over entries `first` to `last` (10 R291). -/
def State.certificate (s : State) (first last : Nat) (demand : Bool) : Bytes :=
  let r := (s.checks.recs.find? (fun r => r.1 == last)).getD (0, [])
  let prov := s.checks.recs.any (fun r => decide (first ≤ r.1) && decide (r.1 ≤ last) && field r.2 136 1 % 2 == 1)
  let p : Bytes := match s.prog with | some p => p.digest | none => []
  let body := bytesLE 4 0x434E4748 ++ bytesLE 2 1 ++ bytesLE 2 ((if demand then 1 else 0) + (if prov then 2 else 0)) ++
    fit 16 Config.panelSerial ++ fit 48 p ++ fit 48 s.fwDigest ++ fit 48 s.calDigest ++ sha384 r.2 ++ bytesLE 8 first ++
    bytesLE 8 last ++ bytesLE 8 (field r.2 48 8) ++ bytesLE 8 s.time ++ bytesLE 8 (field r.2 152 8) ++
    (if s.checks.lastCert.isEmpty then List.replicate 48 0 else sha384 s.checks.lastCert)
  body ++ fit 96 (Config.sign 0 body)

/-- A certificate signed over the chain up to an entry, kept and sent to the host (10 R290). -/
def State.signCert (s : State) (last : Nat) (demand : Bool) : State :=
  let first := match s.checks.lastCertified with | some c => c.2 + 1 | none => 0
  let c := s.certificate first last demand
  let f := match s.checks.recs.find? (fun r => r.1 == last) with | some r => field r.2 48 8 | none => 0
  { s with
    checks := { s.checks with
      certDue := s.checks.certDue.filter (fun d => decide (last < d.1)), certN := s.num Obj.CERT_INTERVAL, lastCert := c
      lastCertified := some (f, last) }
    access := { s.access with signCount := s.access.signCount + 1 }
    fabric := { s.fabric with notices := s.fabric.notices ++ [(2, 0, c)] } }

/-- CERTIFICATE_SIGN: the secure element signs the certificate that is due; while no half can sign none is issued
(10 R290, 18 R496). -/
def execCertificateSign (s : State) : Host.Outcome State Fault Refusal :=
  .next (match s.checks.certDue with
    | [] => s
    | d :: _ =>
      if s.access.halves = 0 then { s with checks := { s.checks with certDue := [] } }
      else s.signCert d.1 d.2)

/-! ## Replays of a sample (10 R276 to R282) -/

/-- A die that a replay may take: a WARM-SPARE that is no migration target and runs no replay (10 R276). -/
def State.mayReplay (s : State) (site : Nat) : Bool :=
  let d := s.die site
  d.st == .warmSpare && !d.quarantined && !d.isolated && !s.reserved.contains site &&
  !s.checks.reps.any (fun r => r.site == site) && decide (s.checks.reps.length < 16)

/-- The captured frame-state read buffers written into the cores of a replay die (10 R276). -/
def State.writeReadBuf (s : State) (site vd : Nat) : State :=
  (s.placeOn site vd).foldl (fun s x =>
    (SMap.range s.checks.sampleBuf (spadKey x.2 0) (spadKey x.2 (2 ^ 19))).foldl (fun s e =>
      s.spadWrite x.1 (e.1 % 2 ^ 19) [e.2]) s) s

/-- REPLAY_DIE_START: at a tick a replay die is written with the virtual die's program and its captured read buffer
(10 R276, R277). -/
def execReplayDieStart (site vd : Nat) (s : State) : Host.Outcome State Fault Refusal :=
  onPart (decide (site < 144)) (
    match s.prog with
    | none => s
    | some p =>
      let put (s : State) (r : Rep) : State :=
        let s := s.setHashing site false
        let s := (s.clearCores site).writeCode p site vd
        let s := (s.writeLoadCopy p site vd).writeReadBuf site vd
        { s with checks := { s.checks with reps := s.checks.reps ++ [r] } }
      if !s.mayReplay site || s.thermal.quench.isSome then s
      else match s.checks.again.find? (fun r => r.vd == vd && r.firstSite != site) with
        | some r =>
          let s := { s with checks := { s.checks with again := s.checks.again.filter (fun x => x != r) } }
          put s { r with site := site, since := s.slots.slot }
        | none =>
          if s.checks.waitReplay.contains vd then
            let s := { s with checks := { s.checks with waitReplay := s.checks.waitReplay.erase vd } }
            put s { site := site, vd := vd, since := s.slots.slot }
          else s)

/-- A virtual die has passed the sample; when every one has, its frames are final (10 R280). -/
def State.samplePassed (s : State) (vd : Nat) : State :=
  match s.checks.sampleFrame with
  | none => s
  | some m =>
    let s := { s with checks := { s.checks with samplePass := SMap.put zeroD s.checks.samplePass vd (m + 1) } }
    if (List.range s.gridV).all (fun v => decide (m < SMap.get zeroD s.checks.samplePass v)) then s.advanceFinal m else s

/-- Recovery after a revocation with reason 1: the attempt fails, the virtual die moves off its die and the frames from
the last committed checkpoint run again, or SAFE where that checkpoint is suspect (10 R282). -/
def State.recoverReplay (s : State) (vd first : Nat) : State :=
  let fr := s.attFrame
  let s := { s with checks := { s.checks with reviseFrom := first, reviseEntry := s.checks.entries } }
  let resume := match s.larder.committed with | some c => c.resume | none => 0
  if resume ≤ first then (s.stopAttempt).startRoll vd fr else s.toSafe 3

/-- The outcome of a second replay (10 R278). -/
def State.secondReplay (s : State) (r : Rep) (digest orig : Bytes) : State :=
  let m := s.checks.sampleFrame.getD 0
  let site := SMap.get zeroD s.checks.sampleSites r.vd
  let first := SMap.get zeroD s.checks.samplePass r.vd
  let last := match s.checks.lastReleased with | some l => l | none => first
  if digest = orig then
    let s := (s.count Obj.R_REPLAYS_PASSED).fsr { part := 0, index := r.firstSite, det := 0x13, kind := 2, action := 0x100 }
    (s.lastingFault r.firstSite 0x13 0).samplePassed r.vd
  else
    let s := s.count Obj.R_REPLAYS_FAILED
    if digest = r.firstDigest then
      let twice := s.checks.failsBefore.any (fun x => x.1 == r.vd && x.2 != site)
      let s := if twice then s.fsr { part := 4, det := 0x13, cls := 2, kind := 4, action := 0x88 }
        else s.fsr { part := 0, index := site, det := 0x13, cls := 2, kind := 2, action := 0x86 }
      let s := s.revoke 1 first last m r.vd site r.firstSite r.site
      let s := { s with checks := { s.checks with fails := s.checks.fails ++ [(r.vd, site)] } }
      if twice then s.holdNext 8 else s.recoverReplay r.vd first
    else
      let s := s.fsr { part := 0, index := site, det := 0x13, cls := 2, kind := 4, action := 0x88 }
      (s.revoke 2 first last m r.vd site r.firstSite r.site).holdNext 8

/-- REPLAY_COMPARE: a replay ends after its two slots with its transcript digest (10 R277, R278). -/
def execReplayCompare (site : Nat) (digest : Bytes) (s : State) : Host.Outcome State Fault Refusal :=
  onPart (decide (site < 144)) (
    match s.checks.reps.find? (fun r => r.site == site) with
    | none => s
    | some r =>
      if s.slots.slot < r.since + 2 then s
      else
        let orig := SMap.get noB s.checks.transcripts r.vd
        let s := (s.clearCores site)
        let s := { s with checks := { s.checks with reps := s.checks.reps.filter (fun x => x.site != site) } }
        if r.second then s.secondReplay r digest orig
        else if digest = orig then (s.count Obj.R_REPLAYS_PASSED).samplePassed r.vd
        else
          let s := s.count Obj.R_REPLAYS_FAILED
          { s with checks := { s.checks with
            again := s.checks.again ++ [{ site := 144, vd := r.vd, since := 0, second := true, firstSite := site, firstDigest := digest }] } })

end Sys2Proof.Machine
end

