-- ==== Sys2Proof/Machine/Pins.lean ====
section
/-! DEFINITION. The discrete outputs as functions of the state (14 R409, 19 R515, R516). -/

namespace Sys2Proof.Machine

/-- A part is at or above its throttle limit (14 R393). -/
def State.anyHot (s : State) : Bool :=
  allSites.any (fun i => (s.die i).powered && decide (9500 ≤ (s.die i).control)) ||
  (List.range 16).any (fun i => (s.hub i).temps.any (fun t => decide (9500 ≤ t))) ||
  (List.range 8).any (fun i => (s.portDie i).temps.any (fun t => decide (9500 ≤ t))) ||
  (List.range 48).any (fun i => decide (8500 ≤ (s.stack i).temp))

/-- THERM_ALERT_N is driven low (14 R409). In COLD every output is released (19 R515). -/
def State.thermAlertLow (s : State) : Bool :=
  s.panel != .cold && (s.anyHot || s.thermal.degraded || s.thermal.quench.isSome)

/-- FAULT_N is driven low (19 R516). -/
def State.faultLow (s : State) : Bool :=
  s.panel == .safe || (s.panel == .bringup && s.bringup.halted) || (s.panel == .hold && s.num Obj.HOLD_CAUSE != 1)

/-- TIMEPULSE_OUT is high for 100 ms from its rising edge (19 R515). -/
def State.pulseHigh (s : State) : Bool :=
  match s.pins.pulseAt with
  | some t => s.panel != .cold && decide (s.time < t + 100000000)
  | none => false

end Sys2Proof.Machine
end

