-- ==== Sys2Proof/Machine/Clock.lean ====
section
/-! DEFINITION. References, the mesh and TIME (02 R32 to R39, 12 R346). -/

namespace Sys2Proof.Machine

/-! ## The reference inputs (02 R33, R34) -/

/-- The code of an input in object 3000.03. -/
def refCode : RefIn → Nat
  | .a => 1
  | .b => 2
def refOther : RefIn → RefIn
  | .a => .b
  | .b => .a
def Mesh.ok (m : Mesh) : RefIn → Bool
  | .a => m.okA
  | .b => m.okB
def Mesh.since (m : Mesh) : RefIn → Nat
  | .a => m.sinceA
  | .b => m.sinceB
/-- The mesh locks to another input: a switch, which the panel logs (02 R33). -/
def State.switchTo (s : State) (i : RefIn) : State :=
  ({ s with mesh := { s.mesh with src := refCode i, log := s.mesh.log ++ [(s.time, refCode i)] } }).count Obj.REFCLK_SWITCH_COUNT

def Mesh.setOk (m : Mesh) (i : RefIn) (ok : Bool) (t : Nat) : Mesh :=
  match i with
  | .a => { m with okA := ok, sinceA := t }
  | .b => { m with okB := ok, sinceB := t }

/-- The preferred input (object 3001.03). -/
def State.preferred (s : State) : RefIn := if s.num Obj.REFCLK_PREFERRED = 2 then .b else .a

/-- REFCLK_LOSS: the mesh switches to the other good input, or enters holdover, without a step in TIME (02 R33, R34). -/
def execRefclkLoss (input : RefIn) (s : State) : Host.Outcome State Fault Refusal :=
  .next (
    if !s.mesh.ok input then s
    else
      let m := s.mesh.setOk input false s.time
      if m.src = refCode input then
        if m.ok (refOther input) then { s with mesh := m }.switchTo (refOther input)
        else { s with mesh := { m with src := 3 } }
      else { s with mesh := m })

/-- REFCLK_INPUT_GOOD: a lost input shows edges (02 R33). DESIGN CHOICE (log 107): a mesh in holdover locks to the first
input that comes back, whichever it is, at once, with no tick and no count in object 3001.04: leaving holdover is no
switch from one input to another, and R34 does not say how it ends. -/
def execRefclkInputGood (input : RefIn) (s : State) : Host.Outcome State Fault Refusal :=
  .next (
    if s.mesh.ok input then s
    else
      let m := s.mesh.setOk input true s.time
      { s with mesh := if m.src = 3 ∨ (m.src = 0 ∧ s.panel ≠ .cold ∧ s.panel ≠ .aux) then { m with src := refCode input } else m })

/-- The tick at or after the present TIME. -/
def State.nextTick (s : State) : Nat := (s.time + s.period - 1) / s.period * s.period

/-- REFCLK_RETURN: the preferred input has been good for 10 s; the mesh returns to it at a slot tick (02 R33). -/
def execRefclkReturn (s : State) : Host.Outcome State Fault Refusal :=
  .next (
    let i := s.preferred
    if s.mesh.ok i && s.mesh.src == refCode (refOther i) && decide (s.mesh.since i + 10000000000 ≤ s.nextTick) then
      (s.atTime s.nextTick).switchTo i
    else s)

/-! ## The mesh (02 R35, R36) -/

/-- MESH_PHASE_COMPARE: `phases` are the differences to the neighbours in ps. Sixteen comparisons in a row beyond 1 ns
from every neighbour decouple the node: its hub and the dies of its cell have lost their clock (02 R35, 15 R427). -/
def execMeshPhaseCompare (hub : Nat) (phases : List Int) (s : State) : Host.Outcome State Fault Refusal :=
  onPart (decide (hub < 16)) (
    let s := s.nextSample (s.hub hub).phaseAt 1000
    let s := s.updHub hub (fun h => { h with phaseAt := s.time })
    if (s.hub hub).lost then s
    else
      let out := !phases.isEmpty && phases.all (fun p => decide (1000 < p.natAbs))
      let run := if out then (s.hub hub).phaseRun + 1 else 0
      let s := s.updHub hub (fun h => { h with phase := phases, phaseRun := run })
      if run < 16 then s
      else
        let s := s.hubLoss hub 0x19
        (List.range 9).foldl (fun s i => s.dieLoss (9 * hub + i) 0x0E 0x0D) s)

/-- CLOCK_LOSS: the hub isolates the die, whose loss follows (02 R36, 15 R420). -/
def execClockLoss (site : Nat) (s : State) : Host.Outcome State Fault Refusal :=
  onPart (decide (site < 144)) (s.dieLoss site 0x0E 0x0D)

/-! ## TIME (02 R38, R39, 12 R346) -/

/-- TIME may still be stepped: no stage S8 has completed since the last reset or bring-up (02 R37, R38). SIMMER entered
from READY comes after S8. -/
def State.mayStep (s : State) : Bool :=
  !s.bringup.reachedS10 && (match s.bringup.stage with | some n => decide (n ≤ 8) | none => true)

/-- TIME stepped by `d` ns (02 R38). -/
def State.stepTime (s : State) (d : Int) : State :=
  if d = 0 then s else { s with time := ((s.time : Int) + d).toNat }.count Obj.TIME_EPOCH

/-- A slew: the offset is worked off at 50 ns per ms from now on; it replaces one under way. It changes the rate at which
TIME counts, not the count (02 R38; log 32). -/
def State.slew (s : State) (d : Int) : State := { s with mesh := { s.mesh with slewAt := s.time, slewBy := d } }

/-- What a slew has still to correct, in ns: at most 50 ns are corrected in each millisecond (02 R38). -/
def State.slewLeft (s : State) : Int :=
  let done : Int := ((s.time - s.mesh.slewAt) * 50 / 1000000 : Nat)
  if 0 ≤ s.mesh.slewBy then max 0 (s.mesh.slewBy - done) else min 0 (s.mesh.slewBy + done)

/-- TIME follows a source that it is `d` ns behind: a step until S8 completes, a slew after it (02 R38). -/
def State.follow (s : State) (d : Int) : State := if s.mayStep then s.stepTime d else s.slew d

/-- The master follows its disciplining source: a step until S8 completes, a slew after it (12 R346). -/
def State.discipline (s : State) (d : Int) : State :=
  if s.mayStep then (if d = 0 then s else (s.stepTime d).count Obj.GROUP_TIME_EPOCH) else s.slew d

/-- TIMEPULSE_IN_EDGE: the offset from the nearest whole second; a master disciplined with value 2 follows it
(02 R39, 12 R346). -/
def execTimepulseInEdge (s : State) : Host.Outcome State Fault Refusal :=
  .next (
    let near := (s.time + 500000000) / 1000000000 * 1000000000
    let off : Int := (s.time : Int) - near
    let s := s.setNum Obj.TIMEPULSE_IN_OFFSET (i32 off)
    if s.isMaster && s.num Obj.TIME_DISCIPLINE == 2 && s.panel != .cold then s.discipline (-off) else s)

/-- TIMEPULSE_OUT: the rising edge at the next whole second (02 R39, 19 R515). -/
def execTimepulseOut (s : State) : Host.Outcome State Fault Refusal :=
  .next (
    if s.panel = .cold then s
    else
      let t := (s.time + 999999999) / 1000000000 * 1000000000
      (s.atTime t).setPins (fun p => { p with pulseAt := some t }))

end Sys2Proof.Machine
end

