-- ==== Sys2Proof/Machine/Larder.lean ====
section
/-! DEFINITION. Sealing a frame's inputs, checkpoints and their restore, the scratchpad mode (01 R29, 06 R160, R161,
08 R217 to R228). -/

namespace Sys2Proof.Machine

/-- The frame that the next slot opens with a PROGRAM slot. -/
def State.sealFrame (s : State) : Option Nat :=
  match s.slots.posted.head? with
  | some d => if d.kind = .program then
      some (s.slots.nextFrame + (match s.slots.att with | some a => if a.frame = s.slots.nextFrame then 1 else 0 | none => 0))
    else none
  | none => none

/-- The sealed bytes over what the slot holds already of collective inputs (08 R222, 12 R350). -/
def overlay (new old : Bytes) : Bytes := new ++ old.drop new.length

/-- The entry lies in the window of a page-table copy that the image declares for the core (08 R219, 11 R314). -/
def Prog.tableHas (p : Prog) (v a : Nat) : Bool :=
  p.services.pts.any (fun t => t.1 == v && match (SMap.get (fun _ => []) p.windows v)[t.2.1]? with
    | some w => decide (w.base ≤ a) && decide (a + 4 ≤ w.base + w.len)
    | none => false)

/-- The service may write an entry: it lies in a declared copy, and is one that stands for no page, or that no frame has read whose
certificate is outstanding (08 R219). -/
def State.tableFree (s : State) (p : Prog) (key : Nat) (w : PageWrite) : Bool :=
  let old := SMap.get (fun _ => (0 : BitVec 32)) s.larder.tables key
  p.tableHas w.vcore w.addr && (old.toNat < 2 ^ 31 || old == w.entry ||
    decide (SMap.get zeroD s.larder.readBy key ≤ (match s.checks.lastCertified with | some c => c.1 + 1 | none => 0)))

/-- One entry of a page table written, in the service's table and in the copy (08 R219). -/
def State.pageWrite (s : State) (p : Prog) (w : PageWrite) : State :=
  let key := spadKey w.vcore w.addr
  let old := SMap.get (fun _ => (0 : BitVec 32)) s.larder.tables key
  let fresh := w.entry.toNat / 2 ^ 31 == 1 && w.entry != old
  if !s.tableFree p key w then s
  else
    let s := { s with larder := { s.larder with
      tables := SMap.put (fun _ => 0) s.larder.tables key w.entry
      owner := SMap.put zeroD s.larder.owner key (w.req + 1)
      readBy := SMap.put zeroD s.larder.readBy key 0
      kvFree := if fresh then s.larder.kvFree - 1 else s.larder.kvFree } }
    match s.coreOf s.net.epochB w.vcore with
    | some k => s.spadWrite k w.addr (bytesLE 4 w.entry.toNat)
    | none => s

/-- BATCH_SEAL: 25 µs before a program frame's tick the batching service seals its admission set, updates the page
tables and writes the retained inputs, which the coder stores in shares (01 R29, 08 R219, R222). A frame is sealed once. -/
def execBatchSeal (inputs : Bytes) (admitted : List Nat) (table : List PageWrite) (freed : Nat) (s : State) :
    Host.Outcome State Fault Refusal :=
  .next (match s.prog, s.sealFrame with
    | some p, some n =>
      if (match s.larder.sealed with | some m => decide (n ≤ m) | none => false) then s
      else
        let s := s.atTime (s.tickOf (s.slots.slot + 1) - 25000)
        let s := table.foldl (fun s w => s.pageWrite p w) s
        let key := n % max 1 p.rd
        let s := s.retainWrite p key (overlay (inputs.take p.input) (s.retainRead p key))
        { s with
          larder := { s.larder with
            sealed := some n
            retained := SMap.put zeroD s.larder.retained key (n + 1)
            kvPending := if freed = 0 then s.larder.kvPending else s.larder.kvPending ++ [(n, freed)] }
          fabric := { s.fabric with held := s.fabric.held.map (fun r =>
            if admitted.contains r.id && r.frame.isNone then { r with frame := some n } else r) } }
    | _, _ => s)

/-! ## Checkpoints (08 R223 to R228) -/

/-- The longest hold that ends with the copy of a buffer, in ns (08 R226): of the cores held under code 9 while the gate of 02
R46 is open. -/
def State.holdNs (s : State) (buf : CkBuf) : Nat :=
  s.cores.foldl (fun m x =>
    let mine := match buf with | .spad v => s.vcoreOf x.1 == some v | .hfs _ => true
    let held := match x.2.hold with | some h => h.1 == 9 | none => false
    if mine && held && !s.gateClosed && s.copyHolds buf then max m (s.time - x.2.lastIssueTime) else m) 0

/-- The length of a buffer. -/
def Prog.bufLen (p : Prog) (b : CkBuf) : Nat :=
  match b with
  | .spad v => match (SMap.get (fun _ => []) p.windows v).find? (fun x => x.kind == 2) with | some r => r.len | none => 0
  | .hfs i => match p.regions[i]? with | some r => r.len | none => 0

/-- The data of a checkpoint in the order of its buffers, then the service regions (08 R223 to R225; log 34). -/
def ckBytes (p : Prog) (c : Ck) : Bytes :=
  p.buffers.flatMap (fun b => match b with
    | .spad v =>
      let ws := SMap.get (fun _ => []) p.windows v
      match ws.find? (fun x => x.kind == 2) with
      | some r => readBytes c.spad (spadKey v (swapView ws (c.resume % 2 == 1) r.base)) r.len
      | none => []
    | .hfs i => match p.regions[i]? with
      | some r => readBytes c.hbm (hbmKey r.vstack (r.off + (if c.resume % 2 = 1 then r.len else 0))) r.len
      | none => []) ++ c.service

/-- The bytes of a checkpoint of a program, and the slot of the larder area that it takes (08 R224). -/
def Prog.ckLen (p : Prog) : Nat :=
  (p.buffers.map p.bufLen).sum + ((p.regions.filter (fun r => r.kind == 20)).map (fun r => r.len)).sum
def Prog.ckSlot (p : Prog) (c : Ck) : Nat := c.resume / max 1 p.k % 2

/-- SHA-384 over the data shares in stripe order: 8 KiB of data in each stripe (08 R224, R225). -/
def ckDigest (b : Bytes) : Bytes := sha384 (fit ((b.length + 8191) / 8192 * 8192) b)

/-- The checkpoint once the coder has written its shares. -/
def Ck.coded (c : Ck) (p : Prog) : Ck :=
  { c with wait := [], written := true, digest := ckDigest (ckBytes p c), spad := [], hbm := [], service := [] }

/-- The shares of a checkpoint written, each line with its check (08 R224). -/
def State.writeCk (s : State) (p : Prog) (c : Ck) : State := s.writeStripes p 16 (p.ckSlot c) (ckBytes p c)

/-- CHECKPOINT_COPY_COMPLETE: a buffer of the oldest checkpoint that still waits for it is copied, and stores held on it are released.
With the last buffer every share is written (08 R225, R226). -/
def execCheckpointCopyComplete (buf : CkBuf) (s : State) : Host.Outcome State Fault Refusal :=
  .next (match s.prog, s.larder.copying.find? (fun c => c.wait.contains buf) with
    | some p, some c =>
      let h := s.holdNs buf
      let c1 := { c with wait := c.wait.filter (fun b => b != buf) }
      let s := if c1.wait.isEmpty then s.writeCk p c else s
      { s with larder := { s.larder with
        copying := s.larder.copying.map (fun x => if x = c then (if c1.wait.isEmpty then c.coded p else c1) else x)
        holdHist := match s.larder.holdHist with | m :: t => max m h :: t | [] => [h] } }
    | _, _ => s)

/-- A checkpoint becomes the last committed one; pages freed before it return to the pool (08 R219, R225). -/
def State.commit (s : State) (c : Ck) : State :=
  let back := s.larder.kvPending.filter (fun x => decide (x.1 < c.resume))
  { s with larder := { s.larder with
    committed := some c, copying := s.larder.copying.filter (fun x => decide (c.resume < x.resume)), degraded := 0
    kvFree := s.larder.kvFree + (back.map (fun x => x.2)).sum
    kvPending := s.larder.kvPending.filter (fun x => !decide (x.1 < c.resume)) } }

/-- A checkpoint whose shares are written is due: the verdict on its next frame has passed (08 R225). A program without buffers has
nothing to wait for. -/
def State.ckDue (s : State) : Option Ck :=
  s.larder.copying.find? (fun c => c.wait.isEmpty && match s.slots.passed with | some f => decide (c.resume ≤ f) | none => false)

/-- CHECKPOINT_COMMIT: at the first passed verdict on the checkpoint's next frame, once all shares are written
(08 R225). -/
def execCheckpointCommit (s : State) : Host.Outcome State Fault Refusal :=
  .next (match s.prog, s.ckDue with
    | some p, some c => if c.written then s.commit c else (s.writeCk p c).commit (c.coded p)
    | _, _ => s)

/-- One buffer written back at the placement of a route version (08 R228). -/
def State.putBuf (s : State) (p : Prog) (odd epoch : Bool) (b : CkBuf) (d : Bytes) : State :=
  match b with
  | .spad v =>
    let ws := SMap.get (fun _ => []) p.windows v
    match ws.find? (fun x => x.kind == 2), s.coreOf epoch v with
    | some r, some k => s.spadWrite k (swapView ws odd r.base) d
    | _, _ => s
  | .hfs i => match p.regions[i]? with
    | some r => s.writeLines ((s.net.route epoch).stackOf r.vstack) (r.off + (if odd then r.len else 0)) d (d.length / 64)
    | none => s

/-- The data of a checkpoint written back: its buffers, then the service areas (08 R228). -/
def State.putData (s : State) (p : Prog) (resume : Nat) (epoch : Bool) (data : Bytes) : State :=
  let r := p.buffers.foldl (fun (x : State × Bytes) b =>
    (x.1.putBuf p (resume % 2 == 1) epoch b (x.2.take (p.bufLen b)), x.2.drop (p.bufLen b))) (s, data)
  ((p.regions.filter (fun r => r.kind == 20)).foldl (fun (x : State × Bytes) g =>
    (x.1.writeLines ((s.net.route epoch).stackOf g.vstack) g.off (x.2.take g.len) (g.len / 64), x.2.drop g.len)) r).1

/-- The scratchpad copies of the page tables written again from the restored tables; an entry that they do not have is cleared
(08 R228). -/
def State.putTables (s : State) (epoch : Bool) (t : SMap (BitVec 32)) : State :=
  let keys := (s.larder.tables.map (fun e => e.1)) ++ (t.map (fun e => e.1))
  keys.foldl (fun s key =>
    match s.coreOf epoch (key / 2 ^ 19) with
    | some k => s.spadWrite k (key % 2 ^ 19) (bytesLE 4 (SMap.get (fun _ => (0 : BitVec 32)) t key).toNat)
    | none => s) s

/-- A decoded checkpoint restored (08 R228). -/
def State.restore (s : State) (p : Prog) (c : Ck) (epoch : Bool) (data : Bytes) : State :=
  let s := (s.putData p c.resume epoch data).putTables epoch c.tables
  { s with larder := { s.larder with tables := c.tables, kvFree := c.kvFree, kvPending := c.kvPending } }

/-- RECOVERY_RESTORE_DONE: the last committed checkpoint is decoded and restored, and the target is entered; a checkpoint with a
stripe of more than two bad shares is lost (15 R424, R427, 08 R228). -/
def execRecoveryRestoreDone (unavailable failing : List (Nat × Nat)) (s : State) : Host.Outcome State Fault Refusal :=
  .next (match s.recovery.roll, s.prog, s.larder.committed with
    | some r, some p, some c =>
      if s.thermal.quench.isSome || !r.vds.all (fun v => r.moves.any (fun m => m.1 == v)) then s
      else
        let total := stripesOf p.ckLen
        let bad := unavailable ++ failing
        match s.readStripes p 16 (p.ckSlot c) total bad with
        | none => s.toSafe 1
        | some data =>
          let n := s.degradedIn p 16 (p.ckSlot c) total bad
          let s := s.restore p c (if r.flipped then s.net.epochB else !s.net.epochB) data
          { s with
            larder := { s.larder with degraded := n }
            recovery := { s.recovery with roll := some { r with restored := true } } }
    | _, _, _ => s)

/-! ## Scratchpad mode (06 R160, R161) -/

/-- A die that must be in wheel mode (06 R160). -/
def State.mustWheel (s : State) (site : Nat) : Bool :=
  (s.die site).st == .active && (s.panel == .loaded || s.panel == .running || s.panel == .hold)

/-- SPAD_MODE_CHANGE: a change of mode makes every word of the die's scratchpads zero. Hashing mode is refused with abort 0x06
where the die must be in wheel mode, or is neither in BRINGUP nor in TEST nor out of service (06 R160, R161). -/
def execSpadModeChange (site : Nat) (hashing : Bool) (s : State) : Host.Outcome State Fault Refusal :=
  onPart (decide (site < 144)) (
    let d := s.die site
    let bad := hashing && (s.mustWheel site || !(s.panel == .bringup || d.st == .test || d.st == .frozen || d.quarantined))
    if bad then s.updDie site (fun d => { d with modeAbort := 0x06 })
    else (s.setHashing site hashing).updDie site (fun d => { d with modeAbort := 0 }))

end Sys2Proof.Machine
end

