-- ==== Sys2Proof/Machine/Recover.lean ====
section
/-! DEFINITION. Route flips, drained words, FAULT words and sync links, migrations, lost panels and links, retries
(09 R251, R252, R257, 03 R82, R83, 15 R415 to R434). -/

namespace Sys2Proof.Machine

/-! ## Flips (09 R251, R252, 15 R418) -/

/-- A written entry put into a copy of a route version. -/
def RouteEnt.put (e : RouteEnt) (r : Route) : Route :=
  match e with
  | .dieMap vd site => { r with dieMap := SMap.put (fun _ => 144) r.dieMap vd site }
  | .vstackMap v st => { r with vstack := SMap.put (fun v => v) r.vstack v st }
  | .coreMap site row sp => { r with coreMap := SMap.put (fun _ => 16) r.coreMap (16 * site + row) sp }

/-- A hub's copy of the inactive version: the version with what has been written into this hub (09 R249). -/
def State.hubCopy (s : State) (hub : Nat) : Route :=
  (s.net.writes.filter (fun w => w.1 == hub)).foldl (fun r w => w.2.put r) (s.net.route (!s.net.epochB))

/-- Every hub reports the same digest of the written version (09 R251). -/
def State.hubsAgree (s : State) : Bool := (List.range 16).all (fun h => s.hubCopy h == s.hubCopy 0)

/-- The written version: what the hubs hold, with each NI's own core map (09 R249). -/
def State.written (s : State) : Route :=
  (s.net.writes.filter (fun w => match w.2 with | .coreMap site _ _ => w.1 == 16 + site | _ => false)).foldl
    (fun r w => w.2.put r) (s.hubCopy 0)

/-- The TIME count of a flip that is announced now: the count that hub 0's agent names, which lies at least 2 × P ahead, or
in a recovery the first such count (09 R251, 15 R424). -/
def State.flipCount (s : State) (count : Nat) : Nat := if s.recovery.roll.isSome then s.time + 2 * s.period else count

/-- ROUTE_FLIP_ANNOUNCE: all 16 digests of the written version agree; hub 0 announces the flip for a count at least 2 × P
ahead, and the flip takes effect at the first boundary from that count on. Before the version is free the request is refused
with BUSY and counted (09 R251). -/
def execRouteFlipAnnounce (count : Nat) (s : State) : Host.Outcome State Fault Refusal :=
  .next (
    if 2 ≤ s.net.invState then s.count Obj.ROUTE_FLIPS_REFUSED
    else if s.net.invState == 1 && s.hubsAgree && s.thermal.quench.isNone && decide (s.time + 2 * s.period ≤ s.flipCount count) then
      let t := (s.flipCount count + s.period - 1) / s.period * s.period
      let s := s.writeRoute (fun _ => s.written)
      { s with net := { s.net with invState := 2, flipAt := t, writes := [] } }
    else s)

/-- The virtual dies that a flip moves, with their old and new sites. -/
def State.flipMoves (s : State) : List (Nat × Nat × Nat) :=
  let o := s.net.route s.net.epochB
  let n := s.net.route (!s.net.epochB)
  (List.range s.gridV).filterMap (fun v => if o.site v = n.site v then none else some (v, o.site v, n.site v))

/-- The counts of a migration that completes (14 R410, 15 R439). -/
def State.countMig (s : State) (prio : Nat) : State :=
  let s := s.count Obj.MIGRATIONS
  if prio = 5 then s.count Obj.ROTATIONS else if prio = 6 then s.count Obj.STRAGGLER_SWAPS else s

/-- One virtual die at its new site: the source becomes what its cause requires and the target ACTIVE; its services go
with it (15 R418). A target that has gone dark is lost with the virtual die (15 R419). -/
def State.moveVd (s : State) (m : Nat × Nat × Nat) : State :=
  let v := m.1
  let src := m.2.1
  let dst := m.2.2
  let prio := match s.recovery.migs.find? (fun x => x.vd == v) with | some x => x.prio | none => 0
  let sv := (s.die src).services
  let lost := (s.die dst).st != .warmSpare
  let s := if src < 144 && (s.die src).vd == some v then
      (s.leave src).updDie src (fun d => { d with
        newFw := d.newFw || prio == 8
        noTargetUntil := if prio = 6 then s.time + 10000000000 else d.noTargetUntil
        noRotateUntil := if prio = 5 then s.time + 1000000000 else d.noRotateUntil })
    else s
  let s := if (s.die src).st = .test then { s with bringup := { s.bringup with testQ := s.bringup.testQ.filter (fun i => i != src) } } else s
  if 144 ≤ dst then s
  else if lost then s.startRoll v s.attFrame
  else
    let s := (s.clearCores dst).dieEnter dst .active
    let op := s.pointOf dst (s.panelFloor)
    let s := s.updDie dst (fun d => { d with vd := some v, services := sv, powered := true, op := op })
    if prio = 0 then s else s.countMig prio

/-- ROUTE_FLIP: at the announced boundary the other route version becomes active; every injection carries the new epoch
and the migrations of the version take effect. The boundary's snapshot names the new epoch, and its fold counts the flits of
the old one (09 R251, R252, R256, 15 R418, R424). -/
def execRouteFlip (s : State) : Host.Outcome State Fault Refusal :=
  .next (
    if !s.net.flipDue then s
    else
      let mv := s.flipMoves
      let s := s.count Obj.ROUTE_FLIP_COUNT
      let s := { s with
        recovery := { s.recovery with roll := s.recovery.roll.map (fun (r : Rollback) =>
          if r.ready then { r with flipped := true, entered := s.slots.kind == SlotKind.blank } else r) } }
      let s := mv.foldl (fun s m => s.moveVd m) s
      let s := { s with
        net := { s.net with epochB := !s.net.epochB, invState := 3, flipAt := 0, flipDue := false }
        recovery := { s.recovery with migs := [] } }
      let epoch : Byte := if s.net.epochB then 1 else 0
      let s := { s with
        net := { s.net with undrained := s.oldSites }
        slots := { s.slots with snap := s.slots.snap.map (fun (n : Snap) =>
          { n with summary := slice n.summary 0 34 ++ [epoch] ++ slice n.summary 35 29 }) } }
      let s := s.foldEpoch
      match s.slots.att, s.prog with
      | some _, some p => p.services.pts.foldl (fun s t =>
          if mv.any (fun m => m.1 == vdOf s.gridW t.1) then
            match s.coreOf s.net.epochB t.1 with
            | some k => s.updCore k (fun c => c.incAc t.2.2)
            | none => s
          else s) s
      | _, _ => s)

/-- DRAINED_WORD: no flit of an ended attempt or of an old epoch addressed to the site remains in its cell (09 R252). -/
def execDrainedWord (site : Nat) (s : State) : Host.Outcome State Fault Refusal :=
  onPart (decide (site < 144)) (
    if s.net.undrained.contains site && !s.oldSites.contains site then
      { s with net := { s.net with undrained := s.net.undrained.filter (fun i => i != site) } }
    else s)

/-! ## The sync network (09 R257, 15 R423) -/

/-- FAULT_WORD: every die stops issue; the NIs discard the attempt's traffic and the rest of the slot is ABANDONED. The
word of an overrun comes at the tick that ended the attempt, before its REPLAY starts (02 R49, R50, 15 R420, 14 R403). -/
def execFaultWord (kind : FaultKind) (s : State) : Host.Outcome State Fault Refusal :=
  .next (match kind, s.slots.att with
    | .overrun, some a => if a.restartWait then s else s.stopAttempt
    | _, _ => s.stopAttempt)

/-- The neighbours of a hub in the 4 × 4 mesh (01 R10). -/
def hubNeighbours (h : Nat) : List Nat :=
  (if h % 4 < 3 then [h + 1] else []) ++ (if 0 < h % 4 then [h - 1] else []) ++ (if h < 12 then [h + 4] else []) ++
  (if 4 ≤ h then [h - 4] else [])

/-- A sync word: kind, source hub, payload, CRC from bit 0 (09 R257; log 63). It passes its CRC. -/
def syncKind (w : BitVec 96) : Nat := (w.extractLsb' 0 8).toNat
def syncSource (w : BitVec 96) : Nat := (w.extractLsb' 8 8).toNat
def syncPayload (w : BitVec 96) : BitVec 64 := w.extractLsb' 16 64
def syncOk (w : BitVec 96) : Bool := w.extractLsb' 80 16 == Config.crc16 (w.extractLsb' 0 80)

/-- What a receiver takes of a word's two copies: the first that passes its CRC (09 R257). -/
def syncTake (w : BitVec 96 × BitVec 96) : Option (BitVec 96) :=
  if syncOk w.1 then some w.1 else if syncOk w.2 then some w.2 else none

/-- The number of a sync link. -/
def syncKey : SyncLink → Nat
  | .dieHub site => site
  | .hubHub a b => 256 + 16 * min a b + max a b
  | .portHub n second => 512 + 2 * n + if second then 1 else 0

/-- Words received on a link: both copies of a word bad is an error, and four in a row take the link down (09 R257). -/
def State.syncWords (s : State) (key : Nat) (words : List (BitVec 96 × BitVec 96)) : State × Bool :=
  words.foldl (fun (r : State × Bool) w =>
    let s := r.1
    match syncTake w with
    | some _ => ({ s with net := { s.net with syncBad := SMap.put zeroD s.net.syncBad key 0 } }, r.2)
    | none =>
      let s := { s with net := { s.net with syncBad := SMap.upd zeroD s.net.syncBad key (fun n => n + 1) } }.count Obj.SYNC_WORD_ERRORS
      (s, r.2 || decide (4 ≤ SMap.get zeroD s.net.syncBad key))) (s, false)

/-- A sync link that is down: a die behind it is lost; a hub without a working link to any neighbour is lost; a port die's
hub records it, and the words take its other hub (15 R423). -/
def State.syncDown (s : State) (link : SyncLink) : State :=
  let add (s : State) (h other : Nat) : State :=
    s.updHub h (fun x => { x with linksDown := if x.linksDown.contains other then x.linksDown else x.linksDown ++ [other] })
  match link with
  | .dieHub site => s.dieLoss site 0x18 0x0F
  | .hubHub a b =>
    let s := add (add s a b) b a
    let s := (s.fsr { part := 1, index := a, unit := 0x0F, det := 0x18 }).fsr { part := 1, index := b, unit := 0x0F, det := 0x18 }
    [a, b].foldl (fun s h =>
      if !(s.hub h).lost && (hubNeighbours h).all (fun n => (s.hub h).linksDown.contains n) then s.hubLoss h 0x19 else s) s
  | .portHub n second =>
    let h := if second then (portHubs n).2 else (portHubs n).1
    (add s h (160 + n)).fsr { part := 2, index := n, unit := 0x0F, det := 0x18 }

/-- The link is one that the panel has (09 R230). -/
def syncReal : SyncLink → Bool
  | .dieHub site => decide (site < 144)
  | .hubHub a b => decide (a < 16) && decide (b < 16)
  | .portHub n _ => decide (n < 8)

/-- SYNC_LINK_DOWN: the words that a link receives, each on its two lanes; with the fourth word in a row of which both
copies fail it is down (09 R257, 15 R423). Two hubs that are no neighbours share no link. -/
def execSyncLinkDown (q : LinkWords) (s : State) : Host.Outcome State Fault Refusal :=
  onPart (syncReal q.link) (
    let real := match q.link with | .hubHub a b => (hubNeighbours a).contains b | _ => true
    if !real then s
    else
      let r := s.syncWords (syncKey q.link) q.words
      if r.2 then r.1.syncDown q.link else r.1)

/-! ## Control cores (03 R82, R83, 15 R413) -/

/-- CONTROL_CORE_LOCKSTEP_MISMATCH: the pair halts with its state retained; the services of pairs 0 to 2 start again elsewhere,
and the hub agent takes over the telemetry of pair 3 while the die is ACTIVE; the frame `step`, whose admission, page-table
or sampling step was under way, is not certified; the die migrates (03 R82, R83). -/
def execControlCoreLockstepMismatch (site pair : Nat) (step : Option Nat) (s : State) : Host.Outcome State Fault Refusal :=
  onPart (decide (site < 144) && decide (pair < 4)) (
    let d := s.die site
    if !d.powered || d.haltedPairs.contains pair then s
    else
      let vd := d.vd
      let again := d.lockTimes.any (fun t => decide (s.time ≤ t + s.num Obj.QUARANTINE_WINDOW_H * 3600 * 10 ^ 9))
      let s := s.updDie site (fun d => { d with
        haltedPairs := d.haltedPairs ++ [pair], lockstep := d.lockstep + 1, lockTimes := d.lockTimes ++ [s.time] })
      let s := s.fsr { part := 0, index := site, unit := 0x0A, det := 0x0D, kind := if again then 2 else 1
                       action := (if vd.isSome then 2 else 0) + (if again then 0x100 else 0) }
      let s := if again then s.lastingFault site 0x0D 0x0A else s.count Obj.TRANSIENT_FAULTS
      let rep : Report := { det := 0x0D, vd := vd, site := some site }
      let s : State := match s.slots.ended with
        | some e => if pair != 3 && step == some e.att.frame then
            { s with slots := { s.slots with ended := some { e with reports := e.reports ++ [rep] } } } else s
        | none => s
      let s : State := match s.slots.att with
        | some a => if pair != 3 && step == some a.frame then s.report 0x0D vd (some site) else s
        | none => s
      let s := if pair = 3 then s.updDie site (fun d => { d with hubTelemetry := d.hubTelemetry || d.st == .active })
        else s.restartServices site pair
      s.reqMig site 2)

/-! ## Migrations (15 R418) -/

/-- The scratchpads of a virtual die's cores and the state of the control cores copied from one site to another. -/
def State.copySpads (s : State) (src dst vd : Nat) : State :=
  let s := s.updDie dst (fun d => { d with pairs := (s.die src).pairs })
  ((s.placeOn src vd).zip (s.placeOn dst vd)).foldl (fun s x =>
    let k1 := x.1.1
    let k2 := x.2.1
    let l := (SMap.range s.spad (spadKey k1 0) (spadKey k1 (2 ^ 19))).map (fun e => (spadKey k2 (e.1 % 2 ^ 19), e.2))
    { s with spad := SMap.splice zByte s.spad (spadKey k2 0) (spadKey k2 (2 ^ 19)) l }) s

/-- MIGRATION_COPY: in the BLANK slot, after the drained word for the source, its scratchpads go to the target. Digests
that differ repeat the copy once; a second mismatch gives the target a field entry (15 R418). -/
def execMigrationCopy (vd : Nat) (same : Bool) (s : State) : Host.Outcome State Fault Refusal :=
  .next (match s.recovery.migs.find? (fun m => m.vd == vd) with
    | none => s
    | some m =>
      if s.slots.kind != .blank || m.copied || m.fromLoad || s.net.undrained.contains m.src || s.thermal.quench.isSome ||
          decide (2 ≤ m.tries) then s
      else
        let upd (s : State) (f : Mig → Mig) : State :=
          { s with recovery := { s.recovery with migs := s.recovery.migs.map (fun x => if x.vd = vd then f x else x) } }
        let s := s.copySpads m.src m.dst vd
        if same then upd s (fun x => { x with copied := true })
        else
          let s := upd s (fun x => { x with tries := x.tries + 1 })
          if m.tries = 1 then (s.updDie m.dst (fun d => d.fieldEntry 0 0 0xFF 0xFF)).mapWrite else s)

/-- MIGRATION_CANCEL: no matching copy exists 10 µs before the end of the BLANK slot; hub 0 cancels the flip and every
migration of it is requested again (15 R418). -/
def execMigrationCancel (vd : Nat) (s : State) : Host.Outcome State Fault Refusal :=
  .next (match s.recovery.migs.find? (fun m => m.vd == vd) with
    | none => s
    | some m =>
      if s.slots.kind != .blank || m.copied || m.fromLoad then s
      else (s.atTime (s.tickOf (s.slots.slot + 1) - 10000)).cancelMigs)

/-! ## Lost panels and links (15 R433, R434, 12 R352) -/

/-- LOST_PANEL_HOLD: 1 s of EMPTY slots for a lost source panel (15 R434). -/
def execLostPanelHold (s : State) : Host.Outcome State Fault Refusal :=
  .next (match s.fabric.emptySince with
    | some t => if s.panel = .running ∧ !s.fabric.lostPanels.isEmpty then (s.atTime (t + 1000000000)).toHold 7 else s
    | none => s)

/-- A bit set in a mask. -/
def setBit (m i : Nat) : Nat := m ||| 2 ^ i

/-- A panel is lost to the group: the bridge ends the requests held there, and the loss of the time master selects the
lowest panel that is left (15 R434, 12 R345). -/
def State.losePanel (s : State) (nb : Nat) : State :=
  let lost := s.fabric.lostPanels ++ [nb]
  let gone := s.fabric.held.filter (fun r => r.panel == nb && !r.ring)
  let master := if nb = s.masterPanel then (List.range 64).find? (fun i => s.inGroup i && !lost.contains i) else s.fabric.master
  { s with fabric := { s.fabric with
    lostPanels := lost, master := master
    held := s.fabric.held.filter (fun r => !(r.panel == nb && !r.ring))
    responses := s.fabric.responses ++ gone.map (fun r =>
      { sess := r.sess, tag := r.tag, id := r.id, status := 4, flags := rspLast, frame := 0, entry := 0, body := [] }) } }

/-- AUDIT_COUNT_TIMEOUT: 15 µs after a boundary the link is entered in the lost ledger; a panel whose every link misses
four boundaries in a row is lost to the group (15 R433). -/
def execAuditCountTimeout (port : Nat) (s : State) : Host.Outcome State Fault Refusal :=
  onPart (decide (port < 128)) (
    let p := s.port port
    if !p.linked || p.gotAudit then s
    else
      let s := s.atTime (s.tickOf s.slots.slot + 15000)
      let un := (p.retry.map GlpFrame.units).sum
      let miss := ((List.range p.peerSent.length).map (fun i => p.peerSent.getD i 0 - SMap.get zeroD p.received i)).sum
      let n := if p.lost then 0 else un + miss
      let s := s.count Obj.LOST_LEDGER_FLITS n
      let s := { s with recovery := { s.recovery with lostLedger := if n = 0 then s.recovery.lostLedger else s.recovery.lostLedger ++ [(port, n)] } }
      let s : State := s.updPort port (fun p => { p with
        linked := p.up, lost := true, missed := p.missed + 1, retry := [], sent := [], received := [], peerSent := [] })
      let nb := s.neighbour (dirOf port)
      let links := (List.range 128).filter (fun i => (s.port i).up && s.neighbour (dirOf i) == nb)
      if links.all (fun i => decide (4 ≤ (s.port i).missed)) && !s.fabric.lostPanels.contains nb then
        (s.losePanel nb).setNum Obj.LOST_PANELS (setBit (s.num Obj.LOST_PANELS) nb)
      else s)

/-! ## Link retries (09 R258, 02 R47, 12 R333) -/

/-- LINK_RETRY: the waiting endpoint stalls and the retry is counted (09 R258). -/
def execLinkRetry (link : RetryLink) (ns : Nat) (s : State) : Host.Outcome State Fault Refusal :=
  match link with
  | .dieToHub site => onPart (decide (site < 144)) (
      ((s.count Obj.D2D_RETRIES).updHub (cellOf site) (fun h => { h with retries := h.retries + 1 })).updDie site
        (fun d => { d with stallNs := d.stallNs + ns }))
  | .portToHub n second => onPart (decide (n < 8)) (
      (s.count Obj.D2D_RETRIES).updHub (if second then (portHubs n).2 else (portHubs n).1) (fun h => { h with retries := h.retries + 1 }))
  | .hubMesh a b => onPart (decide (a < 16) && decide (b < 16)) (
      ((s.count Obj.HUBMESH_RETRIES).updHub a (fun h => { h with retries := h.retries + 1 })).updHub b
        (fun h => { h with retries := h.retries + 1 }))

/-! ## Control-core traffic (03 R81, R82, R85, 09 R238, 15 R415) -/

/-- The control-core pair that sends a packet: site and number (09 R237). -/
def ccPair (h : Hdr) : Option (Nat × Nat) := if h.skind = 2 then some (h.src % 256, h.src / 256 % 4) else none

/-- A halted pair's transaction does not leave it, and a frozen pair issues none (03 R82, 15 R415). -/
def State.withheld (s : State) (h : Hdr) : Bool :=
  match ccPair h with
  | some x => (s.die x.1).haltedPairs.contains x.2 || (s.die x.1).frozenPairs.contains x.2
  | none => false

/-- A request lies in a window that the firmware granted to its control core (03 R81; log 57). What a hub agent sends is under
no window. -/
def State.ccMay (s : State) (h : Hdr) (hbm wr : Bool) (part a len : Nat) : Bool :=
  h.skind != 2 || s.net.ccWins.any (fun w =>
    w.cc == h.src && w.hbm == hbm && w.part == part && decide (w.lo ≤ a) && decide (a + len ≤ w.lo + w.len) && (w.wr || !wr))

/-- A control-core pair frozen for an access outside its windows: its services start again elsewhere and the die migrates
(15 R415). -/
def State.freezePair (s : State) (site pair : Nat) : State :=
  let s := (s.updDie site (fun d => { d with frozenPairs := d.frozenPairs ++ [pair] })).fsr
    { part := 0, index := site, unit := 0x0A, det := 0x14, cls := 3 }
  (s.restartServices site pair).reqMig site 2

/-- The reply to a control-core request. -/
def State.ccReply (s : State) (h : Hdr) (refused : Bool) (data : Bytes) : State :=
  let n := data.length / 64
  s.inject { hdr := ({ type := 11, len := n, vc := if n ≤ 1 then 1 else 0, epoch := s.net.epochB, dkind := h.skind, dst := h.src,
                       skind := h.dkind, src := h.dst,
                       arg := bits h.arg 52 45 * 2 ^ 45 + (if refused then 2 ^ 53 else 0) } : Hdr).flit
             payload := toFlits n data }

/-- A request that is refused; a control core that reached outside its windows is frozen (03 R81, 15 R415). -/
def State.ccRefuse (s : State) (h : Hdr) : State :=
  let s := s.ccReply h true []
  match ccPair h with
  | some x => s.freezePair x.1 x.2
  | none => s

/-- CC_REQ: a control core reads one line or writes lines of a scratchpad or of HBM, under its windows (03 R81, R85; log 14).
Firmware packets carry tag 0, which no NI checks (09 R241). -/
def execCcReq (q : CcIn) (s : State) : Host.Outcome State Fault Refusal :=
  .next (
    let p := q.pkt
    let h := pktH p
    let s := s.flushAll
    if s.withheld h then s
    else
      let s := s.firmware p
      if !arrivesOk p then s.headerFault p
      else if h.type != 10 || !s.inOrder p then s
      else if s.toIsolated p then s.isolatedDiscard p
      else
        let s := s.eject p
        let s := { s with net := { s.net with ccWait := (h.src, bits h.arg 52 45) :: s.net.ccWait } }
        let wr := bits h.arg 44 44 = 1
        let a := alignTo 64 (bits h.arg 42 0)
        let n := if wr then p.payload.length else 1
        let b := p.payload.flatMap flitBytes
        if bits h.arg 43 43 = 0 then
          match (if h.dkind = 0 then s.coreOf h.epoch h.dst else none) with
          | some k =>
            if 393216 < a + 64 * n || !s.ccMay h false wr h.dst a (64 * n) then s.ccRefuse h
            else if wr then (((s.spadWrite k a b).xferBy k .net a n).evCore k (fun c => c)).ccReply h false []
            else (((s.xferBy k .net a 1).spadEcc k noOp q.ecc).evCore k (fun c => c)).ccReply h false (s.spadRead k a 64)
          | none => s.ccRefuse h
        else
          let st := if h.dkind = 1 then (s.net.route h.epoch).stackOf (h.dst % 64) else h.dst % 64
          let off := a % 2 ^ 37
          if 48 ≤ st || 0x1680000000 < off + 64 * n || !s.ccMay h true wr st off (64 * n) then s.ccRefuse h
          else if wr then (s.writeLines st off b n).ccReply h false []
          else s.ccReply h false (s.hbmRead st off 64))

/-- CC_REP: the reply reaches its control core (03 R81). -/
def execCcRep (p : Packet) (s : State) : Host.Outcome State Fault Refusal :=
  .next (
    let s := s.flushAll.firmware p
    let h := pktH p
    if !arrivesOk p then s.headerFault p
    else if h.type != 11 || !s.inOrder p then s
    else if s.toIsolated p then s.isolatedDiscard p
    else
      let s := s.eject p
      { s with net := { s.net with ccWait := s.net.ccWait.filter (fun x => x != (h.dst, bits h.arg 52 45)) } })

/-! ## ADMIN and COPY (09 R236, R249, R251) -/

/-- The part whose copy of the inactive version an ADMIN packet writes: a hub, or 16 + the site of an NI (09 R249). -/
def State.routeHolder (s : State) (h : Hdr) : Nat :=
  match h.dkind with
  | 3 => h.dst % 16
  | _ => 16 + (s.sinkSite h).getD 144

/-- A route-version write: to the inactive version only, refused with BUSY before that version is free (09 R251). -/
def State.adminRoute (s : State) (h : Hdr) (e : RouteEnt) : State :=
  if s.routeFree then
    { s with net := { s.net with invState := 1, writes := s.net.writes ++ [(s.routeHolder h, e)] } }
  else s.count Obj.ROUTE_FLIPS_REFUSED

/-- ADMIN: one entry of the inactive route version in one hub or NI, a window granted to a control core, or a firmware message,
whose layout the firmware sets and which changes no state that the manual gives the hardware (09 R238, R249). The core map of
an ACTIVE die is not written (03 R80). -/
def execAdmin (p : Packet) (body : AdminBody) (s : State) : Host.Outcome State Fault Refusal :=
  .next (
    let h := pktH p
    let s := s.flushAll
    if s.withheld h then s
    else
      let s := s.firmware p
      if !arrivesOk p then s.headerFault p
      else if h.type != 12 || !s.inOrder p then s
      else if s.toIsolated p then s.isolatedDiscard p
      else
        let s := s.eject p
        match body with
        | .dieMap vd site => s.adminRoute h (.dieMap vd site)
        | .vstackMap v st => s.adminRoute h (.vstackMap v st)
        | .coreMap site row sp => if (s.die site).st = .active then s else s.adminRoute h (.coreMap site row sp)
        | .ccGrant cc hbm part lo len wr =>
          { s with net := { s.net with ccWins := s.net.ccWins ++ [{ cc := cc, hbm := hbm, part := part, lo := lo, len := len, wr := wr }] } }
        | .firmware _ => s)

/-- COPY: larder shares and migration copies land at the address of the header (09 R236, R238). -/
def execCopyPacket (p : Packet) (s : State) : Host.Outcome State Fault Refusal :=
  .next (
    let h := pktH p
    let s := s.flushAll
    if s.withheld h then s
    else
      let s := s.firmware p
      if !arrivesOk p then s.headerFault p
      else if h.type != 13 || !s.inOrder p then s
      else if s.toIsolated p then s.isolatedDiscard p
      else
        let a := alignTo 64 (bits h.arg 42 0)
        let b := p.payload.flatMap flitBytes
        let s := s.eject p
        if bits h.arg 43 43 = 1 then
          match (if h.dkind = 0 then s.coreOf h.epoch h.dst else none) with
          | some k => ((s.spadWrite k a (b.take (393216 - a))).xferBy k .net a p.payload.length).evCore k (fun c => c)
          | none => s
        else
          let st := if h.dkind = 1 then (s.net.route h.epoch).stackOf (h.dst % 64) else h.dst % 64
          s.writeLines st (a % 2 ^ 37) b p.payload.length)

end Sys2Proof.Machine
end

