-- ==== Sys2Proof/Machine/Reset.lean ====
section
/-! DEFINITION. Panel resets, the VIN domain switched off, the entries to AUX, SIMMER and BRINGUP (13 R368, R369,
16 R440, R442, 17 R478, R480, 19 R517, R519). -/

namespace Sys2Proof.Machine

/-! ## What a loss of power and a reset leave -/

/-- A compute die without VIN: what the panel defect map and the flash counters hold stays, and LOST and DARK stay
(16 R446, R447, 17 R486). -/
def Die.unpowered (d : Die) : Die :=
  { st := if d.st = .lost ∨ d.st = .dark then d.st else .coldSpare
    quarantined := d.quarantined, isolated := d.st == .dark, since := d.since, exclusion := d.exclusion
    phases := d.phases, phaseOff := d.phaseOff, ivrCap := d.ivrCap, marks := d.marks, efuseOpen := d.efuseOpen, lockstep := d.lockstep
    lockTimes := d.lockTimes, lasting := d.lasting, field := d.field, lastFsr := d.lastFsr, testDue := d.testDue
    lastPass := d.lastPass, spares := d.spares, connTest := d.connTest }

/-- A compute die after a panel reset: its objects take their defaults but for what flash holds (16 R440). -/
def Die.afterReset (d : Die) : Die := { d.unpowered with since := 0, exclusion := 0, lasting := [], lastFsr := 0 }

/-- A stack without power keeps the TIME of its stored training (16 R441, 17 R490). -/
def Stack.unpowered (x : Stack) : Stack := { training := x.training }

/-- Everything that runs from VIN stops and loses its contents: cores, memories, hubs, stacks, ports, the program. The
auxiliary islands keep flash, sessions of the management ports and TIME (01 R15, 13 R368). -/
def State.vinOff (s : State) : State :=
  { s with
    cores := [], snaps := [], spad := [], imem := [], hbm := [], hbmBad := [], stage := [], fwStage := []
    dies := SMap.mapV dieD Die.unpowered s.dies
    hubs := [], portDies := []
    hbmStacks := SMap.mapV stackD Stack.unpowered s.hbmStacks
    prog := none, loading := none
    slots := { slot := s.slots.slot }
    checks := {}, larder := {}, net := {}, fabric := {}
    power := { capW := s.power.capW, capA := s.power.capA, capDue := s.power.capDue }
    recovery := { lastRecon := s.recovery.lastRecon, fsr := s.recovery.fsr }
    bringup := { s.bringup with stage := none, halted := false, reachedS10 := false, powerKept := false, fwStep := 0, testQ := [] }
    access := { s.access with
      sessions := s.access.sessions.filter (fun x => x.path != 2), calUse := [], calStatus := [] }
    mesh := { s.mesh with src := 0 } }.setNum Obj.SAFE_CAUSE 0

/-- The objects that keep their value through a panel reset although no command writes them (16 R440, R461). -/
def keptObjects : List Nat :=
  [Obj.TIME_EPOCH, Obj.VIN_LOSS_COUNT, Obj.IVR_REG_LOSSES, Obj.EFUSE_TRIPS, Obj.CONN_WARNINGS, Obj.TRIP_EVENTS,
   Obj.QUENCH_COUNT, Obj.FSR_LAST_SEQ, Obj.TEST_PASSES, Obj.TEST_FAILS, Obj.FW_FLASH_VALID]

/-- An object keeps its value through a panel reset: a setting, or one kept in flash (16 R440). -/
def keepsObject (clear : Bool) (k : Nat) : Bool :=
  keptObjects.contains k || (!clear && match objRow k with
    | some r => r.acc == .rw || r.acc == .rwIn
    | none => false)

/-- A panel reset (16 R440): the program ends, HBM is erased, every object takes its Default but for settings and what
flash keeps, every session closes. `cold` clears the freezes of sessions as well (17 R478). -/
def State.panelReset (s : State) (cause : Nat) (cold : Bool) : State :=
  let src := s.mesh.src
  let s := s.vinOff
  let clear := s.bringup.clearSettings
  let s := { s with
    dies := SMap.mapV dieD Die.afterReset s.dies
    od := s.od.filter (fun e => keepsObject clear e.1)
    thermal := { reported := s.time }
    bringup := { mapSeq := s.bringup.mapSeq, mapTime := s.bringup.mapTime, mapSigned := s.bringup.mapSigned
                 fwImage := s.bringup.fwImage, fwRunning := s.bringup.fwRunning, powerKept := s.bringup.powerKept }
    access := { roleKeys := s.access.roleKeys, ownerKeys := s.access.ownerKeys, calStored := s.access.calStored
                halves := s.access.halves, signCount := s.access.signCount, drawn := s.access.drawn
                frozen := if cold then [] else s.access.frozen }
    mesh := { s.mesh with src := if cold then 0 else src } }
  let s := { s with power := { capW := s.num Obj.POWER_CAP_W, capA := s.num Obj.CURRENT_CAP_A } }
  let s := if cold then s.setPins (fun p => { p with rstAt := s.time, phyRstN := [], pulseAt := none }) else s
  s.setNum Obj.RESET_CAUSE cause

/-- The panel state that a reset leaves; the count of changes starts at zero (17 R491). -/
def State.resetInto (s : State) (p : PanelSt) (old : PanelSt) : State :=
  { s with panel := p, panelSince := s.time, panelPrev := old }

/-! ## Entering SIMMER (17 R480, 02 R33, 13 R370) -/

/-- The mesh locks to the preferred input, or the other good one; with none it keeps what it has (02 R33). -/
def State.meshLock (s : State) : State :=
  let i := s.preferred
  let src := if s.mesh.ok i then refCode i else if s.mesh.ok (refOther i) then refCode (refOther i) else s.mesh.src
  { s with mesh := { s.mesh with src := src } }

/-- The stacks in SIMMER: in self-refresh, or off (17 R491 object 1010.02). -/
def State.simmerStacks (s : State) : State :=
  (List.range 48).foldl (fun s i => s.updStack i (fun x => { x with st := if s.num Obj.SIMMER_HBM = 0 then 1 else 2 })) s

/-! ## Stage reports (16 R444) -/

/-- The object of a stage's report. -/
def stageObj (stage sub : Nat) : Nat := 256 * (0xA100 + stage) + sub

/-- A stage begins. -/
def State.stageStart (s : State) (n : Nat) : State :=
  ({ s with bringup := { s.bringup with stage := some n, stageAt := s.time } }).setNum (stageObj n 1) 1

/-- Bring-up stops at a stage with its code and a record (16 R442). -/
def State.stageHalt (s : State) (n code : Nat) : State :=
  let s := { s with bringup := { s.bringup with halted := true } }
  let s := ((s.setNum (stageObj n 1) 4).setNum (stageObj n 2) code).setNum (stageObj n 6) s.time
  s.fsr { part := 4, det := 0, kind := 6, detail := bytesLE 2 code }

/-- A bring-up starts at S0 (16 R442). -/
def State.startBringup (s : State) (fast : Bool) : State :=
  let s := (List.range 11).foldl (fun s n => (List.range 6).foldl (fun s i => s.setNum (stageObj n (i + 1)) 0) s) s
  let s := { s with bringup := { s.bringup with stage := none, halted := false, fast := fast, startTime := s.time, reachedS10 := false, testQ := [] } }
  s.stageStart 0

/-- VIN has been in range for 100 ms: SIMMER, and BRINGUP where a rise of VIN_PGOOD starts it (17 R480, 16 R442). -/
def State.toSimmer (s : State) (auto : Bool) : State :=
  let s := ((s.enter .simmer).meshLock).simmerStacks
  let s := { s with power := { s.power with vinInRangeSince := none } }
  if auto && s.num Obj.AUTO_BRINGUP == 1 then (s.enter .bringup).startBringup false else s

/-! ## Compute dies taken out of use (16 R443) -/

/-- A die taken out of the test queue. -/
def State.unqueue (s : State) (site : Nat) : State :=
  { s with bringup := { s.bringup with testQ := s.bringup.testQ.filter (fun i => i != site) } }

/-- A die taken to LOST (17 R486). -/
def State.loseSite (s : State) (site : Nat) : State :=
  (((s.unqueue site).dieEnter site .lost).updDie site (fun d => { d with
    powered := false, corner := 0, hashing := false, after := 0 })).mapWrite

/-- A compute die excluded by a stage: S6 quarantines it, every other stage takes it to LOST (16 R443). -/
def State.excludeSite (s : State) (n : Nat) (x : Nat × Nat) : State :=
  let s := s.updDie x.1 (fun d => { d with exclusion := x.2 })
  if n = 6 then (s.updDie x.1 (fun d => { d with st := if d.st = .lost then .lost else .warmSpare })).quarantine x.1 0x1D
  else (s.fsr { part := 0, index := x.1, det := 0, kind := 2, detail := bytesLE 2 x.2 }).loseSite x.1

/-! ## The pins -/

/-- VIN in the range of R365. -/
def vinInRange (mv : Nat) : Bool := decide (1700 ≤ mv) && decide (mv ≤ 1950)

/-- A VIN loss (13 R368): the record with the last certified frame and the chain head, and AUX with no program. -/
def State.vinDown (s : State) : State :=
  if s.panel = .cold ∨ s.panel = .aux then s
  else
    let c := match s.checks.lastCertified with | some x => x.1 | none => 0
    let s := s.count Obj.VIN_LOSS_COUNT
    let s := s.fsr { part := 4, det := 0x1A, kind := 6, detail := bytesLE 8 c ++ slice s.checks.head 0 24 }
    let s := s.vinOff
    let s := { s with thermal := { reported := s.thermal.reported, stale := s.thermal.stale } }
    (s.enter .aux).setNum Obj.RESET_CAUSE 3

/-- VIN_LOSS (13 R368, 19 R518). -/
def execVinLoss (s : State) : Host.Outcome State Fault Refusal :=
  .next ((s.vinDown).setPins (fun p => { p with vinPgood := false }))

/-- The lowest and highest sample of a slot. -/
def Power.noteVin (p : Power) (mv : Nat) : Power :=
  { p with
    vinHist := (match p.vinHist with
      | [] => [(mv, mv)]
      | x :: t => (if x.1 = 0 then mv else min x.1 mv, max x.2 mv) :: t)
    vminSlot := if p.vminSlot = 0 then mv else min p.vminSlot mv }

/-- VIN_SAMPLE: a hub's sample of VIN (13 R367). In AUX the samples show when VIN has been in range for 100 ms
(17 R480, 19 R519). -/
def execVinSample (hub mv : Nat) (s : State) : Host.Outcome State Fault Refusal :=
  onPart (decide (hub < 16)) (
    if s.panel = .cold then s
    else
      let s := s.nextSample (s.hub hub).vinAt 1000
      if s.panel = .aux then
        if s.pins.vinPgood && vinInRange mv then
          let t : Nat := s.power.vinInRangeSince.getD s.time
          if t + 100000000 ≤ s.time ∧ 50000000 ≤ t then s.toSimmer false
          else { s with power := { s.power with vinInRangeSince := some t } }
        else { s with power := { s.power with vinInRangeSince := none } }
      else
        let h := s.hub hub
        let bad := if mv < 1600 ∨ 2050 < mv then h.vinBadRun + 1 else 0
        let low := if mv < 1700 then h.vinLowRun + 1 else 0
        let high := if 1950 < mv then h.vinHighRun + 1 else 0
        let s := s.updHub hub (fun h => { h with vinAt := s.time, vinBadRun := bad, vinLowRun := low, vinHighRun := high })
        let s := { s with power := s.power.noteVin mv }
        if bad = 2 ∨ !s.pins.vinPgood then s.vinDown
        else
          let note (k : LogKind) (p : Power) : Power := { p with log := p.log ++ [(s.time, k)] }
          let s := if low = 10 then { s.count Obj.VIN_EVENTS with power := note .vinLow { s.power with vinLow := true } } else s
          let s := if high = 10 then { s.count Obj.VIN_EVENTS with power := note .vinHigh s.power } else s
          if mv < 1720 then { s with power := { s.power with vinOkSince := none } }
          else
            let t : Nat := s.power.vinOkSince.getD s.time
            let ok := decide (t + 100000000 ≤ s.time)
            { s with power := { s.power with vinOkSince := some t, vinLow := s.power.vinLow && !ok } })

/-- VIN_PGOOD_RISE: from AUX, with VIN in range for 100 ms, to SIMMER and, where object A000.04 reads 1, to BRINGUP. A
VIN below range halts bring-up at S0 (17 R480, 16 R442, 19 R519). -/
def execVinPgoodRise (vinMv : Nat) (s : State) : Host.Outcome State Fault Refusal :=
  .next (
    let s := s.setPins (fun p => { p with vinPgood := true })
    if s.panel != .aux || !s.pins.auxPgood then s
    else if vinInRange vinMv then (s.atTime (max s.time 50000000 + 100000000)).toSimmer true
    else if s.num Obj.AUTO_BRINGUP = 1 then (((s.enter .bringup).meshLock).startBringup false).stageHalt 0 1
    else s)

/-- AUX_PGOOD_RISE: from COLD, a power-on reset into AUX; TIME starts at 0 (16 R440, 19 R517). -/
def execAuxPgoodRise (s : State) : Host.Outcome State Fault Refusal :=
  .next (
    let s := s.setPins (fun p => { p with auxPgood := true })
    if s.panel != .cold then s
    else
      let s := ({ s with time := 0 }).panelReset 0 true
      let s := { s with slots := {} }
      s.resetInto .aux .cold)

/-- AUX_PGOOD_FALL: every IVR stops and the panel enters COLD; nothing is written to flash (13 R369). -/
def execAuxPgoodFall (s : State) : Host.Outcome State Fault Refusal :=
  .next (
    let s := s.setPins (fun p => { p with auxPgood := false, phyRstN := [], pulseAt := none })
    if s.panel = .cold then s
    else
      let s := s.vinOff
      let s := { s with thermal := {}, access := { s.access with sessions := [] } }
      s.resetInto .cold s.panel)

/-- PANEL_RESET_N: a low of at least 1 µs is a hard reset; from SIMMER on it leads to SIMMER, and to BRINGUP where object
A000.04 reads 1 (16 R440, 17 R480, 19 R515). -/
def execPanelResetN (lowNs : Nat) (s : State) : Host.Outcome State Fault Refusal :=
  .next (
    if lowNs < 1000 ∨ s.panel = .cold then s
    else
      let old := s.panel
      let s := s.panelReset 1 true
      if old = .aux then s.resetInto .aux old
      else
        let s := ((s.resetInto .simmer old).meshLock).simmerStacks
        if s.num Obj.AUTO_BRINGUP = 1 then (s.enter .bringup).startBringup false else s)

/-- MGMT_PHY_RESET_RELEASE: 10 ms after a power-on or hard reset the PHY's reset goes high (19 R515). -/
def execMgmtPhyResetRelease (port : Nat) (s : State) : Host.Outcome State Fault Refusal :=
  onPart (decide (port < 2)) (
    if s.panel = .cold then s
    else
      (s.atTime (s.pins.rstAt + 10000000)).setPins (fun p => { p with phyRstN := SMap.put zeroD p.phyRstN port 1 }))

end Sys2Proof.Machine
end

