-- ==== Sys2Proof/Machine/Power.lean ====
section
/-! DEFINITION. IVR phases, loss of regulation, fuses, power-on and soft-start, connection degradation, the trivet pair
(13 R371 to R375, R384 to R388). -/

namespace Sys2Proof.Machine

/-! ## IVRs and fuses (13 R371 to R375) -/

/-- The cap for a count of disabled phases of a quadrant (13 R372). -/
def phaseCap (n : Nat) : Nat := if n ≤ 2 then 11 else if n = 3 then 9 else if n = 4 then 8 else 0

/-- A die is taken out of use as COLD-SPARE: an ACTIVE die is first migrated out (13 R372, R388). -/
def State.retire (s : State) (site prio : Nat) : State :=
  match (s.die site).st with
  | .active => (s.updDie site (fun d => { d with after := 5 })).reqMig site prio
  | .warmSpare => (((s.abandonRep site).dieEnter site .coldSpare).clearCores site).updDie site (fun d => { d with powered := false })
  | _ => s

/-- IVR_PHASE_FAULT: the phase is disabled and the quadrant's count caps the die (13 R371 to R373). -/
def execIvrPhaseFault (site quadrant phase : Nat) (s : State) : Host.Outcome State Fault Refusal :=
  onPart (decide (site < 144) && decide (quadrant < 4) && decide (phase < 12)) (
    let d := s.die site
    if !d.powered || d.phaseOff.contains (quadrant, phase) then s
    else
      let n := SMap.get zeroD d.phases quadrant + 1
      let s := s.updDie site (fun d => { d with
        phaseOff := d.phaseOff ++ [(quadrant, phase)], phases := SMap.put zeroD d.phases quadrant n
        ivrCap := min d.ivrCap (phaseCap n) })
      let s := s.fsr { part := 0, index := site, unit := 0x0C, det := 0x17, kind := 2, action := if 5 ≤ n then 2 else 0
                       detail := bytesLE 1 quadrant ++ bytesLE 1 phase }
      let s := s.reSafe site
      if 5 ≤ n then s.retire site 3 else s)

/-- LOSS_OF_REGULATION: the quadrant shuts down and the die goes dark (13 R374, 15 R420). -/
def execLossOfRegulation (site : Nat) (s : State) : Host.Outcome State Fault Refusal :=
  onPart (decide (site < 144)) (
    let d := s.die site
    if !d.powered || d.st == .dark || d.st == .lost then s
    else (s.count Obj.IVR_REG_LOSSES).dieLoss site 0x0F 0x0C)

/-- The die in soft-start. -/
def State.softSite (s : State) : Option Nat := s.power.soft.map (fun x => x.1)

/-- EFUSE_OPEN: the die goes dark, also during its soft-start; at a bring-up that closed the fuse it goes to LOST
(13 R375, R387, 16 R443). -/
def execEfuseOpen (site : Nat) (s : State) : Host.Outcome State Fault Refusal :=
  onPart (decide (site < 144)) (
    let d := s.die site
    let soft := s.softSite == some site
    if !(d.powered || soft) || d.st == .dark || d.st == .lost then s
    else
      let s := (s.count Obj.EFUSE_TRIPS).updDie site (fun d => { d with efuseOpen := true })
      let s : State := if soft then
          ({ s with power := { s.power with soft := none } }).updDie site (fun d =>
            { d with powered := true, st := if d.st = DieSt.coldSpare then DieSt.warmSpare else d.st })
        else s
      if s.panel = .bringup ∧ d.efuseBefore then s.excludeSite 2 (site, 0x204) else s.dieLoss site 0x10 0x0C)

/-! ## Power-on (13 R385 to R387) -/

/-- Two sites are adjacent (13 R386): neighbours within a column of a cell, or columns that meet across two cells of a
grid row. -/
def adjacentTo (a b : Nat) : Bool :=
  let c := a / 9
  let d := b / 9
  let i := a % 9
  let j := b % 9
  let col (k : Nat) : Bool := decide (5 ≤ k)
  (c == d && col i == col j && (i + 1 == j || j + 1 == i)) ||
  (c / 4 == d / 4 && ((c + 1 == d && col i && !col j) || (d + 1 == c && col j && !col i)))

/-- The intervals of a frame that starts at `t` in which a virtual die's profile reaches level 12 (13 R385). -/
def State.peaksFrom (s : State) (site t : Nat) : List (Nat × Nat) :=
  match s.prog, (s.die site).vd with
  | some p, some v =>
    let l := (SMap.get (fun _ => (16, [])) p.power v).2
    let ns (c : Nat) : Nat := c * 1000 / opMHz (s.die site).op
    (List.range l.length).filterMap (fun i =>
      let x := l.getD i (0, 0)
      let e := match l[i + 1]? with | some y => ns y.1 | none => s.period
      if 12 ≤ x.2 then some (t + ns x.1, t + e) else none)
  | _, _ => []

/-- The TIMEs at which frames start from the slot that runs on. -/
def State.frameStarts (s : State) : List Nat :=
  (match s.slots.att with | some a => [a.start] | none => []) ++
  (List.range s.slots.posted.length).filterMap (fun i =>
    match s.slots.posted[i]? with
    | some d => if d.kind = .program ∨ d.kind = .replay then some (s.tickOf (s.slots.slot + 1 + i)) else none
    | none => none)

/-- A soft-start that begins now overlaps a scheduled peak of an adjacent ACTIVE die. -/
def State.peakNear (s : State) (site : Nat) : Bool :=
  (allSites.filter (fun i => (s.die i).st == .active && adjacentTo site i)).any (fun i =>
    (s.frameStarts.flatMap (s.peaksFrom i)).any (fun x => decide (x.1 < s.time + 200000) && decide (s.time < x.2)))

/-- POWER_ON_ADMIT: the die at the head of the queue starts its soft-start when the budget, the spacing, the peaks and
the quench allow it; otherwise it is deferred (13 R385). -/
def execPowerOnAdmit (s : State) : Host.Outcome State Fault Refusal :=
  .next (match s.power.queue with
    | [] => s
    | site :: rest =>
      let gap := match s.power.lastOn with | some t => decide (t + 2 * s.period ≤ s.time) | none => true
      let up := s.panel != .cold && s.panel != .aux && s.panel != .simmer
      let t := { s with power := { s.power with soft := some (site, s.time) } }
      let ok := up && gap && s.power.soft.isNone && s.thermal.quench.isNone && t.fits (t.estimate (fun i => (t.die i).op)) &&
        !s.peakNear site
      if ok then
        { t with power := { t.power with queue := rest, lastOn := some s.time, deferred := false } }.setNum
          Obj.POWERON_LAST_SITE site
      else if s.power.deferred then s
      else { s with power := { s.power with deferred := true } }.count Obj.POWERON_DEFERRED)

/-- Every placed die of a restart is entered: HOLD, with the rollback of R424 from its step 3 (15 R428, 17 R480). -/
def State.restarted (s : State) : State :=
  let failed := match s.slots.failed with
    | some f => some f
    | none => if 0 < s.slots.nextFrame then some (s.slots.nextFrame - 1) else none
  let r : Rollback := { vds := [], resume := (match s.larder.committed with | some c => c.resume | none => 0), failed := failed, flipped := true }
  ({ (s.enter .hold) with
    recovery := { s.recovery with roll := some r }
    slots := { s.slots with failed := none, sigs := [], attempts := 0, ran := 0, swapped := none } }).setNum Obj.SAFE_CAUSE 0

/-- SOFT_START_END: after 200 µs the clock locks, control core 3 starts and the calibration set is loaded; a die that is
not quarantined becomes WARM-SPARE. A placed die of a restart is entered from LOADCOPY (13 R387, 03 R84, 18 R504,
17 R486, 15 R428). -/
def execSoftStartEnd (site : Nat) (s : State) : Host.Outcome State Fault Refusal :=
  onPart (decide (site < 144)) (match s.power.soft with
    | none => s
    | some (i, t) =>
      if i ≠ site then s
      else
        let s := s.atTime (t + 200000)
        let s := { s with power := { s.power with soft := none } }
        let s := s.updDie site (fun d => { d with powered := true, op := 0, hashing := false, haltedPairs := [], pairs := [] })
        let s := if s.panel == .bringup then s else (s.calLoad site).reSafe site
        let d := s.die site
        match d.st, d.vd with
        | .active, some v =>
          let s := (s.enterDie site v true).updDie site (fun d => { d with op := s.pointOf site s.panelFloor })
          let left := s.recovery.restart.filter (fun x => x != site)
          let s := { s with recovery := { s.recovery with restart := left } }
          if s.panel = .safe ∧ left.isEmpty then s.restarted else s
        | .test, _ => (s.setHashing site true).updDie site (fun d => { d with corner := 1, cornerAt := s.time })
        | .coldSpare, _ => if d.quarantined then s else s.dieEnter site .warmSpare
        | _, _ => s)

/-! ## Connection degradation (13 R388, 15 R414) -/

/-- A connection-degradation warning. -/
def State.connWarning (s : State) (site point : Nat) : State :=
  let s := ((s.count Obj.CONN_WARNINGS).setNum Obj.CONN_LAST_SITE site).setNum Obj.CONN_LAST_POINT point
  let d := s.die site
  let again := d.st == .test && d.connTest
  let s := s.fsr { part := 0, index := site, unit := 0x0C, det := 0x15, kind := 2
                   action := 0x100 + (if d.vd.isSome then 2 else 0), detail := bytesLE 1 point }
  let s := (s.updDie site (fun d => { d.fieldEntry 0x15 0x0C 0xFF 0xFF with connTest := true })).mapWrite
  if again then
    let s := { s with bringup := { s.bringup with testQ := s.bringup.testQ.filter (fun i => i != site) } }
    (s.dieEnter site .lost).updDie site (fun d => { d with powered := false, corner := 0, hashing := false })
  else if d.st = .test then s
  else (s.retire site 4).joinTest site

/-- IR_DROP_SAMPLE: a sense point compares its drop with the one that the model predicts, both in mV; only samples at
known load count, when the allowance has not changed for 10 µs (13 R388). -/
def execIrDropSample (site point dropMv modelMv : Nat) (s : State) : Host.Outcome State Fault Refusal :=
  onPart (decide (site < 144) && decide (point < 64)) (
    if !(s.die site).powered then s
    else
      let s := s.nextSample (SMap.get zeroD (s.die site).senseAt point) 10000
      let steady := decide ((s.die site).allowAt + 10000 ≤ s.time)
      let excessMv := dropMv - modelMv
      let e := min 255 excessMv
      let run0 := SMap.get zeroD (s.die site).excessRun point
      let run := if !steady then run0 else if 25 < excessMv then run0 + 1 else 0
      let s := s.updDie site (fun d => { d with
        senseAt := SMap.put zeroD d.senseAt point s.time
        excessRun := SMap.put zeroD d.excessRun point run
        excessLog := d.excessLog.filter (fun x => !(x.2.1 == point && decide (x.2.2 ≤ e)) && decide (s.time ≤ x.1 + 1000000000)) ++
          [(s.time, point, e)] })
      if run = 1000 ∧ run0 ≠ 1000 then s.connWarning site point else s)

/-- TRIVET_TAKEOVER: the standby on the other hub takes over; caps, budgets and announced changes stay (13 R384). -/
def execTrivetTakeover (s : State) : Host.Outcome State Fault Refusal :=
  .next (
    let other := if s.num Obj.TRIVET_PRIMARY = 0 then 15 else 0
    if s.panel = .cold || (s.hub other).lost || (s.hub other).restarting then s
    else (s.setNum Obj.TRIVET_PRIMARY other).count Obj.TRIVET_TAKEOVERS)

end Sys2Proof.Machine
end

