-- ==== Sys2Proof/Machine/Session.lean ====
section
/-! DEFINITION. Sessions, their credentials and freezes, the role table, the secure element (17 R475 to R478, 18 R496,
R497, 12 R355). -/

namespace Sys2Proof.Machine

/-! ## The role table (18 R497) -/

/-- An entry of the role table: role and public key; role 255 is a free entry. Entry 0 holds the delivery key. -/
def roleD : Nat → Nat × Bytes := fun i => if i = 0 then (2, Config.deliveryKey) else (255, [])
def State.roleKey (s : State) (i : Nat) : Nat × Bytes := SMap.get roleD s.access.roleKeys i

/-- The role that a certificate gives, with its table entry; VENDOR only by the vendor service key (R475, R497). -/
def State.certRole (s : State) (cert : Bytes) : Option (Nat × Option Nat) :=
  if Config.certByVendor cert then some (3, none)
  else match (List.range 16).find? (fun i => (s.roleKey i).1 != 255 && Config.certSignedBy cert (s.roleKey i).2) with
    | some i => some ((s.roleKey i).1, some i)
    | none => none

/-! ## Sessions (17 R475) -/

def State.session (s : State) (n : Nat) : Option Session := s.access.sessions.find? (fun x => x.num == n)

def State.updSession (s : State) (n : Nat) (f : Session → Session) : State :=
  { s with access := { s.access with sessions := s.access.sessions.map (fun x => if x.num = n then f x else x) } }

/-- A session closes: what it has sent in part goes with it. -/
def State.closeSession (s : State) (n : Nat) : State :=
  { s with
    access := { s.access with sessions := s.access.sessions.filter (fun x => x.num != n) }
    fabric := { s.fabric with partials := s.fabric.partials.filter (fun r => r.sess != n) } }

/-- The last sign of life of a session. -/
def State.touch (s : State) (n : Nat) : State := s.updSession n (fun x => { x with last := s.time })

/-- The entry of a credential in the table of R477: its kind and the digest of the key, or the address. -/
def credEntry (isKey : Bool) (cred : Bytes) : Bytes := if isKey then sha384 cred else fit 48 cred

/-- A session is frozen: its credential is listed, or it opened below STEWARD while the table was full (17 R477). -/
def State.sessFrozen (s : State) (x : Session) : Bool :=
  x.frozenFirst || s.access.frozen.any (fun e => e.1 == x.credKey && e.2.2 == credEntry x.credKey x.cred)

/-- A violation freezes the session and its credential, with a record (17 R477, 15 R415). -/
def State.freezeSession (s : State) (n : Nat) : State :=
  match s.session n with
  | none => s
  | some x =>
    let s := s.fsr { part := 6, index := n, unit := 0x10, det := 0x14, kind := 5, action := 0x20 }
    if s.access.frozen.length < 256 then
      { s with access := { s.access with frozen := s.access.frozen ++ [(x.credKey, s.time, credEntry x.credKey x.cred)] } }
    else s.updSession n (fun x => { x with frozenFirst := true })

/-- A request is a violation: the session and its credential are frozen and the refusal is counted (17 R476, R477,
R491). -/
def State.deny (s : State) (n : Nat) : State := (s.freezeSession n).count Obj.DENIED_COUNT

/-- The lowest free number from `lo` on, of `n`. -/
def State.freeNum (s : State) (lo n : Nat) : Option Nat :=
  ((List.range n).map (fun i => lo + i)).find? (fun i => (s.session i).isNone)

/-- A session opened; while the freeze table is full one below STEWARD is frozen from its first request (17 R477). -/
def State.addSession (s : State) (x : Session) : State :=
  let y : Session := { x with
    opened := s.time, last := s.time, frozenFirst := decide (256 ≤ s.access.frozen.length) && decide (x.role < 2) }
  { s with access := { s.access with sessions := s.access.sessions ++ [y] } }

/-- A host's address is listed in object 4840.03; only the bridge checks (12 R355). -/
def State.hostOk (s : State) (n : Nat) : Bool :=
  let a := fit 16 (Config.hostAddr n)
  let l := s.octets Obj.HOST_ALLOW
  !s.isBridge || (List.range (l.length / 16)).any (fun i => slice l (16 * i) 16 == a && a.any (fun b => b != 0))

/-- The in-band session of a packet: the one that is open, or a new OBSERVER session; none where the address is not
listed or no session is free (12 R355, 17 R475). -/
def State.inband (s : State) (n : Nat) : Option State :=
  if n < 0x100 ∨ 0x1FF < n ∨ s.panel = .cold ∨ s.panel = .aux then none
  else if !s.hostOk n then none
  else match s.session n with
    | some _ => some (s.touch n)
    | none => some (s.addSession { num := n, role := 0, path := 2, cred := fit 16 (Config.hostAddr n), credKey := false })

/-- SESSION_HANDSHAKE: a DTLS handshake on a management port opens a session with the role of its certificate's issuer
(17 R468, R475). -/
def execSessionHandshake (path : Nat) (cert : Bytes) (s : State) : Host.Outcome State Fault Refusal :=
  onPart (decide (path < 2)) (
    if s.panel = .cold then s
    else match s.certRole cert, s.freeNum 1 32 with
      | some r, some n => s.addSession { num := n, role := r.1, path := path, cred := Config.certKey cert, credKey := true, keyEntry := r.2 }
      | _, _ => s)

/-- MGMT_SESSION_IDLE_CLOSE (17 R475). -/
def execMgmtSessionIdleClose (sess : Nat) (s : State) : Host.Outcome State Fault Refusal :=
  .next (match s.session sess with
    | some x => if x.path < 2 then (s.atTime (x.last + 1000000000 * s.num Obj.SESSION_IDLE_S)).closeSession sess else s
    | none => s)

/-- HOST_SESSION_IDLE_CLOSE: a host session idle for 60 s (12 R355). -/
def execHostSessionIdleClose (sess : Nat) (s : State) : Host.Outcome State Fault Refusal :=
  .next (match s.session sess with
    | some x => if x.path = 2 then (s.atTime (x.last + 60000000000)).closeSession sess else s
    | none => s)

/-- SEGMENT_TIMEOUT: a partial value left for 10 s is discarded (17 R472). -/
def execSegmentTimeout (sess : Nat) (s : State) : Host.Outcome State Fault Refusal :=
  .next (match s.session sess with
    | some x => match x.parts.foldl (fun m p => match m with
          | some t => some (min t p.time)
          | none => some p.time) (none : Option Nat) with
      | some t =>
        let s := s.atTime (t + 10000000000)
        s.updSession sess (fun x => { x with parts := x.parts.filter (fun p => decide (s.time < p.time + 10000000000)) })
      | none => s
    | none => s)

/-! ## The secure element (18 R496) -/

/-- SE_HALF_FAIL: requests go to the other half; without one, signing stops. -/
def execSeHalfFail (half : Nat) (s : State) : Host.Outcome State Fault Refusal :=
  onPart (decide (half < 2)) ({ s with access := { s.access with halves := s.access.halves &&& (3 - 2 ^ half) } })

/-- SE_HALF_RECOVER: signing resumes, and the link bring-ups that waited go on. -/
def execSeHalfRecover (half : Nat) (s : State) : Host.Outcome State Fault Refusal :=
  onPart (decide (half < 2)) (
    let s := { s with access := { s.access with halves := s.access.halves ||| 2 ^ half } }
    let w := s.fabric.bringWait
    w.foldl (fun s d => s.sendConcord d) { s with fabric := { s.fabric with bringWait := [] } })

end Sys2Proof.Machine
end

