-- ==== Sys2Proof/Machine/Fabric.lean ====
section
/-! DEFINITION. Ports, GLP frames received, concord, group time, requests and responses, notices, bulk writes,
collectives (12). -/

namespace Sys2Proof.Machine

/-! ## Ports (12 R327, R333, R362) -/

/-- The retry buffer of a port is discarded into the ledger, and what waits goes to the direction's other ports
(12 R330, R333). -/
def State.dropPort (s : State) (port : Nat) : State :=
  let p := s.port port
  let n := (p.retry.map GlpFrame.units).sum
  let s := (s.updPort port (fun p => { p with up := false, retry := [], wait := [], onLane := none })).glpDiscard n
  (p.wait.filter (fun f => f.cls != 15 && f.op != 0x12)).foldl (fun s f =>
    match s.choosePort (dirOf port) f with
    | some q => s.queueFrame q f
    | none => s.glpDiscard f.units) s

/-- PORT_DOWN (12 R327, R333). -/
def execPortDown (port : Nat) (s : State) : Host.Outcome State Fault Refusal :=
  onPart (decide (port < 128)) (
    if !(s.port port).up then s
    else (s.dropPort port).fsr { part := 2, index := port / 16, unit := 0x10, det := 0x1C, kind := 2, detail := bytesLE 1 port })

/-- A port may come up: its die is on, its role is not disabled, and in SIMMER it is the port whose lane 0 is kept
(12 R328, R362). -/
def State.mayUp (s : State) (port : Nat) : Bool :=
  let d := s.portDie (port / 16)
  !d.off && s.portRole port != 2 &&
  (match s.panel with
   | .cold => false
   | .aux => false
   | .simmer => !d.laneDown && port % 16 == d.lane
   | .bringup => true | .ready => true | .loaded => true | .running => true | .hold => true | .safe => true)

/-- PORT_UP: the port joins its direction; its counts and sequence numbers start anew and the ends exchange concord
records (12 R327, R339, 15 R433). -/
def execPortUp (port flightNs : Nat) (s : State) : Host.Outcome State Fault Refusal :=
  onPart (decide (port < 128)) (
    if (s.port port).up || !s.mayUp port then s
    else
      let s := s.updPort port (fun _ => { up := true, linked := true, flight := flightNs })
      if s.portRole port = 0 ∧ s.neighbour (dirOf port) ≠ s.panelIndex then
        if s.access.halves = 0 then s.sendConcord (dirOf port) else s.sendConcordOn port
      else s)

/-- LOW_RATE_LANE_FALLBACK: in SIMMER a lane that is not up after 2 s gives way to lane 0 of the next port, up to
port 3 (12 R362). -/
def execLowRateLaneFallback (portDie : Nat) (s : State) : Host.Outcome State Fault Refusal :=
  onPart (decide (portDie < 8)) (
    let d := s.portDie portDie
    if s.panel != .simmer || d.laneDown || d.off then s
    else
      let s := s.dropPort (16 * portDie + d.lane)
      s.updPortDie portDie (fun d => if d.lane < 3 then { d with lane := d.lane + 1 } else { d with laneDown := true }))

/-! ## Frames received (12 R332, R333, R335, R343) -/

/-- A link-control frame of this port. -/
def State.linkCtl (s : State) (port op : Nat) : State :=
  let g : GlpSpec := { cls := 15, op := op, dstp := s.neighbour (dirOf port) }
  s.queueFrame port (s.mkFrame g 0)

/-- Acknowledgement and credits that a frame carries: every frame up to GLP.LACK leaves the retry buffer. -/
def Port.take (p : Port) (f : GlpFrame) : Port :=
  let kept := p.retry.filter (fun g => decide (2048 ≤ (f.lack + 4096 - g.lseq) % 4096))
  let ch := f.bits 199 196
  { p with retry := kept, spent := if ch = 15 then p.spent else SMap.upd zeroD p.spent ch (fun v => v - f.bits 195 184) }

/-- A panel is frozen as a master (12 R343). -/
def State.panelFrozen (s : State) (p : Nat) : Bool := s.num Obj.FROZEN_PANELS / 2 ^ p % 2 == 1

/-- An endpoint exists on this panel (09 R237, 12 R331). -/
def State.endpoint (s : State) (kind v : Nat) : Bool :=
  match kind with
  | 0 => decide (v < 32768) && s.prog.isSome && decide (v % 256 < 16 * s.gridW) && decide (vdOf s.gridW v < s.gridV)
  | 1 => decide (v < 48)
  | 2 => decide (v < 1024) && decide (v % 256 < 144)
  | 3 => decide (v < 16)
  | 4 => decide (v < 8)
  | 5 => decide (v < 48)
  | 6 => decide (0x100 ≤ v) && decide (v ≤ 0x1FF)
  | _ => false

/-- The receiver of an entry: (−COL.DX, −COL.DY) from this panel; the source: (COL.DX, COL.DY). -/
def State.collPeer (s : State) (c : Coll) (sign : Int) : Nat :=
  let g := s.panelIndex
  8 * ((((g / 8 : Nat) : Int) + sign * c.dy) % s.dims.2).toNat + ((((g % 8 : Nat) : Int) + sign * c.dx) % s.dims.1).toNat

/-- A frame breaks the rules of a remote panel (12 R343). -/
def State.breaksRules (s : State) (port : Nat) (f : GlpFrame) : Bool :=
  f.bits 183 176 != s.effNum Obj.GROUP_ID % 256 || !(opClasses f.op).contains f.cls ||
  !modeAllows (s.portMode port) f.op || !s.inGroup f.dstp ||
  (f.dstp == s.panelIndex && (!s.endpoint f.dkind f.dst || (f.op == 0x0A && !(match s.prog with
    | some p => (match p.colls[f.arg / 2 ^ 48]? with | some c => s.collPeer c 1 == f.srcp | none => false)
    | none => false))))

/-- What a sink checks: HCRC, PCRC, reserved values, the length of the payload (12 R332). -/
def glpSinkOk (f : GlpFrame) : Bool :=
  f.bits 255 224 == glpHcrc (f.hdr.toNat % 2 ^ 184) && f.pcrc.toNat == crc32c f.payload && f.bits 170 170 == 0 &&
  f.bits 96 96 == 0 && f.bits 87 64 == 0 && decide (f.len ≤ 64) && f.payload.length == 64 * f.len

/-- A header fault of a GLP packet: it is discarded and fails the verdict (12 R332, 09 R239). -/
def State.glpHeaderFault (s : State) (port n : Nat) : State :=
  ((s.glpDiscard n).report 0x07 none none).fsr { part := 2, index := port / 16, unit := 0x10, det := 0x07 }

/-- GLP_FRAME_RECEIVE: checks of the link, acknowledgement and credits, the freeze of a remote panel, the checks of the
sink, and transit. What the packet does at its sink is a command of its own (log 40). -/
def execGlpFrameReceive (port : Nat) (f : GlpFrame) (s : State) : Host.Outcome State Fault Refusal :=
  onPart (decide (port < 128)) (
    let p := s.port port
    if !p.up || s.portRole port == 2 then s
    else if s.portRole port == 1 then
      if glpSinkOk f then s else s.glpHeaderFault port 0
    else if f.lcrc.toNat != f.lcrcOf then s.linkCtl port 0x21
    else if f.cls != 15 && f.lseq != p.rxSeq then s.linkCtl port 0x21
    else
      let s := (s.updPort port (fun p => p.take f)).portPump port
      if f.cls = 15 then
        if [0x20, 0x21, 0x22].contains f.op then s
        else
          (s.setNum Obj.FROZEN_PANELS (setBit (s.num Obj.FROZEN_PANELS) f.srcp)).fsr
            { part := 5, index := f.srcp, unit := 0x10, det := 0x14, kind := 5, action := 0x20 }
      else
        let s := s.updPort port (fun p => { p with
          rxSeq := (p.rxSeq + 1) % 4096
          received := SMap.upd zeroD p.received f.chan (fun v => v + f.units)
          owed := SMap.upd zeroD p.owed f.chan (fun v => v + f.units) })
        if s.panelFrozen f.srcp && f.cls != 4 then s.glpDiscard f.units
        else if s.breaksRules port f then
          ((s.glpDiscard f.units).setNum Obj.FROZEN_PANELS (setBit (s.num Obj.FROZEN_PANELS) f.srcp)).fsr
            { part := 5, index := f.srcp, unit := 0x10, det := 0x14, kind := 5, action := 0x20 }
        else if f.dstp = s.panelIndex then
          if glpSinkOk f then s else s.glpHeaderFault port f.units
        else s.forward f (some (facing (dirOf port))))

/-- NAK: every frame after GLP.LACK is sent again (12 R333). -/
def execNak (port lack : Nat) (s : State) : Host.Outcome State Fault Refusal :=
  onPart (decide (port < 128)) (
    let p := s.port port
    if !p.up then s
    else
      let kept := p.retry.filter (fun g => decide (2048 ≤ (lack % 4096 + 4096 - g.lseq) % 4096))
      let s := s.updPort port (fun p => { p with retry := kept, onLane := match kept.getLast? with | some g => some g | none => p.onLane })
      let s := s.portPump port
      if kept.isEmpty then s
      else (s.count Obj.FABRIC_RETRIES).updPortDie (port / 16) (fun d => { d with retries := SMap.upd zeroD d.retries (port % 16) (fun x => x + 1) }))

/-- IDLE: every 100 ns a port that has nothing it may send sends acknowledgement and credits (12 R333). -/
def execIdle (port : Nat) (s : State) : Host.Outcome State Fault Refusal :=
  onPart (decide (port < 128)) (
    let p := s.port port
    if !p.up || s.portRole port != 0 then s
    else
      let s := s.nextSample p.idleAt 100
      let s := (s.updPort port (fun p => { p with idleAt := s.time })).portPump port
      if (s.port port).txSeq = p.txSeq then s.linkCtl port 0x22 else s)

/-! ## Concord (12 R339 to R341, 18 R501) -/

/-- The record of a concord exchange is genuine: magic, version, the certificate of its panel and its signature. -/
def concordGenuine (r c : Bytes) : Bool :=
  slice r 0 4 == [0x48, 0x47, 0x4E, 0x4B] && field r 4 2 == 1 &&
  slice c 0 4 == [0x48, 0x47, 0x4E, 0x49] && field c 4 2 == 1 && field c 6 2 == 3 &&
  vendorVerify 1 (slice c 160 96) (slice c 0 160) && slice c 8 16 == slice r 8 16 &&
  Config.verify (slice c 32 97) (slice r 176 96) (slice r 0 176)

/-- The row of R340 that applies, counted from 1. -/
def State.concordRow (s : State) (port : Nat) (r c : Bytes) : Nat :=
  let d := dirOf port
  let coord := field r 154 1 + 8 * field r 155 1
  if !concordGenuine r c then 1
  else if slice r 136 16 != fit 16 (s.effOct Obj.GROUP_ID) then 2
  else if field r 152 2 != s.effNum Obj.GROUP_DIMS || coord != s.neighbour d || field r 156 1 != facing d then 3
  else if slice r 24 4 != slice s.bringFw 0 4 ||
      field r 128 4 != s.effNum Obj.GROUP_ROUTE_EPOCH || field r 132 4 != s.effNum Obj.GROUP_TIME_EPOCH then 4
  else if field r 124 4 != s.effNum Obj.FRAME_PERIOD then 5
  else if 150 < (s.port port).flight then 6
  else if slice r 76 48 != s.progDigest then 7
  else if slice r 28 48 != slice s.bringFw 4 48 then 8
  else 9

/-- CONCORD: the peer's record sets the link's mode; a difference of firmware digests alone is logged (12 R340). -/
def execConcord (port : Nat) (record cert : Bytes) (s : State) : Host.Outcome State Fault Refusal :=
  onPart (decide (port < 128)) (
    if !(s.port port).up || s.portRole port != 0 then s
    else
      let d := dirOf port
      let row := s.concordRow port record cert
      let s := s.updPort port (fun p => { p with
        base := if row ≤ 3 then 0 else if row ≤ 6 then 1 else 2
        peerProgram := if row ≤ 3 then p.peerProgram else slice record 76 48
        retryAt := if row = 1 then s.time + 10000000000 else 0 })
      let s := if row = 8 then { s with fabric := { s.fabric with fwDiffs := s.fabric.fwDiffs ++ [(s.time, port)] } } else s
      if row < 8 then s.setNum Obj.CONCORD_LAST_FINDING (256 * d + row) else s)

/-- CONCORD_RETRY: 10 s after a bad record the exchange is tried again (12 R340). -/
def execConcordRetry (port : Nat) (s : State) : Host.Outcome State Fault Refusal :=
  onPart (decide (port < 128)) (
    let p := s.port port
    if p.retryAt = 0 ∨ !p.up then s
    else
      let s := (s.atTime p.retryAt).updPort port (fun p => { p with retryAt := 0 })
      if s.access.halves = 0 then s.sendConcord (dirOf port) else s.sendConcordOn port)

/-! ## Group time (12 R344 to R348) -/

/-- The interval of the probes (12 R344, R362). -/
def State.probeEvery (s : State) : Nat := if s.panel = .simmer then 1000000 else 100000

/-- TIME_PROBE_SEND (12 R344). -/
def execTimeProbeSend (dir : Nat) (s : State) : Host.Outcome State Fault Refusal :=
  onPart (decide (dir < 4)) (
    if s.linkMode dir = 0 then s
    else
      let e := s.probeEvery
      let t := if s.time % e = 0 ∧ (s.dir dir).probe ≠ some s.time then s.time else (s.time / e + 1) * e
      let s := (s.atTime t).updDir dir (fun x => { x with probe := some t })
      match s.dirUp dir with
      | p :: _ => s.queueFrame p (s.mkFrame { cls := 4, op := 0x10, arg := t, dstp := s.neighbour dir } 0)
      | [] => s)

/-- The delivery of an EXP packet that left at TIME `t` (4830.03). -/
def State.expDelivery (s : State) (t : Nat) : State :=
  { s with fabric := { s.fabric with expMax := match s.fabric.expMax with
    | [] => [s.time - t]
    | x :: l => max x (s.time - t) :: l } }

/-- TIME_PROBE: the reply leaves, or replaces the one that still waits (12 R336, R344). -/
def execTimeProbe (dir t1 : Nat) (s : State) : Host.Outcome State Fault Refusal :=
  onPart (decide (dir < 4)) (
    let s := s.expDelivery t1
    match s.dirUp dir with
    | p :: _ =>
      let g : GlpSpec := { cls := 4, op := 0x11, arg := s.time, dstp := s.neighbour dir, payload := bytesLE 8 s.time }
      let s := s.updPort p (fun x => { x with wait := x.wait.filter (fun f => f.op != 0x11) })
      s.queueFrame p (s.mkFrame g 0)
    | [] => s)

/-- The direction of the parent: the first hop towards the master (12 R344). -/
def State.parentDir (s : State) : Option Nat := nextDir s.dims.1 s.dims.2 s.panelIndex s.masterPanel

/-- A group time drift: fault flags, and management-only links (12 R345). -/
def State.groupDrift (s : State) : State :=
  let s := (s.count Obj.TIME_DRIFT_EVENTS).fsr { part := 4, unit := 0x10, det := 0x1C, kind := 6 }
  let s := ((List.range 64).filter (fun p => s.inGroup p && p != s.panelIndex)).foldl (fun s p =>
    s.glpSend { cls := 4, op := 0x13, arg := 0, dstp := p }) s
  { s with fabric := { s.fabric with drift := true } }

/-- TIME_REPLY: the offset from the parent, the step before S8, and the test for drift (12 R344, R345, 02 R38). A slew
does not change the count (log 32). -/
def execTimeReply (dir t1 t2 t3 : Nat) (s : State) : Host.Outcome State Fault Refusal :=
  onPart (decide (dir < 4)) (
    if (s.dir dir).probe ≠ some t1 then s
    else
      let off : Int := (((t2 : Int) - t1) - ((s.time : Int) - t3)) / 2
      let s := s.expDelivery t3
      let s := s.updDir dir (fun x => { x with probe := none, offset := off })
      if s.isMaster || s.parentDir != some dir then s
      else
        let s := s.setNum Obj.TIME_GROUP_OFFSET (i32 (-off))
        let lim := if s.panel = .simmer then 100 else 25
        let x := s.dir dir
        let bad := if lim < off.natAbs then x.badRun + 1 else 0
        let good := if off.natAbs ≤ 10 then x.goodRun + 1 else 0
        let s := s.updDir dir (fun x => { x with badRun := bad, goodRun := good })
        let s := if bad = 10 ∧ !s.fabric.drift then s.groupDrift else s
        let s := if s.fabric.drift && decide (100 ≤ good) then
            ({ s with fabric := { s.fabric with drift := false } }).reConcord
          else s
        s.follow off)

/-- FAULT_FLAG: a flag of another panel arrives (12 R334). -/
def execFaultFlag (panel : Nat) (kind : Nat) (s : State) : Host.Outcome State Fault Refusal :=
  .next { s with fabric := { s.fabric with flags := s.fabric.flags ++ [(panel, kind)] } }

/-- PTP_MESSAGE: the master's ordinary clock. `offset` is the difference of the two timestamps that the message
completes: t2 − t1 for Sync and Follow_Up, t4 − t3 for Delay_Resp (12 R346). -/
def execPtpMessage (port : Nat) (kind : PtpKind) (domain : Nat) (offset : Int) (s : State) : Host.Outcome State Fault Refusal :=
  onPart (decide (port < 128)) (
    if !(s.port port).up || s.portRole port != 1 || !s.isMaster || s.num Obj.TIME_DISCIPLINE != 1 || domain != s.num Obj.PTP_DOMAIN then s
    else match kind with
      | .sync => { s with fabric := { s.fabric with ptp := some offset } }
      | .followUp => { s with fabric := { s.fabric with ptp := some offset } }
      | .delayResp => match s.fabric.ptp with
        | some ms => s.discipline (-((ms - offset) / 2))
        | none => s)

/-- AUDIT_COUNT: the peer's counts for the audit of a boundary (12 R352). -/
def execAuditCount (port slot : Nat) (counts : List Nat) (s : State) : Host.Outcome State Fault Refusal :=
  onPart (decide (port < 128)) (
    if !(s.port port).up || slot != s.slots.slot then s
    else s.updPort port (fun p => { p with peerSent := counts, gotAudit := true, missed := 0 }))

/-! ## Host mode (12 R355) -/

/-- NEIGHBOR_SOLICITATION for the address in object 4840.01. -/
def execNeighborSolicitation (port : Nat) (addr : Bytes) (s : State) : Host.Outcome State Fault Refusal :=
  onPart (decide (port < 128)) (
    if (s.port port).up && s.portRole port == 1 && addr == fit 16 (s.effOct Obj.HOST_ADDR) then
      { s with fabric := { s.fabric with icmp := SMap.put (fun _ => (0, [])) s.fabric.icmp port (0, addr) } }
    else s)

/-- ECHO_REQUEST from an address. -/
def execEchoRequest (port : Nat) (addr : Bytes) (s : State) : Host.Outcome State Fault Refusal :=
  onPart (decide (port < 128)) (
    if (s.port port).up && s.portRole port == 1 then
      { s with fabric := { s.fabric with icmp := SMap.put (fun _ => (0, [])) s.fabric.icmp port (1, addr) } }
    else s)

/-! ## Requests (12 R356, R358) -/

/-- A packet of a host session: none where the session is frozen or no session opens; a packet that is not taken is
counted (12 R355, 17 R477). -/
def State.hostPacket (s : State) (sess : Nat) : State × Bool :=
  match s.inband sess with
  | none => (s.count Obj.HOST_DROPS, false)
  | some t => match t.session sess with
    | some x => (t, !t.sessFrozen x)
    | none => (t, false)

/-- A response without a body. -/
def State.answer (s : State) (r : Request) (status flags : Nat) : State :=
  let x : Response := { sess := r.sess, tag := r.tag, id := r.id, status := status, flags := flags, frame := 0, entry := 0, body := [] }
  let s := { s with fabric := { s.fabric with responses := s.fabric.responses ++ [x] } }
  if status = 5 then s.count Obj.REQUESTS_MALFORMED else s

/-- A complete request passes R358. -/
def State.requestOk (s : State) (r : Request) : Bool :=
  let b := r.data
  let t := field b 16 1
  !r.bad && decide (64 ≤ b.length) && field b 0 8 != 0 && field b 18 2 == 1 && field b 17 1 == 0 &&
  (slice b 40 24).all (fun x => x == 0) && decide (field b 32 8 ≤ 64 * 2 ^ 20) && b.length == 64 + field b 32 8 &&
  (t == 0xFF || s.inGroup t)

/-- A FWD packet that passes part of a request on to its target panel: 4 KiB of it from packet `i` on. -/
def fwdPart (r : Request) (target i : Nat) : GlpSpec :=
  let n := (r.data.length + 4095) / 4096
  { cls := 1, op := 0x01, arg := 4096 * i + (if i + 1 = n then 2 ^ 63 else 0), dstp := target, dkind := 6, dst := r.sess
    skind := 6, src := r.sess, tag := r.tag, payload := slice r.data (4096 * i) (min 4096 (r.data.length - 4096 * i)) }

/-- A request passed on to its target panel. -/
def State.passOn (s : State) (r : Request) (target : Nat) : State :=
  (List.range ((r.data.length + 4095) / 4096)).foldl (fun s i => s.glpSend (fwdPart r target i)) s

/-- The link towards a request's target takes it (12 R342). -/
def State.mayPass (s : State) (r : Request) (target : Nat) : Bool :=
  match nextDir s.dims.1 s.dims.2 s.panelIndex target with
  | some d => (match s.choosePort d (s.mkFrame (fwdPart r target 0) 0) with | some p => s.portMode p == 2 | none => false)
  | none => false

/-- A request whose last packet has arrived. -/
def State.complete (s : State) (r : Request) : State :=
  let r := { r with id := field r.data 0 8, panel := field r.data 16 1 }
  if r.id ≠ 0 ∧ s.fabric.held.any (fun h => h.id == r.id) then s.answer r 1 0
  else if !s.requestOk r then s.answer r 5 2
  else
    let target := if r.panel = 0xFF then s.effNum Obj.GROUP_BRIDGE else r.panel
    let hold (s : State) (r : Request) : State := { s with fabric := { s.fabric with held := s.fabric.held ++ [r] } }
    if target ≠ s.panelIndex then
      if s.mayPass r target then (hold s { r with panel := target }).passOn r target else s.answer r 2 0
    else
      let n := (s.fabric.held.filter (fun h => h.ring)).length
      match s.prog with
      | some p => if n < p.services.capacity then (hold s { r with panel := target, ring := true }).answer r 1 0 else s.answer r 2 0
      | none => s.answer r 2 0

/-- SUBMIT: a packet adds part of a request (12 R356, R358). -/
def execSubmit (sess tag off : Nat) (last : Bool) (data : Bytes) (s : State) : Host.Outcome State Fault Refusal :=
  .next (
    let h := s.hostPacket sess
    let s := h.1
    if !h.2 then s
    else
      let old := s.fabric.partials.find? (fun r => r.sess == sess && r.tag == tag)
      let r := old.getD { id := 0, sess := sess, tag := tag, data := [], last := s.time }
      let b := r.data ++ data
      let whole := decide (64 ≤ b.length) && decide (64 + field b 32 8 ≤ b.length)
      let r := { r with data := b, last := s.time, bad := r.bad || off != r.data.length || (whole && !last) }
      let rest := s.fabric.partials.filter (fun r => !(r.sess == sess && r.tag == tag))
      if last then ({ s with fabric := { s.fabric with partials := rest } }).complete r
      else { s with fabric := { s.fabric with partials := rest ++ [r] } })

/-- REQUEST_TIMEOUT: its packets stop for 10 s (12 R358). -/
def execRequestTimeout (sess tag : Nat) (s : State) : Host.Outcome State Fault Refusal :=
  .next (match s.fabric.partials.find? (fun r => r.sess == sess && r.tag == tag) with
    | none => s
    | some r =>
      let s := s.atTime (r.last + 10000000000)
      let rest := s.fabric.partials.filter (fun r => !(r.sess == sess && r.tag == tag))
      ({ s with fabric := { s.fabric with partials := rest } }).answer { r with id := field r.data 0 8 } 5 2)

/-! ## Responses and notices (12 R357, R359) -/

/-- The most bytes that a packet carries: the bridge sends no IP packet longer than object 4840.04 (12 R354). -/
def State.rspMax (s : State) : Nat := if s.isBridge then 64 * min 64 ((s.num Obj.HOST_MTU - 88) / 64) else 4096
/-- The bytes of a response: its record and its body. -/
def State.rspBytes (s : State) (r : Response) : Bytes :=
  fit 64 (bytesLE 8 r.id ++ bytesLE 8 r.frame ++ bytesLE 8 r.entry ++ bytesLE 2 r.status ++ bytesLE 2 r.flags ++
    bytesLE 4 r.body.length ++ bytesLE 1 s.panelIndex) ++ r.body

/-- RESPONSE: the next packet of a response of this panel leaves; a packet of another panel passes through the bridge,
whose entry for the request ends with the last response (12 R357). -/
def execResponse (sess tag off : Nat) (last : Bool) (data : Bytes) (s : State) : Host.Outcome State Fault Refusal :=
  .next (
    let arg := off + (if last then 2 ^ 63 else 0)
    match s.fabric.responses.find? (fun r => r.sess == sess && r.tag == tag) with
    | some r =>
      let all := s.rspBytes r
      if off ≠ r.sent ∨ data ≠ slice all off data.length ∨ data.isEmpty ∨ s.rspMax < data.length ∨ all.length < off + data.length ∨
          last ≠ decide (off + data.length = all.length) then s
      else
        let s := s.toHost 0x02 arg sess tag data
        let rest := s.fabric.responses.erase r
        { s with fabric := { s.fabric with
          responses := if last then rest else s.fabric.responses.map (fun x => if x = r then { x with sent := off + data.length } else x) } }
    | none =>
      let s := if s.isBridge then s.toHost 0x02 arg sess tag data else s
      if off = 0 ∧ field data 26 2 / 2 % 2 = 1 then
        { s with fabric := { s.fabric with held := s.fabric.held.filter (fun r => !(r.sess == sess && r.tag == tag && !r.ring)) } }
      else s)

/-- The oldest notice of a kind leaves with the next sequence number; without a destination none is sent (12 R359). -/
def State.sendNotice (s : State) (kind op : Nat) : State :=
  match s.fabric.notices.find? (fun n => n.1 == kind) with
  | none => s
  | some n =>
    let s := { s with fabric := { s.fabric with notices := s.fabric.notices.erase n } }
    if (s.octets Obj.NOTICE_DEST).all (fun b => b == 0) then s
    else
      let seq := 1 + (if kind = 0 then s.fabric.finalSeq else if kind = 1 then s.fabric.revokeSeq else s.fabric.certSeq)
      let s := s.toHost op seq 0 0 n.2.2
      { s with fabric := { s.fabric with
        finalSeq := if kind = 0 then seq else s.fabric.finalSeq
        revokeSeq := if kind = 1 then seq else s.fabric.revokeSeq
        certSeq := if kind = 2 then seq else s.fabric.certSeq } }

/-- NOTICE_FINAL, NOTICE_REVOKE, NOTICE_CERT (12 R359). -/
def execNoticeFinal (s : State) : Host.Outcome State Fault Refusal := .next (s.sendNotice 0 0x03)
def execNoticeRevoke (s : State) : Host.Outcome State Fault Refusal := .next (s.sendNotice 1 0x04)
def execNoticeCert (s : State) : Host.Outcome State Fault Refusal := .next (s.sendNotice 2 0x05)

/-- OBJ_RSP: the oldest response of a session is carried back (17 R469, 14 R405). -/
def execObjRsp (sess : Nat) (s : State) : Host.Outcome State Fault Refusal :=
  .next (match s.fabric.objOut.find? (fun x => x.1 == sess) with
    | none => s
    | some x => (({ s with fabric := { s.fabric with objOut := s.fabric.objOut.erase x } })).toHost 0x07 0 sess 0 x.2)

/-! ## Bulk writes (12 R361) -/

/-- BULK_WRITE: lines of a preloaded region, in READY, by a session that holds OPERATOR. -/
def execBulkWrite (sess addr : Nat) (data : Bytes) (s : State) : Host.Outcome State Fault Refusal :=
  .next (
    match s.inband sess with
    | none => s.count Obj.HOST_DROPS
    | some s =>
      let st := addr / 2 ^ 37
      let off := addr % 2 ^ 37
      let code := match s.session sess with
        | none => 5
        | some x =>
          if s.sessFrozen x then 9 else if x.role < 1 then 5
          else if 48 ≤ st ∨ 0x1670000000 < off + data.length ∨ addr % 64 ≠ 0 ∨ data.length % 64 ≠ 0 ∨ 4096 < data.length ∨
            data.isEmpty then 4
          else if s.panel ≠ .ready then 6 else 0
      let s := if code = 5 then s.deny sess else s
      let s := if code = 0 then s.writeLines ((s.net.route s.net.epochB).stackOf st) off data (data.length / 64) else s
      { s with fabric := { s.fabric with acks := s.fabric.acks ++ [(sess, addr, code)] } })

/-- BULK_ACK: the answer to a bulk write leaves (12 R334). -/
def execBulkAck (sess addr status : Nat) (s : State) : Host.Outcome State Fault Refusal :=
  .next (
    if s.fabric.acks.contains (sess, addr, status) then
      ({ s with fabric := { s.fabric with acks := s.fabric.acks.erase (sess, addr, status) } }).toHost 0x09 addr sess 0 (bytesLE 2 status)
    else s)

/-! ## Collectives (12 R349 to R351) -/

/-- A frame is final: its sample has passed, or it is released where the program is not R-bearing (12 R350, 10 R280). -/
def State.isFinal (s : State) (f : Nat) : Bool :=
  match s.prog with
  | none => false
  | some p =>
    if p.rBearing then (match s.checks.finalFrame with | some g => decide (f ≤ g) | none => false)
    else (match s.checks.lastReleased with | some g => decide (f ≤ g) | none => false)

/-- The argument of COLL_DATA and COLL_ACK. -/
def collArg (entry frame : Nat) : Nat := entry * 2 ^ 48 + frame

/-- The data of an entry sent in packets of 4 KiB, numbered by GLP.TAG (log 41). -/
def State.sendColl (s : State) (c : Coll) (entry frame : Nat) (b : Bytes) : State :=
  (List.range ((c.len + 4095) / 4096)).foldl (fun s i =>
    s.glpSend { cls := 3, op := 0x0A, arg := collArg entry frame, dstp := s.collPeer c (-1), tag := i
                payload := slice b (4096 * i) (min 4096 (c.len - 4096 * i)) }) s

/-- COLL_SEND: the next final frame of an entry is sent (12 R350). -/
def execCollSend (entry : Nat) (s : State) : Host.Outcome State Fault Refusal :=
  .next (match s.prog with
    | none => s
    | some p => match p.colls[entry]? with
      | none => s
      | some c =>
        let n := SMap.get zeroD s.fabric.collNext entry
        if !s.isFinal n then s
        else
          let b := slice (s.outputOf n) c.src c.len
          let s := s.sendColl c entry n b
          let e : CollSent := { entry := entry, frame := n, time := s.time, acked := 0, data := b }
          { s with fabric := { s.fabric with
            collNext := SMap.put zeroD s.fabric.collNext entry (n + 1), collSent := s.fabric.collSent ++ [e] } })

/-- COLL_DATA: data lands in the retention slot of frame n + L, and COLL_ACK goes back (12 R350, 08 R222). Data that no
entry names are discarded (12 R343). -/
def execCollData (entry frame off : Nat) (data : Bytes) (s : State) : Host.Outcome State Fault Refusal :=
  .next (match s.prog with
    | none => s.glpDiscard ((data.length + 63) / 64 + 1)
    | some p => match p.colls[entry]? with
      | none => s.glpDiscard ((data.length + 63) / 64 + 1)
      | some c =>
        if c.len < off + data.length then s.glpDiscard ((data.length + 63) / 64 + 1)
        else
          let key := (frame + c.lag) % max 1 p.rd
          let old := (s.fabric.landed.find? (fun l => l.1 == entry && l.2.1 == frame)).getD (entry, frame, 0)
          let got := if off ≤ old.2.2 then max old.2.2 (off + data.length) else old.2.2
          let rest : List (Nat × Nat × Nat) := s.fabric.landed.filter (fun l => !(l.1 == entry && l.2.1 == frame))
          let put (b : Bytes) : Bytes :=
            let b := fit p.input b
            slice b 0 (c.dst + off) ++ data ++ b.drop (c.dst + off + data.length)
          let s := s.retainWrite p key (put (s.retainRead p key))
          let s := { s with
            fabric := { s.fabric with
              landed := rest ++ [(entry, frame, got)] } }
          s.glpSend { cls := 2, op := 0x0B, arg := collArg entry frame, dstp := s.collPeer c 1, payload := bytesLE 8 got })

/-- COLL_ACK: bytes of an entry have landed; an entry that has landed whole is done (12 R351). -/
def execCollAck (entry frame bytes : Nat) (s : State) : Host.Outcome State Fault Refusal :=
  .next (
    let len := match s.prog with | some p => (match p.colls[entry]? with | some c => c.len | none => 0) | none => 0
    { s with fabric := { s.fabric with
      collSent := (s.fabric.collSent.map (fun e =>
        if e.entry = entry ∧ e.frame = frame then { e with acked := max e.acked bytes } else e)).filter (fun e =>
          !(e.entry == entry && e.frame == frame && decide (len ≤ e.acked))) } })

/-- COLL_RESEND: 1 ms without a full acknowledgement (12 R351). -/
def execCollResend (entry frame : Nat) (s : State) : Host.Outcome State Fault Refusal :=
  .next (match s.fabric.collSent.find? (fun e => e.entry == entry && e.frame == frame), s.prog with
    | some e, some p => match p.colls[entry]? with
      | none => s
      | some c =>
        let s := (s.atTime (e.time + 1000000)).sendColl c entry frame e.data
        { s.count Obj.COLL_RESENDS with fabric := { s.fabric with
          collSent := s.fabric.collSent.map (fun x => if x.entry = entry ∧ x.frame = frame then { x with time := s.time } else x) } }
    | _, _ => s)

end Sys2Proof.Machine
end

