-- ==== Sys2Proof/Machine/Thermal.lean ====
section
/-! DEFINITION. Sensors, throttling, trips, degraded cooling, the quench's causes, escalation and end (14). -/

namespace Sys2Proof.Machine

/-! ## Cooling (14 R400 to R402) -/

/-- The mean of the control temperatures of the ACTIVE dies, by their means of 1 ms (14 R391). -/
def State.activeMean (s : State) : Int :=
  let l := (allSites.filter (fun i => (s.die i).st == .active && (s.die i).powered)).map (fun i => (s.die i).meanOf 10)
  if l.isEmpty then 0 else l.sum / l.length

/-- A program has ACTIVE dies. -/
def State.anyActive (s : State) : Bool := allSites.any (fun i => (s.die i).st == .active && (s.die i).powered)

/-- Whether cooling is degraded: the reported flow, or the mean above the model's prediction for 1 s (14 R401). -/
def State.coolCheck (s : State) : State :=
  let th := s.thermal
  let hot := s.anyActive &&
    decide (Config.predictedMean (s.estimate (fun i => (s.die i).op)) s.tin + 500 < s.activeMean)
  let since : Option Nat := if hot then some (th.hotSince.getD s.time) else none
  let long := match since with | some t => decide (t + 1000000000 ≤ s.time) | none => false
  let bad := decide (s.flow < 54000) || long
  { s with thermal := { th with
    hotSince := since, degraded := bad, log := if bad && !th.degraded then th.log ++ [(s.time, LogKind.coolDegraded)] else th.log
    degradedOkSince := if bad then none else if th.degraded then some s.time else th.degradedOkSince } }

/-- A die's control temperature has risen by more than 2 K/s: its mean of the last 10 ms against the one 100 ms before
(14 R402; log 42). -/
def Die.rises (d : Die) : Bool :=
  let a := d.hist.take 100
  let b := (d.hist.drop 1000).take 100
  b.length == 100 && decide (2000 < a.sum - b.sum)

/-- Powered compute dies that rise. -/
def State.rising (s : State) : Nat := (allSites.filter (fun i => (s.die i).powered && (s.die i).rises)).length

/-- The conditions of R408 but for COOL_OK: the flow, no rise, every control temperature 15 K below its limit. -/
def State.cool (s : State) : Bool :=
  decide (54000 ≤ s.flow) && decide (s.rising < 4) &&
  allSites.all (fun i => !(s.die i).powered || decide ((s.die i).control ≤ 8000)) &&
  (List.range 16).all (fun i => (s.hub i).temps.all (fun t => decide (t ≤ 8000))) &&
  (List.range 8).all (fun i => (s.portDie i).temps.all (fun t => decide (t ≤ 8000))) &&
  (List.range 48).all (fun i => decide ((s.stack i).temp ≤ 7000))

/-- Since when the conditions of R408 hold. -/
def State.quenchTrack (s : State) : State :=
  match s.thermal.quench with
  | none => s
  | some q =>
    let t : Option Nat := if s.cool then some (q.okSince.getD s.time) else none
    { s with thermal := { s.thermal with quench := some { q with okSince := t } } }

/-- COOLANT_STALE: no report for 10 s (14 R400). -/
def execCoolantStale (s : State) : Host.Outcome State Fault Refusal :=
  .next (
    if s.panel = .cold ∨ s.thermal.stale then s
    else
      let s := s.atTime (s.thermal.reported + 10000000000)
      (({ s with thermal := { s.thermal with
        stale := true, log := s.thermal.log ++ [(s.time, LogKind.coolantStale)] } }).coolCheck).quenchTrack)

/-- COOL_OK_LOW: COOL_OK has been low for 10 µs; the panel checks it once a program is loaded (14 R402, 19 R519). -/
def execCoolOkLow (s : State) : Host.Outcome State Fault Refusal :=
  .next (
    let s := s.setPins (fun p => { p with coolOk := false })
    if s.prog.isSome then s.quench 1 else s)

/-! ## Shutdown (14 R407) -/

/-- Every VIN domain is switched off: the record at stage 3, the record of R368, and AUX. -/
def State.shutdown (s : State) : State :=
  let q : Quench := s.thermal.quench.getD { cause := 0, time := s.time, slot := s.slots.slot }
  let s := s.sendQuench { q with stage := 3 }
  let c := match s.checks.lastCertified with | some x => x.1 | none => 0
  let s := s.fsr { part := 4, det := 0x1A, kind := 6, detail := bytesLE 8 c ++ slice s.checks.head 0 24 }
  let s := s.vinOff
  let s := { s with thermal := { reported := s.thermal.reported, stale := s.thermal.stale } }
  s.enter .aux

/-! ## Sensors (14 R390 to R395) -/

/-- The offset of sensor `i` from the set in use; zero on the defaults (18 R503, R505). -/
def State.tempOffset (s : State) (cal base i : Nat) : Int :=
  match SMap.get noB s.access.calUse cal with
  | [] => 0
  | b => (BitVec.ofNat 16 (field b (base + 2 * i) 2)).toInt

/-- The pair of a hot spot after a sample: the run of disagreement, and the marks it leads to (14 R392). -/
def Die.pairRule (d : Die) (h : Nat) : Die :=
  let a := d.sensor (2 * h)
  let b := d.sensor (2 * h + 1)
  let apart := decide (600 < (a - b).natAbs)
  let run := if apart then SMap.get zeroD d.disagree h + 1 else 0
  let d := { d with disagree := SMap.put zeroD d.disagree h (min run 8) }
  let suspect := decide (8 ≤ run) || d.mark (2 * h) != 0 || d.mark (2 * h + 1) != 0
  if !suspect then d
  else
    let q := d.quad h
    let na := decide ((q - a).natAbs ≤ 600)
    let nb := decide ((q - b).natAbs ≤ 600)
    let ma := if apart && nb && !na then 2 else max 1 (d.mark (2 * h))
    let mb := if apart && na && !nb then 2 else max 1 (d.mark (2 * h + 1))
    { d with marks := SMap.put zeroD (SMap.put zeroD d.marks (2 * h) ma) (2 * h + 1) mb }

/-- Hot spots both of whose sensors have failed. -/
def Die.deadSpots (d : Die) : Nat := ((List.range 8).filter (fun h => d.mark (2 * h) == 2 && d.mark (2 * h + 1) == 2)).length

/-- Throttling by the 1 ms mean, and its end (14 R394). A die in TEST is not throttled (16 R457). -/
def State.throttle (s : State) (site : Nat) : State :=
  let d := s.die site
  if d.st = .test then s
  else
    let m := d.meanOf 10
    if 9500 ≤ m then
      if d.throttleAt = 0 ∨ d.throttleAt + 10000000 ≤ s.time then
        ((s.updDie site (fun d => { d with heatCap := d.safe - 1, throttleAt := s.time, coolSince := none })).count
          Obj.THROTTLE_EVENTS (if d.safe = 0 then 0 else 1)).reSafe site
      else s.updDie site (fun d => { d with coolSince := none })
    else if 9000 ≤ m then s.updDie site (fun d => { d with coolSince := none })
    else
      let t : Nat := d.coolSince.getD s.time
      let s := s.updDie site (fun d => { d with coolSince := some t })
      if d.heatCap < 11 ∧ t + 100000000 ≤ s.time ∧ d.raiseAt + 100000000 ≤ s.time then
        (s.updDie site (fun d => { d with heatCap := d.heatCap + 1, raiseAt := s.time })).reSafe site
      else s

/-- A sample of a compute die. -/
def State.sampleDie (s : State) (site : Nat) (temps : List Int) : State :=
  let s := s.nextSample (s.die site).tempAt 100000
  let old := s.die site
  let v := (List.range 20).foldl (fun m i =>
    match temps[i]? with
    | some t => SMap.put zeroI m i (t + s.tempOffset site 184 i)
    | none => m) old.sensors
  let s := s.updDie site (fun d => (List.range 8).foldl Die.pairRule { d with sensors := v, tempAt := s.time })
  let d := s.die site
  let s := (List.range 8).foldl (fun s h =>
    if SMap.get zeroD old.disagree h < 8 ∧ SMap.get zeroD d.disagree h = 8 then
      s.fsr { part := 0, index := site, unit := 0x0E, det := 0x16, kind := 2, detail := bytesLE 1 h }
    else s) s
  let s := if old.deadSpots < 3 ∧ 3 ≤ d.deadSpots then
      ((s.updDie site (fun d => d.fieldEntry 0x16 0x0E 0xFF 0xFF)).mapWrite).reqMig site 4
    else s
  let c := d.control
  let run := if 10500 ≤ c then d.tripRun + 1 else 0
  let s := s.updDie site (fun d => { d with hist := (c :: d.hist).take 1100, tripRun := run })
  if 2 ≤ run then (s.count Obj.TRIP_EVENTS).dieLoss site 0x11 0x0E
  else
    let s := ((s.throttle site).coolCheck).quenchTrack
    if s.thermal.quench.isNone ∧ 4 ≤ s.rising then s.quench 4 else s

/-- A sample of a hub; its trip shuts the panel down (14 R393, R407). -/
def State.sampleHub (s : State) (hub : Nat) (temps : List Int) : State :=
  let s := s.nextSample (s.hub hub).tempAt 100000
  let v := (List.range 8).map (fun i => temps.getD i ((s.hub hub).temps.getD i 0) + (if i < temps.length then s.tempOffset (144 + hub) 64 i else 0))
  let hot := v.foldl max (v.headD 0)
  let run := if 11000 ≤ hot then (s.hub hub).tripRun + 1 else 0
  let s := s.updHub hub (fun h => { h with temps := v, tripRun := run, tempAt := s.time })
  if 2 ≤ run then (s.count Obj.TRIP_EVENTS).shutdown else s.quenchTrack

/-- A sample of a port die; its trip takes its ports down and switches it off (14 R393). -/
def State.samplePort (s : State) (d : Nat) (temps : List Int) : State :=
  let s := s.nextSample (s.portDie d).tempAt 100000
  let v := (List.range 4).map (fun i => temps.getD i ((s.portDie d).temps.getD i 0) + (if i < temps.length then s.tempOffset (160 + d) 64 i else 0))
  let hot := v.foldl max (v.headD 0)
  let run := if 11000 ≤ hot then (s.portDie d).tripRun + 1 else 0
  let s := s.updPortDie d (fun p => { p with temps := v, tripRun := run, tempAt := s.time })
  if 2 ≤ run then
    let s := s.count Obj.TRIP_EVENTS
    let s := (List.range 16).foldl (fun s i => if (s.port (16 * d + i)).up then
        (s.dropPort (16 * d + i)).fsr { part := 2, index := d, unit := 0x10, det := 0x1C, kind := 2, detail := bytesLE 1 (16 * d + i) }
      else s) s
    s.updPortDie d (fun p => { p with off := true })
  else s.quenchTrack

/-- SENSOR_SAMPLE: every 100 µs, of each powered die, hub and port die (14 R390). -/
def execSensorSample (part : Part) (temps : List Int) (s : State) : Host.Outcome State Fault Refusal :=
  let on := s.panel != .cold && s.panel != .aux
  match part with
  | .die site => onPart (decide (site < 144)) (if (s.die site).powered then s.sampleDie site temps else s)
  | .hub hub => onPart (decide (hub < 16)) (if on && !(s.hub hub).lost then s.sampleHub hub temps else s)
  | .port d => onPart (decide (d < 8)) (if on && !(s.portDie d).off then s.samplePort d temps else s)

/-- STACK_TEMP_READOUT: refresh rate, the cap of the cell above 95 °C, and the trip (14 R390, R393, 08 R208). A trip while
the compute rails are off loses the stack (15 R427). -/
def execStackTempReadout (stack : Nat) (temp : Int) (s : State) : Host.Outcome State Fault Refusal :=
  onPart (decide (stack < 48)) (
    if s.panel == .cold || s.panel == .aux then s
    else
      let s := s.nextSample (s.stack stack).readAt 500000
      let x := s.stack stack
      let cool : Option Nat := if temp ≤ 8200 then some (x.coolSince.getD s.time) else none
      let want := if 8500 < temp then true
        else match cool with | some t => x.wantDoubled && !decide (t + 10000000 ≤ s.time) | none => x.wantDoubled
      let run := if 10000 ≤ temp then x.tripRun + 1 else 0
      let s := s.updStack stack (fun x => { x with temp := temp, coolSince := cool, wantDoubled := want, tripRun := run, readAt := s.time })
      let c := cellOfStack stack
      let hot := (List.range 3).any (fun i => decide (9500 < (s.stack (3 * c + i)).temp))
      let s := if hot then
          let last := (List.range 3).foldl (fun m i => max m (s.stack (3 * c + i)).throttleAt) 0
          if last = 0 ∨ last + 10000000 ≤ s.time then
            (s.updHub c (fun h => { h with hotCap := h.hotCap - 1 })).updStack stack (fun x => { x with throttleAt := s.time })
          else s
        else s.updHub c (fun h => { h with hotCap := 11 })
      if 2 ≤ run then
        let s := s.count Obj.TRIP_EVENTS
        match s.thermal.quench with
        | some q => if q.stage = 2 then
            ((s.updStack stack (fun x => { x with st := 1 })).fsr { part := 3, index := stack, unit := 8, det := 0x19, kind := 2, action := 0x10 }).toSafe 2
          else s
        | none => s.quench 8
      else s.quenchTrack)

/-! ## Escalation and end (14 R407, R408) -/

/-- The compute rails are switched off: placed dies keep their placement and state ACTIVE without power, other powered
dies become COLD-SPARE, scratchpads are lost, the panel enters SAFE with cause 4 (14 R396, R404, R407). -/
def State.railsOff (s : State) (q : Quench) : State :=
  let s := (allSites.filter (fun i => (s.die i).powered)).foldl (fun s i =>
    let s := (s.clearSpads i).clearCores i
    if (s.die i).st = .active then s.updDie i (fun d => { d with powered := false })
    else if (s.die i).st = .frozen then s.updDie i (fun d => { d with powered := false })
    else (s.dieEnter i .coldSpare).updDie i (fun d => { d with powered := false, corner := 0 })) s
  (s.sendQuench { q with stage := 2 }).toSafe 4

/-- QUENCH_ESCALATION: from 100 ms after detection (14 R407). -/
def execQuenchEscalation (s : State) : Host.Outcome State Fault Refusal :=
  .next (match s.thermal.quench with
    | none => s
    | some q =>
      let s := s.atTime (q.time + 100000000)
      if (List.range 16).any (fun h => decide (2 ≤ (s.hub h).tripRun)) then s.shutdown
      else if q.stage = 1 ∧ allSites.any (fun i => (s.die i).powered && decide (9500 ≤ (s.die i).control) && (s.die i).rises) then
        s.railsOff q
      else s)

/-- QUENCH_END: the conditions have held for 10 s and COOL_OK is high: stacks leave self-refresh, the governor is released
at the next boundary, a bring-up's stage starts again (14 R408, R404; log 43). -/
def execQuenchEnd (s : State) : Host.Outcome State Fault Refusal :=
  .next (match s.thermal.quench with
    | none => s
    | some q =>
      if !s.cool then s
      else
        let s := (s.atTime (q.okSince.getD s.time + 10000000000)).setPins (fun p => { p with coolOk := true })
        let s := { s with thermal := { s.thermal with quench := none } }
        let s := if s.panel = .simmer then s
          else { s with hbmStacks := SMap.mapV stackD (fun (x : Stack) => if x.st = 2 then { x with st := 0 } else x) s.hbmStacks }
        match s.bringup.stage with
        | some n => if s.panel == .bringup && !s.bringup.halted then s.stageStart n else s
        | none => s)

end Sys2Proof.Machine
end

