-- ==== Sys2Proof/Machine/Bring.lean ====
section
/-! DEFINITION. Field test, the stages of bring-up, the steps of a live firmware update (16 R442 to R460). -/

namespace Sys2Proof.Machine

/-! ## Field test (16 R456 to R460) -/

/-- A test of the die may start: the counts of R456 and the budget of R458. -/
def State.admitsTest (s : State) (site : Nat) : Bool :=
  let busy := allSites.filter (fun i => i != site && (s.die i).inTest)
  s.testing && s.num Obj.TEST_ENABLE == 1 && s.num Obj.FW_UPDATE_STATE != 1 && s.testHead == some site &&
  !s.reserved.contains site &&
  decide (busy.length < s.num Obj.TEST_MAX_CONCURRENT) && busy.all (fun i => cellOf i != cellOf site) &&
  s.fits (s.estimate (fun i => (s.die i).op) + (s.die site).testAdds * 1055 / 1000)

/-- TEST_START: the head of the queue enters TEST when admitted. An ACTIVE die migrates first, under priority 7; a
COLD-SPARE is powered on under R385 first (16 R456). -/
def execTestStart (site : Nat) (s : State) : Host.Outcome State Fault Refusal :=
  onPart (decide (site < 144)) (
    if !s.admitsTest site then s
    else
      let corner (s : State) : State := (s.setHashing site true).updDie site (fun d => { d with corner := 1, cornerAt := s.time })
      match (s.die site).st with
      | .active => (s.updDie site (fun d => { d with after := 1 })).reqMig site 7
      | .warmSpare => corner ((((s.abandonRep site).unqueue site).dieEnter site .test).clearCores site)
      | .coldSpare =>
        let s := (s.unqueue site).dieEnter site .test
        { s with power := { s.power with queue := s.power.queue ++ [site] } }
      | .test => corner (s.unqueue site)
      | .frozen => s
      | .dark => s
      | .lost => s)

/-- Field entries that name a core, applied to the map of spare positions: the position becomes the row's spare one.
None where a row gets a second unusable position (03 R80). -/
def applyField : List (Nat × Nat × Nat × Nat) → SMap Nat → Option (SMap Nat)
  | [], m => some m
  | e :: t, m =>
    let row := e.2.2.1
    let col := e.2.2.2
    if 16 ≤ row ∨ 17 ≤ col then applyField t m
    else
      let sp := SMap.get (fun _ => 16) m row
      if sp = col then applyField t m
      else if sp = 16 then applyField t (SMap.put (fun _ => 16) m row col)
      else none

/-- The effects of a pass (16 R459). -/
def State.testPass (s : State) (site : Nat) : State :=
  match applyField (s.die site).field (s.die site).spares with
  | none => s.loseSite site
  | some m =>
    ((s.updDie site (fun d => { d with
      spares := m, field := [], lastPass := s.time, testDue := s.time + s.num Obj.TEST_PERIOD_H * 3600 * 10 ^ 9
      phases := [], phaseOff := [], ivrCap := 11, marks := [], disagree := [], connTest := false, after := 0 })).mapWrite).reSafe site

/-- TEST_CORNER_END: the next corner begins, or the test passes or fails. A corner lasts 40 s; TH follows a heating time
of at most 60 s. `e.conn` is a sense point whose warning recurs (16 R457, R459, 15 R414). -/
def execTestCornerEnd (site : Nat) (pass : Bool) (e : CornerEnd) (s : State) : Host.Outcome State Fault Refusal :=
  onPart (decide (site < 144)) (
    let d := s.die site
    if d.st != .test || d.corner == 0 then s
    else
      let heat : Nat := if d.corner = 4 then min e.heatNs 60000000000 else 0
      let s := s.atTime (d.cornerAt + heat + 40000000000)
      let s := match e.conn with | some p => s.connWarning site p | none => s
      if (s.die site).st != .test then s
      else if !pass then (s.count Obj.TEST_FAILS).quarantine site 0x1D
      else if d.corner < 4 then s.updDie site (fun d => { d with corner := d.corner + 1, cornerAt := s.time })
      else
        let s := (s.count Obj.TEST_PASSES).testPass site
        if (s.die site).st != .test then s
        else ((s.setHashing site false).dieEnter site .warmSpare).updDie site (fun d => { d with corner := 0 }))

/-- FIELD_TEST_DUE: ENT.TESTDUE is reached and the die joins the test queue (16 R456). -/
def execFieldTestDue (site : Nat) (s : State) : Host.Outcome State Fault Refusal :=
  onPart (decide (site < 144)) (
    if s.testing then (s.atTime (s.die site).testDue).joinTest site else s)

/-! ## Bring-up (16 R442 to R449) -/

/-- The halting codes of a stage (16 R443). -/
def haltCodes (n : Nat) : List Nat :=
  [[1, 2, 3], [0x102, 0x103], [0x205], [0x303], [0x403], [], [], [0x702], [0x803], [], []].getD n []

/-- The codes that exclude a compute die at a stage (16 R443). -/
def siteCodes (n : Nat) : List Nat :=
  [[], [], [0x201, 0x202, 0x203, 0x204], [0x301], [0x401, 0x402], [], [0x601], [0x701], [], [], []].getD n []

/-- The codes that exclude a port die or a stack at a stage (16 R443). -/
def otherCodes (n i : Nat) : List Nat :=
  if 16 ≤ i ∧ i < 24 then [[], [0x101], [], [0x302]].getD n []
  else if 24 ≤ i ∧ i < 72 then (if n = 5 then [0x501, 0x502] else [])
  else []

/-- A bit map of part numbers in `n` bytes. -/
def bitMap (n : Nat) (l : List Nat) : Bytes := bytesLE n (l.foldl setBit 0)

/-- A port die switched off, or a stack out of service (16 R443). -/
def State.excludeOther (s : State) (x : Nat × Nat) : State :=
  if x.1 < 24 then
    (s.updPortDie (x.1 - 16) (fun p => { p with off := true })).fsr { part := 2, index := x.1 - 16, det := 0, kind := 2, detail := bytesLE 2 x.2 }
  else
    (s.updStack (x.1 - 24) (fun k => { k with st := 1, exclusion := x.2 })).fsr
      { part := 3, index := x.1 - 24, det := 0, kind := 2, detail := bytesLE 2 x.2 }

/-- Dies that bring-up works on. -/
def State.liveSites (s : State) : List Nat := allSites.filter (fun i => (s.die i).st != .lost && !(s.die i).quarantined)

/-- S2: entries of the map that fail are rebuilt, all of them where the map was written unsigned, and the hubs power the dies
(16 R443, R446, R447, 18 R496). -/
def State.stage2 (s : State) (found : List Nat) : State :=
  let rebuilt := if s.bringup.mapSigned then found else allSites
  let s := (rebuilt.filter (fun i => decide (i < 144))).foldl (fun s i => s.updDie i (fun d => { d with
    st := if d.st = .lost then .coldSpare else d.st, quarantined := false, field := [], testDue := s.time, connTest := false })) s
  let s := if rebuilt.isEmpty then s else s.mapWrite
  let s := s.setNum Obj.MAP_REBUILT (if rebuilt.isEmpty then 0 else 1)
  s.liveSites.foldl (fun s i => (s.dieEnter i .warmSpare).updDie i (fun d => { d with
    powered := true, efuseBefore := d.efuseOpen, efuseOpen := false, isolated := false, hashing := false, op := 0, haltedPairs := [], pairs := [] })) s

/-- The spare positions of a die by row: the defect record's; in a row without one, the position that a field entry put
there and a passed test applied (01 R21, 03 R80, 16 R459; log 76). -/
def Die.baseSpares (d : Die) (site : Nat) : SMap Nat :=
  (List.range 16).foldl (fun m r =>
    SMap.put (fun _ => 16) m r (if drecSpare site r < 16 then drecSpare site r else SMap.get (fun _ => 16) d.spares r)) []

/-- S4: route versions and ledgers are cleared and the core maps are written from the defect records and the field
entries; a row with two unusable positions takes its die to LOST (16 R443, 01 R21, 03 R80). -/
def State.stage4 (s : State) : State :=
  let s := allSites.foldl (fun s i => s.updDie i (fun d => { d with spares := d.baseSpares i })) { s with net := {} }
  let s := s.liveSites.foldl (fun s i =>
    match applyField (s.die i).field (s.die i).spares with
    | some m => s.updDie i (fun d => { d with spares := m })
    | none => s.excludeSite 4 (i, 0x401)) s
  let m := allSites.foldl (fun m i => (List.range 16).foldl (fun m r => SMap.put (fun _ => 16) m (16 * i + r) ((s.die i).spare r)) m) []
  { s with net := { s.net with a := { s.net.a with coreMap := m }, b := { s.net.b with coreMap := m } } }

/-- S5: every line of HBM is zero, and the stacks that trained are in service; on the cold path their training is stored
(16 R440, R443, R449). -/
def State.stage5 (s : State) : State :=
  (List.range 48).foldl (fun s i => s.updStack i (fun k => { k with
    st := 0, exclusion := 0, training := if s.bringup.fast then k.training else s.time }))
    { s with hbm := [], hbmBad := [], stage := [], fwStage := [] }

/-- S6: the dies that were not excluded have passed, or, without valid patterns, are due for test (16 R443, R456, R459). -/
def State.stage6 (s : State) (note : Nat) : State :=
  let s := s.setNum Obj.PATTERNS_VALID (if note = 0x602 then 0 else 1)
  s.liveSites.foldl (fun s i => if note = 0x602 then s.updDie i (fun d => { d with testDue := s.time }) else s.testPass i) s

/-- S8: every die, hub and port die loads its calibration set (16 R443, 18 R504, R505). -/
def State.stage8 (s : State) : State :=
  let s := (List.range 168).foldl (fun s i => s.calLoad i) s
  s.liveSites.foldl (fun s i =>
    (if (s.die i).calDef then s.updDie i (fun d => { d with exclusion := 0x801 }) else s).reSafe i) s

/-- S10: usable dies are WARM-SPARE, in wheel mode (06 R160), those with a field entry or a test due join the test queue, and the panel enters
READY (16 R447, R448). -/
def State.stage10 (s : State) : State :=
  let s := { s with dies := SMap.mapV dieD (fun (d : Die) => { d with efuseBefore := false }) s.dies }
  let s := s.liveSites.foldl (fun s i =>
    let d := s.die i
    let s := s.setHashing i false
    let s := if d.st = .warmSpare ∨ d.st = .test then s else s.dieEnter i .warmSpare
    if d.field.isEmpty && decide (s.time < d.testDue) then s else s.joinTest i) s
  let s := { s with bringup := { s.bringup with stage := none, reachedS10 := true, powerKept := true } }
  ((s.setNum Obj.LAST_PATH (if s.bringup.fast then 1 else 0)).setNum Obj.LAST_DURATION_MS
    ((s.time - s.bringup.startTime) / 1000000)).enter .ready

/-- Hubs that halt a stage with its code: at S2 those whose defect record or certificate fails (16 R443, R445, 18 R495). -/
def hubsOut (n : Nat) (out : StageOutcome) : List (Nat × Nat) :=
  out.others.filter (fun x => decide (x.1 < 16) && (haltCodes n).contains x.2) ++
  (if n = 2 then ((List.range 16).filter (fun h => !(drecOk (144 + h) && dcertOk (144 + h)))).map (fun h => (h, 0x205)) else [])

/-- Compute dies that a stage excludes, with their codes: the tests' own findings, at S2 the dies whose defect record
or certificate fails; a fuse can only open again that was open (13 R375, 16 R443, R445, 18 R495). -/
def State.sitesOut (s : State) (n : Nat) (out : StageOutcome) : List (Nat × Nat) :=
  let told := out.sites.filter (fun (x : Nat × Nat) => decide (x.1 < 144) && (siteCodes n).contains x.2 && x.2 != 0x202 &&
    (x.2 != 0x204 || (s.die x.1).efuseOpen))
  let bad := if n = 2 then (allSites.filter (fun i => !drecOk i)).map (fun i => (i, 0x202)) else []
  let key := if n = 2 then (allSites.filter (fun i => drecOk i && !dcertOk i)).map (fun i => (i, 0x203)) else []
  (told ++ bad ++ key).filter (fun (x : Nat × Nat) => (s.die x.1).st != DieSt.lost)

/-- The halting code of a stage, from what it found; at S0 from the reference inputs, at S7 from the image in flash
(16 R443, R451, R452). -/
def State.haltCode (s : State) (n : Nat) (out : StageOutcome) : Nat :=
  let hub := match (hubsOut n out).head? with | some x => x.2 | none => 0
  if n = 0 ∧ out.halt ≠ 1 ∧ !s.mesh.okA ∧ !s.mesh.okB then 2
  else if n = 0 ∧ out.halt = 2 then 0
  else if n = 7 ∧ (s.num Obj.FW_FLASH_VALID = 0 ∨ fwFault s.fwFlash ≠ 0) then 0x702
  else if (haltCodes n).contains out.halt then out.halt
  else hub

/-- The work of a stage. A map that needs a rebuild leads to the cold path (16 R449). -/
def State.stageWork (s : State) (n : Nat) (out : StageOutcome) : State :=
  match n with
  | 0 => { s.meshLock with bringup := { s.bringup with fast := s.bringup.fast && out.fastOk } }
  | 2 =>
    let s := s.stage2 out.rebuilt
    { s with bringup := { s.bringup with fast := s.bringup.fast && s.num Obj.MAP_REBUILT == 0 } }
  | 4 => s.stage4
  | 5 => s.stage5
  | 6 => s
  | 7 => { s with
      bringup := { s.bringup with fwRunning := s.bringup.fwImage }
      dies := SMap.mapV dieD (fun (d : Die) => { d with newFw := false }) s.dies
      hubs := SMap.mapV hubD (fun (h : Hub) => { h with newFw := false, restarting := false }) s.hubs }
  | 8 => s.stage8
  | 9 => [0, 1, 2, 3].foldl (fun s d => s.sendConcord d) s.takeSettings
  | _ => s

/-- BRINGUP_STAGE_END: the stage records its report and its exclusions and the next one starts, or bring-up halts
(16 R442 to R448). On the fast path S6 is skipped (R449). -/
def execBringupStageEnd (out : StageOutcome) (s : State) : Host.Outcome State Fault Refusal :=
  .next (match s.bringup.stage with
    | none => s
    | some n =>
      if s.panel != .bringup || s.bringup.halted || s.thermal.quench.isSome || decide (10 < n) then s
      else
        let s := s.atTime (s.bringup.stageAt + out.durationMs * 1000000)
        let hubs := hubsOut n out
        let s := hubs.foldl (fun s x => s.updHub x.1 (fun h => { h with exclusion := x.2 })) s
        let halt := s.haltCode n out
        let s := (s.setNum (stageObj n 5) out.durationMs).setNum (stageObj n 6) s.time
        if halt ≠ 0 then (s.setOct (stageObj n 4) (bitMap 9 (hubs.map (fun x => x.1)))).stageHalt n halt
        else
          let bad := s.sitesOut n out
          let others := out.others.filter (fun x => (otherCodes n x.1).contains x.2)
          let s := s.stageWork n out
          let s := bad.foldl (fun s x => s.excludeSite n x) s
          let s := others.foldl (fun s x => s.excludeOther x) s
          let s := if n = 6 then s.stage6 out.note else s
          let gone := allSites.filter (fun i => (s.die i).exclusion / 256 == n && (siteCodes n).contains (s.die i).exclusion)
          let last := match (bad ++ others).getLast? with | some x => x.2 | none => if gone.isEmpty then out.note else 0x401
          let status := if n = 6 ∧ out.note = 0x602 then 5 else if gone.isEmpty ∧ others.isEmpty then 2 else 3
          let s := ((s.setNum (stageObj n 1) status).setNum (stageObj n 2) last).setOct (stageObj n 3) (bitMap 18 gone)
          let s := s.setOct (stageObj n 4) (bitMap 9 (others.map (fun x => x.1)))
          if n = 10 then s.stage10
          else if n = 5 ∧ s.bringup.fast then (s.setNum (stageObj 6 1) 5).stageStart 7
          else s.stageStart (n + 1))

/-! ## Live update (16 R453, R454) -/

/-- The staged firmware image, as long as its header says; a length out of range leaves the header alone (16 R450). -/
def State.fwStaged (s : State) : Bytes :=
  let n := field (readBytes s.fwStage 0 256) 16 8
  readBytes s.fwStage 0 (if 2 ^ 30 < n then 256 else n)

/-- The certificate of steps 3 and 8 (16 R453). -/
def State.updateCert (s : State) : State :=
  if s.prog.isSome && s.checks.entries != 0 && s.access.halves != 0 then s.signCert (s.checks.entries - 1) true else s

def State.fwNext (s : State) (n : Nat) : State := { s with bringup := { s.bringup with fwStep := n } }

/-- Dies and hubs that run the new image. -/
def State.updated (s : State) : Nat :=
  (allSites.filter (fun i => (s.die i).newFw)).length + ((List.range 16).filter (fun h => (s.hub h).newFw)).length

/-- Step 4, and step 5 for spares that came after it: every WARM-SPARE starts the new image. -/
def State.updateSpares (s : State) : State :=
  (allSites.filter (fun i => (s.die i).st == .warmSpare && !(s.die i).newFw)).foldl (fun s i => s.updDie i (fun d => { d with newFw := true })) s

/-- Step 5: the ACTIVE dies migrate to spares that run the new image, one BLANK slot in 50 ms. -/
def State.updateActive (s : State) : State :=
  let s := s.updateSpares
  let todo := allSites.filter (fun i => (s.die i).st == .active && !(s.die i).newFw)
  if todo.isEmpty then s.fwNext 6
  else if s.bringup.lastRollout ≠ 0 ∧ s.time < s.bringup.lastRollout + 50000000 ∨ s.recovery.reqs.any (fun r => r.prio == 8) ∨
      !s.recovery.migs.isEmpty then s
  else
    let firsts := (List.range 16).filterMap (fun c => todo.find? (fun i => cellOf i == c))
    let s := (firsts.take 8).foldl (fun s i => s.reqMig i 8) s
    { s with bringup := { s.bringup with lastRollout := s.time } }

/-- Step 6: the hub agents 1 to 14 restart, one at a time, each at a boundary that opens an EMPTY or BLANK slot. -/
def State.updateHubs (s : State) : State :=
  match (List.range 14).find? (fun i => (s.hub (i + 1)).restarting) with
  | some i => s.updHub (i + 1) (fun h => { h with restarting := false, newFw := true })
  | none => match (List.range 14).find? (fun i => !(s.hub (i + 1)).newFw && !(s.hub (i + 1)).lost) with
    | some i => if s.slots.kind = .empty ∨ s.slots.kind = .blank then s.updHub (i + 1) (fun h => { h with restarting := true }) else s
    | none => s.fwNext 7

/-- Step 7: the standby trivet hub restarts and takes over, then the other one restarts. -/
def State.updateTrivets (s : State) : State :=
  let p := s.num Obj.TRIVET_PRIMARY
  let other := if p = 0 then 15 else 0
  let s := if (s.hub other).lost then s
    else ((s.updHub other (fun h => { h with newFw := true })).setNum Obj.TRIVET_PRIMARY other).count Obj.TRIVET_TAKEOVERS
  (s.updHub p (fun h => { h with newFw := true })).fwNext 8

/-- Step 8: the panel's digest is the new image's. -/
def State.updateDone (s : State) : State :=
  let s := { s with bringup := { s.bringup with fwRunning := s.bringup.fwImage, fwStep := 0 } }
  ((s.updateCert).setNum Obj.FW_RESULT 0).setNum Obj.FW_UPDATE_STATE 0

/-- LIVE_UPDATE_STEP: the next step of R453 once the one before it has finished. `ok` is the read-back of step 2. A
fault pauses the update until recovery has ended (16 R454). -/
def execLiveUpdateStep (ok : Bool) (s : State) : Host.Outcome State Fault Refusal :=
  .next (
    let run := s.panel == .ready || s.panel == .loaded || s.panel == .running || s.panel == .hold
    if s.bringup.fwStep = 0 then s
    else if !run || s.recovery.roll.isSome || s.thermal.quench.isSome then s.setNum Obj.FW_UPDATE_STATE 3
    else
      let s := s.setNum Obj.FW_UPDATE_STATE (if s.bringup.fwStep ≤ 2 then 1 else 2)
      match s.bringup.fwStep with
      | 2 =>
        if ok then ({ s with bringup := { s.bringup with fwImage := s.fwStaged } }.setNum Obj.FW_FLASH_VALID 1).fwNext 3
        else (((s.setNum Obj.FW_RESULT 5).setNum Obj.FW_UPDATE_STATE 0).setNum Obj.FW_FLASH_VALID 0).fwNext 0
      | 3 => s.updateCert.fwNext 4
      | 4 => s.updateSpares.fwNext 5
      | 5 => s.updateActive
      | 6 => s.updateHubs
      | 7 => s.updateTrivets
      | _ => s.updateDone)

end Sys2Proof.Machine
end

