-- ==== Sys2Proof/Machine/Ctl.lean ====
section
/-! DEFINITION. The CTL slot (05 R142, R143). Immediates are sign-extended, except under SHIN. -/

namespace Sys2Proof.Machine

/-- Which fields an opcode uses: RD, RA, RB; and the values of IMM19 that it admits, below `imm` (05 R142). -/
structure CSpec where
  cop : Nat
  rd : Bool := true
  ra : Bool := true
  rb : Bool := true
  imm : Nat := 1

def CSpec.illegal (v : CSpec) (f : CtlF) : Bool :=
  (!v.rd && f.rd != 0) || (!v.ra && f.ra != 0) || (!v.rb && f.rb != 0) || decide (v.imm ≤ f.imm.toNat)

def CSpec.srcs (v : CSpec) (f : CtlF) : List (Nat × Nat) :=
  (if v.ra then [(0, f.ra.toNat)] else []) ++ (if v.rb then [(0, f.rb.toNat)] else [])

/-- A destination as R145 compares it: s0 is not compared. -/
def sName (r : BitVec 5) : List (Nat × Nat) := if r = 0 then [] else [(0, r.toNat)]

/-- An operation with a scalar result. -/
def ctlInfo (v : CSpec) (f : CtlF) (_ : State) : Op :=
  { slot := .ctl, opc := v.cop, illegal := v.illegal f, names := if v.rd then sName f.rd else []
    srcs := v.srcs f, dsts := if v.rd then [(0, f.rd.toNat)] else [] }

/-- s[RD] written `lat` cycles after issue. -/
def ctlEff (k : Nat) (f : CtlF) (lat : Nat) (g : Core → BitVec 64) (s : State) : State :=
  s.updCore k (fun c => c.send (.sreg f.rd.toNat (g c)) lat)

/-- A taken branch: the next bundle issues no earlier than two cycles after it (05 R122). -/
def branchTo (c : Core) (f : CtlF) (taken : Bool) : Core :=
  if taken then { c with pc := f.imm.toNat % 2048, nextIssue := c.cycle + 2 } else c
def ctlBranch (k : Nat) (f : CtlF) (g : Core → Bool) (s : State) : State :=
  s.updCore k (fun c => branchTo c f (g c))

/-- The immediate sign-extended to 64 bits. -/
def imm64 (f : CtlF) : BitVec 64 := f.imm.signExtend 64

/-- ADD (05 R143). -/
def cAddS : CSpec := { cop := 0x01 }
def effAddS (k : Nat) (f : CtlF) : State → State := ctlEff k f 1 (fun c => c.sreg f.ra.toNat + c.sreg f.rb.toNat)
def execAddS (io : Issue) (f : CtlF) (s : State) : Host.Outcome State Fault Refusal :=
  slotOp s io (ctlInfo cAddS f) (effAddS io.core f)

/-- SUB (05 R143). -/
def cSubS : CSpec := { cop := 0x02 }
def effSubS (k : Nat) (f : CtlF) : State → State := ctlEff k f 1 (fun c => c.sreg f.ra.toNat - c.sreg f.rb.toNat)
def execSubS (io : Issue) (f : CtlF) (s : State) : Host.Outcome State Fault Refusal :=
  slotOp s io (ctlInfo cSubS f) (effSubS io.core f)

/-- AND (05 R143). -/
def cAndS : CSpec := { cop := 0x03 }
def effAndS (k : Nat) (f : CtlF) : State → State := ctlEff k f 1 (fun c => c.sreg f.ra.toNat &&& c.sreg f.rb.toNat)
def execAndS (io : Issue) (f : CtlF) (s : State) : Host.Outcome State Fault Refusal :=
  slotOp s io (ctlInfo cAndS f) (effAndS io.core f)

/-- OR (05 R143). -/
def cOrS : CSpec := { cop := 0x04 }
def effOrS (k : Nat) (f : CtlF) : State → State := ctlEff k f 1 (fun c => c.sreg f.ra.toNat ||| c.sreg f.rb.toNat)
def execOrS (io : Issue) (f : CtlF) (s : State) : Host.Outcome State Fault Refusal :=
  slotOp s io (ctlInfo cOrS f) (effOrS io.core f)

/-- XOR (05 R143). -/
def cXor : CSpec := { cop := 0x05 }
def effXor (k : Nat) (f : CtlF) : State → State := ctlEff k f 1 (fun c => c.sreg f.ra.toNat ^^^ c.sreg f.rb.toNat)
def execXor (io : Issue) (f : CtlF) (s : State) : Host.Outcome State Fault Refusal :=
  slotOp s io (ctlInfo cXor f) (effXor io.core f)

/-- SHL (05 R143). -/
def cShl : CSpec := { cop := 0x06 }
def effShl (k : Nat) (f : CtlF) : State → State := ctlEff k f 1 (fun c => c.sreg f.ra.toNat <<< ((c.sreg f.rb.toNat).toNat % 64))
def execShl (io : Issue) (f : CtlF) (s : State) : Host.Outcome State Fault Refusal :=
  slotOp s io (ctlInfo cShl f) (effShl io.core f)

/-- SHR (05 R143). -/
def cShr : CSpec := { cop := 0x07 }
def effShr (k : Nat) (f : CtlF) : State → State := ctlEff k f 1 (fun c => c.sreg f.ra.toNat >>> ((c.sreg f.rb.toNat).toNat % 64))
def execShr (io : Issue) (f : CtlF) (s : State) : Host.Outcome State Fault Refusal :=
  slotOp s io (ctlInfo cShr f) (effShr io.core f)

/-- SRA (05 R143). -/
def cSra : CSpec := { cop := 0x08 }
def effSra (k : Nat) (f : CtlF) : State → State := ctlEff k f 1 (fun c => (c.sreg f.ra.toNat).sshiftRight ((c.sreg f.rb.toNat).toNat % 64))
def execSra (io : Issue) (f : CtlF) (s : State) : Host.Outcome State Fault Refusal :=
  slotOp s io (ctlInfo cSra f) (effSra io.core f)

/-- SLT (05 R143). -/
def cSlt : CSpec := { cop := 0x09 }
def effSlt (k : Nat) (f : CtlF) : State → State := ctlEff k f 1 (fun c => if (c.sreg f.ra.toNat).slt (c.sreg f.rb.toNat) then 1 else 0)
def execSlt (io : Issue) (f : CtlF) (s : State) : Host.Outcome State Fault Refusal :=
  slotOp s io (ctlInfo cSlt f) (effSlt io.core f)

/-- SLTU (05 R143). -/
def cSltu : CSpec := { cop := 0x0A }
def effSltu (k : Nat) (f : CtlF) : State → State := ctlEff k f 1 (fun c => if (c.sreg f.ra.toNat).ult (c.sreg f.rb.toNat) then 1 else 0)
def execSltu (io : Issue) (f : CtlF) (s : State) : Host.Outcome State Fault Refusal :=
  slotOp s io (ctlInfo cSltu f) (effSltu io.core f)

/-- MUL: the low 64 bits (05 R143). -/
def cMul : CSpec := { cop := 0x0B }
def effMul (k : Nat) (f : CtlF) : State → State := ctlEff k f 3 (fun c => c.sreg f.ra.toNat * c.sreg f.rb.toNat)
def execMul (io : Issue) (f : CtlF) (s : State) : Host.Outcome State Fault Refusal :=
  slotOp s io (ctlInfo cMul f) (effMul io.core f)

/-- ADDI (05 R143). -/
def cAddi : CSpec := { cop := 0x10, rb := false, imm := 2 ^ 19 }
def effAddi (k : Nat) (f : CtlF) : State → State := ctlEff k f 1 (fun c => c.sreg f.ra.toNat + imm64 f)
def execAddi (io : Issue) (f : CtlF) (s : State) : Host.Outcome State Fault Refusal :=
  slotOp s io (ctlInfo cAddi f) (effAddi io.core f)

/-- ANDI (05 R143). -/
def cAndi : CSpec := { cop := 0x11, rb := false, imm := 2 ^ 19 }
def effAndi (k : Nat) (f : CtlF) : State → State := ctlEff k f 1 (fun c => c.sreg f.ra.toNat &&& imm64 f)
def execAndi (io : Issue) (f : CtlF) (s : State) : Host.Outcome State Fault Refusal :=
  slotOp s io (ctlInfo cAndi f) (effAndi io.core f)

/-- SHLI (05 R143). -/
def cShli : CSpec := { cop := 0x12, rb := false, imm := 64 }
def effShli (k : Nat) (f : CtlF) : State → State := ctlEff k f 1 (fun c => c.sreg f.ra.toNat <<< f.imm.toNat)
def execShli (io : Issue) (f : CtlF) (s : State) : Host.Outcome State Fault Refusal :=
  slotOp s io (ctlInfo cShli f) (effShli io.core f)

/-- SHRI (05 R143). -/
def cShri : CSpec := { cop := 0x13, rb := false, imm := 64 }
def effShri (k : Nat) (f : CtlF) : State → State := ctlEff k f 1 (fun c => c.sreg f.ra.toNat >>> f.imm.toNat)
def execShri (io : Issue) (f : CtlF) (s : State) : Host.Outcome State Fault Refusal :=
  slotOp s io (ctlInfo cShri f) (effShri io.core f)

/-- SRAI (05 R143). -/
def cSrai : CSpec := { cop := 0x14, rb := false, imm := 64 }
def effSrai (k : Nat) (f : CtlF) : State → State := ctlEff k f 1 (fun c => (c.sreg f.ra.toNat).sshiftRight f.imm.toNat)
def execSrai (io : Issue) (f : CtlF) (s : State) : Host.Outcome State Fault Refusal :=
  slotOp s io (ctlInfo cSrai f) (effSrai io.core f)

/-- SHIN: the immediate is zero-extended (05 R143). -/
def cShin : CSpec := { cop := 0x15, rb := false, imm := 2 ^ 19 }
def effShin (k : Nat) (f : CtlF) : State → State := ctlEff k f 1 (fun c => (c.sreg f.ra.toNat <<< 19) ||| f.imm.setWidth 64)
def execShin (io : Issue) (f : CtlF) (s : State) : Host.Outcome State Fault Refusal :=
  slotOp s io (ctlInfo cShin f) (effShin io.core f)

/-- PMOV: p[RD] = s[RA]; RD above 7 is reserved, p0 is not writable (05 R124, R142, R143). -/
def cPmov : CSpec := { cop := 0x18, rb := false }
def infoPmov (f : CtlF) (_ : State) : Op :=
  { slot := .ctl, opc := 0x18, illegal := cPmov.illegal f || decide (7 < f.rd.toNat) || f.rd == 0
    names := [(2, f.rd.toNat)], srcs := [(0, f.ra.toNat)], dsts := [(2, f.rd.toNat)] }
def effPmov (k : Nat) (f : CtlF) (s : State) : State :=
  s.updCore k (fun c => c.send (.pred f.rd.toNat (c.sreg f.ra.toNat)) 1)
def execPmov (io : Issue) (f : CtlF) (s : State) : Host.Outcome State Fault Refusal :=
  slotOp s io (infoPmov f) (effPmov io.core f)

/-- SMOV: s[RD] = p[RA]; RA above 7 is reserved (05 R142, R143). -/
def cSmov : CSpec := { cop := 0x19, rb := false }
def infoSmov (f : CtlF) (_ : State) : Op :=
  { slot := .ctl, opc := 0x19, illegal := cSmov.illegal f || decide (7 < f.ra.toNat)
    names := sName f.rd, srcs := [(2, f.ra.toNat)], dsts := [(0, f.rd.toNat)] }
def effSmov (k : Nat) (f : CtlF) : State → State := ctlEff k f 1 (fun c => c.predOf f.ra.toNat)
def execSmov (io : Issue) (f : CtlF) (s : State) : Host.Outcome State Fault Refusal :=
  slotOp s io (infoSmov f) (effSmov io.core f)

/-- BEQ: compares in the issue cycle (05 R122, R143). -/
def cBeq : CSpec := { cop := 0x20, rd := false, imm := 2 ^ 11 }
def effBeq (k : Nat) (f : CtlF) : State → State := ctlBranch k f (fun c => c.sreg f.ra.toNat == c.sreg f.rb.toNat)
def execBeq (io : Issue) (f : CtlF) (s : State) : Host.Outcome State Fault Refusal :=
  slotOp s io (ctlInfo cBeq f) (effBeq io.core f)

/-- BNE: compares in the issue cycle (05 R122, R143). -/
def cBne : CSpec := { cop := 0x21, rd := false, imm := 2 ^ 11 }
def effBne (k : Nat) (f : CtlF) : State → State := ctlBranch k f (fun c => c.sreg f.ra.toNat != c.sreg f.rb.toNat)
def execBne (io : Issue) (f : CtlF) (s : State) : Host.Outcome State Fault Refusal :=
  slotOp s io (ctlInfo cBne f) (effBne io.core f)

/-- BLT: compares in the issue cycle (05 R122, R143). -/
def cBlt : CSpec := { cop := 0x22, rd := false, imm := 2 ^ 11 }
def effBlt (k : Nat) (f : CtlF) : State → State := ctlBranch k f (fun c => (c.sreg f.ra.toNat).slt (c.sreg f.rb.toNat))
def execBlt (io : Issue) (f : CtlF) (s : State) : Host.Outcome State Fault Refusal :=
  slotOp s io (ctlInfo cBlt f) (effBlt io.core f)

/-- BGE: compares in the issue cycle (05 R122, R143). -/
def cBge : CSpec := { cop := 0x23, rd := false, imm := 2 ^ 11 }
def effBge (k : Nat) (f : CtlF) : State → State := ctlBranch k f (fun c => !(c.sreg f.ra.toNat).slt (c.sreg f.rb.toNat))
def execBge (io : Issue) (f : CtlF) (s : State) : Host.Outcome State Fault Refusal :=
  slotOp s io (ctlInfo cBge f) (effBge io.core f)

/-- BLTU: compares in the issue cycle (05 R122, R143). -/
def cBltu : CSpec := { cop := 0x24, rd := false, imm := 2 ^ 11 }
def effBltu (k : Nat) (f : CtlF) : State → State := ctlBranch k f (fun c => (c.sreg f.ra.toNat).ult (c.sreg f.rb.toNat))
def execBltu (io : Issue) (f : CtlF) (s : State) : Host.Outcome State Fault Refusal :=
  slotOp s io (ctlInfo cBltu f) (effBltu io.core f)

/-- BGEU: compares in the issue cycle (05 R122, R143). -/
def cBgeu : CSpec := { cop := 0x25, rd := false, imm := 2 ^ 11 }
def effBgeu (k : Nat) (f : CtlF) : State → State := ctlBranch k f (fun c => !(c.sreg f.ra.toNat).ult (c.sreg f.rb.toNat))
def execBgeu (io : Issue) (f : CtlF) (s : State) : Host.Outcome State Fault Refusal :=
  slotOp s io (ctlInfo cBgeu f) (effBgeu io.core f)

/-- J: compares in the issue cycle (05 R122, R143). -/
def cJ : CSpec := { cop := 0x26, rd := false, ra := false, rb := false, imm := 2 ^ 11 }
def effJ (k : Nat) (f : CtlF) : State → State := ctlBranch k f (fun _ => true)
def execJ (io : Issue) (f : CtlF) (s : State) : Host.Outcome State Fault Refusal :=
  slotOp s io (ctlInfo cJ f) (effJ io.core f)

/-- LOOP: s[RA] less 1, then a branch if the new value is not 0; RA = 0 is illegal (05 R143). -/
def cLoop : CSpec := { cop := 0x27, rd := false, rb := false, imm := 2 ^ 11 }
def infoLoop (f : CtlF) (_ : State) : Op :=
  { slot := .ctl, opc := 0x27, illegal := cLoop.illegal f || f.ra == 0
    names := sName f.ra, srcs := [(0, f.ra.toNat)], dsts := [(0, f.ra.toNat)] }
def effLoop (k : Nat) (f : CtlF) (s : State) : State :=
  s.updCore k (fun c =>
    let v := c.sreg f.ra.toNat - 1
    branchTo (c.send (.sreg f.ra.toNat v) 1) f (v != 0))
def execLoop (io : Issue) (f : CtlF) (s : State) : Host.Outcome State Fault Refusal :=
  slotOp s io (infoLoop f) (effLoop io.core f)

end Sys2Proof.Machine
end

