-- ==== Sys2Proof/Machine/LadleUnit.lean ====
section
/-! DEFINITION. Ladle entries: contributions, refusals, completion (07 R184 to R191). -/

namespace Sys2Proof.Machine

/-- What contributor `c` has delivered: the next row in exact mode, bytes in ordered mode. -/
def Ladle.nextOf (l : Ladle) (c : Nat) : Nat := SMap.get (fun _ => if l.ordered then 0 else l.r0) l.next c
def Ladle.setNext (l : Ladle) (c v : Nat) : Ladle :=
  { l with next := SMap.put (fun _ => if l.ordered then 0 else l.r0) l.next c v }
/-- A contributor has delivered all its rows, or all its bytes (07 R188). -/
def Ladle.full (l : Ladle) (c : Nat) : Bool :=
  if l.ordered then decide (l.len ≤ l.nextOf c) else decide (l.r0 + l.rows ≤ l.nextOf c)

/-- A contribution message of `b` bytes breaks a rule of R189. -/
def Ladle.refuses (l : Ladle) (c : Nat) (b : Bytes) : Bool :=
  decide (l.n ≤ c) || l.full c ||
  (if l.ordered then decide (l.len < l.nextOf c + b.length)
   else
    let h := xHdr b
    h.rows == 0 || decide (3 < h.rows) || b.length != 64 + 1024 * h.rows || !h.clean ||
    h.row0 != l.nextOf c || decide (l.r0 + l.rows < h.row0 + h.rows))

/-- One element added in exact mode (07 R186): sum, bits lost, out of range. -/
def ladleElem (v : Int) (er eref : Int) : Int × Bool × Bool :=
  let t := truncTo v (er - 160) (eref - 160)
  (clamp256 t.1, t.2, out256 t.1)

/-- The sum of an element: its bytes in the target, and above them its part in the guard store (07 R186). -/
def State.ladleSum (s : State) (k : Nat) (l : Ladle) (i : Nat) : Int :=
  exactAt (s.spadRead k (l.base + 64 + 32 * i) 32) 0 + 2 ^ 256 * SMap.get zeroI l.guard i
/-- The low 256 bits of a sum as the target holds them, and the part above. -/
def sumBytes (v : Int) : Bytes := bytesLE 32 (v % 2 ^ 256).toNat
def sumGuard (v : Int) : Int := (v + 2 ^ 255) / 2 ^ 256

/-- A contribution in exact mode (07 R186): the entry's flags, guard store and progress, and the bytes written. A message that
carries NONFINITE sets OVERFLOW as well (04 R107). -/
def State.addExact (s : State) (k : Nat) (l : Ladle) (c : Nat) (b : Bytes) : Ladle × Bytes :=
  let h := xHdr b
  let es := (List.range (32 * h.rows)).map (fun i => ladleElem (exactAt b (64 + 32 * i)) h.eref l.eref)
  let first := 32 * (h.row0 - l.r0)
  let sums := (List.range es.length).map (fun i => s.ladleSum k l (first + i) + (es.getD i (0, false, false)).1)
  ({ l.setNext c (h.row0 + h.rows) with
     guard := (List.range sums.length).foldl (fun m i => SMap.put zeroI m (first + i) (sumGuard (sums.getD i 0))) l.guard
     inexact := l.inexact || es.any (fun e => e.2.1) || h.flags % 2 == 1
     overflow := l.overflow || es.any (fun e => e.2.2) || h.flags / 2 % 2 == 1 || h.flags / 8 % 2 == 1
     nonfinite := l.nonfinite || h.flags / 8 % 2 == 1 },
   sums.flatMap sumBytes)

/-- A refused contribution: discarded in the ledger; the sending core is frozen, and its record names the channel, the
entry, the contributor and the SEQ (07 R189, 15 R435). -/
def State.ladleRefuse (s : State) (h : Hdr) (entry : Nat) (flits : Nat) : State :=
  let s := s.count Obj.LADLE_REFUSED
  let s := { s with net := { s.net with discards := s.net.discards + flits } }
  match s.coreOf h.epoch h.src with
  | none => s
  | some k =>
    let site := k / 272
    let c := s.core k
    let pc := (c.pc + 2047) % 2048
    let s := s.setCore k { c with frozen := some { pc := pc, slot := .mov, violation := 7 }, hold := none, openSlot := none }
    (s.report 0x14 (s.die site).vd none).fsr
      { part := 0, index := site, det := 0x14, unit := 6, vcore := h.src, action := 0x20
        detail := bytesLE 2 h.sch ++ bytesLE 2 entry ++ bytesLE 2 (bits h.arg 5 0) ++ bytesLE 2 (bits h.arg 31 16) }

/-- A whole message accepted by an armed entry (07 R186 to R189). -/
def State.ladleTake (s : State) (k : Nat) (h : Hdr) (b : Bytes) : State :=
  let entry := bits h.arg 10 6
  let c := bits h.arg 5 0
  let s := s.settle k ((s.core k).ladle entry).hdrAt
  let l := (s.core k).ladle entry
  if l.refuses c b then s.ladleRefuse h entry (b.length / 64)
  else
    let x : Ladle × Bytes := if l.ordered then (l.setNext c (l.nextOf c + b.length), b) else s.addExact k l c b
    let s := s.spadWrite k (if l.ordered then l.base + l.len + c * l.len + l.nextOf c
      else l.base + 64 + 1024 * ((xHdr b).row0 - l.r0)) x.2
    let s := s.updCore k (fun y => y.setLadle entry x.1)
    if x.1.full c then s.ledDestroy (k / 272) (k / 272) 3 1 else s

/-- Flits of a contribution taken from the landing buffer: kept until the message is whole, then accepted. -/
def State.ladleFlits (s : State) (k : Nat) (p : Packet) : State :=
  let h := pktH p
  let key := arrKey h
  let a := (s.core k).arrOf key
  let fl := a.flits ++ p.payload
  let s := s.updCore k (fun c => { c.progress key { a with flits := fl } p.payload.length h.len with openSlot := none })
  let s := s.sendCredit k h.src h.sch p.payload.length
  if h.len ≤ fl.length then s.ladleTake k h (fl.flatMap flitBytes) else s

/-- LADLE: a contribution arrives. At an entry that is not ARMED it waits in the landing buffer, and the command names
it again once the entry is ARMED (07 R177, R184). `dup` is a mismatch of the duplicated adders (07 R190). -/
def execLadle (p : Packet) (dup : Bool) (s : State) : Host.Outcome State Fault Refusal :=
  .next (
    let h := pktH p
    let entry := bits h.arg 10 6
    let go (s : State) (k : Nat) : State :=
      let s := s.ladleFlits k p
      if dup then s.coreFault k noOp 0x02 6 |>.count Obj.DUP_MISMATCHES else s
    let waiting := match s.coreOf h.epoch h.dst with
      | some k => if ((s.core k).ladle entry).waiting.contains p then some k else none
      | none => none
    match waiting with
    | some k =>
      let s := s.flushAll
      let l := (s.core k).ladle entry
      if l.st = .armed ∧ l.waiting.find? (fun x => (pktH x).src == h.src && (pktH x).sch == h.sch) = some p then
        go (s.updCore k (fun c => c.setLadle entry { l with waiting := l.waiting.erase p })) k
      else s
    | none =>
      match s.arriveAt p 4 with
      | .over s => s
      | .at s k =>
        let l := (s.core k).ladle entry
        if !seqOk (s.core k) h then s.headerFault p
        else
          let s := s.eject p
          if l.st = .armed ∧ !l.waiting.any (fun x => (pktH x).src == h.src && (pktH x).sch == h.sch) then go s k
          else s.evCore k (fun c => c.setLadle entry { l with waiting := l.waiting ++ [p] }))

/-- The written form of an exact-mode sum (07 R186): with an EREF outside its range, the end of the range. -/
def Ladle.written (l : Ladle) (v : Int) : Int :=
  if erefBad l.eref then (if v < 0 then lo256 else if v = 0 then 0 else hi256) else clamp256 v

/-- OVERFLOW at the fold: an element left the range (07 R186). -/
def State.ladleFolds (s : State) (k : Nat) (l : Ladle) : Bool :=
  l.overflow || (List.range (32 * l.rows)).any (fun i => out256 (s.ladleSum k l i))

/-- The ordered sum of one element (07 R187). -/
def orderedSum (s : State) (k : Nat) (l : Ladle) (e : Nat) : BitVec 32 :=
  (List.range l.n).foldl (fun r c =>
    faddF r (BitVec.ofNat 32 (natLE (s.spadRead k (l.base + l.len + c * l.len + 4 * e) 4))))
    (BitVec.ofNat 32 (natLE (s.spadRead k (l.base + 4 * e) 4)))

/-- The arrival counter that the image names for an entry (11 R299, 07 R188). -/
def State.ladleCounter (s : State) (k entry : Nat) : Nat :=
  match s.vcoreOf k, s.prog with
  | some v, some p =>
    match (SMap.get (fun _ => []) p.ladles v).find? (fun d => d.entry == entry) with | some d => d.counter | none => 255
  | _, _ => 255

/-- Every contribution of an armed entry is complete. -/
def Ladle.ready (l : Ladle) : Bool := l.st = .armed && (List.range l.n).all l.full

/-- LADLE_COMPLETE: the result is written, the entry enters COMPLETE, its counter is incremented, an OVERFLOW is
reported (07 R186 to R188). -/
def execLadleComplete (core entry : Nat) (e : LadleEnd) (s : State) : Host.Outcome State Fault Refusal :=
  onPart (okCore core)
    (let s := s.flushAll
    let l := (s.core core).ladle entry
    if !l.ready then s
    else
      let ovf := !l.ordered && s.ladleFolds core l
      let s := if l.ordered then
          s.spadWrite core l.base ((List.range (l.len / 4)).flatMap (fun e => bytesLE 4 (orderedSum s core l e).toNat))
        else
          let fl := (if l.nonfinite then 8 else 0) + (if ovf then 2 else 0) + (if l.inexact then 1 else 0)
          ((s.spadWrite core (l.base + 64)
            ((List.range (32 * l.rows)).flatMap (fun i => sumBytes (l.written (s.ladleSum core l i))))).spadWrite
              core (l.base + 2) (bytesLE 1 fl)).spadWrite core (l.base + 4) (bytesLE 1 l.rows)
      let s := s.noteCapture core (s.spadRead core l.base (l.len + (if l.ordered then 0 else 64)))
      let s := (s.xferBy core .net l.base (if l.ordered then l.len / 64 * (l.n + 2) else 2 * (l.len / 64) + 1)).spadEcc core
        noOp e.ecc
      let s := s.evCore core (fun c => (c.setLadle entry { l with st := .complete }).incAc (s.ladleCounter core entry))
      let s := s.count Obj.LADLE_COMPLETIONS
      let s := if !l.ordered && l.inexact then s.count Obj.LADLE_INEXACT else s
      let s := if ovf then
          ((s.count Obj.LADLE_OVERFLOW).report 0x03 (s.die (core / 272)).vd none).fsr
            { part := 0, index := core / 272, unit := 6, det := 0x03, vcore := (s.vcoreOf core).getD 0xFFFF
              detail := bytesLE 2 entry }
        else s
      if e.dup then s.coreFault core noOp 0x02 6 |>.count Obj.DUP_MISMATCHES else s)

end Sys2Proof.Machine
end

