-- ==== Sys2Proof/Machine/Image.lean ====
section
/-! DEFINITION. A program image: header, sections, parameters, code blocks, window, binding and ladle sets, regions
(11 R298 to R317). -/

namespace Sys2Proof.Machine

/-! ## Header and section table (11 R298, R299) -/

/-- An entry of the section table. -/
structure Sec where
  ty : Nat
  off : Nat
  len : Nat
  crc : Nat
  deriving DecidableEq, Repr

def epiMagic : Bytes := [0x48, 0x47, 0x4E, 0x50]
def epiPart : Bytes := [72, 71, 78, 45, 49, 52, 52, 65]

/-- The section table. -/
def imgSecs (b : Bytes) : List Sec :=
  (List.range (field b 6 2)).map (fun i =>
    { ty := field b (64 + 32 * i) 2, off := field b (72 + 32 * i) 8, len := field b (80 + 32 * i) 8, crc := field b (88 + 32 * i) 8 })

/-- The index of the first section of a type. -/
def secIdx (l : List Sec) (ty : Nat) : Option Nat := (List.range l.length).find? (fun i => match l[i]? with | some x => x.ty == ty | none => false)

/-- Offset and bytes of the section of a type; empty where there is none. -/
def secOff (b : Bytes) (ty : Nat) : Nat := match (imgSecs b).find? (fun x => x.ty == ty) with | some x => x.off | none => 0
def secBytes (b : Bytes) (ty : Nat) : Bytes :=
  match (imgSecs b).find? (fun x => x.ty == ty) with | some x => (b.drop x.off).take x.len | none => []

/-- Groups of entries: a count of `cb` bytes, then as many entries of `eb` bytes. A group cut short by the end of its
section is the last. -/
def parseSets (cb eb : Nat) : Nat → Nat → Bytes → List (Nat × List (Nat × Bytes))
  | 0, _, _ => []
  | f + 1, o, b =>
    if b.length < cb then []
    else
      let n := field b 0 cb
      let m := min n ((b.length - cb) / eb)
      let es := (List.range m).map (fun i => (o + cb + eb * i, slice b (cb + eb * i) eb))
      (n, es) :: (if m < n then [] else parseSets cb eb f (o + cb + eb * n) (b.drop (cb + eb * n)))

def imgSets (b : Bytes) (ty cb eb : Nat) : List (Nat × List (Nat × Bytes)) :=
  parseSets cb eb (secBytes b ty).length (secOff b ty) (secBytes b ty)

/-! ## Parameters (11 R300) -/

/-- The PROGRAM section. -/
structure Prm where
  v : Nat
  w : Nat
  floor : Nat
  stretch : Nat
  fallback : Nat
  k : Nat
  rd : Nat
  od : Nat
  period : Nat
  c : Nat
  input : Nat
  output : Nat
  capture : Nat
  deriving DecidableEq, Repr

def imgPrm (b : Bytes) : Prm :=
  let p := secBytes b 1
  { v := field p 0 2, w := field p 2 1, floor := field p 3 1, stretch := field p 4 1, fallback := field p 5 1
    k := field p 6 2, rd := field p 8 2, od := field p 10 2, period := field p 12 4, c := field p 16 8
    input := field p 24 4, output := field p 28 4, capture := field p 32 8 }

/-! ## Code and core map (11 R299, 05 R120, R129, R132, R136, R140) -/

def imgBlocks (b : Bytes) : List (Nat × List (BitVec 256)) :=
  (imgSets b 2 4 32).map (fun x => (x.1, x.2.map (fun e => BitVec.ofNat 256 (natLE e.2))))

/-- A virtual core with its virtual die and its four indices: code block, window set, binding set, ladle set. -/
structure CoreEnt where
  vcore : Nat
  vd : Nat
  code : Nat
  win : Nat
  bind : Nat
  ladle : Nat
  ok : Bool
  deriving DecidableEq, Repr

def imgCores (b : Bytes) : List CoreEnt :=
  let p := imgPrm b
  let m := secBytes b 3
  (List.range p.v).flatMap (fun n => (List.range 16).flatMap (fun i => (List.range 16).map (fun j =>
    let o := 8 * (256 * n + 16 * i + j)
    { vcore := vcoreId p.w n i j, vd := n, code := field m o 2, win := field m (o + 2) 2, bind := field m (o + 4) 2
      ladle := field m (o + 6) 2, ok := decide (o + 8 ≤ m.length) })))

/-- The frame marks of a block: cycle index and LAST. -/
def blockMarks (l : List (BitVec 256)) : List (Nat × Bool) :=
  l.filterMap (fun v => let n := v.toNat
    if bits n 255 251 = 0x08 then some (4 * bits n 249 224, bits n 250 250 == 1) else none)

/-- The outbound channels that a block sends on. -/
def blockSends (l : List (BitVec 256)) : List Nat :=
  l.filterMap (fun v => let n := v.toNat
    if (bits n 95 90 = 0x08 ∨ bits n 95 90 = 0x09) ∧ bits n 89 85 ≤ 15 then some (bits n 89 85) else none)

/-- A Class R VEC operation, or a TCLR that names Class R (10 R272). -/
def bundleR (v : BitVec 256) : Bool :=
  let n := v.toNat
  (bits n 159 153 != 0 && bits n 152 151 == 2) || (bits n 223 218 == 0x01 && bits n 214 213 == 2)

/-- The program is R-bearing (10 R272). -/
def imgR (b : Bytes) : Bool := (imgPrm b).fallback == 2 || (imgBlocks b).any (fun x => x.2.any bundleR)

/-! ## Windows, bindings, ladles (11 R303, R310, R299) -/

def winOf (e : Bytes) : Win :=
  { base := field e 0 8, len := field e 8 8, kind := field e 16 1, rights := field e 17 1, region := field e 18 2 }

def bndOf (e : Bytes) : Bnd :=
  { ch := field e 0 1, kind := field e 1 1, peer := field e 2 2, peerCh := field e 4 1, counter := field e 5 1
    flags := field e 6 1, contrib := field e 7 1, base := field e 8 4, size := field e 12 4, spanEnd := field e 16 2
    msgs := field e 18 4, flits := field e 22 4, maxFlits := field e 26 1 }

def imgWins (b : Bytes) : List (List Win) := (imgSets b 4 2 24).map (fun x => x.2.map (fun e => winOf e.2))
def imgBnds (b : Bytes) : List (List Bnd) := (imgSets b 5 2 32).map (fun x => x.2.map (fun e => bndOf e.2))

/-- A ladle set: for each entry its number, mode (1 ordered), contributors, rows or length L, counter, window (log 7). -/
def imgLadles (b : Bytes) : List (List LadleDecl) :=
  (Config.parseLadles (secBytes b 6)).map (fun l => l.map (fun e =>
    { entry := e.getD 0 0, ordered := e.getD 1 0 == 1, n := e.getD 2 0, size := e.getD 3 0, counter := e.getD 4 255, window := e.getD 5 0 }))

/-- The bytes that a ladle entry needs: its exact-form image, or target and staging (07 R184, R186, R187). -/
def LadleDecl.bytes (l : LadleDecl) : Nat := if l.ordered then l.size * (l.n + 1) else 64 + 1024 * l.size

/-! ## Regions, streams, services (11 R306, R314, 09 R244, 12 R349) -/

def imgRegions (b : Bytes) : List Region :=
  let m := secBytes b 9
  (List.range (m.length / 32)).map (fun i =>
    { off := field m (32 * i) 8, len := field m (32 * i + 8) 8, vstack := field m (32 * i + 16) 1, kind := field m (32 * i + 17) 1
      flags := field m (32 * i + 18) 1 })

/-- The bytes that a region covers: two halves for HFS. -/
def Region.extent (r : Region) : Nat := if r.kind = 3 then 2 * r.len else r.len

/-- A stream: sending and receiving virtual die, pairs, then nine numbers for each transfer-list entry (log 7). -/
def streamOf (l : List Nat) : Stream :=
  { srcVd := l.getD 0 0, dstVd := l.getD 1 0, pairs := l.getD 2 0
    list := (List.range ((l.length - 3) / 9)).map (fun i =>
      let x (j : Nat) : Nat := l.getD (3 + 9 * i + j) 0
      { srcCore := x 0, srcAddr := x 1, lines := x 2, dstCore := x 3, dstAddr := x 4, trigger := x 5, threshold := x 6
        release := x 7, arrival := x 8 }) }

def imgStreams (b : Bytes) : List Stream := (Config.parseStreams (secBytes b 7)).map streamOf

/-- The services: capacity, requests per frame, page size, draws; the HKV region, if any; a page-table copy each:
virtual core, window, counter (log 7). -/
def imgServices (b : Bytes) : Services :=
  let l := Config.parseServices (secBytes b 12)
  let h := l.getD 0 []
  { capacity := h.getD 0 0, perFrame := h.getD 1 0, pageLog := h.getD 2 0, draws := h.getD 3 0, region := (l.getD 1 []).getD 0 65535
    pts := (l.drop 2).map (fun x => (x.getD 0 0, x.getD 1 0, x.getD 2 255)) }

/-- A signed byte. -/
def i8 (n : Nat) : Int := (BitVec.ofNat 8 n).toInt

/-- The collective table (12 R349): where it stands in the SERVICES section and how many entries it has is for the section's
layout to say (log 7). -/
def imgColls (b : Bytes) : List Coll :=
  let m := (secBytes b 12).drop (Config.collsAt (secBytes b 12)).1
  (List.range (Config.collsAt (secBytes b 12)).2).map (fun i =>
    { dx := i8 (field m (32 * i) 1), dy := i8 (field m (32 * i + 1) 1), lag := field m (32 * i + 2) 2
      src := field m (32 * i + 4) 4, len := field m (32 * i + 8) 4, dst := field m (32 * i + 12) 4 })

/-- Peak level and profile of a virtual die (11 R299). -/
def imgPower (b : Bytes) : List (Nat × List (Nat × Nat)) := Config.parsePower (secBytes b 11)

/-- The program digest: up to the signature section, which is the last (11 R301). -/
def imgDigest (b : Bytes) : Bytes :=
  match (imgSecs b).find? (fun x => x.ty == 0xFF) with | some x => sha384 (b.take x.off) | none => sha384 b

/-! ## The program as the loader writes it (11 R321) -/

/-- A map from virtual cores, by an index of each. -/
def perCore {α : Type} [DecidableEq α] (d : α) (l : List CoreEnt) (f : CoreEnt → α) : SMap α :=
  l.foldl (fun m e => SMap.put (fun _ => d) m e.vcore (f e)) []

/-- The initial scratchpad of every core that SPAD_INIT gives contents (11 R299, R306). -/
def imgLoadCopy (b : Bytes) : SMap Byte :=
  let recs := Config.parseSpadInit (secBytes b 8)
  let sets := imgWins b
  (imgCores b).foldl (fun m e => recs.foldl (fun m r =>
    if r.1 = e.win then
      match (sets.getD e.win [])[r.2.1]? with
      | some w => writeBytes m (spadKey e.vcore (w.base + r.2.2.1)) r.2.2.2
      | none => m
    else m) m) []

def imgProg (b : Bytes) (signed : Bool) : Prog :=
  let p := imgPrm b
  let cores := imgCores b
  { v := p.v, w := p.w, floor := p.floor, stretch := p.stretch, fallback := p.fallback, k := p.k, rd := p.rd, od := p.od
    c := p.c, input := p.input, output := p.output, capture := p.capture, digest := imgDigest b, ownerSigned := signed
    rBearing := imgR b
    windows := perCore [] cores (fun e => (imgWins b).getD e.win [])
    bindings := perCore [] cores (fun e => (imgBnds b).getD e.bind [])
    ladles := perCore [] cores (fun e => (imgLadles b).getD e.ladle [])
    regions := imgRegions b
    power := (List.range (imgPower b).length).foldl (fun m i => SMap.put (fun _ => (16, [])) m i ((imgPower b).getD i (16, []))) []
    services := imgServices b, colls := imgColls b, loadCopy := imgLoadCopy b
    code := perCore [] cores (fun e => ((imgBlocks b).getD e.code (0, [])).2) }

end Sys2Proof.Machine
end

