-- ==== Sys2Proof/Machine/LoadCheck.lean ====
section
/-! DEFINITION. The checks of the loader, in the order of 11 R319, and the placement of R320. A check answers the detail
of its refusal; which part it names first where several fail is the model's (log 60). -/

namespace Sys2Proof.Machine

/-! ## Header, table, sections (0x01xx) -/

/-- Sections `i` and `j` overlap. -/
def secLap (a c : Sec) : Bool := decide (a.off < c.off + c.len) && decide (c.off < a.off + a.len) && decide (0 < a.len) && decide (0 < c.len)

/-- A section whose entry breaks the table: alignment, bounds, overlap with an earlier one, a signature that is not last. -/
def secBad (b : Bytes) (l : List Sec) (i : Nat) : Bool :=
  match l[i]? with
  | none => true
  | some x => x.off % 64 != 0 || decide (field b 8 8 < x.off + x.len) || decide (x.off < 64 + 32 * l.length) ||
      (l.take i).any (fun y => secLap x y) || (x.ty == 0xFF && (decide (i + 1 < l.length) || l.any (fun y => decide (x.off < y.off))))

/-- 0x0102: the index of the section at fault; 0 for the table as a whole. -/
def badTable (b : Bytes) (staged : Nat) : Option Nat :=
  let n := field b 6 2
  if field b 8 8 ≠ staged ∨ n = 0 ∨ 64 < n ∨ b.length < 64 + 32 * n then some 0
  else (List.range n).find? (secBad b (imgSecs b))

/-- 0x0103. -/
def badCrc (b : Bytes) : Option Nat :=
  let l := imgSecs b
  (List.range l.length).find? (fun i => match l[i]? with | some x => crc64 0 ((b.drop x.off).take x.len) != x.crc | none => false)

def onceTypes : List Nat := [1, 2, 3, 4, 5, 8, 9, 0xB, 0xC]
def optTypes : List Nat := [6, 7, 0xA, 0xFF]

/-- 0x0104: a type that is unknown, missing or repeated, the signature against EPI.FLAGS among them. -/
def badTypes (b : Bytes) : Option Nat :=
  let l := (imgSecs b).map (fun x => x.ty)
  match l.find? (fun t => !(onceTypes ++ optTypes).contains t) with
  | some t => some t
  | none => match onceTypes.find? (fun t => l.count t != 1) with
    | some t => some t
    | none => match optTypes.find? (fun t => decide (1 < l.count t)) with
      | some t => some t
      | none => if (field b 24 4 % 2 == 1) != l.contains 0xFF then some 0xFF else none

/-- The signature section verifies under the installed owner key that it names (R316). -/
def State.sigOk (s : State) (b : Bytes) : Bool :=
  let g := secBytes b 0xFF
  match SMap.get noB s.access.ownerKeys (field g 0 2) with
  | [] => false
  | k => decide (98 ≤ g.length) && Config.verify k (slice g 2 96) (imgDigest b)

/-- 0x0105: the key index. -/
def State.badSig (s : State) (b : Bytes) : Option Nat :=
  if (imgSecs b).any (fun x => x.ty == 0xFF) then (if s.sigOk b then none else some (field (secBytes b 0xFF) 0 2))
  else if s.num Obj.LOAD_REQUIRE_OWNER_SIG = 1 then some 0 else none

/-- Offsets of reserved bytes of the image, with those of fields of which some bits must be zero and their masks. -/
def reservedBytes (b : Bytes) : List (Nat × Nat) :=
  let run (o n : Nat) : List (Nat × Nat) := (List.range n).map (fun i => (o + i, 255))
  [(24, 254)] ++ run 25 7 ++ (List.range (field b 6 2)).flatMap (fun i => run (66 + 32 * i) 6) ++
  run (secOff b 1 + 40) 88 ++
  (imgSets b 4 2 24).flatMap (fun x => x.2.flatMap (fun e => run (e.1 + 20) 4)) ++
  (imgSets b 5 2 32).flatMap (fun x => x.2.flatMap (fun e => (e.1 + 6, 252) :: run (e.1 + 27) 5)) ++
  (List.range (imgRegions b).length).flatMap (fun i => (secOff b 9 + 32 * i + 18, 252) :: run (secOff b 9 + 32 * i + 19) 13) ++
  (List.range (Config.collsAt (secBytes b 12)).2).flatMap (fun i => run (secOff b 12 + (Config.collsAt (secBytes b 12)).1 + 32 * i + 16) 16)

/-- 0x0106: the offset of a reserved byte that is not zero. -/
def badReserved (b : Bytes) : Option Nat :=
  ((reservedBytes b).find? (fun x => field b x.1 1 &&& x.2 != 0)).map (fun x => x.1)

/-! ## Parameters (0x02xx, 0x03xx, 0x09xx) -/

def badPrm (p : Prm) (period : Nat) : Option Nat :=
  if p.v = 0 ∨ 128 < p.v ∨ p.w = 0 ∨ 16 < p.w ∨ 8 * p.w < p.v then some 0x0201
  else if 11 < p.floor ∨ (p.floor < p.stretch ∧ p.stretch ≠ 255) then some 0x0202
  else if p.fallback ≠ 1 ∧ p.fallback ≠ 2 then some 0x0203
  else if p.k = 0 ∨ 4096 < p.k ∨ p.rd < p.k + 2 ∨ 8192 < p.rd ∨ p.od < 4 ∨ 64 < p.od ∨ p.input % 8192 ≠ 0 ∨ p.output % 64 ≠ 0 then
    some 0x0204
  else if p.period ≠ 0 ∧ p.period ≠ period then some 0x0205
  else none

/-- The sum of R381 before loss, in 1 / 16,000 W: the virtual dies at the floor and their peaks, the spares, hubs, stacks,
port dies. -/
def State.loadSum (s : State) (v floor : Nat) (peak : Nat → Nat) : Nat :=
  let usable := (allSites.filter (fun i => (s.die i).usable)).length
  ((List.range v).map (fun n => pfull floor * (240 + 85 * peak n))).sum +
  16000 * (15 * (usable - v) + 180 * ((List.range 16).filter (fun h => !(s.hub h).lost)).length +
    28 * ((List.range 48).filter (fun i => (s.stack i).st == 0)).length +
    90 * ((List.range 8).filter (fun i => !(s.portDie i).off)).length)

/-- The conditions of 13 R380 for that sum, with Vmin = 1.70 V (R381). -/
def loadFits (sum capW capA : Nat) : Bool :=
  decide (105 * 1055 * sum ≤ 100 * 1000 * 16000 * capW) && decide (105 * 1055 * 10 * sum ≤ 100 * 1000 * 16000 * 17 * capA)

/-- PRM.C at a point takes longer than `n` periods less the slack (02 R47, R56). -/
def tooLong (c mhz period slack n : Nat) : Bool := decide (n * period * (100 - slack) * mhz < 100 * c)

/-! ## Code, windows (0x04xx, 0x05xx) -/

def firstCore (l : List CoreEnt) (f : CoreEnt → Bool) : Option Nat := (l.find? f).map (fun e => e.vcore)

/-- 0x0401: an index that names nothing, or a block that is empty, too long or cut short. -/
def badEntry (b : Bytes) (e : CoreEnt) : Bool :=
  let blocks := imgBlocks b
  !e.ok || (match blocks[e.code]? with
    | some x => x.1 == 0 || decide (2048 < x.1) || x.2.length != x.1
    | none => true) ||
  decide ((imgWins b).length ≤ e.win) || decide ((imgBnds b).length ≤ e.bind) ||
  (decide ((imgLadles b).length ≤ e.ladle) && !((imgLadles b).isEmpty && e.ladle == 0))

def badCode (b : Bytes) : Option (Nat × Nat) :=
  let p := imgPrm b
  let cores := imgCores b
  let code (e : CoreEnt) : List (Nat × Bool) := blockMarks (((imgBlocks b).getD e.code (0, [])).2)
  match firstCore cores (badEntry b) with
  | some d => some (0x0401, d)
  | none =>
    if (imgBlocks b).any (fun x => x.1 == 0 || decide (2048 < x.1)) then some (0x0401, 0)
    else match firstCore cores (fun e => !(code e).any (fun m => m.2)) with
      | some d => some (0x0402, d)
      | none => (firstCore cores (fun e => (code e).any (fun m => decide (p.c < m.1) || (m.2 && decide (m.1 < 24 * opMHz p.floor))))).map
          (fun d => (0x0403, d))

/-- A window of a set breaks R303, or leaves the scratchpad or its region. -/
def badWin (regs : List Region) (w : Win) : Bool :=
  w.len % 64 != 0 || w.len == 0 ||
  (if w.kind = 0 then
     (w.rights != 1 && w.rights != 3) || (match regs[w.region]? with
       | some r => decide (r.extent < w.base + w.len)
       | none => true)
   else w.base % 64 != 0 || decide (7 < w.kind) || w.rights != 0 || w.region != 0 || decide (393216 < w.base + w.len))

def spadWins (l : List Win) : List Win := l.filter (fun w => w.kind != 0)

/-- Two ranges share a byte. -/
def lap (a b : Nat × Nat) : Bool := decide (a.1 < b.1 + b.2) && decide (b.1 < a.1 + a.2)

/-- Two of the ranges overlap. -/
def anyLap : List (Nat × Nat) → Bool
  | [] => false
  | x :: t => t.any (fun y => lap x y) || anyLap t

/-- 0x0503: more than one FSR or FSW window, or lengths that differ. -/
def badFs (l : List Win) : Bool :=
  let r := l.filter (fun w => w.kind == 2)
  let w := l.filter (fun w => w.kind == 3)
  decide (1 < r.length) || decide (1 < w.length) || (match r.head?, w.head? with | some x, some y => x.len != y.len | _, _ => false)

/-- 0x0504: rights beyond the region's kind (R306), or more windows than R302 allows. -/
def badRights (regs : List Region) (l : List Win) : Bool :=
  l.any (fun w => w.kind == 0 && (match regs[w.region]? with
    | some r => decide (16 ≤ r.kind) || (w.rights == 3 && (r.kind == 1 || r.kind == 4))
    | none => false)) ||
  decide (32 < (spadWins l).length) || decide (16 < (l.filter (fun w => w.kind == 0)).length)

/-- 0x0505: a record of SPAD_INIT outside a CONST, FSR or WORK window. -/
def badInit (sets : List (List Win)) (r : Nat × Nat × Nat × Bytes) : Bool :=
  match (sets.getD r.1 [])[r.2.1]? with
  | some w => !([1, 2, 4].contains w.kind && decide (r.2.2.1 + r.2.2.2.length ≤ w.len))
  | none => true

def badWindows (b : Bytes) : Option (Nat × Nat) :=
  let regs := imgRegions b
  let sets := imgWins b
  let cores := imgCores b
  let inits := Config.parseSpadInit (secBytes b 8)
  let ws (e : CoreEnt) : List Win := sets.getD e.win []
  match firstCore cores (fun e => (ws e).any (badWin regs)) with
  | some d => some (0x0501, d)
  | none => match firstCore cores (fun e => anyLap ((spadWins (ws e)).map (fun w => (w.base, w.len)))) with
    | some d => some (0x0502, d)
    | none => match firstCore cores (fun e => badFs (ws e)) with
      | some d => some (0x0503, d)
      | none => match firstCore cores (fun e => badRights regs (ws e)) with
        | some d => some (0x0504, d)
        | none => match inits.find? (badInit sets) with
          | some r => some (0x0505, (firstCore cores (fun e => e.win == r.1)).getD 0)
          | none => none

/-! ## Bindings and ladles (0x06xx) -/

/-- What the binding checks look at: the program with its cores. -/
structure BindCtx where
  w : Nat
  cores : List CoreEnt
  binds : SMap (List Bnd)
  ladles : SMap (List LadleDecl)
  wins : SMap (List Win)

def bindCtx (b : Bytes) : BindCtx :=
  let cores := imgCores b
  { w := (imgPrm b).w, cores := cores
    binds := perCore [] cores (fun e => (imgBnds b).getD e.bind [])
    ladles := perCore [] cores (fun e => (imgLadles b).getD e.ladle [])
    wins := perCore [] cores (fun e => (imgWins b).getD e.win []) }

def BindCtx.of (c : BindCtx) (v : Nat) : List Bnd := SMap.get (fun _ => []) c.binds v
def BindCtx.has (c : BindCtx) (v : Nat) : Bool := c.cores.any (fun e => e.vcore == v)
/-- The inbound binding of a channel. -/
def BindCtx.inb (c : BindCtx) (v ch : Nat) : Option Bnd := (c.of v).find? (fun b => b.ch == ch)

/-- The cores that an outbound binding delivers to. -/
def BindCtx.targets (_c : BindCtx) (v : Nat) (b : Bnd) : List Nat :=
  if b.kind = 5 then mcastSpan (b.flags / 2 % 2 == 1) b.peer b.spanEnd v else [b.peer]

/-- 0x0601: a core of no virtual die, a channel above 15, a counter above 63, a ladle entry above 31. -/
def BindCtx.bad1 (c : BindCtx) (b : Bnd) : Bool :=
  decide (31 < b.ch) || (b.counter != 255 && decide (63 < b.counter)) ||
  (decide (16 ≤ b.ch) && (!c.has b.peer || (b.kind == 6 && (decide (31 < b.peerCh) || decide (63 < b.contrib))) ||
    ((b.kind == 4 || b.kind == 5) && decide (15 < b.peerCh))))

/-- 0x0602: an outbound binding whose receivers bind the channel with no kind that accepts it; a kind of the other
direction (07 R173, R183). -/
def BindCtx.bad2 (c : BindCtx) (v : Nat) (b : Bnd) : Bool :=
  if b.ch < 16 then !([1, 2, 3].contains b.kind)
  else match b.kind with
    | 4 => (match c.inb b.peer b.peerCh with | some x => !([1, 2, 3].contains x.kind) | none => true)
    | 5 =>
      let l := ((c.targets v b).filter (fun t => c.has t)).map (fun t => match c.inb t b.peerCh with | some x => x.kind | none => 0)
      l.any (fun k => !([1, 2, 3].contains k)) || l.any (fun k => k != l.headD 0)
    | 6 => !(SMap.get (fun _ => []) c.ladles b.peer).any (fun x => x.entry == b.peerCh)
    | 7 => false
    | _ => true

/-- The senders of an inbound channel. -/
def BindCtx.senders (c : BindCtx) (v ch : Nat) : Nat :=
  (c.cores.map (fun e => ((c.of e.vcore).filter (fun b =>
    decide (16 ≤ b.ch) && (b.kind == 4 || b.kind == 5) && b.peerCh == ch && (c.targets e.vcore b).contains v)).length)).sum

/-- 0x0606: a multicast span that does not exist (07 R183). -/
def BindCtx.bad6 (c : BindCtx) (v : Nat) (b : Bnd) : Bool :=
  b.kind == 5 && decide (16 ≤ b.ch) &&
  ((if b.flags / 2 % 2 = 1 then decide (b.spanEnd < b.peer / 256) || decide (127 < b.spanEnd)
    else decide (b.spanEnd < b.peer % 256) || decide (16 * c.w ≤ b.spanEnd)) ||
   (c.targets v b).any (fun t => !c.has t))

/-- 0x0607: another channel names the same contributor index of the entry (07 R185). -/
def BindCtx.contribs (c : BindCtx) (peer entry idx : Nat) : Nat :=
  (c.cores.map (fun e => ((c.of e.vcore).filter (fun b =>
    decide (16 ≤ b.ch) && b.kind == 6 && b.peer == peer && b.peerCh == entry && b.contrib == idx)).length)).sum

/-- A range lies in a window of a core of one of the kinds. -/
def BindCtx.inWin (c : BindCtx) (v base len : Nat) (kinds : List Nat) : Bool :=
  (SMap.get (fun _ => []) c.wins v).any (fun w => kinds.contains w.kind && decide (w.base ≤ base) && decide (base + len ≤ w.base + w.len))

/-- The shared windows that other cores read at a core; ranges named alike count once (06 R169). -/
def BindCtx.shared (c : BindCtx) (v : Nat) : List (Nat × Nat) :=
  (c.cores.flatMap (fun e => ((c.of e.vcore).filter (fun b => decide (16 ≤ b.ch) && b.kind == 7 && b.peer == v)).map (fun b =>
    (b.base, b.size)))).eraseDups

/-- The ladle ranges of a core: the windows that hold target and staging. -/
def BindCtx.ladleWins (c : BindCtx) (v : Nat) : List (Nat × Nat) :=
  ((SMap.get (fun _ => []) c.ladles v).filterMap (fun l =>
    ((SMap.get (fun _ => []) c.wins v)[l.window]?).map (fun w => (w.base, w.len)))).eraseDups

/-- 0x0609 for a binding: its range lies outside a window of the kind that R304 and R169 require. -/
def BindCtx.bad9 (c : BindCtx) (v : Nat) (b : Bnd) : Bool :=
  if b.ch < 16 then (b.kind == 2 && !c.inWin v b.base b.size [5]) || (b.kind == 3 && !c.inWin v b.base b.size [6])
  else b.kind == 7 && !c.inWin b.peer b.base b.size [1, 2]

/-- The ladle entries of one window need more than it has: their targets and staging ranges overlap (07 R195). -/
def BindCtx.ladlesLap (c : BindCtx) (v : Nat) : Bool :=
  let l := SMap.get (fun _ => []) c.ladles v
  l.any (fun x => match (SMap.get (fun _ => []) c.wins v)[x.window]? with
    | some w => decide (w.len < ((l.filter (fun y => y.window == x.window)).map LadleDecl.bytes).sum)
    | none => false)

/-- 0x0609 for a core: a ladle entry without its window, or ranges that overlap (07 R195). -/
def BindCtx.bad9core (c : BindCtx) (v : Nat) : Bool :=
  c.ladlesLap v ||
  (SMap.get (fun _ => []) c.ladles v).any (fun l => match (SMap.get (fun _ => []) c.wins v)[l.window]? with
    | some w => w.kind != 7 || decide (w.len < l.bytes)
    | none => true) ||
  anyLap (((c.of v).filter (fun b => decide (b.ch < 16) && (b.kind == 2 || b.kind == 3))).map (fun b => (b.base, b.size)) ++
    c.shared v ++ c.ladleWins v)

/-- The first binding for which `f` holds, as (virtual core << 8) | channel. -/
def BindCtx.first (c : BindCtx) (f : Nat → Bnd → Bool) : Option Nat :=
  c.cores.findSome? (fun e => ((c.of e.vcore).find? (f e.vcore)).map (fun b => e.vcore * 256 + b.ch % 16))

/-! ## The dependency graph (07 R193, R194) -/

/-- The nodes: room-limited inbound channels that are not frame-buffered. -/
def BindCtx.nodes (c : BindCtx) : List (Nat × Nat) :=
  c.cores.flatMap (fun e => ((c.of e.vcore).filter (fun b =>
    decide (b.ch < 16) && (b.kind == 1 || (b.kind == 2 && b.flags % 2 == 0)))).map (fun b => (e.vcore, b.ch)))

/-- The channels into which the core of a node sends. -/
def BindCtx.succ (c : BindCtx) (sends : SMap (List Nat)) (nodes : List (Nat × Nat)) (n : Nat × Nat) : List (Nat × Nat) :=
  let out := SMap.get (fun _ => []) sends n.1
  ((c.of n.1).filter (fun b => decide (16 ≤ b.ch) && out.contains (b.ch - 16) && (b.kind == 4 || b.kind == 5))).flatMap (fun b =>
    ((c.targets n.1 b).map (fun t => (t, b.peerCh))).filter (fun x => nodes.contains x))

/-- Nodes without a successor among those that are left are taken out, again and again: what stays leads to a cycle. -/
def trim (succ : Nat × Nat → List (Nat × Nat)) : Nat → List (Nat × Nat) → List (Nat × Nat)
  | 0, l => l
  | f + 1, l =>
    let l' := l.filter (fun n => (succ n).any (fun x => l.contains x))
    if l'.length = l.length then l else trim succ f l'

/-- `f` steps along first successors that are left: a node of a cycle. -/
def followSucc (succ : Nat × Nat → List (Nat × Nat)) (l : List (Nat × Nat)) : Nat → Nat × Nat → Nat × Nat
  | 0, n => n
  | f + 1, n => match (succ n).find? (fun x => l.contains x) with | some m => followSucc succ l f m | none => n

/-- 0x060A: a channel on a cycle. -/
def BindCtx.cycle (c : BindCtx) (b : Bytes) : Option Nat :=
  let sends := perCore [] c.cores (fun e => blockSends (((imgBlocks b).getD e.code (0, [])).2))
  let nodes := c.nodes
  let succ := c.succ sends nodes
  match trim succ nodes.length nodes with
  | [] => none
  | n :: t => let x := followSucc succ (n :: t) nodes.length n; some (x.1 * 256 + x.2)

/-- The size limits of a ring (R311). -/
def badRing (b : Bnd) : Bool :=
  b.size % 64 != 0 || decide (b.size < 128) || decide (196608 < b.size) || b.maxFlits == 0 || decide (64 < b.maxFlits) ||
  decide (b.size < 128 * (b.maxFlits + 1))

def badBindings (b : Bytes) : Option (Nat × Nat) :=
  let c := bindCtx b
  let code (n : Nat) (o : Option Nat) : Option (Nat × Nat) := o.map (fun d => (n, d))
  match code 0x0601 (c.first (fun _ x => c.bad1 x)) with
  | some r => some r
  | none => match code 0x0601 (firstCore c.cores (fun e => (SMap.get (fun _ => []) c.ladles e.vcore).any (fun l => decide (31 < l.entry)))) with
  | some r => some r
  | none => match code 0x0602 (c.first c.bad2) with
  | some r => some r
  | none => match code 0x0603 (c.first (fun v x => x.kind == 1 && decide (x.ch < 16) && decide (1 < c.senders v x.ch))) with
  | some r => some r
  | none => match code 0x0604 (c.first (fun _ x => x.kind == 2 && decide (x.ch < 16) && badRing x)) with
  | some r => some r
  | none => match code 0x0605 (c.first (fun _ x => x.kind == 2 && decide (x.ch < 16) && x.flags % 2 == 1 && decide (x.size < 64 * (x.flits + x.msgs)))) with
  | some r => some r
  | none => match code 0x0606 (c.first c.bad6) with
  | some r => some r
  | none => match code 0x0607 (c.first (fun _ x => decide (16 ≤ x.ch) && x.kind == 6 && decide (1 < c.contribs x.peer x.peerCh x.contrib))) with
  | some r => some r
  | none => match code 0x0608 (firstCore c.cores (fun e =>
      decide (128 < (((SMap.get (fun _ => []) c.ladles e.vcore).filter (fun l => !l.ordered)).map (fun l => l.size)).sum))) with
  | some r => some r
  | none => match code 0x0609 (c.first c.bad9) with
  | some r => some r
  | none => match code 0x0609 ((firstCore c.cores (fun e => c.bad9core e.vcore)).map (fun v => v * 256)) with
  | some r => some r
  | none => code 0x060A (c.cycle b)

/-! ## Placement (R320) -/

/-- The cell that virtual die `n` prefers. -/
def prefCell (w n : Nat) : Nat := 4 * (n / w / 2) + n % w / 4

/-- One virtual die placed: the sites taken so far, newest first, with the dies placed outside their preferred cell. -/
def State.placeOne (s : State) (w floor : Nat) (acc : List Nat × Nat) (n : Nat) : List Nat × Nat :=
  let usable (c : Nat) : List Nat := (List.range 9).map (fun i => 9 * c + i) |>.filter (fun i => (s.die i).usable)
  let room (c : Nat) : Bool := decide ((acc.1.filter (fun i => cellOf i == c)).length < min 8 (usable c).length)
  let p := prefCell w n
  let cell := if room p then p else
    match minKey (((List.range 16).filter room).map (fun c => (hops p c, c))) with | some x => x.2 | none => p
  let free := (usable cell).filter (fun i => !acc.1.contains i)
  let site := match free.find? (fun i => decide (floor ≤ (s.die i).safe)) with | some i => i | none => free.headD 144
  (site :: acc.1, if cell = p then acc.2 else acc.2 + 1)

/-- The sites of the virtual dies, in order, with object 6020.02. -/
def State.placement (s : State) (v w floor : Nat) : List Nat × Nat :=
  let r := (List.range v).foldl (s.placeOne w floor) ([], 0)
  (r.1.reverse, r.2)

/-! ## Streams (0x07xx) -/

/-- The stream that takes a port past 75 % of its pairs. -/
def badPort (place : List Nat) (l : List Stream) : Option Nat :=
  (List.range l.length).find? (fun i => (streamPorts (place.getD · 144) (l.getD i {})).any (fun p =>
    decide (3 * p.2.2 < 4 * (((l.take (i + 1)).filter (fun y => (streamPorts (place.getD · 144) y).contains p)).map (fun y => y.pairs)).sum)))

def badStreams (b : Bytes) (place : List Nat) : Option (Nat × Nat) :=
  let p := imgPrm b
  let l := imgStreams b
  let c := bindCtx b
  let used (n : Nat) : Nat := (l.filter (fun x => x.srcVd == n)).length + (l.filter (fun x => x.dstVd == n)).length
  let badEnt (x : Stream) (e : StreamEnt) : Bool :=
    let win (v a : Nat) (kinds : List Nat) : Bool := c.inWin v a (64 * e.lines) kinds
    e.lines == 0 || !c.has e.srcCore || !c.has e.dstCore || vdOf p.w e.srcCore != x.srcVd || vdOf p.w e.dstCore != x.dstVd ||
    !win e.srcCore e.srcAddr [1, 2, 3, 4, 5, 6, 7] || !win e.dstCore e.dstAddr [6]
  match (List.range p.v).find? (fun n => decide (32 < used n)) with
  | some n => some (0x0701, n)
  | none => match (List.range l.length).find? (fun i => decide (128 * opMHz p.floor < 4000 * (l.getD i {}).pairs)) with
    | some i => some (0x0702, i)
    | none => match badPort place l with
      | some i => some (0x0703, i)
      | none => ((List.range l.length).find? (fun i =>
          let x := l.getD i {}
          decide (256 < x.list.length) || decide (p.v ≤ x.srcVd) || decide (p.v ≤ x.dstVd) || x.list.any (badEnt x))).map
            (fun i => (0x0704, i))

/-! ## Regions, services (0x08xx) -/

def regionKinds : List Nat := [1, 2, 3, 4, 5, 6, 16, 17, 18, 19, 20]

/-- 0x0801: a region out of bounds, of no kind, or over an earlier one. -/
def badRegion (l : List Region) : Option Nat :=
  (List.range l.length).find? (fun i => match l[i]? with
    | some r => decide (47 < r.vstack) || !regionKinds.contains r.kind || decide (0x1670000000 < r.off + r.extent) ||
        (l.take i).any (fun x => x.vstack == r.vstack && lap (x.off, x.extent) (r.off, r.extent))
    | none => false)

/-- Bytes of scratchpad frame state of a core, and of a virtual die. -/
def fsrLen (l : List Win) : Nat := ((l.filter (fun w => w.kind == 2)).map (fun w => w.len)).sum
def dieFsr (c : BindCtx) (n : Nat) : Nat :=
  ((c.cores.filter (fun e => e.vd == n)).map (fun e => fsrLen (SMap.get (fun _ => []) c.wins e.vcore))).sum

def lens (l : List Region) (f : Region → Bool) : Nat := ((l.filter f).map (fun r => r.len)).sum
def ckRegion (r : Region) : Bool := r.kind == 3 && r.flags % 2 == 1

/-- 0x0802: the limits of 08 R227. -/
def badFoot (c : BindCtx) (v : Nat) (l : List Region) (period : Nat) : Option Nat :=
  match (List.range v).find? (fun n => decide (256000 * period < dieFsr c n)) with
  | some n => some n
  | none => (List.range 48).find? (fun i => decide (204800 * period < lens l (fun r => ckRegion r && r.vstack == i)))

def up (a b : Nat) : Nat := (a + b - 1) / b

/-- The region of a kind that is not on every stack once with one length of at least `need`. -/
def badEvery (l : List Region) (kind need : Nat) : Option Nat :=
  let rs := (List.range l.length).filter (fun i => match l[i]? with | some r => r.kind == kind | none => false)
  let at' (i : Nat) : Region := l.getD i { off := 0, len := 0, vstack := 0, kind := 0, flags := 0 }
  if rs.length ≠ 48 ∨ (List.range 48).any (fun v => !rs.any (fun i => (at' i).vstack == v)) then some (rs.headD 0xFFFF)
  else rs.find? (fun i => (at' i).len != (at' (rs.headD 0)).len || decide ((at' i).len < need))

def badTotal (l : List Region) (kind need : Nat) : Option Nat :=
  if lens l (fun r => r.kind == kind) < need then
    some (((List.range l.length).find? (fun i => match l[i]? with | some r => r.kind == kind | none => false)).getD 0xFFFF)
  else none

/-- 0x0803: the firmware areas (R313). -/
def badAreas (b : Bytes) (c : BindCtx) : Option Nat :=
  let p := imgPrm b
  let l := imgRegions b
  let sv := imgServices b
  let inits := Config.parseSpadInit (secBytes b 8)
  let fck := ((List.range p.v).map (dieFsr c)).sum + lens l ckRegion + lens l (fun r => r.kind == 20)
  let load := (c.cores.map (fun e => ((inits.filter (fun r => r.1 == e.win)).map (fun r => r.2.2.2.length)).sum)).sum
  match badEvery l 16 (2 * 10240 * up (up fck 8192) 48) with
  | some d => some d
  | none => match badEvery l 17 (p.rd * 10240 * up (up p.input 8192) 48) with
    | some d => some d
    | none => match (if p.capture = 0 then none else badTotal l 18 (p.v * p.capture)) with
      | some d => some d
      | none => match badTotal l 19 load with
        | some d => some d
        | none => badTotal l 20 (2 ^ 26 + 4 * (lens l (fun r => r.kind == 6) / 2 ^ sv.pageLog) + 256 * sv.capacity)

/-- 0x0804: a preloaded region whose SHA-384 differs from HBM_INIT (R307). -/
def State.badPreload (s : State) (l : List Region) (init : List (Nat × Bool × Bytes)) : Option Nat :=
  (List.range l.length).find? (fun i => match l[i]? with
    | some r => r.flags / 2 % 2 == 1 && !init.any (fun x => x.1 == i && x.2.1 && x.2.2 == sha384 (s.hbmRead r.vstack r.off r.extent))
    | none => false)

/-- W of 10 R277 for a number of replay dies. -/
def replayW (v n : Nat) : Nat := 1 + 2 * up v (max 1 n)

/-- An entry of the collective table breaks 12 R349. -/
def State.badColl (s : State) (b : Bytes) (c : Coll) : Bool :=
  let p := imgPrm b
  let n := min 16 ((allSites.filter (fun i => (s.die i).usable)).length - p.v)
  decide (p.output < c.src + c.len) || decide (p.input < c.dst + c.len) || (c.dx % s.dims.1 == 0 && c.dy % s.dims.2 == 0) ||
  decide (c.lag < 3) || (imgR b && (n == 0 || decide (c.lag < s.num Obj.R_SAMPLE_INTERVAL + replayW p.v n + 2)))

/-- 0x0805: the SERVICES section (R314, 12 R349). -/
def State.badServices (s : State) (b : Bytes) (c : BindCtx) : Bool :=
  let sv := imgServices b
  let l := imgRegions b
  let cs := imgColls b
  decide (sv.pageLog < 12) || decide (20 < sv.pageLog) || decide (2 ^ 20 < sv.draws) ||
  (sv.region != 65535 && (match l[sv.region]? with | some r => r.kind != 6 | none => true)) ||
  sv.pts.any (fun t => !c.has t.1 || decide ((SMap.get (fun _ => []) c.wins t.1).length ≤ t.2.1) || decide (63 < t.2.2)) ||
  decide (256 < cs.length) || cs.any (s.badColl b) || anyLap (cs.map (fun x => (x.dst, x.len))) ||
  cs.any (fun x => lap (x.dst, x.len) (Config.batchRange (secBytes b 12)))

/-! ## All checks (R319) -/

/-- The section at fault: the type that a code concerns (log 60). -/
def codeSection (code : Nat) : Nat :=
  if code = 0x0505 then 8 else if code = 0x0608 then 6 else if code = 0x0804 then 10 else if code = 0x0805 then 12
  else if code = 0x0903 then 11
  else match code / 256 with | 4 => 2 | 5 => 4 | 6 => 5 | 7 => 7 | 8 => 9 | _ => 1

/-- What a load is refused with. -/
structure LoadBad where
  code : Nat
  detail : Nat := 0
  sec : Nat := 0xFFFF
  deriving DecidableEq, Repr

/-- The checks up to 0x0106. -/
def State.check1 (s : State) (b : Bytes) : Option LoadBad :=
  let idx (t : Nat) : Nat := (secIdx (imgSecs b) t).getD 0xFFFF
  if slice b 0 4 != epiMagic || field b 4 2 != 1 || slice b 16 8 != epiPart then some { code := 0x0101 }
  else match badTable b (s.num Obj.STAGE_LENGTH) with
    | some i => some { code := 0x0102, detail := i, sec := i }
    | none => match badCrc b with
      | some i => some { code := 0x0103, detail := i, sec := i }
      | none => match badTypes b with
        | some t => some { code := 0x0104, detail := t, sec := idx t }
        | none => match s.badSig b with
          | some k => some { code := 0x0105, detail := k, sec := idx 0xFF }
          | none => match badReserved b with
            | some o =>
              let l := imgSecs b
              some { code := 0x0106, detail := o, sec := ((List.range l.length).find? (fun i => match l[i]? with
                | some x => decide (x.off ≤ o) && decide (o < x.off + x.len) | none => false)).getD 0xFFFF }
            | none => none

/-- The checks from 0x0201 on. -/
def State.check2 (s : State) (b : Bytes) (place : List Nat) : Option (Nat × Nat) :=
  let p := imgPrm b
  let period := s.num Obj.FRAME_PERIOD
  let slack := s.num Obj.SLACK_RESERVE
  match badPrm p period with
  | some c => some (c, 0)
  | none =>
  if s.grade < p.v then some (0x0301, s.grade)
  else match (List.range 48).find? (fun i => (s.stack i).st != 0) with
  | some i => some (0x0302, i)
  | none =>
  if s.num Obj.OP_CAP_PANEL < p.floor then some (0x0303, 0)
  else match badCode b with
  | some r => some r
  | none => match badWindows b with
  | some r => some r
  | none => match badBindings b with
  | some r => some r
  | none => match badStreams b place with
  | some r => some r
  | none =>
  let c := bindCtx b
  let l := imgRegions b
  match badRegion l with
  | some i => some (0x0801, i)
  | none => match badFoot c p.v l period with
  | some d => some (0x0802, d)
  | none => match badAreas b c with
  | some d => some (0x0803, d)
  | none => match s.badPreload l (Config.parseHbmInit (secBytes b 10)) with
  | some i => some (0x0804, i)
  | none =>
  let peak (n : Nat) : Nat := ((imgPower b).getD n (16, [])).1
  if s.badServices b c then some (0x0805, 0)
  else if tooLong p.c (opMHz p.floor) period slack 1 then some (0x0901, 0)
  else if p.stretch ≠ 255 ∧ tooLong p.c (opMHz p.stretch) period slack 2 then some (0x0902, 0)
  else if !loadFits (s.loadSum p.v p.floor peak) s.power.capW s.power.capA then some (0x0903, 0)
  else none

/-- Every check of R319, and the load that passes them. -/
def State.checkImage (s : State) (b : Bytes) : LoadBad ⊕ Loading :=
  match s.check1 b with
  | some r => .inl r
  | none =>
    let p := imgPrm b
    let pl := if (badPrm p (s.num Obj.FRAME_PERIOD)).isSome ∨ s.grade < p.v then ([], 0) else s.placement p.v p.w p.floor
    match s.check2 b pl.1 with
    | some r => .inl { code := r.1, detail := r.2, sec := (secIdx (imgSecs b) (codeSection r.1)).getD 0xFFFF }
    | none =>
      let regs := imgRegions b
      let init := Config.parseHbmInit (secBytes b 10)
      let signed := (imgSecs b).any (fun x => x.ty == 0xFF)
      .inr { prog := imgProg b signed, place := pl.1, streams := imgStreams b, overflows := pl.2
             content := init.filterMap (fun x => if x.2.1 then none else
               (regs[x.1]?).map (fun r => (hbmKey r.vstack r.off, x.2.2)))
             preload := (List.range regs.length).filterMap (fun i => match regs[i]?, init.find? (fun x => x.1 == i && x.2.1) with
               | some r, some x => if r.flags / 2 % 2 = 1 then some (i, x.2.2) else none
               | _, _ => none) }

end Sys2Proof.Machine
end

