-- ==== Sys2Proof/Machine/Objects.lean ====
section
/-! DEFINITION. What every object of the dictionary reads: the codes of the states, the per-part blocks (17 R487 to
R490), the stage reports (16 R444), the objects that the state gives (the object tables of the chapters), the objects of
a session. -/

namespace Sys2Proof.Machine

/-! ## Codes -/

/-- The code of a panel state (17 R479). -/
def PanelSt.code : PanelSt → Nat
  | .cold => 0 | .aux => 1 | .simmer => 2 | .bringup => 3 | .ready => 4 | .loaded => 5 | .running => 6 | .hold => 7 | .safe => 8

/-- The code of a die state (17 R485). -/
def DieSt.code : DieSt → Nat
  | .active => 0 | .warmSpare => 1 | .coldSpare => 2 | .test => 3 | .frozen => 4 | .dark => 5 | .lost => 6

/-- The code of a slot kind (02 R41). -/
def SlotKind.code : SlotKind → Nat
  | .empty => 0 | .program => 1 | .replay => 2 | .blank => 3 | .continuation => 4 | .abandoned => 5

/-! ## Per-part blocks and stage reports -/

/-- The objects of a site's block at offset `m` (17 R487). -/
def siteBlock (m : Nat) : List (Nat × ObjTy) :=
  match m with
  | 0 => [(1, .octets), (2, .u8), (3, .u16), (4, .bool), (5, .time64), (6, .u16)]
  | 1 => [(1, .u8), (2, .u8), (3, .u8), (4, .u8)]
  | 2 => [(1, .u32), (2, .octets), (3, .bool), (4, .octets)]
  | 3 => [(1, .i32), (2, .octets), (3, .u32)]
  | 4 => [(1, .u16), (2, .octets), (3, .octets)]
  | 5 => [(1, .u64), (2, .u32), (3, .u64), (4, .u32), (5, .u32), (6, .u32)]
  | 6 => [(1, .u8), (2, .u8), (3, .u64), (4, .u16)]
  | 7 => [(1, .time64), (2, .time64), (3, .u8)]
  | 8 => [(1, .u8), (2, .octets), (3, .u32), (4, .octets)]
  | _ => []

/-- The objects of a hub's block (17 R488). -/
def hubBlock (m : Nat) : List (Nat × ObjTy) :=
  match m with
  | 0 => [(1, .octets), (2, .u8), (3, .u16)]
  | 1 => [(1, .octets)]
  | 2 => [(1, .octets), (2, .u8)]
  | 3 => [(1, .u16), (2, .u64)]
  | _ => []

/-- The objects of a port die's block (17 R489). -/
def portBlock (m : Nat) : List (Nat × ObjTy) :=
  match m with
  | 0 => [(1, .octets), (2, .u8)]
  | 1 => [(1, .octets)]
  | 2 => [(1, .octets), (2, .octets), (3, .octets)]
  | _ => []

/-- The objects of a stack's block (17 R490). -/
def stackBlock (m : Nat) : List (Nat × ObjTy) :=
  match m with
  | 0 => [(1, .u8), (2, .u16)]
  | 1 => [(1, .i32), (2, .u8)]
  | 2 => [(1, .u64), (2, .time64)]
  | _ => []

/-- The objects of an index that belongs to a block or to a stage report (16 R444, 17 R487 to R490). -/
def blockSubs (ix : Nat) : List (Nat × ObjTy) :=
  if 0xA100 ≤ ix ∧ ix ≤ 0xA10A then [(1, .u8), (2, .u16), (3, .octets), (4, .octets), (5, .u32), (6, .time64)]
  else if 0xC000 ≤ ix ∧ ix < 0xC900 then siteBlock (ix % 16)
  else if 0xCA00 ≤ ix ∧ ix < 0xCB00 then hubBlock (ix % 16)
  else if 0xCB00 ≤ ix ∧ ix < 0xCB80 then portBlock (ix % 16)
  else if 0xCC00 ≤ ix ∧ ix < 0xCF00 then stackBlock (ix % 16)
  else []

/-- The subindices of an index, but for 0; none where no object has the index. -/
def subsOf (ix : Nat) : List Nat :=
  (objTable.filter (fun r => r.key / 256 == ix)).map (fun r => r.key % 256) ++ (blockSubs ix).map (fun x => x.1)

/-- The core selector of a site (17 R487). -/
def isCoreSelect (k : Nat) : Bool := decide (0xC00000 ≤ k) && decide (k < 0xC90000) && k % 4096 == 0x401

/-- The row of any object of the dictionary; subindex 0 holds the highest subindex of its index (17 R462). -/
def rowOf (k : Nat) : Option ObjRow :=
  match objRow k with
  | some r => some r
  | none =>
    if k % 256 = 0 then
      if (subsOf (k / 256)).isEmpty then none else some ⟨k, .u8, .ro, some 0, none, .num 0⟩
    else match (blockSubs (k / 256)).find? (fun x => x.1 == k % 256) with
      | some x =>
        if isCoreSelect k then some ⟨k, x.2, .rw, some 0, some 0, .num 0⟩ else some ⟨k, x.2, .ro, some 0, none, .num 0⟩
      | none => none

/-- A bring-up stage has passed since the last reset (17 R467). -/
def State.passedStage (s : State) (n : Nat) : Bool :=
  s.bringup.reachedS10 || (match s.bringup.stage with | some m => decide (n < m) | none => false)

/-- Values of I32 in bytes. -/
def i32s (n : Nat) (l : List Int) : Bytes := (List.range n).flatMap (fun i => bytesLE 4 (i32 (l.getD i 0)))

/-- The counters of R66 of a core, causes 1 to 10. -/
def Core.stalls (c : Core) : List Nat := (List.range 10).map (fun i => (SMap.get (fun _ => (0 : BitVec 32)) c.stall (i + 1)).toNat)

/-- The largest excess of a sense point in the last second, in mV, at most 255 (13 R388, 17 R487). -/
def State.excess (s : State) (d : Die) (point : Nat) : Nat :=
  min 255 ((d.excessLog.filter (fun x => x.2.1 == point && decide (s.time ≤ x.1 + 1000000000))).foldl (fun m x => max m x.2.2) 0)

/-- An object of a site's block; `sel` is the session's core selector (17 R487). -/
def State.siteObj (s : State) (site m sub sel : Nat) : ObjVal :=
  let d := s.die site
  match m, sub with
  | 0, 1 => .oct (partSerial site)
  | 0, 2 => .num d.st.code
  | 0, 3 => .num (d.vd.getD 0xFFFF)
  | 0, 4 => .num (if d.quarantined then 1 else 0)
  | 0, 5 => .num d.since
  | 0, 6 => .num d.exclusion
  | 1, 1 => .num d.op
  | 1, 2 => .num d.safe
  | 1, 3 => .num d.trivetCap
  | 1, 4 => .num d.ivrCap
  | 2, 1 => .num d.powerW
  | 2, 2 => .oct ((List.range 4).flatMap (fun q => bytesLE 1 (SMap.get zeroD d.phases q)))
  | 2, 3 => .num (if d.efuseOpen then 1 else 0)
  | 2, 4 => .oct ((List.range 64).flatMap (fun p => bytesLE 1 (s.excess d p)))
  | 3, 1 => .num (if d.powered then i32 d.control else 0)
  | 3, 2 => .oct (i32s 20 ((List.range 20).map d.sensor))
  | 3, 3 => .num (((List.range 16).map (fun i => d.mark i * 4 ^ i)).sum)
  | 4, 1 => .num sel
  | 4, 2 => .oct ((s.core (site * 272 + 17 * (sel / 256) + sel % 256)).stalls.flatMap (bytesLE 4))
  | 4, 3 => .oct ((List.range 10).flatMap (fun i =>
      bytesLE 8 (((s.siteCores site).map (fun k => (s.core k).stalls.getD i 0)).sum)))
  | 5, 1 => .num d.spadSbe
  | 5, 2 => .num d.spadDbe
  | 5, 3 => .num d.imemSbe
  | 5, 4 => .num d.lockstep
  | 5, 5 => .num d.checks
  | 5, 6 => .num d.rehearsals
  | 6, 1 => .num (s.lastingIn site)
  | 6, 2 => .num d.field.length
  | 6, 3 => .num d.lastFsr
  | 6, 4 => .num (d.frozenPairs.foldl setBit 0 +
      16 * min 4095 ((s.cores.filter (fun x => x.1 / 272 == site && x.2.frozen.isSome)).length))
  | 7, 1 => .num d.testDue
  | 7, 2 => .num d.lastPass
  | 7, 3 => .num d.corner
  | 8, 1 => .num (if d.hashing then 1 else 0)
  | 8, 2 => .oct ((List.range 16).flatMap (fun i => bytesLE 1 (d.spare i)))
  | 8, 3 => .num d.stallNs
  | 8, 4 => .oct ((List.range 3).flatMap (fun i => bytesLE 1 (SMap.get zeroD d.services i)))
  | _, _ => .num 0

/-- The phase differences to the neighbours of a hub, in the order +X, −X, +Y, −Y, zero where there is none (17 R488). -/
def meshPhases (h : Nat) (l : List Int) : List Int :=
  let has : List Bool := [decide (h % 4 < 3), decide (0 < h % 4), decide (h / 4 < 3), decide (0 < h / 4)]
  (List.range 4).map (fun i =>
    if has.getD i false then l.getD ((has.take i).filter id).length 0 else 0)

/-- An object of a hub's block. How a failed audit's imbalance divides among the cells is a free value within the bits
that the audit found (17 R488; log 5). -/
def State.hubObj (s : State) (h m sub : Nat) : ObjVal :=
  let x := s.hub h
  match m, sub with
  | 0, 1 => .oct (partSerial (144 + h))
  | 0, 2 => .num (if x.lost then 1 else 0)
  | 0, 3 => .num x.exclusion
  | 1, 1 => .oct (i32s 8 x.temps)
  | 2, 1 => .oct (i32s 4 (meshPhases h x.phase))
  | 2, 2 => .num (if x.restarting then 1 else if s.num Obj.TRIVET_PRIMARY = h then 2 else if h = 0 ∨ h = 15 then 3 else 0)
  | 3, 1 => .num ((Config.freeValue s.fresh).toNat &&& s.num Obj.AUDIT_LAST_IMBALANCE)
  | 3, 2 => .num x.retries
  | _, _ => .num 0

/-- An object of a port die's block. No command shows FEC codewords: their counts are free values (17 R489; log 5). -/
def State.portDieObj (s : State) (d m sub : Nat) : ObjVal :=
  let x := s.portDie d
  match m, sub with
  | 0, 1 => .oct (partSerial (160 + d))
  | 0, 2 => .num (if x.off then 1 else 0)
  | 1, 1 => .oct (i32s 4 x.temps)
  | 2, 1 => .oct ((List.range 16).flatMap (fun i => bytesLE 2 (s.port (16 * d + i)).flight))
  | 2, 2 => .oct (fit 128 (Config.freeBytes s.fresh))
  | 2, 3 => .oct ((List.range 16).flatMap (fun i => bytesLE 8 (SMap.get zeroD x.retries i)))
  | _, _ => .num 0

/-- An object of a stack's block (17 R490). -/
def State.stackObj (s : State) (i m sub : Nat) : ObjVal :=
  let x := s.stack i
  match m, sub with
  | 0, 1 => .num x.st
  | 0, 2 => .num x.exclusion
  | 1, 1 => .num (i32 x.temp)
  | 1, 2 => .num (if x.doubled then 1 else 0)
  | 2, 1 => .num x.e2e
  | 2, 2 => .num x.training
  | _, _ => .num 0

/-- The default of a block's object (17 R487 to R490). -/
def blockDefault (ix sub : Nat) : ObjVal :=
  let n := (if ix < 0xC900 then [[16], [], [0, 4, 0, 64], [0, 80], [0, 40, 80], [], [], [], [0, 16, 0, 3]]
    else if ix < 0xCB00 then [[16], [32], [16]] else if ix < 0xCC00 then [[16], [16], [32, 128, 128]] else []).getD (ix % 16) []
  let len := n.getD (sub - 1) 0
  if len ≠ 0 then .oct (List.replicate len 0)
  else if ix < 0xC900 ∧ ix % 16 = 0 then .num ([0, 2, 0xFFFF].getD (sub - 1) 0)
  else if ix < 0xC900 ∧ ix % 16 = 1 then .num (if sub ≤ 2 then 0 else 11)
  else if 0xCC00 ≤ ix ∧ ix % 16 = 0 ∧ sub = 1 then .num 1
  else .num 0

/-- An object of a block, or its default while the part has not passed its stage: S2 for compute dies, S1 for hubs and
port dies, S5 for stacks (17 R467, 16 R443). -/
def State.blockObj (s : State) (ix sub sel : Nat) : ObjVal :=
  let m := ix % 16
  if sub = 0 then .num ((blockSubs ix).foldl (fun n x => max n x.1) 0)
  else if ix < 0xC900 then
    if isCoreSelect (256 * ix + sub) then .num sel
    else if s.passedStage 2 then s.siteObj ((ix - 0xC000) / 16) m sub sel else blockDefault ix sub
  else if ix < 0xCB00 then if s.passedStage 1 then s.hubObj ((ix - 0xCA00) / 16) m sub else blockDefault ix sub
  else if ix < 0xCC00 then if s.passedStage 1 then s.portDieObj ((ix - 0xCB00) / 16) m sub else blockDefault ix sub
  else if s.passedStage 5 then s.stackObj ((ix - 0xCC00) / 16) m sub else blockDefault ix sub

/-- An object of a stage report (16 R444). -/
def State.stageRead (s : State) (ix sub : Nat) : ObjVal :=
  if sub = 0 then .num 6
  else if sub = 3 then .oct (fit 18 (s.octets (256 * ix + sub)))
  else if sub = 4 then .oct (fit 9 (s.octets (256 * ix + sub)))
  else .num (s.num (256 * ix + sub))

/-! ## Objects that the state gives -/

def flag (b : Bool) : ObjVal := .num (if b then 1 else 0)
def optNum (o : Option Nat) : ObjVal := .num (o.getD 0)
def maxInt (l : List Int) : Int := match l with | [] => 0 | x :: t => t.foldl max x
def countSites (s : State) (f : Die → Bool) : Nat := (allSites.filter (fun i => f (s.die i))).length
def maskOf (n : Nat) (f : Nat → Bool) : Nat := ((List.range n).filter f).foldl setBit 0

/-- Chapters 17 and 18: panel state, sessions, identity, keys, calibration (17 R491, 18 R509). -/
def State.objIdent (s : State) (k : Nat) : Option ObjVal :=
  if k = Obj.PANEL_SERIAL then some (.oct (fit 16 Config.panelSerial))
  else if k = Obj.PANEL_CERT then some (.oct (fit 256 Config.panelCert))
  else if k = Obj.PANEL_STATE then some (.num s.panel.code)
  else if k = Obj.PANEL_STATE_SINCE then some (.num s.panelSince)
  else if k = Obj.PANEL_STATE_PREV then some (.num s.panelPrev.code)
  else if k = Obj.SITE_STATES then some (.oct (allSites.flatMap (fun i => bytesLE 1 (s.die i).st.code)))
  else if k = Obj.SESSIONS_OPEN then
    let m := (s.access.sessions.filter (fun x => x.path != 2)).length
    some (.num (256 * min 255 m + min 255 (s.access.sessions.length - m)))
  else if k = Obj.SESSION_LIST then some (.oct (s.access.sessions.flatMap (fun x =>
    bytesLE 2 x.num ++ bytesLE 1 x.role ++ bytesLE 1 x.path ++ bytesLE 8 x.opened ++ bytesLE 4 0)))
  else if k = Obj.FROZEN_CREDENTIALS then some (.oct (s.access.frozen.flatMap (fun e =>
    bytesLE 1 (if e.1 then 1 else 2) ++ bytesLE 7 0 ++ bytesLE 8 e.2.1 ++ fit 48 e.2.2)))
  else if k = Obj.CAL_DIGEST then some (.oct s.calDigest)
  else if k = Obj.CAL_DIGEST_STORED then some (.oct s.calDigestStored)
  else if k = Obj.CAL_DEFAULT_DIES then some (.num s.calDefaults)
  else if k = Obj.VENDOR_KEY_DIGESTS then some (.oct (fit 144 Config.vendorKeyDigests))
  else if k = Obj.ROLE_KEYS then some (.oct ((List.range 16).flatMap (fun i =>
    let e := s.roleKey i
    if e.1 = 255 then List.replicate 104 0 else bytesLE 1 e.1 ++ bytesLE 6 0 ++ fit 97 e.2)))
  else if k = Obj.OWNER_KEYS then some (.oct ((List.range 8).flatMap (fun i =>
    bytesLE 2 i ++ bytesLE 5 0 ++ fit 97 (SMap.get noB s.access.ownerKeys i))))
  else if k = Obj.SE_STATE then some (.num s.access.halves)
  else if k = Obj.SIGNATURES then some (.num s.access.signCount)
  else none

/-- Chapters 13 and 14: power and cooling (13 R389, 14 R410). VIN samples of 0 stand for slots without one. -/
def State.objPower (s : State) (k : Nat) : Option ObjVal :=
  let vin := s.power.vinHist.filter (fun x => x.2 != 0)
  if k = Obj.VIN_MIN_MV then some (.num (match vin with | [] => 0 | x :: t => t.foldl (fun m y => min m y.1) x.1))
  else if k = Obj.VIN_MAX_MV then some (.num (vin.foldl (fun m y => max m y.2) 0))
  else if k = Obj.IVR_PHASES_DISABLED then some (.num ((allSites.map (fun i => (s.die i).phaseOff.length)).sum))
  else if k = Obj.IVR_DIES_CAPPED then some (.num (countSites s (fun d => decide (d.ivrCap < 11))))
  else if k = Obj.POWERON_QUEUE then some (.num s.power.queue.length)
  else if k = Obj.TEMP_DIE_MAX then some (.num (i32 (maxInt ((allSites.filter (fun i => (s.die i).powered)).map (fun i => (s.die i).control)))))
  else if k = Obj.TEMP_HUB_MAX then some (.num (i32 (maxInt ((List.range 16).flatMap (fun i => (s.hub i).temps)))))
  else if k = Obj.TEMP_STACK_MAX then some (.num (i32 (maxInt ((List.range 48).map (fun i => (s.stack i).temp)))))
  else if k = Obj.TEMP_PORT_MAX then some (.num (i32 (maxInt ((List.range 8).flatMap (fun i => (s.portDie i).temps)))))
  else if k = Obj.SENSOR_SUSPECT_PAIRS then some (.num ((allSites.map (fun i =>
    ((List.range 8).filter (fun h => (s.die i).mark (2 * h) == 1 || (s.die i).mark (2 * h + 1) == 1)).length)).sum))
  else if k = Obj.SENSOR_FAILED then some (.num ((allSites.map (fun i =>
    ((List.range 16).filter (fun h => (s.die i).mark h == 2)).length)).sum))
  else if k = Obj.COOLANT_REPORT_AGE_MS then some (.num ((s.time - s.thermal.reported) / 1000000))
  else if k = Obj.COOL_OK_STATE then some (flag s.pins.coolOk)
  else if k = Obj.THERMAL_BUDGET_W then some (.num (s.thermal.ptherm / 1000))
  else none

/-- Object 2810.06: 0 normal, 1 degraded, 2 quench, 3 compute rails off (14 R410). -/
def State.coolingState (s : State) : Nat :=
  match s.thermal.quench with
  | some q => if q.stage = 1 then 2 else 3
  | none => if s.thermal.degraded then 1 else 0

/-- Chapter 2: frames, time and clocks (02 R58). -/
def State.objTime (s : State) (k : Nat) : Option ObjVal :=
  let kind (i : Nat) : Nat := match s.slots.posted[i]? with | some d => d.kind.code | none => 0
  if k = Obj.TIME_NOW then some (.num s.time)
  else if k = Obj.TIME_SOURCE then some (.num s.mesh.src)
  else if k = Obj.REFCLK_A_OK then some (flag s.mesh.okA)
  else if k = Obj.REFCLK_B_OK then some (flag s.mesh.okB)
  else if k = Obj.SLOT_NOW then some (.num (s.time / s.period))
  else if k = Obj.SLOT_KIND then some (.num s.slots.kind.code)
  else if k = Obj.STRETCH_ACTIVE then some (flag (s.slots.stretchOn && decide (s.slots.stretchFrom ≤ s.slots.slot)))
  else if k = Obj.SLOT_KIND_NEXT then some (.num (256 * kind 1 + kind 0))
  else if k = Obj.SLACK_PEAK then some (.num (s.slots.slackHist.foldl max 0))
  else if k = Obj.OP_FLOOR then some (.num (match s.prog with | some p => p.floor | none => 0))
  else if k = Obj.OP_STRETCH_FLOOR then some (.num (match s.prog with | some p => p.stretch | none => 255))
  else if k = Obj.OP_NEXT_CHANGE then some (.num s.slots.opAt)
  else none

/-- Chapters 9 and 12: the network, the fabric (09 R258, 12 R364). -/
def State.objNet (s : State) (k : Nat) : Option ObjVal :=
  if k = Obj.ROUTE_EPOCH then some (flag s.net.epochB)
  else if k = Obj.ROUTE_VERSION_STATE then some (.num s.net.invState)
  else if k = Obj.ROUTE_FLIP_TIME then some (.num s.net.flipAt)
  else if k = Obj.ROUTE_OLD_EPOCH_FLITS then some (.num s.net.oldFlits)
  else if k = Obj.ROUTE_DIGEST then
    let r := s.net.route s.net.epochB
    some (.oct (sha384 (Config.routeBytes ((List.range s.gridV).map r.site) ((List.range 48).map r.stackOf)
      (allSites.flatMap (fun i => (List.range 16).map (r.spare i)))
      (r.streams.map (fun x => (x.stream, x.src, x.dst, x.first, x.count))) (r.copies.map (fun x => (x.vcore, x.ch, x.sinks))))))
  else if k = Obj.STREAM_COUNT then some (.num s.net.streams.length)
  else if k = Obj.STREAM_RESERVED_PEAK then
    let l := (s.net.route s.net.epochB).streams
    some (.num (l.foldl (fun m q =>
      max m (100 * ((l.filter (fun y => y.src == q.src && y.dst == q.dst)).map (fun y => y.count)).sum /
        (if 100 ≤ q.src ∨ 100 ≤ q.dst then 1024 else 1536))) 0))
  else if k = Obj.PACKET_MAX_LATENCY_NS then some (.num (s.net.latMax.foldl max 0))
  else if k = Obj.PORT_UP then some (.oct (bytesLE 16 (maskOf 128 (fun i => (s.port i).up))))
  else if k = Obj.LINK_MODE then some (.oct ((List.range 4).flatMap (fun d => bytesLE 1 (s.linkMode d))))
  else if k = Obj.FEC_UNCORRECTED then some (.num (Config.freeValue s.fresh).toNat)
  else if k = Obj.EXP_MAX_LATENCY_NS then some (.num (s.fabric.expMax.foldl max 0))
  else if k = Obj.REQUESTS_HELD then some (.num s.fabric.held.length)
  else none

/-- Chapter 8: stacks, queues, the larder (08 R229). -/
def State.objHbm (s : State) (k : Nat) : Option ObjVal :=
  if k = Obj.HBM_STACKS_OK then some (.num (maskOf 48 (fun i => (s.stack i).st == 0)))
  else if k = Obj.HBM_VISIBLE_MIB then some (.num (92160 * ((List.range 48).filter (fun i => (s.stack i).st == 0)).length))
  else if k = Obj.HBM_REFRESH_DOUBLED then some (.num (maskOf 48 (fun i => (s.stack i).doubled)))
  else if k = Obj.HBM_VSTACK_MAP then
    some (.oct ((List.range 48).flatMap (fun v => bytesLE 1 ((s.net.route s.net.epochB).stackOf v))))
  else if k = Obj.QUEUE_MAX_COMPLETION_NS then some (.num (s.net.qMax.foldl max 0))
  else if k = Obj.KV_PAGES_FREE then some (.num s.larder.kvFree)
  else if k = Obj.KV_PAGES_PENDING then some (.num ((s.larder.kvPending.map (fun x => x.2)).sum))
  else if k = Obj.LARDER_INTERVAL then some (.num (match s.prog with | some p => p.k | none => 64))
  else if k = Obj.LARDER_RESUME_FRAME then some (.num (match s.larder.committed with | some c => c.resume | none => 0))
  else if k = Obj.LARDER_DIGEST then some (.oct (fit 48 (match s.larder.committed with | some c => c.digest | none => [])))
  else if k = Obj.LARDER_STRIPES_DEGRADED then some (.num s.larder.degraded)
  else if k = Obj.LARDER_COPY_HOLD_PEAK then some (.num (s.larder.holdHist.foldl max 0))
  else if k = Obj.RETAIN_DEPTH then some (.num (match s.prog with | some p => p.rd | none => 66))
  else if k = Obj.RETAIN_OLDEST_FRAME then some (.num (match s.larder.retained.map (fun x => x.2 - 1) with | [] => 0 | x :: t => t.foldl min x))
  else none

/-- Replay dies: WARM-SPAREs that are no reserved target, at most 16 (10 R276). -/
def State.replayDies (s : State) : Nat :=
  min 16 (allSites.filter (fun i => (s.die i).st == .warmSpare && !(s.die i).quarantined && !s.reserved.contains i)).length

/-- Chapters 6, 10 and 11: scratchpads, checking, the program (06 R172, 10 R294, 11 R325). -/
def State.objProg (s : State) (k : Nat) : Option ObjVal :=
  let p : Prog := s.prog.getD { rBearing := false }
  if k = Obj.PROGRAM_DIGEST then some (.oct s.progDigest)
  else if k = Obj.PROGRAM_V then some (.num p.v)
  else if k = Obj.PROGRAM_W then some (.num (if s.prog.isSome then p.w else 0))
  else if k = Obj.PROGRAM_R_BEARING then some (flag p.rBearing)
  else if k = Obj.PROGRAM_OWNER_SIGNED then some (flag p.ownerSigned)
  else if k = Obj.PROGRAM_LOAD_TIME then some (.num p.loadTime)
  else if k = Obj.STAGE_DIGEST then some (.oct (sha384 (readBytes s.stage 0 (s.num Obj.STAGE_LENGTH))))
  else if k = Obj.PLACEMENT then some (.oct ((List.range 128).flatMap (fun n =>
    bytesLE 2 (if n < s.gridV then (s.net.route s.net.epochB).site n else 0xFFFF))))
  else if k = Obj.SPAD_HASH_DIES then some (.num (countSites s (fun d => d.powered && d.hashing)))
  else if k = Obj.CHECK_FALLBACK then some (.num p.fallback)
  else if k = Obj.CERT_LAST then some (.oct s.checks.lastCert)
  else if k = Obj.CHAIN_HEAD then some (.oct (fit 48 (if s.prog.isSome then s.chainHead else [])))
  else if k = Obj.CHAIN_HEAD_ENTRY then some (.num s.lastEntry)
  else if k = Obj.CHAIN_ROOT then some (.oct (fit 48 s.checks.root))
  else if k = Obj.CERT_SUSPENDED then some (flag (s.access.halves == 0))
  else if k = Obj.R_WINDOW then
    some (.num (if s.prog.isSome then replayW p.v s.replayDies + s.checks.regrow else 17))
  else if k = Obj.R_REPLAY_DIES then some (.num s.replayDies)
  else if k = Obj.R_FINAL_FRAME then some (optNum s.checks.finalFrame)
  else none

/-- Object 8010.01: 0 none, 1 replay, 2 migration, 3 rollback, 4 HOLD, 5 SAFE (15 R431, R439). -/
def State.recoveryLevel (s : State) : Nat :=
  if s.panel = .safe then 5
  else if s.recovery.roll.isSome then 3
  else if !s.recovery.migs.isEmpty then 2
  else if s.panel = .hold then 4
  else if 0 < s.slots.attempts then 1
  else 0

/-- Chapters 15 and 16: recovery, bring-up, firmware, field test (15 R439, 16 R461). -/
def State.objRecovery (s : State) (k : Nat) : Option ObjVal :=
  if k = Obj.RECOVERY_LEVEL then some (.num s.recoveryLevel)
  else if k = Obj.FROZEN_CORES then some (.num ((s.cores.filter (fun x => x.2.frozen.isSome)).length))
  else if k = Obj.QUARANTINED_SITES then some (.oct (bytesLE 18 (maskOf 144 (fun i => (s.die i).quarantined))))
  else if k = Obj.SPARES_WARM then some (.num (countSites s (fun d => d.st == .warmSpare)))
  else if k = Obj.SPARES_COLD then some (.num (countSites s (fun d => d.st == .coldSpare && d.usable)))
  else if k = Obj.MIGRATIONS_PENDING then some (.num s.recovery.reqs.length)
  else if k = Obj.BRINGUP_STAGE then some (.num (s.bringup.stage.getD 0xFF))
  else if k = Obj.BRINGUP_HALTED then some (flag s.bringup.halted)
  else if k = Obj.MAP_SEQ then some (.num s.bringup.mapSeq)
  else if k = Obj.MAP_IMAGE then some (.oct s.mapImage)
  else if k = Obj.FW_SERIES then some (.num (fwSeries s.fwRun))
  else if k = Obj.FW_RELEASE then some (.num (fwRelease s.fwRun))
  else if k = Obj.FW_DIGEST then some (.oct s.fwDigest)
  else if k = Obj.FW_UPDATED_PARTS then some (.num s.updated)
  else if k = Obj.DIES_IN_TEST then some (.num (countSites s (fun d => d.st == .test)))
  else if k = Obj.TEST_OVERDUE then some (.num (countSites s (fun d => decide (d.testDue < s.time))))
  else if k = Obj.COOLING_STATE then some (.num s.coolingState)
  else none

/-- The value of an object that is no session's own. -/
def State.sharedVal (s : State) (k : Nat) : ObjVal :=
  match s.objIdent k with
  | some v => v
  | none => match s.objPower k with
    | some v => v
    | none => match s.objTime k with
      | some v => v
      | none => match s.objNet k with
        | some v => v
        | none => match s.objHbm k with
          | some v => v
          | none => match s.objProg k with
            | some v => v
            | none => match s.objRecovery k with
              | some v => v
              | none => s.obj k

/-! ## Objects of a session -/

/-- The selectors that a session keeps (17 R475, 18 R509). -/
def isSelector (k : Nat) : Bool :=
  k == Obj.DIE_CERT_SELECT || k == Obj.FRAME_RECORD_SELECT || k == Obj.FSR_SELECT || k == Obj.CAL_SELECT || isCoreSelect k

def Session.selOf (x : Session) (k : Nat) : Nat := SMap.get zeroD x.sel k

/-- Index 7010.05 as a quote gives it, and the quote (18 R499). -/
def State.quoteBody (s : State) (nonce : Bytes) : Bytes :=
  let loaded := s.prog.isSome
  [0x48, 0x47, 0x4E, 0x41] ++ bytesLE 2 1 ++
  bytesLE 2 ((if loaded then 1 else 0) + (if s.calDefaults = 0 then 0 else 2) + (if s.bringup.fwStep = 0 then 0 else 4)) ++
  fit 16 Config.panelSerial ++ fit 32 nonce ++ bytesLE 8 s.time ++ s.fwDigest ++ s.calDigest ++ s.progDigest ++
  sha384 s.mapImage ++ bytesLE 4 s.bringup.mapSeq ++ bytesLE 1 s.panel.code ++ bytesLE 1 s.grade ++ bytesLE 2 0 ++
  bytesLE 8 s.lastEntry ++ fit 48 (if loaded then s.chainHead else []) ++
  (match loaded, s.sharedVal Obj.PLACEMENT with
    | true, .oct b => sha384 b
    | _, _ => List.replicate 48 0)

/-- What a read of an object gives, or the code that it is refused with (17 R476). An object whose Default is a dash reads as
log 1 says until something is recorded: 2830.01 QUENCH_RECORD no bytes, B020.01 QUOTE_NONCE 32 zero bytes (00 R5). -/
def State.readVal (s : State) (x : Session) (k : Nat) : Except Nat ObjVal :=
  let ix := k / 256
  if 0xA100 ≤ ix ∧ ix ≤ 0xA10A then .ok (s.stageRead ix (k % 256))
  else if 0xC000 ≤ ix then .ok (s.blockObj ix (k % 256) (x.selOf (k / 4096 * 4096 + 0x401)))
  else if k % 256 = 0 then .ok (.num ((subsOf ix).foldl max 0))
  else if isSelector k then .ok (.num (x.selOf k))
  else if k = Obj.SESSION_SELF then .ok (.num (65536 * x.num + x.role))
  else if k = Obj.DIE_CERT then .ok (.oct (fit 256 (Config.dieCert (x.selOf Obj.DIE_CERT_SELECT))))
  else if k = Obj.CAL_SET then .ok (.oct (fit 1024 (s.calSet (x.selOf Obj.CAL_SELECT))))
  else if k = Obj.CAL_STATUS then .ok (.num (SMap.get zeroD s.access.calStatus (x.selOf Obj.CAL_SELECT)))
  else if k = Obj.CAL_EXPORTED then .ok (.num (SMap.get zeroD s.access.calExported (x.selOf Obj.CAL_SELECT)))
  else if k = Obj.FRAME_RECORD then
    match s.checks.recs.find? (fun r => r.1 == x.selOf Obj.FRAME_RECORD_SELECT) with
    | some r => .ok (.oct r.2)
    | none => .error 0x04
  else if k = Obj.FSR_RECORD then
    match s.recovery.fsr.find? (fun r => field r 8 8 == x.selOf Obj.FSR_SELECT) with
    | some r => .ok (.oct r)
    | none => .error 0x04
  else if k = Obj.QUOTE_NONCE then .ok (.oct (fit 32 (x.nonce.getD [])))
  else if k = Obj.QUOTE then
    match x.nonce with
    | none => .error 0x06
    | some n =>
      if s.access.halves = 0 then .error 0x07
      else
        let b := s.quoteBody n
        .ok (.oct (b ++ fit 96 (Config.sign 0 b)))
  else .ok (s.sharedVal k)

/-- A value in the bytes of its type (17 R463). -/
def ObjTy.encode (t : ObjTy) (v : ObjVal) : Bytes :=
  match t.size, v with
  | some n, .num v => bytesLE n v
  | some n, .oct b => fit n b
  | none, .num _ => []
  | none, .oct b => b

end Sys2Proof.Machine
end

