-- ==== Sys2Proof/Machine/Loader.lean ====
section
/-! DEFINITION. The load's start, its writing steps and its failure, the start and the unload (11 R318 to R324). -/

namespace Sys2Proof.Machine

/-! ## The command (11 R318) -/

/-- The result of a load: code, detail, section (11 R325). -/
def State.loadResult (s : State) (code detail sec : Nat) : State :=
  ((s.setNum Obj.LOAD_RESULT code).setNum Obj.LOAD_DETAIL (detail % 2 ^ 32)).setNum Obj.LOAD_SECTION sec

/-- LOAD_COMMAND 1: the checks of R319 in order. An image that passes them is being written from then on, and its placed
dies that are COLD-SPARE wait for power (11 R318, R321 step 1, 14 R404, 17 R484). -/
def State.cmdLoad (s : State) : Except Nat State :=
  if 2 ≤ s.coolingState then .error 0x08
  else if s.loading.isSome then .error 0x07
  else match s.checkImage (readBytes s.stage 0 (s.num Obj.STAGE_LENGTH)) with
    | .inl bad => .ok (s.loadResult bad.code bad.detail bad.sec)
    | .inr l =>
      let s := s.setNum Obj.LOAD_RESULT 0xFFFF
      .ok { (l.place.foldl (fun s i => s.wantPower i) s) with loading := some l }

/-! ## The writing steps (11 R321) -/

/-- A die in TEST that the loader takes heads the test queue (16 R460). -/
def State.stopForLoad (s : State) (site : Nat) : State :=
  if (s.die site).st = .test then
    { s with bringup := { s.bringup with testQ := site :: s.bringup.testQ.filter (fun i => i != site) } }
  else s

/-- Steps 2, 3 and 5 on one die: wheel mode, ACTIVE, its instruction memories and its scratchpads. -/
def State.placeDie (s : State) (p : Prog) (site vd : Nat) : State :=
  let s := ((((s.stopForLoad site).abandonRep site).clearCores site).setHashing site false).dieEnter site .active
  let s := s.updDie site (fun d => { d with
    vd := some vd, corner := 0, after := 0, op := min d.safe p.floor, spadSbe := 0, spadDbe := 0, imemSbe := 0
    checks := 0, rehearsals := 0, rehearsedFrame := none, services := [], stallHist := [], floorRun := 0 })
  (s.writeCode p site vd).writeLoadCopy p site vd

/-- The multicast copy tables of a program: for each multicast channel the cores that take a copy (09 R249, 07 R183). -/
def Prog.copies (p : Prog) : List Copies :=
  p.bindings.flatMap (fun b => (b.2.filter (fun x => x.kind == 5)).map (fun x =>
    { vcore := b.1, ch := x.ch % 16, sinks := mcastSpan (x.flags / 2 % 2 == 1) x.peer x.spanEnd b.1 }))

/-- The streams of a load with the engines that the loader pairs: each die takes its engines in the order of the streams
(09 R244). -/
def pairEngines (l : List Stream) : List Stream :=
  (List.range l.length).map (fun i =>
    let x := l.getD i {}
    let used (n : Nat) : Nat := ((l.take i).map (fun y => (if y.srcVd = n then 1 else 0) + if y.dstVd = n then 1 else 0)).sum
    { x with txEng := used x.srcVd, rxEng := used x.dstVd + if x.srcVd = x.dstVd then 1 else 0 })

/-- The route version that a load writes (11 R321 step 4). -/
def State.loadRoute (s : State) (place : List Nat) (streams : List Stream) (copies : List Copies) : Route :=
  { streams := reservePairs (place.getD · 144) streams
    copies := copies
    dieMap := (List.range place.length).foldl (fun m n => SMap.put (fun _ => 144) m n (place.getD n 144)) []
    coreMap := allSites.foldl (fun m i => (List.range 16).foldl (fun m r => SMap.put (fun _ => 16) m (16 * i + r) ((s.die i).spare r)) m) [] }

/-- The counters that the object tables give as since load, and the cause of HOLD (17 R480). -/
def sinceLoad : List Nat :=
  [Obj.OVERRUN_COUNT, Obj.REPLAY_COUNT, Obj.SPAD_SBE_COUNT, Obj.SPAD_DBE_COUNT, Obj.SHRD_MERGED, Obj.RING_WAIT_EVENTS,
   Obj.CH_SEND_HOLD_CYCLES, Obj.CH_MCAST_MESSAGES, Obj.CH_WINDOW_VIOLATIONS, Obj.LADLE_COMPLETIONS, Obj.DEADLOCK_SUSPECTS,
   Obj.HBM_E2E_ERRORS, Obj.QUEUE_DESC_FAULTS, Obj.QUEUE_BOUND_EXCEEDED, Obj.ROUTE_FLIP_COUNT, Obj.AUDIT_FAIL_COUNT,
   Obj.LATE_DISCARDS, Obj.HEADER_FAULTS, Obj.STREAM_DIGEST_FAILS, Obj.PACKET_BOUND_EXCEEDED, Obj.RESIDUE_MISMATCHES,
   Obj.DUP_MISMATCHES, Obj.INEXACT_E_TILES, Obj.PROMOTED_REPLAYS, Obj.R_REPLAYS_PASSED, Obj.R_REPLAYS_FAILED,
   Obj.R_CAPTURE_DROPS, Obj.REHEARSAL_COUNT, Obj.REHEARSAL_MISSES, Obj.COLL_EMPTY_SLOTS, Obj.COLL_RESENDS,
   Obj.PREBOOST_COUNT, Obj.GOVERNOR_PEAK_HOLDS, Obj.ROTATIONS, Obj.ROLLBACK_COUNT, Obj.LOST_LEDGER_FLITS,
   Obj.PROGRAM_FAULTS, Obj.UNRESOLVED_FAULTS, Obj.MIGRATIONS, Obj.MIGRATIONS_CANCELLED, Obj.STRAGGLER_SWAPS,
   Obj.HOLD_CAUSE]

/-- Step 6: the content that the image carries is written, each line with its check. -/
def State.writeContent (s : State) (l : List (Nat × Bytes)) : State :=
  l.foldl (fun s x => { s with
    hbm := writeBytes s.hbm x.1 x.2
    hbmBad := SMap.clearRange (SMap.clearRange s.hbmBad (badKey (x.1 / 2 ^ 37) (x.1 % 2 ^ 37))
        (badKey (x.1 / 2 ^ 37) (x.1 % 2 ^ 37) + (x.2.length + 63) / 64))
      (ownKey (x.1 / 2 ^ 37) (lineGroup (x.1 % 2 ^ 37 / 64)))
      (ownKey (x.1 / 2 ^ 37) (lineGroup ((x.1 % 2 ^ 37 + x.2.length + 63) / 64) + 1)) }) s

/-- Steps 6 and 7: the services run on the die of virtual die 0, with the whole KV region free (11 R314; log 33). -/
def State.startServices (s : State) (p : Prog) : State :=
  let s := match (s.net.a.dieMap.head?) with
    | some e => s.updDie e.2 (fun d => { d with services := [(0, 0x07), (1, 0x38), (2, 0xC0)] })
    | none => s
  let kv := match p.regions[p.services.region]? with | some r => r.len / 2 ^ p.services.pageLog | none => 0
  { s with larder := { kvFree := kv } }

/-- Step 8: checkpoint −1, committed (08 R223). -/
def State.firstCheckpoint (s : State) (p : Prog) : State :=
  let c := s.checkpoint p 0
  (s.writeCk p c).commit (c.coded p)

/-- The chain root of a load (10 R288). -/
def chainRoot (digest : Bytes) (time : Nat) : Bytes := sha384 (digest ++ fit 16 Config.panelSerial ++ bytesLE 8 time)

/-- Steps 2 to 9: the dies, both route versions with epoch A active, the memories, the services, checkpoint −1, LOADED.
The links exchange concord records (12 R339); COOL_OK is checked from here on (19 R519). -/
def State.finishLoad (s : State) (l : Loading) : State :=
  let p : Prog := { l.prog with loadTime := s.time }
  let s := { s with prog := some p, loading := none }
  let s := (List.range l.place.length).foldl (fun s n => s.placeDie p (l.place.getD n 144) n) s
  let streams := pairEngines l.streams
  let r := s.loadRoute l.place streams p.copies
  let s := { s with
    net := { a := r, b := r, streams := (List.range streams.length).map (fun i => (i, streams.getD i {})) }
    slots := { slot := s.slots.slot, tag := s.slots.tag }
    hbmStacks := SMap.mapV stackD (fun (x : Stack) => { x with e2e := 0 }) s.hbmStacks
    recovery := { lastRecon := s.recovery.lastRecon, fsr := s.recovery.fsr } }
  let s := (l.place.foldl (fun s i => s.ledCreate i 2 (16 * 1280)) s.giveCredits).writeContent l.content
  let s := (s.startServices p).firstCheckpoint p
  let s := sinceLoad.foldl (fun s k => s.setNum k 0) s
  let root := chainRoot p.digest s.time
  let s := { s with
    checks := { lastCert := s.checks.lastCert, lastRevoke := s.checks.lastRevoke, root := root, head := root, certN := s.num Obj.CERT_INTERVAL }
    fabric := { s.fabric with
      finalSeq := 0, revokeSeq := 0, certSeq := 0, collSent := [], collNext := [], landed := [], emptySince := none } }
  let s := ((s.loadResult 0 0 0xFFFF).count Obj.LOAD_COUNT).setNum Obj.PLACEMENT_RULE_OVERFLOWS l.overflows
  let s := (s.enter .loaded).reConcord
  if s.pins.coolOk then s else s.quench 1

/-! ## A fault during the writing steps (11 R321) -/

/-- A die that the load touched: WARM-SPARE, and at the head of the test queue where it was in TEST. Its scratchpads hold
zero or the image that step 5 wrote: which is a free value (log 5). A die that has not been powered was not touched. -/
def State.returnDie (s : State) (p : Prog) (image : Bool) (site vd : Nat) : State :=
  let d := s.die site
  if d.powered && (d.st == .warmSpare || d.st == .test) then
    let s := ((s.stopForLoad site).setHashing site false).clearSpads site
    let s := if d.st = .test then s.dieEnter site .warmSpare else s
    let s := s.updDie site (fun d => { d with corner := 0 })
    if image then s.writeLoadCopy p site vd else s
  else { s with power := { s.power with queue := s.power.queue.filter (fun i => i != site) } }

/-- The content of every region that the image carries is not defined: free bytes (log 5). -/
def State.spoil (s : State) (l : List (Nat × Bytes)) : State :=
  l.foldl (fun s x =>
    let r := s.drawBytes
    { r.2 with hbm := writeBytes r.2.hbm x.1 (fit x.2.length r.1) }) s

/-- The load ends with 0x0A01 and the panel stays in READY. -/
def State.failLoad (s : State) (l : Loading) (detail : Nat) : State :=
  let r := s.draw
  let s := { r.2 with loading := none }
  let s := (List.range l.place.length).foldl (fun s n => s.returnDie l.prog (r.1.getLsbD 0) (l.place.getD n 144) n) s
  let core := (s.loadRoute [] [] []).coreMap
  let s := { s with net := { s.net with a := { coreMap := core }, b := { coreMap := core }, streams := [] } }
  (s.spoil l.content).loadResult 0x0A01 detail 0xFFFF

/-- A placed die that can no longer take its virtual die. -/
def State.lostPlace (s : State) (l : Loading) : Option Nat :=
  l.place.find? (fun i => !(s.die i).usable || (s.die i).st == .active)

/-- Every placed die is powered. -/
def State.allPowered (s : State) (l : Loading) : Bool := l.place.all (fun i => (s.die i).powered && (s.die i).st != .coldSpare)

/-- The regions of the program whose preloaded content has changed since the checks (11 R307, R321 step 6). -/
def State.preloadChanged (s : State) (l : Loading) : Bool :=
  l.preload.any (fun x => match l.prog.regions[x.1]? with
    | some r => sha384 (s.hbmRead r.vstack r.off r.extent) != x.2
    | none => true)

/-- LOAD_COMPLETE: the writing steps finish, once every placed die is powered; a fault at a site ends the load. For a
preloaded region that has changed the manual gives no site: the detail is a free value (11 R321; log 5). -/
def execLoadComplete (faultSite : Option Nat) (s : State) : Host.Outcome State Fault Refusal :=
  onPart (match faultSite with | some i => decide (i < 144) | none => true) (match s.loading with
    | none => s
    | some l =>
      if s.panel != .ready then s
      else match faultSite, s.lostPlace l with
        | some i, _ => s.failLoad l i
        | none, some i => s.failLoad l i
        | none, none =>
          if !s.allPowered l || s.thermal.quench.isSome then s
          else if s.preloadChanged l then let r := s.draw; r.2.failLoad l (r.1.toNat % 2 ^ 32)
          else s.finishLoad l)

/-! ## Start and unload (11 R322, R323, 17 R483) -/

/-- LOAD_COMMAND 2: the program starts at the first PROGRAM slot posted from now on. -/
def State.cmdStart (s : State) : Except Nat State :=
  if 2 ≤ s.coolingState then .error 0x08
  else if s.slots.pUnload then .error 0x07
  else .ok { s with slots := { s.slots with pStart := true } }

/-- LOAD_COMMAND 3: the program is unloaded at the next boundary. -/
def State.cmdUnload (s : State) : Except Nat State :=
  if s.slots.pStart || s.slots.pResume then .error 0x07
  else .ok { s with slots := { s.slots with pUnload := true } }

/-! ## Staging (11 R317, R325, 16 R455) -/

/-- Bytes of a program image written at STAGE_OFFSET, which advances. A staged firmware image is cleared; while a live
update writes it to flash the area is not free (16 R453, R455). -/
def State.cmdStage (s : State) (b : Bytes) : Except Nat State :=
  if s.bringup.fwStep = 2 then .error 0x07
  else
    let o := s.num Obj.STAGE_OFFSET
    let s := { s with stage := writeBytes s.stage o b, fwStage := [] }
    .ok ((s.setNum Obj.STAGE_OFFSET (o + b.length)).setNum Obj.STAGE_LENGTH (max (s.num Obj.STAGE_LENGTH) (o + b.length)))

/-- The staged program image cleared. -/
def State.clearStage (s : State) : State :=
  ({ s with stage := [] }.setNum Obj.STAGE_LENGTH 0).setNum Obj.STAGE_OFFSET 0

/-- Bytes of a firmware image written at FW_STAGE_OFFSET, which advances; a staged program image is cleared. -/
def State.cmdFwStage (s : State) (b : Bytes) : Except Nat State :=
  if s.bringup.fwStep = 2 then .error 0x07
  else
    let o := s.num Obj.FW_STAGE_OFFSET
    let s := s.clearStage
    .ok ({ s with fwStage := writeBytes s.fwStage o b }.setNum Obj.FW_STAGE_OFFSET (o + b.length))

end Sys2Proof.Machine
end

