-- ==== Sys2Proof/Machine/Commands.lean ====
section
/-! DEFINITION. What a write to each object does once it has passed the checks on type, range and state: commands,
settings with an effect, keys, calibration sets (17 R480 to R486, 15 R414, R415, R428, 16 R440, R453, R455, R456,
18 R497, R498, R507, 12 R339, R364, 13 R383, 14 R400, 10 R290). An answer is the abort code INTERLOCK or BUSY, or the next
state. -/

namespace Sys2Proof.Machine

/-! ## HOLD and resume (17 R480, R483, R484) -/

/-- PANEL_COMMAND 1. -/
def State.cmdHold (s : State) : Except Nat State := .ok { s with slots := { s.slots with pHold := true } }

/-- The interlocks of a resume (17 R484). -/
def State.resumeLocked (s : State) : Bool :=
  s.cores.any (fun x => x.2.frozen.isSome) || decide (s.grade < s.gridV) || decide (2 ≤ s.coolingState) ||
  s.recoveryLevel == 2 || s.recoveryLevel == 3

/-- PANEL_COMMAND 2. -/
def State.cmdResume (s : State) : Except Nat State :=
  if s.resumeLocked then .error 0x08
  else if s.slots.pUnload then .error 0x07
  else .ok { s with slots := { s.slots with pResume := true } }

/-! ## Bring-up and resets (16 R440, R442, R449, 17 R480) -/

/-- BRINGUP_COMMAND 1. -/
def State.cmdBringup (s : State) : State := (s.enter .bringup).startBringup false

/-- BRINGUP_COMMAND 2: held requests end, then a warm reset; the fast path where R449 allows it. -/
def State.cmdWarmReset (s : State) : State :=
  let old := s.panel
  let fast := s.num Obj.FAST_PATH_ALLOWED == 1 && s.bringup.reachedS10 && s.bringup.powerKept
  let s := s.endHeld
  let rsp := s.fabric.responses
  let s := (s.panelReset 2 false).resetInto .bringup old
  let s := { s with fabric := { s.fabric with responses := rsp } }
  s.startBringup fast

/-- BRINGUP_COMMAND 3: the compute dies are switched off, the ports leave full rate, and the panel enters SIMMER. -/
def State.cmdSimmer (s : State) : Except Nat State :=
  if s.loading.isSome || s.bringup.fwStep != 0 then .error 0x07
  else
    let s := allSites.foldl (fun s i =>
      let d := s.die i
      if d.st = .dark ∨ d.st = .lost then s
      else
        let s := ((s.clearCores i).clearSpads i).abandonRep i
        let s := if d.st = .coldSpare then s else s.dieEnter i .coldSpare
        s.updDie i (fun d => { d with powered := false, op := 0, corner := 0, hashing := false })) s
    let off := s.num Obj.SIMMER_HBM == 0
    let s := { s with
      power := { s.power with queue := [], soft := none, deferred := false }
      fabric := { s.fabric with ports := [] }
      portDies := SMap.mapV portDieD (fun (p : PortDie) => { p with lane := 0, laneDown := false }) s.portDies
      hbm := if off then [] else s.hbm
      stage := if off then [] else s.stage
      fwStage := if off then [] else s.fwStage }
    .ok (((s.enter .simmer).meshLock).simmerStacks)

/-- BRINGUP_COMMAND. -/
def State.cmdBringupCommand (s : State) (v : Nat) : Except Nat State :=
  if v = 1 then .ok s.cmdBringup else if v = 2 then .ok s.cmdWarmReset else s.cmdSimmer

/-! ## Recovery from SAFE (15 R428) -/

/-- RECOVERY_COMMAND 1: each placed die waits for power; it is entered from LOADCOPY at the end of its soft-start. -/
def State.cmdRestart (s : State) : Except Nat State :=
  if s.num Obj.SAFE_CAUSE ≠ 4 then .error 0x08
  else if !s.recovery.restart.isEmpty then .ok s
  else
    let l := s.sites.filter (fun i => (s.die i).st == .active && !(s.die i).powered)
    .ok { s with
      recovery := { s.recovery with restart := l }
      power := { s.power with queue := s.power.queue ++ l.filter (fun i => !s.power.queue.contains i) } }

/-- RECOVERY_COMMAND 2. -/
def State.cmdDiscard (s : State) : Except Nat State :=
  let s := { s with
    power := { s.power with queue := s.power.queue.filter (fun i => !s.recovery.restart.contains i) }
    recovery := { s.recovery with restart := [] } }
  .ok (s.unloadNow.setNum Obj.SAFE_CAUSE 0)

/-! ## Firmware (16 R452, R453, R455) -/

/-- FW_COMMAND 2: the staged image is verified, and the update goes on with the write to flash. -/
def State.cmdLiveUpdate (s : State) : Except Nat State :=
  if s.bringup.fwStep ≠ 0 then .error 0x07
  else
    let b := s.fwStaged
    let f := fwFault b
    if f ≠ 0 then .ok (s.setNum Obj.FW_RESULT f)
    else if fwSeries b ≠ fwSeries s.fwRun ∨ fwSchema b ≠ fwSchema s.fwRun then .ok (s.setNum Obj.FW_RESULT 4)
    else
      let s := { s with
        dies := SMap.mapV dieD (fun (d : Die) => { d with newFw := false }) s.dies
        hubs := SMap.mapV hubD (fun (h : Hub) => { h with newFw := false, restarting := false }) s.hubs
        bringup := { s.bringup with lastRollout := 0 } }
      .ok (((s.setNum Obj.FW_RESULT 0xFFFF).setNum Obj.FW_UPDATE_STATE 1).fwNext 2)

/-- FW_COMMAND 3: the staged image is verified and written to flash; at S7, S7 starts again. `ok` is the read-back, after
the second try where the first failed (16 R455). -/
def State.cmdWriteOnly (s : State) (ok : Bool) : Except Nat State :=
  if s.bringup.fwStep ≠ 0 then .error 0x07
  else
    let b := s.fwStaged
    let f := fwFault b
    if f ≠ 0 then .ok (s.setNum Obj.FW_RESULT f)
    else if !ok then .ok ((s.setNum Obj.FW_RESULT 5).setNum Obj.FW_FLASH_VALID 0)
    else
      let s := ({ s with bringup := { s.bringup with fwImage := b } }.setNum Obj.FW_RESULT 0).setNum Obj.FW_FLASH_VALID 1
      .ok (if s.panel = .bringup then ({ s with bringup := { s.bringup with halted := false } }).stageStart 7 else s)

/-! ## Releases (15 R414, R415, 17 R478) -/

/-- A frozen core's retained state is discarded; the bundle that froze it is kept for the frame's replay (15 R415). -/
def State.thaw (s : State) (k : Nat) : State :=
  match (s.core k).frozen with
  | some z =>
    { s.setCore k {} with slots := { s.slots with thawed := s.slots.thawed ++ [((s.vcoreOf k).getD 0xFFFF, z.pc)] } }
  | none => s

/-- UNFREEZE_CORE: a global virtual core, or all. -/
def State.cmdUnfreezeCore (s : State) (v : Nat) : State :=
  if v = 0xFFFF then (s.cores.map (fun x => x.1)).foldl (fun s k => s.thaw k) s
  else match s.coreOf s.net.epochB v with
    | some k => s.thaw k
    | none => s

/-- UNFREEZE_PANEL (12 R343). -/
def State.cmdUnfreezePanel (s : State) (p : Nat) : State :=
  if s.panelFrozen p then s.setNum Obj.FROZEN_PANELS (s.num Obj.FROZEN_PANELS - 2 ^ p) else s

/-- UNFREEZE_CREDENTIAL: an entry of object 1020.04, counted from 0, or all of them and the sessions that a full table
froze. -/
def State.cmdUnfreezeCredential (s : State) (v : Nat) : State :=
  if v = 0xFFFF then
    { s with access := { s.access with
      frozen := [], sessions := s.access.sessions.map (fun x => { x with frozenFirst := false }) } }
  else { s with access := { s.access with frozen := s.access.frozen.eraseIdx v } }

/-- A site put at the head of the test queue. -/
def State.headTest (s : State) (site : Nat) : State :=
  { s with bringup := { s.bringup with testQ := site :: s.bringup.testQ.filter (fun i => i != site) } }

/-- QUARANTINE_RELEASE: a FROZEN die enters TEST, its masters released; a quarantined die loses its mark and goes to
TEST, and is no spare before it passes. Every other die is outside the command (15 R414, R415, 17 R484, R486). -/
def State.cmdRelease (s : State) (site : Nat) : Except Nat State :=
  let d := s.die site
  if d.st = .frozen then
    let s := ((s.clearCores site).dieEnter site .test).updDie site (fun d => { d with frozenPairs := [], haltedPairs := [], corner := 0 })
    .ok (s.headTest site)
  else if d.quarantined && d.st != .lost && d.st != .dark then
    .ok (((s.updDie site (fun d => { d with quarantined := false, after := 1, frozenPairs := [], haltedPairs := [] })).headTest site).mapWrite)
  else .error 0x08

/-- TEST_NOW: a die that can enter TEST goes to the head of the test queue (16 R456, 17 R484, R486). -/
def State.cmdTestNow (s : State) (site : Nat) : Except Nat State :=
  let d := s.die site
  let may := match d.st with
    | .active => true | .warmSpare => true | .coldSpare => true
    | .test => d.corner == 0
    | .frozen => false | .dark => false | .lost => false
  if may && !d.quarantined then .ok (s.headTest site) else .error 0x08

/-! ## Links (12 R339, 15 R433) -/

/-- LINK_BRINGUP of a direction, or of all: the settings take effect, lost links count from zero, and the ends exchange
records. -/
def State.cmdLinkBringup (s : State) (d : Nat) : State :=
  let dirs := if d = 255 then [0, 1, 2, 3] else [d]
  let s := (dirs.flatMap portsOf).foldl (fun s i =>
    if (s.port i).lost then s.updPort i (fun p => { p with lost := false, linked := p.up, missed := 0, sent := [], received := [], peerSent := [] })
    else s) s.takeSettings
  dirs.foldl (fun s d => s.sendConcord d) s

/-! ## Keys (18 R497, R498) -/

/-- The lowest free entry of the role table. -/
def State.freeRole (s : State) : Option Nat := (List.range 16).find? (fun i => (s.roleKey i).1 == 255)

/-- ROLE_KEY_INSTALL. -/
def State.cmdRoleInstall (s : State) (b : Bytes) : State :=
  match s.freeRole with
  | some i => { s with access := { s.access with roleKeys := SMap.put roleD s.access.roleKeys i (field b 0 1, slice b 7 97) } }
  | none => s

/-- ROLE_KEY_REMOVE: the last STEWARD entry stays; the sessions that the key gave their role close at once. -/
def State.cmdRoleRemove (s : State) (e : Nat) : Except Nat State :=
  let stewards := (List.range 16).filter (fun i => (s.roleKey i).1 == 2)
  if stewards = [e] then .error 0x08
  else
    let s := { s with access := { s.access with roleKeys := SMap.put roleD s.access.roleKeys e (255, []) } }
    .ok ((s.access.sessions.filter (fun x => x.keyEntry == some e)).foldl (fun s x => s.closeSession x.num) s)

/-- OWNER_KEY_INSTALL and OWNER_KEY_REMOVE. -/
def State.cmdOwnerInstall (s : State) (b : Bytes) : State :=
  { s with access := { s.access with ownerKeys := SMap.put noB s.access.ownerKeys (field b 0 2) (slice b 7 97) } }
def State.cmdOwnerRemove (s : State) (i : Nat) : State :=
  { s with access := { s.access with ownerKeys := SMap.put noB s.access.ownerKeys i [] } }

/-! ## Calibration sets (18 R507, R508) -/

/-- CAL_SET: the set of calibration index `i` is stored and not yet in use; a WARM-SPARE is powered off and on again. A
WARM-SPARE reserved for a virtual die is not free. -/
def State.cmdCalSet (s : State) (i : Nat) (b : Bytes) : Except Nat State :=
  let d := s.die i
  if i < 144 ∧ (d.st = .active ∨ d.st = .test ∨ d.st = .frozen) then .error 0x08
  else if i < 144 ∧ s.reserved.contains i then .error 0x07
  else
    let s := { s with access := { s.access with
      calStored := SMap.put noB s.access.calStored i b, calStatus := SMap.put zeroD s.access.calStatus i 2
      calExported := SMap.put zeroD s.access.calExported i 0 } }
    if i < 144 ∧ d.st = .warmSpare then
      let s := (((s.abandonRep i).dieEnter i .coldSpare).clearCores i).clearSpads i
      .ok ((s.updDie i (fun d => { d with powered := false, op := 0 })).wantPower i)
    else .ok s

/-! ## Settings with an effect -/

/-- A cap written: it is held back where the loaded program would not fit, and takes effect at the first boundary at
least 2 × P later (13 R383). -/
def State.cmdCap (s : State) (amps : Bool) (k v : Nat) : Except Nat State :=
  let w := if amps then s.num Obj.POWER_CAP_W else v
  let a := if amps then v else s.num Obj.CURRENT_CAP_A
  let bad : Bool := match s.prog with
    | some p =>
      (s.panel == .loaded || s.panel == .running || s.panel == .hold) &&
      !loadFits (s.loadSum p.v p.floor (fun n => (SMap.get (fun _ => (16, [])) p.power n).1)) w a
    | none => false
  if bad then .error 0x08
  else .ok ({ s with power := { s.power with capDue := s.power.capDue ++ [(s.time + 2 * s.period, amps, v)] } }.setNum k v)

/-- A report of the coolant distribution unit (14 R400 to R402). -/
def State.cmdCoolant (s : State) (k v : Nat) : State :=
  let s := { s.setNum k v with thermal := { s.thermal with reported := s.time, stale := false } }
  let s := (s.coolCheck).quenchTrack
  let up := s.panel != .cold && s.panel != .aux
  if up && s.flow < 24000 then s.quench 2 else s

/-- The objects whose write raises GROUP_ROUTE_EPOCH (12 R364). -/
def groupObjects : List Nat :=
  [Obj.GROUP_ID, Obj.GROUP_DIMS, Obj.GROUP_COORD, Obj.GROUP_BRIDGE, Obj.TIME_MASTER, Obj.HOST_ADDR]

/-- A value stored as its object's type holds it. -/
def ObjTy.value (t : ObjTy) (b : Bytes) : ObjVal :=
  match t.size with
  | some 48 => .oct b
  | some _ => .num (natLE b)
  | none => .oct b

/-- A write that has passed its checks of type, range and state takes effect. `ok` is the read-back of a firmware
write. -/
def State.effect (s : State) (x : Session) (k : Nat) (ty : ObjTy) (b : Bytes) (ok : Bool) : Except Nat State :=
  let v := natLE b
  let n := x.num
  if isSelector k then .ok (s.updSession n (fun x => { x with sel := SMap.put zeroD x.sel k v }))
  else if k = Obj.QUOTE_NONCE then .ok (s.updSession n (fun x => { x with nonce := some b }))
  else if k = Obj.LOAD_COMMAND then (if v = 1 then s.cmdLoad else if v = 2 then s.cmdStart else s.cmdUnload)
  else if k = Obj.PANEL_COMMAND then (if v = 1 then s.cmdHold else s.cmdResume)
  else if k = Obj.BRINGUP_COMMAND then s.cmdBringupCommand v
  else if k = Obj.RECOVERY_COMMAND then (if v = 1 then s.cmdRestart else s.cmdDiscard)
  else if k = Obj.FW_COMMAND then (if v = 2 then s.cmdLiveUpdate else s.cmdWriteOnly ok)
  else if k = Obj.STAGE_DATA then s.cmdStage b
  else if k = Obj.STAGE_CLEAR then .ok (if v = 1 then s.clearStage else s)
  else if k = Obj.FW_STAGE_DATA then s.cmdFwStage b
  else if k = Obj.CERT_ON_DEMAND then .ok (if v = 1 then { s with checks := { s.checks with onDemand := true } } else s)
  else if k = Obj.UNFREEZE_CORE then .ok (s.cmdUnfreezeCore v)
  else if k = Obj.UNFREEZE_PANEL then .ok (s.cmdUnfreezePanel v)
  else if k = Obj.UNFREEZE_CREDENTIAL then .ok (s.cmdUnfreezeCredential v)
  else if k = Obj.QUARANTINE_RELEASE then s.cmdRelease v
  else if k = Obj.TEST_NOW then s.cmdTestNow v
  else if k = Obj.SETTINGS_CLEAR then .ok (if v = 1 then { s with bringup := { s.bringup with clearSettings := true } } else s)
  else if k = Obj.LINK_BRINGUP then .ok (s.cmdLinkBringup v)
  else if k = Obj.ROLE_KEY_INSTALL then .ok (s.cmdRoleInstall b)
  else if k = Obj.ROLE_KEY_REMOVE then s.cmdRoleRemove v
  else if k = Obj.OWNER_KEY_INSTALL then .ok (s.cmdOwnerInstall b)
  else if k = Obj.OWNER_KEY_REMOVE then .ok (s.cmdOwnerRemove v)
  else if k = Obj.CAL_SET then s.cmdCalSet (x.selOf Obj.CAL_SELECT) b
  else if k = Obj.POWER_CAP_W then s.cmdCap false k v
  else if k = Obj.CURRENT_CAP_A then s.cmdCap true k v
  else if k = Obj.COOLANT_INLET ∨ k = Obj.COOLANT_FLOW then .ok (s.cmdCoolant k v)
  else if k = Obj.TIME_DISCIPLINE then
    (if v ≠ 0 ∧ s.num Obj.TIME_MASTER ≠ s.num Obj.GROUP_BRIDGE then .error 0x08 else .ok (s.setNum k v))
  else
    let s := s.setObj k (ty.value b)
    .ok (if groupObjects.contains k then s.count Obj.GROUP_ROUTE_EPOCH else s)

end Sys2Proof.Machine
end

