-- ==== Sys2Proof/Machine/Server.lean ====
section
/-! DEFINITION. The object-dictionary server: services in AUX, lengths, ranges, states, segments, sequence numbers, the
order of the abort codes, sessions raised and closed; every command that is a request (17 R466 to R477, R481, R482). -/

namespace Sys2Proof.Machine

/-! ## Requests and answers -/

/-- A request: its head, operation, object, segment, payload; whether its header breaks R470; the read-back of a
firmware write. -/
structure UReq where
  r : ReqHead
  op : Nat
  key : Nat := 0
  off : Nat := 0
  total : Nat := 0
  data : Bytes := []
  bad : Bool := false
  ok : Bool := true

/-- What executing a request gives: the next state and the response. -/
abbrev Ans := State × Resp

def refuse (s : State) (code : Nat) : Ans := (s, { abort := code })
def grant (s : State) : Ans := (s, { abort := 0 })

/-- A violation: DENIED, with the freeze of R477. -/
def State.denied (s : State) (n : Nat) : Ans := refuse (s.deny n) 0x05

/-! ## What is served (17 R466, R467) -/

/-- An object kept in flash: a setting, or one that a panel reset keeps. -/
def flashObject (k : Nat) : Bool := keepsObject false k

/-- The auxiliary islands serve the object in AUX (17 R466). -/
def auxServes (k : Nat) (write : Bool) : Bool :=
  let ix := k / 256
  if ix < 0x2000 then true
  else if ix < 0x3000 then flashObject k
  else if ix < 0x4800 then k == Obj.TIME_NOW || k == Obj.TIME_EPOCH || k == Obj.TIME_SOURCE
  else if ix < 0x5000 then !write && (match objRow k with | some r => r.acc == .rw || r.acc == .rwIn | none => false)
  else if ix < 0x8000 then false
  else if ix < 0x9000 then
    [Obj.FSR_LAST_SEQ, Obj.FSR_SELECT, Obj.FSR_RECORD, Obj.QUARANTINE_WINDOW_H, Obj.QUARANTINE_THRESHOLD, Obj.QUARANTINED_SITES].contains k
  else if ix < 0xC000 then true
  else ix % 16 == 0

/-- Bring-up is halted at S7 (16 R452). -/
def State.atS7 (s : State) : Bool := s.panel == .bringup && s.bringup.halted && s.bringup.stage == some 7

/-- The object is served (17 R467, 16 R452). -/
def State.served (s : State) (k : Nat) (write : Bool) : Bool :=
  if s.panel = .aux ∨ s.atS7 then auxServes k write else true

/-! ## Lengths and ranges (17 R463, R476) -/

/-- The length of a value fits its object; the owning chapter gives the length of an OCTETS object. -/
def lengthOk (k : Nat) (t : ObjTy) (n : Nat) : Bool :=
  match t.size with
  | some m => n == m
  | none =>
    if k = Obj.STAGE_DATA ∨ k = Obj.FW_STAGE_DATA then decide (1 ≤ n) && decide (n ≤ 1024)
    else if k = Obj.HOST_ALLOW then n % 16 == 0 && decide (n ≤ 256)
    else if k = Obj.PORT_ROLE ∨ k = Obj.PORT_MEDIUM then n == 128
    else if k = Obj.NOTICE_DEST then n == 18
    else if k = Obj.CAL_SET then n == 1024
    else if k = Obj.ROLE_KEY_INSTALL ∨ k = Obj.OWNER_KEY_INSTALL then n == 104
    else if k = Obj.QUOTE_NONCE then n == 32
    else n == 16

/-- The ranges that the object tables give to numbers; every other number its type holds is legal. -/
def rangeTable : List (Nat × Nat × Nat) :=
  [(Obj.FRAME_PERIOD, 20, 100000), (Obj.SLACK_RESERVE, 4, 50), (Obj.REFCLK_PREFERRED, 1, 2), (Obj.OP_CAP_PANEL, 0, 11),
   (Obj.POWER_CAP_W, 10000, 40000), (Obj.CURRENT_CAP_A, 6000, 23500), (Obj.CERT_INTERVAL, 1, 65536),
   (Obj.R_SAMPLE_INTERVAL, 1, 256), (Obj.REHEARSAL_PERIOD, 8, 1024), (Obj.SESSION_IDLE_S, 30, 3600), (Obj.SIMMER_HBM, 0, 1),
   (Obj.PANEL_COMMAND, 1, 2), (Obj.LOAD_COMMAND, 1, 3), (Obj.QUARANTINE_WINDOW_H, 1, 8760), (Obj.QUARANTINE_THRESHOLD, 1, 16),
   (Obj.TEST_PERIOD_H, 8, 8760), (Obj.TEST_MAX_CONCURRENT, 1, 16), (Obj.RECOVERY_COMMAND, 1, 2), (Obj.BRINGUP_COMMAND, 1, 3),
   (Obj.FW_COMMAND, 2, 3), (Obj.GROUP_BRIDGE, 0, 63), (Obj.TIME_MASTER, 0, 63), (Obj.TIME_DISCIPLINE, 0, 2),
   (Obj.HOST_MTU, 1500, 9000), (Obj.UNFREEZE_PANEL, 0, 63), (Obj.QUARANTINE_RELEASE, 0, 143), (Obj.TEST_NOW, 0, 143),
   (Obj.ROLE_KEY_REMOVE, 0, 15), (Obj.OWNER_KEY_REMOVE, 0, 7), (Obj.CAL_SELECT, 0, 167), (Obj.DIE_CERT_SELECT, 0, 167)]

/-- The host-mode ports of a PORT_ROLE value stay within 12 R329: at most four, on the bridge panel only. -/
def State.rolesOk (s : State) (b : Bytes) : Bool :=
  let host := (b.filter (fun x => x == 1)).length
  let coord := s.num Obj.GROUP_COORD
  b.all (fun x => decide (x.toNat ≤ 2)) && (host == 0 || (decide (host ≤ 4) && coord / 256 * 8 + coord % 256 == s.num Obj.GROUP_BRIDGE))

/-- The value lies in the object's range. -/
def State.rangeOk (s : State) (x : Session) (k : Nat) (t : ObjTy) (b : Bytes) : Bool :=
  let v := natLE b
  if t = .bool then decide (v ≤ 1)
  else match rangeTable.find? (fun r => r.1 == k) with
  | some r => decide (r.2.1 ≤ v) && decide (v ≤ r.2.2)
  | none =>
    if isCoreSelect k then decide (v / 256 < 16) && decide (v % 256 < 17)
    else if k = Obj.GROUP_DIMS then decide (1 ≤ v % 256) && decide (v % 256 ≤ 8) && decide (1 ≤ v / 256) && decide (v / 256 ≤ 8)
    else if k = Obj.GROUP_COORD then decide (v % 256 ≤ 7) && decide (v / 256 ≤ 7)
    else if k = Obj.LINK_BRINGUP then decide (v ≤ 3) || v == 255
    else if k = Obj.UNFREEZE_CORE then v == 0xFFFF || decide (vdOf s.gridW v < s.gridV && v % 256 / 16 < s.gridW)
    else if k = Obj.UNFREEZE_CREDENTIAL then v == 0xFFFF || decide (v < s.access.frozen.length)
    else if k = Obj.PORT_ROLE then s.rolesOk b
    else if k = Obj.PORT_MEDIUM then b.all (fun x => decide (x.toNat ≤ 2))
    else if k = Obj.STAGE_DATA then decide (s.num Obj.STAGE_OFFSET + b.length ≤ 12 * 2 ^ 30)
    else if k = Obj.FW_STAGE_DATA then decide (s.num Obj.FW_STAGE_OFFSET + b.length ≤ 2 ^ 30)
    else if k = Obj.ROLE_KEY_INSTALL then decide (field b 0 1 ≤ 2) && s.freeRole.isSome
    else if k = Obj.OWNER_KEY_INSTALL then decide (field b 0 2 ≤ 7)
    else if k = Obj.CAL_SET then s.calOk (x.selOf Obj.CAL_SELECT) b
    else true

/-! ## States (17 R481, R482) -/

/-- The states from READY to HOLD, and to SAFE. -/
def PanelSt.ready2hold : PanelSt → Bool
  | .ready => true | .loaded => true | .running => true | .hold => true
  | .cold => false | .aux => false | .simmer => false | .bringup => false | .safe => false

/-- The write is legal in the present state. -/
def State.writeLegal (s : State) (x : Session) (row : ObjRow) (v : Nat) : Bool :=
  let k := row.key
  let p := s.panel
  let halted := p == .bringup && s.bringup.halted
  let setState := p == .simmer || p == .bringup || p == .ready
  s.served k true &&
  (if k = Obj.BRINGUP_COMMAND then
      if v = 1 then p == .simmer
      else if v = 2 then halted || p == .ready || p == .loaded || p == .hold || p == .safe
      else p == .ready
    else if k = Obj.LOAD_COMMAND then
      if v = 1 then p == .ready else if v = 2 then p == .loaded else p == .loaded || p == .hold
    else if k = Obj.PANEL_COMMAND then if v = 1 then p == .running else p == .hold
    else if k = Obj.RECOVERY_COMMAND then p == .safe
    else if k = Obj.UNFREEZE_CORE then p == .hold
    else if k = Obj.STAGE_DATA ∨ k = Obj.STAGE_CLEAR then p.ready2hold || p == .safe
    else if k = Obj.FW_STAGE_DATA then s.atS7 || p.ready2hold
    else if k = Obj.FW_COMMAND then if v = 2 then p.ready2hold else s.atS7 || p == .ready
    else if k = Obj.CERT_ON_DEMAND then p == .running || p == .hold
    else if k = Obj.TEST_NOW ∨ k = Obj.QUARANTINE_RELEASE then p.ready2hold
    else if k = Obj.ROLE_KEY_INSTALL ∨ k = Obj.ROLE_KEY_REMOVE ∨ k = Obj.OWNER_KEY_INSTALL ∨ k = Obj.OWNER_KEY_REMOVE then true
    else if k = Obj.CAL_SET then (if x.selOf Obj.CAL_SELECT < 144 then p != .aux else setState)
    else match row.acc with
      | .ro => false
      | .rw => p != .aux
      | .wo => !halted
      | .rwIn => setState)

/-! ## Reads (17 R464, R471, R476) -/

/-- Whether a session may read an object: WO objects answer a session that holds the write role. -/
def ObjRow.mayRead (row : ObjRow) (role : Nat) : Bool :=
  match row.acc with
  | .wo => (match row.wr with | some r => decide (r ≤ role) | none => false)
  | .ro | .rw | .rwIn => (match row.rd with | some r => decide (r ≤ role) | none => false)

/-- What a read changes: a set exported, a signature made, free values drawn. -/
def State.readEffect (s : State) (x : Session) (k off : Nat) : State :=
  if k = Obj.CAL_SET ∧ off = 0 then
    { s with access := { s.access with calExported := SMap.put zeroD s.access.calExported (x.selOf Obj.CAL_SELECT) 1 } }
  else if k = Obj.QUOTE then { s with access := { s.access with signCount := s.access.signCount + 1 } }
  else if k = Obj.FEC_UNCORRECTED ∨ (0xCA0000 ≤ k ∧ k < 0xCC0000) then { s with fresh := s.fresh + 1 }
  else s

/-- A READ. -/
def State.doRead (s : State) (x : Session) (q : UReq) : Ans :=
  if (subsOf (q.key / 256)).isEmpty then refuse s 0x01
  else match rowOf q.key with
    | none => refuse s 0x02
    | some row =>
      if !row.mayRead x.role then s.denied x.num
      else if q.bad || !q.data.isEmpty || (q.r.typ != 0 && q.r.typ.toNat != row.ty.code) then refuse s 0x03
      else
        let v : Except Nat ObjVal := if row.acc = .wo then .ok (.num 0) else s.readVal x q.key
        match v with
        | .error 0x04 => refuse s 0x04
        | .error e => if s.served q.key false then refuse s e else refuse s 0x06
        | .ok v =>
          let b := row.ty.encode v
          if b.length < q.off then refuse s 0x04
          else if !s.served q.key false then refuse s 0x06
          else (s.readEffect x q.key q.off, { abort := 0, data := (b.drop q.off).take 1024, total := b.length })

/-! ## Writes (17 R472, R474, R476) -/

/-- The partial value of an object, while it is not 10 s old. -/
def State.partOf (s : State) (x : Session) (k : Nat) : Option PartVal :=
  x.parts.find? (fun p => p.obj == k && decide (s.time < p.time + 10000000000))

def State.dropPart (s : State) (n k : Nat) : State := s.updSession n (fun x => { x with parts := x.parts.filter (fun p => p.obj != k) })

def State.keepPart (s : State) (n : Nat) (p : PartVal) : State :=
  s.updSession n (fun x => { x with parts := x.parts.filter (fun y => y.obj != p.obj) ++ [p] })

/-- A segment joined to the partial value: none where it does not continue it, else the value so far (17 R472). -/
def joinPart (p : Option PartVal) (q : UReq) : Option Bytes :=
  let have' : Bytes := match p with | some p => p.data | none => []
  let same : Bool := match p with | some p => p.total == q.total | none => true
  if q.off = have'.length ∧ same ∧ have'.length + q.data.length ≤ q.total ∧ (!q.data.isEmpty || q.total == 0) then some (have' ++ q.data)
  else none

/-- A WRITE. -/
def State.doWrite (s : State) (x : Session) (q : UReq) : Ans :=
  if (subsOf (q.key / 256)).isEmpty then refuse s 0x01
  else match rowOf q.key with
    | none => refuse s 0x02
    | some row =>
      let may : Bool := row.acc != .ro && (match row.wr with | some r => decide (r ≤ x.role) | none => false)
      if !may then s.denied x.num
      else if q.bad || q.r.typ.toNat != row.ty.code || decide (1024 < q.data.length) || !lengthOk q.key row.ty q.total ||
          (row.ty.size.isSome && q.data.length != q.total) then refuse s 0x03
      else match joinPart (s.partOf x q.key) q with
        | none => refuse (s.dropPart x.num q.key) 0x04
        | some b =>
          if b.length < q.total then
            if s.writeLegal x row (natLE b) then grant (s.keepPart x.num ⟨q.key, q.total, b, s.time⟩) else refuse s 0x06
          else if !s.rangeOk x q.key row.ty b then refuse s 0x04
          else if !s.writeLegal x row (natLE b) then refuse s 0x06
          else match s.effect x q.key row.ty b q.ok with
            | .error e => refuse s e
            | .ok s' => grant (s'.dropPart x.num q.key)

/-! ## Sessions raised and closed (17 R471, R475) -/

/-- The key under which the segments of a certificate are kept. -/
def certPart : Nat := 2 ^ 24

/-- OPEN: the last segment of the certificate is answered with a challenge. -/
def State.doOpen (s : State) (x : Session) (q : UReq) : Ans :=
  if x.path ≠ 2 ∨ q.bad ∨ 1024 < q.data.length then refuse s 0x03
  else match joinPart (s.partOf x certPart) q with
    | none => refuse (s.dropPart x.num certPart) 0x04
    | some b =>
      if b.length < q.total then grant (s.keepPart x.num ⟨certPart, q.total, b, s.time⟩)
      else
        let c := fit 32 (Config.challenge s.access.drawn)
        let s := (s.dropPart x.num certPart).updSession x.num (fun x => { x with cert := b, challenge := some c })
        ({ s with access := { s.access with drawn := s.access.drawn + 1 } }, { abort := 0, data := c, total := 32 })

/-- PROVE: the session takes the role of its certificate's issuer; a proof that fails is a violation. A challenge serves
once. -/
def State.doProve (s : State) (x : Session) (q : UReq) : Ans :=
  if x.path ≠ 2 then refuse s 0x03
  else match x.challenge, s.certRole x.cert with
    | some c, some role =>
      if Config.verify (Config.certKey x.cert) q.data (c ++ fit 16 Config.panelSerial ++ bytesLE 2 x.num) then
        if q.bad || q.data.length != 96 then refuse s 0x03
        else grant (s.updSession x.num (fun x => { x with
          role := role.1, keyEntry := role.2, credKey := true, cred := Config.certKey x.cert, challenge := none }))
      else s.denied x.num
    | _, _ => s.denied x.num

/-! ## The server (17 R473, R474) -/

/-- A request executed, in the order of R476: a frozen session is answered FROZEN whatever it asks. -/
def State.execute (s : State) (x : Session) (q : UReq) : Ans :=
  if s.sessFrozen x then refuse s 0x09
  else match q.op with
    | 1 => s.doRead x q
    | 2 => s.doWrite x q
    | 3 => s.doOpen x q
    | 4 => s.doProve x q
    | 5 => if q.bad then refuse s 0x03 else grant (s.closeSession x.num)
    | _ => refuse s 0x03

/-- The bytes of a response (17 R470, R471). -/
def rspMessage (q : UReq) (a : Resp) : Bytes :=
  let typ := if q.op = 1 ∧ a.abort = 0 then (match rowOf q.key with | some r => r.ty.code | none => q.r.typ.toNat) else q.r.typ.toNat
  bytesLE 2 1 ++ bytesLE 1 (q.op % 128 + 128) ++ bytesLE 1 a.abort ++ bytesLE 4 q.r.seq.toNat ++ bytesLE 2 (q.key / 256) ++
  bytesLE 1 (q.key % 256) ++ bytesLE 1 typ ++ bytesLE 2 a.data.length ++ bytesLE 2 0 ++ bytesLE 4 q.off ++ bytesLE 4 a.total ++
  bytesLE 8 0 ++ a.data

/-- The response goes back: by OBJ_RSP on an in-band session (17 R469). -/
def State.respond (s : State) (q : UReq) (a : Resp) : State :=
  let s := { s with access := { s.access with lastResp := some (q.r.sess, q.r.seq.toNat, a) } }
  if 0x100 ≤ q.r.sess then { s with fabric := { s.fabric with objOut := s.fabric.objOut ++ [(q.r.sess, rspMessage q a)] } } else s

/-- The response is kept with the last 64 of the session (17 R473). -/
def Session.remember (x : Session) (seq : Nat) (a : Resp) : Session :=
  let l := x.seqs ++ [(seq, a)]
  let h := match x.highest with | some h => max h seq | none => seq
  { x with seqs := l.drop (l.length - 64), highest := some h, done := (seq :: x.done).filter (fun d => decide (h ≤ d + 64)) }

/-- The session that a request comes on. -/
def State.sessionOf (s : State) (n : Nat) : Option State :=
  if n < 0x100 then (match s.session n with | some _ => some (s.touch n) | none => none) else s.inband n

/-- A request served: once for each SEQ, and answered (17 R473). -/
def State.serve (s : State) (q : UReq) : State :=
  if s.panel = .cold then s
  else match s.sessionOf q.r.sess with
    | none => s
    | some s => match s.session q.r.sess with
      | none => s
      | some x =>
        let seq := q.r.seq.toNat
        match x.seqs.find? (fun e => e.1 == seq) with
        | some e => s.respond q e.2
        | none =>
          let old : Bool := match x.highest with | some h => decide (seq + 64 < h) | none => false
          if old || x.done.contains seq then s
          else
            let a := s.execute x q
            (a.1.updSession x.num (fun y => y.remember seq a.2)).respond q a.2

/-- A write of a number to an object. -/
def State.serveNum (s : State) (r : ReqHead) (k n v : Nat) : State :=
  s.serve { r := r, op := 2, key := k, total := n, data := bytesLE n v }

/-- A write of a byte string in one segment. -/
def State.serveOct (s : State) (r : ReqHead) (k : Nat) (b : Bytes) : State :=
  s.serve { r := r, op := 2, key := k, total := b.length, data := b }

/-! ## The commands -/

/-- OBJ_REQ: a UOAP message in-band. One shorter than its header is not answered (17 R469, R470). -/
def execObjReq (sess : Nat) (message : Bytes) (s : State) : Host.Outcome State Fault Refusal :=
  .next (
    if message.length < 32 then s
    else
      let n := field message 12 2
      let bad := field message 0 2 != 1 || field message 3 1 != 0 || field message 14 2 != 0 || field message 24 8 != 0 ||
        decide (1024 < n) || decide (message.length < 32 + n)
      s.serve { r := ⟨sess, BitVec.ofNat 32 (field message 4 4), BitVec.ofNat 8 (field message 11 1)⟩, op := field message 2 1
                key := 256 * field message 8 2 + field message 10 1, off := field message 16 4, total := field message 20 4
                data := slice message 32 (if bad then 0 else n), bad := bad })

/-- OBJECT_WRITE. -/
def execObjectWrite (r : ReqHead) (obj : Nat) (seg : Seg) (data : Bytes) (s : State) : Host.Outcome State Fault Refusal :=
  .next (s.serve { r := r, op := 2, key := obj, off := seg.off, total := seg.total, data := data })

/-- OBJECT_READ. -/
def execObjectRead (r : ReqHead) (obj off : Nat) (s : State) : Host.Outcome State Fault Refusal :=
  .next (s.serve { r := r, op := 1, key := obj, off := off })

/-- LOAD: LOAD_COMMAND written with 1. -/
def execLoad (r : ReqHead) (s : State) : Host.Outcome State Fault Refusal := .next (s.serveNum r Obj.LOAD_COMMAND 1 1)
/-- START: LOAD_COMMAND written with 2. -/
def execStart (r : ReqHead) (s : State) : Host.Outcome State Fault Refusal := .next (s.serveNum r Obj.LOAD_COMMAND 1 2)
/-- UNLOAD: LOAD_COMMAND written with 3. -/
def execUnload (r : ReqHead) (s : State) : Host.Outcome State Fault Refusal := .next (s.serveNum r Obj.LOAD_COMMAND 1 3)
/-- STAGE_DATA. -/
def execStageData (r : ReqHead) (data : Bytes) (s : State) : Host.Outcome State Fault Refusal := .next (s.serveOct r Obj.STAGE_DATA data)
/-- STAGE_CLEAR written with 1. -/
def execStageClear (r : ReqHead) (s : State) : Host.Outcome State Fault Refusal := .next (s.serveNum r Obj.STAGE_CLEAR 1 1)
/-- HOLD: PANEL_COMMAND written with 1. -/
def execHold (r : ReqHead) (s : State) : Host.Outcome State Fault Refusal := .next (s.serveNum r Obj.PANEL_COMMAND 1 1)
/-- RESUME: PANEL_COMMAND written with 2. -/
def execResume (r : ReqHead) (s : State) : Host.Outcome State Fault Refusal := .next (s.serveNum r Obj.PANEL_COMMAND 1 2)
/-- BRINGUP_START: BRINGUP_COMMAND written with 1. -/
def execBringupStart (r : ReqHead) (s : State) : Host.Outcome State Fault Refusal := .next (s.serveNum r Obj.BRINGUP_COMMAND 1 1)
/-- WARM_RESET: BRINGUP_COMMAND written with 2. -/
def execWarmReset (r : ReqHead) (s : State) : Host.Outcome State Fault Refusal := .next (s.serveNum r Obj.BRINGUP_COMMAND 1 2)
/-- ENTER_SIMMER: BRINGUP_COMMAND written with 3. -/
def execEnterSimmer (r : ReqHead) (s : State) : Host.Outcome State Fault Refusal := .next (s.serveNum r Obj.BRINGUP_COMMAND 1 3)
/-- RECOVERY_COMMAND written with 1. -/
def execRecoveryRestart (r : ReqHead) (s : State) : Host.Outcome State Fault Refusal := .next (s.serveNum r Obj.RECOVERY_COMMAND 1 1)
/-- RECOVERY_COMMAND written with 2. -/
def execRecoveryDiscard (r : ReqHead) (s : State) : Host.Outcome State Fault Refusal := .next (s.serveNum r Obj.RECOVERY_COMMAND 1 2)
/-- FW_STAGE_DATA. -/
def execFwStageData (r : ReqHead) (data : Bytes) (s : State) : Host.Outcome State Fault Refusal := .next (s.serveOct r Obj.FW_STAGE_DATA data)
/-- LIVE_UPDATE: FW_COMMAND written with 2. -/
def execLiveUpdate (r : ReqHead) (s : State) : Host.Outcome State Fault Refusal := .next (s.serveNum r Obj.FW_COMMAND 1 2)
/-- FW_WRITE_ONLY: FW_COMMAND written with 3. -/
def execFwWriteOnly (r : ReqHead) (readBackOk : Bool) (s : State) : Host.Outcome State Fault Refusal :=
  .next (s.serve { r := r, op := 2, key := Obj.FW_COMMAND, total := 1, data := [3], ok := readBackOk })
/-- CERT_ON_DEMAND written with 1. -/
def execCertOnDemand (r : ReqHead) (s : State) : Host.Outcome State Fault Refusal := .next (s.serveNum r Obj.CERT_ON_DEMAND 1 1)
/-- UNFREEZE_CORE. -/
def execUnfreezeCore (r : ReqHead) (vcore : Nat) (s : State) : Host.Outcome State Fault Refusal := .next (s.serveNum r Obj.UNFREEZE_CORE 2 vcore)
/-- UNFREEZE_PANEL. -/
def execUnfreezePanel (r : ReqHead) (panel : Nat) (s : State) : Host.Outcome State Fault Refusal := .next (s.serveNum r Obj.UNFREEZE_PANEL 1 panel)
/-- UNFREEZE_CREDENTIAL. -/
def execUnfreezeCredential (r : ReqHead) (entry : Nat) (s : State) : Host.Outcome State Fault Refusal :=
  .next (s.serveNum r Obj.UNFREEZE_CREDENTIAL 2 entry)
/-- QUARANTINE_RELEASE. -/
def execQuarantineRelease (r : ReqHead) (site : Nat) (s : State) : Host.Outcome State Fault Refusal :=
  .next (s.serveNum r Obj.QUARANTINE_RELEASE 2 site)
/-- TEST_NOW. -/
def execTestNow (r : ReqHead) (site : Nat) (s : State) : Host.Outcome State Fault Refusal := .next (s.serveNum r Obj.TEST_NOW 2 site)
/-- SETTINGS_CLEAR written with 1. -/
def execSettingsClear (r : ReqHead) (s : State) : Host.Outcome State Fault Refusal := .next (s.serveNum r Obj.SETTINGS_CLEAR 1 1)
/-- LINK_BRINGUP. -/
def execLinkBringup (r : ReqHead) (dir : Nat) (s : State) : Host.Outcome State Fault Refusal := .next (s.serveNum r Obj.LINK_BRINGUP 1 dir)
/-- ROLE_KEY_INSTALL. -/
def execRoleKeyInstall (r : ReqHead) (data : Bytes) (s : State) : Host.Outcome State Fault Refusal := .next (s.serveOct r Obj.ROLE_KEY_INSTALL data)
/-- ROLE_KEY_REMOVE. -/
def execRoleKeyRemove (r : ReqHead) (entry : Nat) (s : State) : Host.Outcome State Fault Refusal := .next (s.serveNum r Obj.ROLE_KEY_REMOVE 1 entry)
/-- OWNER_KEY_INSTALL. -/
def execOwnerKeyInstall (r : ReqHead) (data : Bytes) (s : State) : Host.Outcome State Fault Refusal := .next (s.serveOct r Obj.OWNER_KEY_INSTALL data)
/-- OWNER_KEY_REMOVE. -/
def execOwnerKeyRemove (r : ReqHead) (entry : Nat) (s : State) : Host.Outcome State Fault Refusal := .next (s.serveNum r Obj.OWNER_KEY_REMOVE 2 entry)
/-- CAL_SET written. -/
def execCalSetWrite (r : ReqHead) (data : Bytes) (s : State) : Host.Outcome State Fault Refusal := .next (s.serveOct r Obj.CAL_SET data)
/-- CAL_SET read whole. -/
def execCalSetExport (r : ReqHead) (s : State) : Host.Outcome State Fault Refusal := .next (s.serve { r := r, op := 1, key := Obj.CAL_SET })
/-- QUOTE_NONCE written. -/
def execQuoteNonce (r : ReqHead) (data : Bytes) (s : State) : Host.Outcome State Fault Refusal := .next (s.serveOct r Obj.QUOTE_NONCE data)
/-- QUOTE read. -/
def execQuote (r : ReqHead) (s : State) : Host.Outcome State Fault Refusal := .next (s.serve { r := r, op := 1, key := Obj.QUOTE })
/-- OPEN. -/
def execOpenS (r : ReqHead) (seg : Seg) (data : Bytes) (s : State) : Host.Outcome State Fault Refusal :=
  .next (s.serve { r := r, op := 3, off := seg.off, total := seg.total, data := data })
/-- PROVE. -/
def execProve (r : ReqHead) (data : Bytes) (s : State) : Host.Outcome State Fault Refusal :=
  .next (s.serve { r := r, op := 4, total := data.length, data := data })
/-- CLOSE. -/
def execClose (r : ReqHead) (s : State) : Host.Outcome State Fault Refusal := .next (s.serve { r := r, op := 5 })

end Sys2Proof.Machine
end

