-- ==== Sys2Proof/Machine/Vec.lean ====
section
/-! DEFINITION. The VEC slot (05 R136 to R139, 04 R105, R110 to R118). -/

namespace Sys2Proof.Machine

/-- What an opcode is to the VEC slot: which fields it uses (05 R136), the cycles to its result, its interval.
`useC` is 0 for no VC, 1 for a vector register, 2 for a selector predicate; `fns` counts its FN codes. -/
structure VSpec where
  vop : Nat
  fp : Bool := false
  useA : Bool := true
  useB : Bool := true
  useC : Nat := 0
  fns : Nat := 1
  sat : Bool := false
  cmp : Bool := false
  keys : Bool := false
  lat : Nat := 1
  interval : Nat := 1

/-- The fields that an opcode leaves reserved, and the ranges of those it uses (05 R136, R148). -/
def VSpec.illegal (v : VSpec) (f : VecF) : Bool :=
  f.cls == 0 || f.cls == 3 || (f.half && f.cls != 1) || decide (v.fns ≤ f.fn.toNat) ||
  (!v.useA && !v.keys && f.va != 0) ||
  (if v.useB then
      f.bsel == 3 || (f.bsel == 2 && f.vb != 0) || (f.bsel != 2 && f.imm24 != 0)
    else f.bsel != 0 || (!v.keys && f.vb != 0) || (if v.sat then decide (1 < f.imm24.toNat) else f.imm24 != 0)) ||
  (match v.useC with
    | 0 => f.vc != 0
    | 1 => false
    | _ => decide (7 < f.vc.toNat)) ||
  (v.cmp && (f.vd == 0 || decide (7 < f.vd.toNat)))

/-- The registers that an opcode reads, and its destination. -/
def VSpec.srcs (v : VSpec) (f : VecF) : List (Nat × Nat) :=
  [(2, f.pred.toNat)] ++ (if v.keys then [(0, f.va.toNat), (0, f.vb.toNat)] else if v.useA then [(1, f.va.toNat)] else []) ++
  (if v.useB then (if f.bsel = 0 then [(1, f.vb.toNat)] else if f.bsel = 1 then [(0, f.vb.toNat)] else []) else []) ++
  (match v.useC with | 0 => [] | 1 => [(1, f.vc.toNat)] | _ => [(2, f.vc.toNat % 8)])
def VSpec.dst (v : VSpec) (f : VecF) : Nat × Nat := if v.cmp then (2, f.vd.toNat % 8) else (1, f.vd.toNat)

/-- What a VEC operation is to the issue logic. -/
def vecInfo (k : Nat) (v : VSpec) (f : VecF) (s : State) : Op :=
  { slot := .vec, opc := v.vop, illegal := v.illegal f, names := [v.dst f], srcs := v.srcs f, dsts := [v.dst f]
    governed := true, holds := if (s.core k).cycle < (s.core k).vecFree then [(8, 0)] else [] }

/-- The lanes of one issue: all 64, or a half under Class D (05 R138). -/
def vecLanes (f : VecF) : List Nat :=
  if f.cls = 1 then (List.range 32).map (fun i => (if f.half then 32 else 0) + i) else List.range 64
/-- The governed lanes of one issue (05 R125). -/
def vecGov (c : Core) (f : VecF) : List Nat := (vecLanes f).filter (fun i => (c.predOf f.pred.toNat).getLsbD i)

/-- The B operand of a lane (05 R136). VMOV and SEL are no FP32 operations: their IMM24 is sign-extended (log 58). -/
def vecB (c : Core) (fp : Bool) (f : VecF) (i : Nat) : BitVec 32 :=
  if f.bsel = 0 then c.lane f.vb.toNat i
  else if f.bsel = 1 then (c.sreg f.vb.toNat).setWidth 32
  else if fp then f.imm24.setWidth 32 <<< 8 else f.imm24.signExtend 32

/-- A VEC operation has issued: its class is noted, the engine's interval runs. -/
def vecDone (v : VSpec) (f : VecF) (c : Core) (d : Dest) : Core :=
  { (c.noteClass f.cls.toNat).send d v.lat with vecFree := c.cycle + v.interval }

/-- An operation that computes each governed lane on its own. -/
def vecLanewise (k : Nat) (v : VSpec) (f : VecF) (g : Core → Nat → BitVec 32) (s : State) : State :=
  let c := s.core k
  s.setCore k (vecDone v f c (.vreg f.vd.toNat ((vecGov c f).map (fun i => (64 * f.vd.toNat + i, g c i)))))

/-- An operation that computes a predicate bit for each governed lane; the other bits keep their values (05 R137). -/
def vecCompare (k : Nat) (v : VSpec) (f : VecF) (g : Core → Nat → Bool) (s : State) : State :=
  let c := s.core k
  let gov := vecGov c f
  let p := f.vd.toNat % 8
  let old := c.predOf p
  let new := (List.range 64).map (fun i => if gov.contains i then g c i else old.getLsbD i)
  s.setCore k (vecDone v f c (.pred p (BitVec.ofNat 64 (new.foldr (fun b r => (if b then 1 else 0) + 2 * r) 0))))

/-- An operation that writes lanes given as a list. -/
def vecWhole (k : Nat) (v : VSpec) (f : VecF) (g : Core → List (Nat × BitVec 32)) (s : State) : State :=
  let c := s.core k
  s.setCore k (vecDone v f c (.vreg f.vd.toNat ((g c).map (fun x => (64 * f.vd.toNat + x.1, x.2)))))

/-- A VEC operation presented; its lanes are compared only under Class D (03 R70). -/
def vecOp (s : State) (io : Issue) (v : VSpec) (f : VecF) (eff : State → State) : Host.Outcome State Fault Refusal :=
  slotOp s { io with dup := io.dup && f.cls == 1 } (vecInfo io.core v f) eff

/-- One level of the fixed tree of R138. -/
def treeLevel {α : Type} (add : α → α → α) : List α → List α
  | a :: b :: t => add a b :: treeLevel add t
  | l => l
/-- The tree sum of 32 or 64 elements. -/
def treeSum {α : Type} (add : α → α → α) (l : List α) : List α := (List.range 6).foldl (fun r _ => treeLevel add r) l

/-- FRSUM and IRSUM (05 R138): the sum goes to the lowest lane of the range, zero to the others, whatever governs. -/
def vecSum (f : VecF) (add : BitVec 32 → BitVec 32 → BitVec 32) (c : Core) : List (Nat × BitVec 32) :=
  let ls := vecLanes f
  let gov := vecGov c f
  let sum := (treeSum add (ls.map (fun i => if gov.contains i then c.lane f.va.toNat i else 0))).headD 0
  ls.map (fun i => (i, if i = ls.headD 0 then sum else 0))

/-- ICMP (05 R137). -/
def icmpF (fn : Nat) (a b : BitVec 32) : Bool :=
  match fn with
  | 0 => a == b
  | 1 => a != b
  | 2 => a.slt b
  | 3 => a.sle b
  | 4 => a.ult b
  | _ => a.ule b

/-- IADDS: the signed sum, saturated to 32 bits (05 R137). -/
def iaddsF (a b : BitVec 32) : BitVec 32 :=
  BitVec.ofInt 32 (max (-(2 ^ 31)) (min (2 ^ 31 - 1) (a.toInt + b.toInt)))

/-! ## CVT (05 R139) -/

/-- A vector register as the number its 256 bytes hold, and a field of it. -/
def vregNat (c : Core) (r : Nat) : Nat := (List.range 64).foldr (fun i v => (c.lane r i).toNat + 2 ^ 32 * v) 0
def getF (v w e : Nat) : Nat := v >>> (w * e) % 2 ^ w
def putF (v w e x : Nat) : Nat := v - (getF v w e) * 2 ^ (w * e) + (x % 2 ^ w) * 2 ^ (w * e)

/-- Format code and width of the narrow side of an FN code. -/
def cvtFmt (fn : Nat) : Nat × Nat :=
  match if fn < 10 then fn else fn - 10 with
  | 0 => (6, 16) | 1 => (7, 16) | 2 => (0, 8) | 3 => (1, 8) | 4 => (2, 6) | 5 => (3, 6) | 6 => (4, 4) | _ => (5, 8)

/-- The governed lanes of a block of 32 lanes. -/
def blockGov (gov : List Nat) (b : Nat) : List Nat := gov.filter (fun e => e / 32 == b)
/-- The scale exponent of a block of lanes: over its governed lanes (04 R105). -/
def cvtScale (code : Nat) (c : Core) (f : VecF) (gov : List Nat) (b : Nat) : Option Int :=
  mxScale code ((blockGov gov b).map (fun e => f32 (c.lane f.va.toNat e)))

/-- An FP32 lane to a narrow code. An exact zero becomes +0 in an MX format (04 R103, R104); a lane of −0 keeps its sign in BF16
and FP16, as the rounding of R110 does (05 R139; log 56). -/
def cvtTo (code : Nat) (sat : Bool) (x : Option Int) (v : Fp) : Nat :=
  if code = 5 then toInt 8 v
  else if isMx code then
    match v with
    | .fin n m e => if m = 0 then 0 else toNarrow code sat (x.getD 0) (.fin n m e)
    | _ => toNarrow code sat 0 v
  else toNarrow code sat 0 v

/-- FP32 to a narrow format: the converted elements, then the scale bytes of governed blocks. -/
def cvtNarrow (c : Core) (f : VecF) : List (Nat × BitVec 32) :=
  let cw := cvtFmt f.fn.toNat
  let gov := vecGov c f
  let sat := f.imm24.toNat % 2 == 1
  let v0 := vregNat c f.vd.toNat
  let sc (b : Nat) : Option Int := if isMx cw.1 then cvtScale cw.1 c f gov b else none
  let s0 := sc 0
  let s1 := sc 1
  let v1 := if isMx cw.1 then [0, 1].foldl (fun v b =>
      if (blockGov gov b).isEmpty then v else putF v 8 (248 + b) (mxByte (if b = 0 then s0 else s1))) v0 else v0
  let v2 := gov.foldl (fun v e =>
    putF v cw.2 e (cvtTo cw.1 sat (if e < 32 then s0 else s1) (f32 (c.lane f.va.toNat e)))) v1
  (List.range 64).map (fun i => (i, BitVec.ofNat 32 (getF v2 32 i)))

/-- A narrow format to FP32, for one lane. -/
def cvtWide (f : VecF) (c : Core) (e : Nat) : BitVec 32 :=
  let cw := cvtFmt f.fn.toNat
  let va := vregNat c f.va.toNat
  let el := getF va cw.2 e
  if isMx cw.1 then fromMx cw.1 (f.imm24.toNat % 2 == 1) (getF va 8 (248 + e / 32)) el
  else if cw.1 = 5 then toF32 (.fin ((BitVec.ofNat 8 el).toInt < 0) (BitVec.ofNat 8 el).toInt.natAbs 0)
  else toF32 (decodeFp (fmtOf cw.1) el)

/-- CVT: 8 to INT32, 9 from INT32, below 8 to a narrow format, above 9 from one. -/
def cvtList (c : Core) (f : VecF) : List (Nat × BitVec 32) :=
  let a (e : Nat) : BitVec 32 := c.lane f.va.toNat e
  if f.fn.toNat < 8 then cvtNarrow c f
  else (vecGov c f).map (fun e => (e,
    if f.fn.toNat = 8 then BitVec.ofNat 32 (toInt 32 (f32 (a e)))
    else if f.fn.toNat = 9 then toF32 (.fin ((a e).toInt < 0) (a e).toInt.natAbs 0)
    else cvtWide f c e))

/-! ## The operations -/

/-- IADD: va + b (05 R137). -/
def vIadd : VSpec := { vop := 0x01 }
def effIadd (k : Nat) (f : VecF) : State → State :=
  vecLanewise k vIadd f (fun c i => c.lane f.va.toNat i + vecB c false f i)
def execIadd (io : Issue) (f : VecF) (s : State) : Host.Outcome State Fault Refusal :=
  vecOp s io vIadd f (effIadd io.core f)

/-- ISUB: va - b (05 R137). -/
def vIsub : VSpec := { vop := 0x02 }
def effIsub (k : Nat) (f : VecF) : State → State :=
  vecLanewise k vIsub f (fun c i => c.lane f.va.toNat i - vecB c false f i)
def execIsub (io : Issue) (f : VecF) (s : State) : Host.Outcome State Fault Refusal :=
  vecOp s io vIsub f (effIsub io.core f)

/-- IMUL: the low 32 bits of va × b (05 R137). -/
def vImul : VSpec := { vop := 0x03, lat := 3 }
def effImul (k : Nat) (f : VecF) : State → State :=
  vecLanewise k vImul f (fun c i => c.lane f.va.toNat i * vecB c false f i)
def execImul (io : Issue) (f : VecF) (s : State) : Host.Outcome State Fault Refusal :=
  vecOp s io vImul f (effImul io.core f)

/-- IAND: per lane (05 R137). -/
def vIand : VSpec := { vop := 0x04 }
def effIand (k : Nat) (f : VecF) : State → State :=
  vecLanewise k vIand f (fun c i => c.lane f.va.toNat i &&& vecB c false f i)
def execIand (io : Issue) (f : VecF) (s : State) : Host.Outcome State Fault Refusal :=
  vecOp s io vIand f (effIand io.core f)

/-- IOR: per lane (05 R137). -/
def vIor : VSpec := { vop := 0x05 }
def effIor (k : Nat) (f : VecF) : State → State :=
  vecLanewise k vIor f (fun c i => c.lane f.va.toNat i ||| vecB c false f i)
def execIor (io : Issue) (f : VecF) (s : State) : Host.Outcome State Fault Refusal :=
  vecOp s io vIor f (effIor io.core f)

/-- IXOR: per lane (05 R137). -/
def vIxor : VSpec := { vop := 0x06 }
def effIxor (k : Nat) (f : VecF) : State → State :=
  vecLanewise k vIxor f (fun c i => c.lane f.va.toNat i ^^^ vecB c false f i)
def execIxor (io : Issue) (f : VecF) (s : State) : Host.Outcome State Fault Refusal :=
  vecOp s io vIxor f (effIxor io.core f)

/-- ISHL: va shifted left by b mod 32 (05 R137). -/
def vIshl : VSpec := { vop := 0x07 }
def effIshl (k : Nat) (f : VecF) : State → State :=
  vecLanewise k vIshl f (fun c i => c.lane f.va.toNat i <<< ((vecB c false f i).toNat % 32))
def execIshl (io : Issue) (f : VecF) (s : State) : Host.Outcome State Fault Refusal :=
  vecOp s io vIshl f (effIshl io.core f)

/-- ISHR: va shifted right by b mod 32 (05 R137). -/
def vIshr : VSpec := { vop := 0x08 }
def effIshr (k : Nat) (f : VecF) : State → State :=
  vecLanewise k vIshr f (fun c i => c.lane f.va.toNat i >>> ((vecB c false f i).toNat % 32))
def execIshr (io : Issue) (f : VecF) (s : State) : Host.Outcome State Fault Refusal :=
  vecOp s io vIshr f (effIshr io.core f)

/-- ISRA: va shifted right arithmetically by b mod 32 (05 R137). -/
def vIsra : VSpec := { vop := 0x09 }
def effIsra (k : Nat) (f : VecF) : State → State :=
  vecLanewise k vIsra f (fun c i => (c.lane f.va.toNat i).sshiftRight ((vecB c false f i).toNat % 32))
def execIsra (io : Issue) (f : VecF) (s : State) : Host.Outcome State Fault Refusal :=
  vecOp s io vIsra f (effIsra io.core f)

/-- IMIN: signed minimum (05 R137). -/
def vImin : VSpec := { vop := 0x0A }
def effImin (k : Nat) (f : VecF) : State → State :=
  vecLanewise k vImin f (fun c i => if (c.lane f.va.toNat i).slt (vecB c false f i) then c.lane f.va.toNat i else vecB c false f i)
def execImin (io : Issue) (f : VecF) (s : State) : Host.Outcome State Fault Refusal :=
  vecOp s io vImin f (effImin io.core f)

/-- IMAX: signed maximum (05 R137). -/
def vImax : VSpec := { vop := 0x0B }
def effImax (k : Nat) (f : VecF) : State → State :=
  vecLanewise k vImax f (fun c i => if (c.lane f.va.toNat i).slt (vecB c false f i) then vecB c false f i else c.lane f.va.toNat i)
def execImax (io : Issue) (f : VecF) (s : State) : Host.Outcome State Fault Refusal :=
  vecOp s io vImax f (effImax io.core f)

/-- IADDS: signed sum, saturated (05 R137). -/
def vIadds : VSpec := { vop := 0x0C }
def effIadds (k : Nat) (f : VecF) : State → State :=
  vecLanewise k vIadds f (fun c i => iaddsF (c.lane f.va.toNat i) (vecB c false f i))
def execIadds (io : Issue) (f : VecF) (s : State) : Host.Outcome State Fault Refusal :=
  vecOp s io vIadds f (effIadds io.core f)

/-- ICMP: integer compare into a predicate (05 R137). -/
def vIcmp : VSpec := { vop := 0x0D, fns := 6, cmp := true }
def effIcmp (k : Nat) (f : VecF) : State → State :=
  vecCompare k vIcmp f (fun c i => icmpF f.fn.toNat (c.lane f.va.toNat i) (vecB c false f i))
def execIcmp (io : Issue) (f : VecF) (s : State) : Host.Outcome State Fault Refusal :=
  vecOp s io vIcmp f (effIcmp io.core f)

/-- SEL: va where the selector bit is 1, else b (05 R137). -/
def vSel : VSpec := { vop := 0x0E, useC := 2 }
def effSel (k : Nat) (f : VecF) : State → State :=
  vecLanewise k vSel f (fun c i => if (c.predOf (f.vc.toNat % 8)).getLsbD i then c.lane f.va.toNat i else vecB c false f i)
def execSel (io : Issue) (f : VecF) (s : State) : Host.Outcome State Fault Refusal :=
  vecOp s io vSel f (effSel io.core f)

/-- VMOV: b (05 R137). -/
def vVmov : VSpec := { vop := 0x0F, useA := false }
def effVmov (k : Nat) (f : VecF) : State → State :=
  vecLanewise k vVmov f (fun c i => vecB c false f i)
def execVmov (io : Issue) (f : VecF) (s : State) : Host.Outcome State Fault Refusal :=
  vecOp s io vVmov f (effVmov io.core f)

/-- VSHUF: lane b mod 64 of va (05 R137). -/
def vVshuf : VSpec := { vop := 0x10, lat := 2 }
def effVshuf (k : Nat) (f : VecF) : State → State :=
  vecLanewise k vVshuf f (fun c i => c.lane f.va.toNat ((vecB c false f i).toNat % 64))
def execVshuf (io : Issue) (f : VecF) (s : State) : Host.Outcome State Fault Refusal :=
  vecOp s io vVshuf f (effVshuf io.core f)

/-- FADD: per lane (05 R137). -/
def vFadd : VSpec := { vop := 0x20, fp := true, lat := 4 }
def effFadd (k : Nat) (f : VecF) : State → State :=
  vecLanewise k vFadd f (fun c i => faddF (c.lane f.va.toNat i) (vecB c true f i))
def execFadd (io : Issue) (f : VecF) (s : State) : Host.Outcome State Fault Refusal :=
  vecOp s io vFadd f (effFadd io.core f)

/-- FSUB: per lane (05 R137). -/
def vFsub : VSpec := { vop := 0x21, fp := true, lat := 4 }
def effFsub (k : Nat) (f : VecF) : State → State :=
  vecLanewise k vFsub f (fun c i => fsubF (c.lane f.va.toNat i) (vecB c true f i))
def execFsub (io : Issue) (f : VecF) (s : State) : Host.Outcome State Fault Refusal :=
  vecOp s io vFsub f (effFsub io.core f)

/-- FMUL: per lane (05 R137). -/
def vFmul : VSpec := { vop := 0x22, fp := true, lat := 4 }
def effFmul (k : Nat) (f : VecF) : State → State :=
  vecLanewise k vFmul f (fun c i => fmulF (c.lane f.va.toNat i) (vecB c true f i))
def execFmul (io : Issue) (f : VecF) (s : State) : Host.Outcome State Fault Refusal :=
  vecOp s io vFmul f (effFmul io.core f)

/-- FFMA: va × b + vc, rounded once (05 R137). -/
def vFfma : VSpec := { vop := 0x23, fp := true, useC := 1, lat := 4 }
def effFfma (k : Nat) (f : VecF) : State → State :=
  vecLanewise k vFfma f (fun c i => fmaF (c.lane f.va.toNat i) (vecB c true f i) (c.lane f.vc.toNat i))
def execFfma (io : Issue) (f : VecF) (s : State) : Host.Outcome State Fault Refusal :=
  vecOp s io vFfma f (effFfma io.core f)

/-- FMIN: per lane (05 R137). -/
def vFmin : VSpec := { vop := 0x24, fp := true, lat := 4 }
def effFmin (k : Nat) (f : VecF) : State → State :=
  vecLanewise k vFmin f (fun c i => fminF (c.lane f.va.toNat i) (vecB c true f i))
def execFmin (io : Issue) (f : VecF) (s : State) : Host.Outcome State Fault Refusal :=
  vecOp s io vFmin f (effFmin io.core f)

/-- FMAX: per lane (05 R137). -/
def vFmax : VSpec := { vop := 0x25, fp := true, lat := 4 }
def effFmax (k : Nat) (f : VecF) : State → State :=
  vecLanewise k vFmax f (fun c i => fmaxF (c.lane f.va.toNat i) (vecB c true f i))
def execFmax (io : Issue) (f : VecF) (s : State) : Host.Outcome State Fault Refusal :=
  vecOp s io vFmax f (effFmax io.core f)

/-- FABS: bit 31 cleared (05 R137). -/
def vFabs : VSpec := { vop := 0x26, useB := false }
def effFabs (k : Nat) (f : VecF) : State → State :=
  vecLanewise k vFabs f (fun c i => (c.lane f.va.toNat i) &&& 0x7FFFFFFF)
def execFabs (io : Issue) (f : VecF) (s : State) : Host.Outcome State Fault Refusal :=
  vecOp s io vFabs f (effFabs io.core f)

/-- FNEG: bit 31 inverted (05 R137). -/
def vFneg : VSpec := { vop := 0x27, useB := false }
def effFneg (k : Nat) (f : VecF) : State → State :=
  vecLanewise k vFneg f (fun c i => (c.lane f.va.toNat i) ^^^ 0x80000000)
def execFneg (io : Issue) (f : VecF) (s : State) : Host.Outcome State Fault Refusal :=
  vecOp s io vFneg f (effFneg io.core f)

/-- FCMP: FP32 compare into a predicate (05 R137). -/
def vFcmp : VSpec := { vop := 0x28, fp := true, fns := 4, cmp := true, lat := 4 }
def effFcmp (k : Nat) (f : VecF) : State → State :=
  vecCompare k vFcmp f (fun c i => fcmpF f.fn.toNat (c.lane f.va.toNat i) (vecB c true f i))
def execFcmp (io : Issue) (f : VecF) (s : State) : Host.Outcome State Fault Refusal :=
  vecOp s io vFcmp f (effFcmp io.core f)

/-- FRSUM: tree sum of FP32 lanes (05 R138). -/
def vFrsum : VSpec := { vop := 0x29, useB := false, lat := 12, interval := 2 }
def effFrsum (k : Nat) (f : VecF) : State → State :=
  vecWhole k vFrsum f (fun c => vecSum f faddF c)
def execFrsum (io : Issue) (f : VecF) (s : State) : Host.Outcome State Fault Refusal :=
  vecOp s io vFrsum f (effFrsum io.core f)

/-- IRSUM: tree sum of integer lanes (05 R138). -/
def vIrsum : VSpec := { vop := 0x2A, useB := false, lat := 6, interval := 2 }
def effIrsum (k : Nat) (f : VecF) : State → State :=
  vecWhole k vIrsum f (fun c => vecSum f (fun a b => a + b) c)
def execIrsum (io : Issue) (f : VecF) (s : State) : Host.Outcome State Fault Refusal :=
  vecOp s io vIrsum f (effIrsum io.core f)

/-- CVT: conversion selected by FN (05 R139). -/
def vCvt : VSpec := { vop := 0x30, useB := false, sat := true, fns := 18, lat := 4 }
def effCvt (k : Nat) (f : VecF) : State → State :=
  vecWhole k vCvt f (fun c => cvtList c f)
def execCvt (io : Issue) (f : VecF) (s : State) : Host.Outcome State Fault Refusal :=
  vecOp s io vCvt f (effCvt io.core f)

/-- EXP2: per lane (04 R115, R116). -/
def vExp2 : VSpec := { vop := 0x40, useB := false, lat := 8, interval := 4 }
def effExp2 (k : Nat) (f : VecF) : State → State :=
  vecLanewise k vExp2 f (fun c i => exp2F (f32 (c.lane f.va.toNat i)))
def execExp2 (io : Issue) (f : VecF) (s : State) : Host.Outcome State Fault Refusal :=
  vecOp s io vExp2 f (effExp2 io.core f)

/-- LOG2: per lane (04 R115, R116). -/
def vLog2 : VSpec := { vop := 0x41, useB := false, lat := 8, interval := 4 }
def effLog2 (k : Nat) (f : VecF) : State → State :=
  vecLanewise k vLog2 f (fun c i => log2F (f32 (c.lane f.va.toNat i)))
def execLog2 (io : Issue) (f : VecF) (s : State) : Host.Outcome State Fault Refusal :=
  vecOp s io vLog2 f (effLog2 io.core f)

/-- RCP: per lane (04 R115, R116). -/
def vRcp : VSpec := { vop := 0x42, useB := false, lat := 8, interval := 4 }
def effRcp (k : Nat) (f : VecF) : State → State :=
  vecLanewise k vRcp f (fun c i => rcpF (f32 (c.lane f.va.toNat i)))
def execRcp (io : Issue) (f : VecF) (s : State) : Host.Outcome State Fault Refusal :=
  vecOp s io vRcp f (effRcp io.core f)

/-- RSQRT: per lane (04 R115, R116). -/
def vRsqrt : VSpec := { vop := 0x43, useB := false, lat := 8, interval := 4 }
def effRsqrt (k : Nat) (f : VecF) : State → State :=
  vecLanewise k vRsqrt f (fun c i => rsqrtF (f32 (c.lane f.va.toNat i)))
def execRsqrt (io : Issue) (f : VecF) (s : State) : Host.Outcome State Fault Refusal :=
  vecOp s io vRsqrt f (effRsqrt io.core f)

/-- SINPI: per lane (04 R115, R116). -/
def vSinpi : VSpec := { vop := 0x44, useB := false, lat := 8, interval := 4 }
def effSinpi (k : Nat) (f : VecF) : State → State :=
  vecLanewise k vSinpi f (fun c i => sinpiF (f32 (c.lane f.va.toNat i)))
def execSinpi (io : Issue) (f : VecF) (s : State) : Host.Outcome State Fault Refusal :=
  vecOp s io vSinpi f (effSinpi io.core f)

/-- COSPI: per lane (04 R115, R116). -/
def vCospi : VSpec := { vop := 0x45, useB := false, lat := 8, interval := 4 }
def effCospi (k : Nat) (f : VecF) : State → State :=
  vecLanewise k vCospi f (fun c i => cospiF (f32 (c.lane f.va.toNat i)))
def execCospi (io : Issue) (f : VecF) (s : State) : Host.Outcome State Fault Refusal :=
  vecOp s io vCospi f (effCospi io.core f)

/-- VRNG: random words or uniform values (04 R118). -/
def vVrng : VSpec := { vop := 0x48, useA := false, useB := false, keys := true, fns := 3, lat := 6 }
def effVrng (k : Nat) (f : VecF) : State → State :=
  vecLanewise k vVrng f (fun c i => rngElem f.fn.toNat (c.sreg f.va.toNat) (c.sreg f.vb.toNat) i)
def execVrng (io : Issue) (f : VecF) (s : State) : Host.Outcome State Fault Refusal :=
  vecOp s io vVrng f (effVrng io.core f)

end Sys2Proof.Machine
end

