-- ==== Sys2Proof/Machine/Dispatch.lean ====
section
/-! DEFINITION. One arm for each command: one call of its meaning. -/

namespace Sys2Proof.Machine

def exec (i : Instr) (s : State) : Host.Outcome State Fault Refusal :=
  match i with
  | .nop io slot => Sys2Proof.Machine.execNop io slot s
  | .ill q => Sys2Proof.Machine.execIll q s
  | .waitAc io idx cons src imm => Sys2Proof.Machine.execWaitAc io idx cons src imm s
  | .waitQ io q count arg => Sys2Proof.Machine.execWaitQ io q count arg s
  | .waitCh io ch arg => Sys2Proof.Machine.execWaitCh io ch arg s
  | .waitLd io ld => Sys2Proof.Machine.execWaitLd io ld s
  | .acSet io idx src imm => Sys2Proof.Machine.execAcSet io idx src imm s
  | .acAdd io idx src imm => Sys2Proof.Machine.execAcAdd io idx src imm s
  | .mark io last index4 => Sys2Proof.Machine.execMark io last index4 s
  | .pwrHint io level lead => Sys2Proof.Machine.execPwrHint io level lead s
  | .tclr io acc cls eref => Sys2Proof.Machine.execTclr io acc cls eref s
  | .mma io f => Sys2Proof.Machine.execMma io f s
  | .mmaSp io f => Sys2Proof.Machine.execMmaSp io f s
  | .tcvt io acc fmt sat img => Sys2Proof.Machine.execTcvt io acc fmt sat img s
  | .txf io acc row0 rowsM1 img => Sys2Proof.Machine.execTxf io acc row0 rowsM1 img s
  | .tadd io acc img => Sys2Proof.Machine.execTadd io acc img s
  | .tstat io acc sd => Sys2Proof.Machine.execTstat io acc sd s
  | .mmaComplete core e => Sys2Proof.Machine.execMmaComplete core e s
  | .tileTransferComplete core e ecc => Sys2Proof.Machine.execTileTransferComplete core e ecc s
  | .iadd io f => Sys2Proof.Machine.execIadd io f s
  | .isub io f => Sys2Proof.Machine.execIsub io f s
  | .imul io f => Sys2Proof.Machine.execImul io f s
  | .iand io f => Sys2Proof.Machine.execIand io f s
  | .ior io f => Sys2Proof.Machine.execIor io f s
  | .ixor io f => Sys2Proof.Machine.execIxor io f s
  | .ishl io f => Sys2Proof.Machine.execIshl io f s
  | .ishr io f => Sys2Proof.Machine.execIshr io f s
  | .isra io f => Sys2Proof.Machine.execIsra io f s
  | .imin io f => Sys2Proof.Machine.execImin io f s
  | .imax io f => Sys2Proof.Machine.execImax io f s
  | .iadds io f => Sys2Proof.Machine.execIadds io f s
  | .icmp io f => Sys2Proof.Machine.execIcmp io f s
  | .sel io f => Sys2Proof.Machine.execSel io f s
  | .vmov io f => Sys2Proof.Machine.execVmov io f s
  | .vshuf io f => Sys2Proof.Machine.execVshuf io f s
  | .fadd io f => Sys2Proof.Machine.execFadd io f s
  | .fsub io f => Sys2Proof.Machine.execFsub io f s
  | .fmul io f => Sys2Proof.Machine.execFmul io f s
  | .ffma io f => Sys2Proof.Machine.execFfma io f s
  | .fmin io f => Sys2Proof.Machine.execFmin io f s
  | .fmax io f => Sys2Proof.Machine.execFmax io f s
  | .fabs io f => Sys2Proof.Machine.execFabs io f s
  | .fneg io f => Sys2Proof.Machine.execFneg io f s
  | .fcmp io f => Sys2Proof.Machine.execFcmp io f s
  | .frsum io f => Sys2Proof.Machine.execFrsum io f s
  | .irsum io f => Sys2Proof.Machine.execIrsum io f s
  | .cvt io f => Sys2Proof.Machine.execCvt io f s
  | .exp2 io f => Sys2Proof.Machine.execExp2 io f s
  | .log2 io f => Sys2Proof.Machine.execLog2 io f s
  | .rcp io f => Sys2Proof.Machine.execRcp io f s
  | .rsqrt io f => Sys2Proof.Machine.execRsqrt io f s
  | .sinpi io f => Sys2Proof.Machine.execSinpi io f s
  | .cospi io f => Sys2Proof.Machine.execCospi io f s
  | .vrng io f => Sys2Proof.Machine.execVrng io f s
  | .lds io f => Sys2Proof.Machine.execLds io f s
  | .sts io f => Sys2Proof.Machine.execSts io f s
  | .ldv io f => Sys2Proof.Machine.execLdv io f s
  | .stv io f => Sys2Proof.Machine.execStv io f s
  | .fill io f => Sys2Proof.Machine.execFill io f s
  | .copy io f => Sys2Proof.Machine.execCopy io f s
  | .fillCopyEnd core => Sys2Proof.Machine.execFillCopyEnd core s
  | .send io f => Sys2Proof.Machine.execSend io f s
  | .sendv io f => Sys2Proof.Machine.execSendv io f s
  | .chRel io f => Sys2Proof.Machine.execChRel io f s
  | .shrd io f => Sys2Proof.Machine.execShrd io f s
  | .qRd io f => Sys2Proof.Machine.execQRd io f s
  | .qWr io f => Sys2Proof.Machine.execQWr io f s
  | .qGath io f => Sys2Proof.Machine.execQGath io f s
  | .ldArm io f => Sys2Proof.Machine.execLdArm io f s
  | .addS io f => Sys2Proof.Machine.execAddS io f s
  | .subS io f => Sys2Proof.Machine.execSubS io f s
  | .andS io f => Sys2Proof.Machine.execAndS io f s
  | .orS io f => Sys2Proof.Machine.execOrS io f s
  | .xor io f => Sys2Proof.Machine.execXor io f s
  | .shl io f => Sys2Proof.Machine.execShl io f s
  | .shr io f => Sys2Proof.Machine.execShr io f s
  | .sra io f => Sys2Proof.Machine.execSra io f s
  | .slt io f => Sys2Proof.Machine.execSlt io f s
  | .sltu io f => Sys2Proof.Machine.execSltu io f s
  | .mul io f => Sys2Proof.Machine.execMul io f s
  | .addi io f => Sys2Proof.Machine.execAddi io f s
  | .andi io f => Sys2Proof.Machine.execAndi io f s
  | .shli io f => Sys2Proof.Machine.execShli io f s
  | .shri io f => Sys2Proof.Machine.execShri io f s
  | .srai io f => Sys2Proof.Machine.execSrai io f s
  | .shin io f => Sys2Proof.Machine.execShin io f s
  | .pmov io f => Sys2Proof.Machine.execPmov io f s
  | .smov io f => Sys2Proof.Machine.execSmov io f s
  | .beq io f => Sys2Proof.Machine.execBeq io f s
  | .bne io f => Sys2Proof.Machine.execBne io f s
  | .blt io f => Sys2Proof.Machine.execBlt io f s
  | .bge io f => Sys2Proof.Machine.execBge io f s
  | .bltu io f => Sys2Proof.Machine.execBltu io f s
  | .bgeu io f => Sys2Proof.Machine.execBgeu io f s
  | .j io f => Sys2Proof.Machine.execJ io f s
  | .loop io f => Sys2Proof.Machine.execLoop io f s
  | .resultWriteback core ecc => Sys2Proof.Machine.execResultWriteback core ecc s
  | .flitInject core ch => Sys2Proof.Machine.execFlitInject core ch s
  | .msg p => Sys2Proof.Machine.execMsg p s
  | .ringRecordPlace core ch => Sys2Proof.Machine.execRingRecordPlace core ch s
  | .win p => Sys2Proof.Machine.execWin p s
  | .mcast p => Sys2Proof.Machine.execMcast p s
  | .bBufferFill q => Sys2Proof.Machine.execBBufferFill q s
  | .ladle p dup => Sys2Proof.Machine.execLadle p dup s
  | .ladleComplete core entry e => Sys2Proof.Machine.execLadleComplete core entry e s
  | .shrdReq p => Sys2Proof.Machine.execShrdReq p s
  | .shrdMergeRead core q => Sys2Proof.Machine.execShrdMergeRead core q s
  | .shrdRep p => Sys2Proof.Machine.execShrdRep p s
  | .qReq p err rot => Sys2Proof.Machine.execQReq p err rot s
  | .qCmp p err => Sys2Proof.Machine.execQCmp p err s
  | .credit p => Sys2Proof.Machine.execCredit p s
  | .ccReq q => Sys2Proof.Machine.execCcReq q s
  | .ccRep p => Sys2Proof.Machine.execCcRep p s
  | .admin p body => Sys2Proof.Machine.execAdmin p body s
  | .copyPacket p => Sys2Proof.Machine.execCopyPacket p s
  | .streamEntryStart st => Sys2Proof.Machine.execStreamEntryStart st s
  | .streamSegmentSend q => Sys2Proof.Machine.execStreamSegmentSend q s
  | .streamSegmentReceive st => Sys2Proof.Machine.execStreamSegmentReceive st s
  | .streamEntryReadDone st => Sys2Proof.Machine.execStreamEntryReadDone st s
  | .streamCreditReturn st => Sys2Proof.Machine.execStreamCreditReturn st s
  | .hintArrival site => Sys2Proof.Machine.execHintArrival site s
  | .governorTick site => Sys2Proof.Machine.execGovernorTick site s
  | .refreshWindow => Sys2Proof.Machine.execRefreshWindow s
  | .slotTick missed => Sys2Proof.Machine.execSlotTick missed s
  | .replayRestart => Sys2Proof.Machine.execReplayRestart s
  | .slotDescriptorPost => Sys2Proof.Machine.execSlotDescriptorPost s
  | .audit err => Sys2Proof.Machine.execAudit err s
  | .verdict => Sys2Proof.Machine.execVerdict s
  | .chainAppend => Sys2Proof.Machine.execChainAppend s
  | .outputRelease => Sys2Proof.Machine.execOutputRelease s
  | .certificateSign => Sys2Proof.Machine.execCertificateSign s
  | .replayDieStart site vd => Sys2Proof.Machine.execReplayDieStart site vd s
  | .replayCompare site digest => Sys2Proof.Machine.execReplayCompare site digest s
  | .opSwitch => Sys2Proof.Machine.execOpSwitch s
  | .clockStretch site ns safe => Sys2Proof.Machine.execClockStretch site ns safe s
  | .safePointChange site point => Sys2Proof.Machine.execSafePointChange site point s
  | .refclkLoss input => Sys2Proof.Machine.execRefclkLoss input s
  | .refclkReturn => Sys2Proof.Machine.execRefclkReturn s
  | .meshPhaseCompare hub phases => Sys2Proof.Machine.execMeshPhaseCompare hub phases s
  | .clockLoss site => Sys2Proof.Machine.execClockLoss site s
  | .timepulseInEdge => Sys2Proof.Machine.execTimepulseInEdge s
  | .timepulseOut => Sys2Proof.Machine.execTimepulseOut s
  | .batchSeal inputs admitted table freed => Sys2Proof.Machine.execBatchSeal inputs admitted table freed s
  | .checkpointCopyComplete buf => Sys2Proof.Machine.execCheckpointCopyComplete buf s
  | .checkpointCommit => Sys2Proof.Machine.execCheckpointCommit s
  | .spadModeChange site hashing => Sys2Proof.Machine.execSpadModeChange site hashing s
  | .routeFlipAnnounce count => Sys2Proof.Machine.execRouteFlipAnnounce count s
  | .routeFlip => Sys2Proof.Machine.execRouteFlip s
  | .drainedWord site => Sys2Proof.Machine.execDrainedWord site s
  | .faultWord kind => Sys2Proof.Machine.execFaultWord kind s
  | .syncLinkDown q => Sys2Proof.Machine.execSyncLinkDown q s
  | .controlCoreLockstepMismatch site pair stepUnderWay => Sys2Proof.Machine.execControlCoreLockstepMismatch site pair stepUnderWay s
  | .migrationCopy vd same => Sys2Proof.Machine.execMigrationCopy vd same s
  | .migrationCancel vd => Sys2Proof.Machine.execMigrationCancel vd s
  | .recoveryRestoreDone unavailable failing => Sys2Proof.Machine.execRecoveryRestoreDone unavailable failing s
  | .lostPanelHold => Sys2Proof.Machine.execLostPanelHold s
  | .auditCountTimeout port => Sys2Proof.Machine.execAuditCountTimeout port s
  | .portDown port => Sys2Proof.Machine.execPortDown port s
  | .portUp port flightNs => Sys2Proof.Machine.execPortUp port flightNs s
  | .submit sess tag off last data => Sys2Proof.Machine.execSubmit sess tag off last data s
  | .response sess tag off last data => Sys2Proof.Machine.execResponse sess tag off last data s
  | .noticeFinal => Sys2Proof.Machine.execNoticeFinal s
  | .noticeRevoke => Sys2Proof.Machine.execNoticeRevoke s
  | .noticeCert => Sys2Proof.Machine.execNoticeCert s
  | .objReq sess message => Sys2Proof.Machine.execObjReq sess message s
  | .objRsp sess => Sys2Proof.Machine.execObjRsp sess s
  | .bulkWrite sess addr data => Sys2Proof.Machine.execBulkWrite sess addr data s
  | .bulkAck sess addr status => Sys2Proof.Machine.execBulkAck sess addr status s
  | .collSend entry => Sys2Proof.Machine.execCollSend entry s
  | .collData entry frame off data => Sys2Proof.Machine.execCollData entry frame off data s
  | .collAck entry frame bytes => Sys2Proof.Machine.execCollAck entry frame bytes s
  | .collResend entry frame => Sys2Proof.Machine.execCollResend entry frame s
  | .timeProbeSend dir => Sys2Proof.Machine.execTimeProbeSend dir s
  | .timeProbe dir t1 => Sys2Proof.Machine.execTimeProbe dir t1 s
  | .timeReply dir t1 t2 t3 => Sys2Proof.Machine.execTimeReply dir t1 t2 t3 s
  | .auditCount port slot counts => Sys2Proof.Machine.execAuditCount port slot counts s
  | .faultFlag panel kind => Sys2Proof.Machine.execFaultFlag panel kind s
  | .concord port record cert => Sys2Proof.Machine.execConcord port record cert s
  | .nak port lack => Sys2Proof.Machine.execNak port lack s
  | .idle port => Sys2Proof.Machine.execIdle port s
  | .glpFrameReceive port f => Sys2Proof.Machine.execGlpFrameReceive port f s
  | .neighborSolicitation port addr => Sys2Proof.Machine.execNeighborSolicitation port addr s
  | .echoRequest port addr => Sys2Proof.Machine.execEchoRequest port addr s
  | .hostSessionIdleClose sess => Sys2Proof.Machine.execHostSessionIdleClose sess s
  | .requestTimeout sess tag => Sys2Proof.Machine.execRequestTimeout sess tag s
  | .lowRateLaneFallback portDie => Sys2Proof.Machine.execLowRateLaneFallback portDie s
  | .vinSample hub mv => Sys2Proof.Machine.execVinSample hub mv s
  | .vinLoss => Sys2Proof.Machine.execVinLoss s
  | .vinPgoodRise vinMv => Sys2Proof.Machine.execVinPgoodRise vinMv s
  | .auxPgoodRise => Sys2Proof.Machine.execAuxPgoodRise s
  | .auxPgoodFall => Sys2Proof.Machine.execAuxPgoodFall s
  | .panelResetN lowNs => Sys2Proof.Machine.execPanelResetN lowNs s
  | .ivrPhaseFault site quadrant phase => Sys2Proof.Machine.execIvrPhaseFault site quadrant phase s
  | .lossOfRegulation site => Sys2Proof.Machine.execLossOfRegulation site s
  | .efuseOpen site => Sys2Proof.Machine.execEfuseOpen site s
  | .powerOnAdmit => Sys2Proof.Machine.execPowerOnAdmit s
  | .softStartEnd site => Sys2Proof.Machine.execSoftStartEnd site s
  | .irDropSample site point dropMv modelMv => Sys2Proof.Machine.execIrDropSample site point dropMv modelMv s
  | .trivetTakeover => Sys2Proof.Machine.execTrivetTakeover s
  | .sensorSample part temps => Sys2Proof.Machine.execSensorSample part temps s
  | .stackTempReadout stack temp => Sys2Proof.Machine.execStackTempReadout stack temp s
  | .coolantStale => Sys2Proof.Machine.execCoolantStale s
  | .coolOkLow => Sys2Proof.Machine.execCoolOkLow s
  | .quenchEscalation => Sys2Proof.Machine.execQuenchEscalation s
  | .quenchEnd => Sys2Proof.Machine.execQuenchEnd s
  | .seHalfFail half => Sys2Proof.Machine.execSeHalfFail half s
  | .testStart site => Sys2Proof.Machine.execTestStart site s
  | .testCornerEnd site pass e => Sys2Proof.Machine.execTestCornerEnd site pass e s
  | .bringupStageEnd out => Sys2Proof.Machine.execBringupStageEnd out s
  | .loadComplete faultSite => Sys2Proof.Machine.execLoadComplete faultSite s
  | .liveUpdateStep ok => Sys2Proof.Machine.execLiveUpdateStep ok s
  | .load r => Sys2Proof.Machine.execLoad r s
  | .start r => Sys2Proof.Machine.execStart r s
  | .unload r => Sys2Proof.Machine.execUnload r s
  | .stageData r data => Sys2Proof.Machine.execStageData r data s
  | .stageClear r => Sys2Proof.Machine.execStageClear r s
  | .hold r => Sys2Proof.Machine.execHold r s
  | .resume r => Sys2Proof.Machine.execResume r s
  | .bringupStart r => Sys2Proof.Machine.execBringupStart r s
  | .warmReset r => Sys2Proof.Machine.execWarmReset r s
  | .enterSimmer r => Sys2Proof.Machine.execEnterSimmer r s
  | .recoveryRestart r => Sys2Proof.Machine.execRecoveryRestart r s
  | .recoveryDiscard r => Sys2Proof.Machine.execRecoveryDiscard r s
  | .fwStageData r data => Sys2Proof.Machine.execFwStageData r data s
  | .liveUpdate r => Sys2Proof.Machine.execLiveUpdate r s
  | .fwWriteOnly r readBackOk => Sys2Proof.Machine.execFwWriteOnly r readBackOk s
  | .certOnDemand r => Sys2Proof.Machine.execCertOnDemand r s
  | .unfreezeCore r vcore => Sys2Proof.Machine.execUnfreezeCore r vcore s
  | .unfreezePanel r panel => Sys2Proof.Machine.execUnfreezePanel r panel s
  | .unfreezeCredential r entry => Sys2Proof.Machine.execUnfreezeCredential r entry s
  | .quarantineRelease r site => Sys2Proof.Machine.execQuarantineRelease r site s
  | .testNow r site => Sys2Proof.Machine.execTestNow r site s
  | .settingsClear r => Sys2Proof.Machine.execSettingsClear r s
  | .linkBringup r dir => Sys2Proof.Machine.execLinkBringup r dir s
  | .roleKeyInstall r data => Sys2Proof.Machine.execRoleKeyInstall r data s
  | .roleKeyRemove r entry => Sys2Proof.Machine.execRoleKeyRemove r entry s
  | .ownerKeyInstall r data => Sys2Proof.Machine.execOwnerKeyInstall r data s
  | .ownerKeyRemove r entry => Sys2Proof.Machine.execOwnerKeyRemove r entry s
  | .calSetWrite r data => Sys2Proof.Machine.execCalSetWrite r data s
  | .calSetExport r => Sys2Proof.Machine.execCalSetExport r s
  | .quoteNonce r data => Sys2Proof.Machine.execQuoteNonce r data s
  | .quote r => Sys2Proof.Machine.execQuote r s
  | .objectWrite r obj seg data => Sys2Proof.Machine.execObjectWrite r obj seg data s
  | .segmentTimeout sess => Sys2Proof.Machine.execSegmentTimeout sess s
  | .openS r seg data => Sys2Proof.Machine.execOpenS r seg data s
  | .prove r data => Sys2Proof.Machine.execProve r data s
  | .close r => Sys2Proof.Machine.execClose r s
  | .sessionHandshake path cert => Sys2Proof.Machine.execSessionHandshake path cert s
  | .mgmtSessionIdleClose sess => Sys2Proof.Machine.execMgmtSessionIdleClose sess s
  | .refclkInputGood input => Sys2Proof.Machine.execRefclkInputGood input s
  | .ptpMessage port kind domain offset => Sys2Proof.Machine.execPtpMessage port kind domain offset s
  | .concordRetry port => Sys2Proof.Machine.execConcordRetry port s
  | .fieldTestDue site => Sys2Proof.Machine.execFieldTestDue site s
  | .seHalfRecover half => Sys2Proof.Machine.execSeHalfRecover half s
  | .objectRead r obj off => Sys2Proof.Machine.execObjectRead r obj off s
  | .linkRetry link ns => Sys2Proof.Machine.execLinkRetry link ns s
  | .mgmtPhyResetRelease port => Sys2Proof.Machine.execMgmtPhyResetRelease port s

end Sys2Proof.Machine
end

