-- ==== Sys2Proof/Safety.lean ====
section
/-! DEFINITION. What counts as a safe run: every waiting command is well formed, so no step stops. -/

namespace Sys2Proof.Machine

/-- Every waiting command names parts that exist. -/
def State.queueWf (s : State) : Prop := ∀ c ∈ s.pending, c.wf = true

/-- A step that answers a next state. -/
def runs (s : State) : Prop := ∃ t, step s = Host.Outcome.next t

end Sys2Proof.Machine
end

