-- ==== Sys2Proof/Certificates/Slice0/Obligations.lean ====
section
/-! DEFINITION. The statements for the provers, with the tables of the manual that they speak of. -/

open Sys2Proof Sys2Proof.Machine

/-! ## What several statements speak of -/

namespace Sys2Proof.Claims

/-- The command answers a next state that has the property. -/
def answers (c : Instr) (s : State) (p : State → Prop) : Prop := ∃ t, exec c s = .next t ∧ p t

/-- The lanes of a VEC operation are compared only under Class D (03 R70). -/
def laneIo (io : Issue) (f : VecF) : Issue := { io with dup := io.dup && f.cls == 1 }

/-- A slot operation: how it is presented, what it is to the issue logic, and its own effect. -/
def slotOf : Instr → Option (Issue × (State → Op) × (State → State))
  | .nop io slot => some (io, infoNop slot, id)
  | .ill q => some (q.io, infoIll q.slot q.opc, id)
  | .waitAc io idx cons src imm => some (io, infoWaitAc io.core idx src imm, effWaitAc io.core idx cons src imm)
  | .waitQ io q count arg => some (io, infoWaitQ io.core q count arg, effWaitQ io.core q count arg)
  | .waitCh io ch arg => some (io, infoWaitCh io.core ch arg, id)
  | .waitLd io ld => some (io, infoWaitLd io.core ld, id)
  | .acSet io idx src imm => some (io, infoAcSet src imm, effAcSet io.core idx src imm)
  | .acAdd io idx src imm => some (io, infoAcAdd src imm, effAcAdd io.core idx src imm)
  | .mark io last index4 => some (io, infoMark io.core last, effMark io.core last index4)
  | .pwrHint io level lead => some (io, infoPwrHint level, effPwrHint io.core level lead)
  | .tclr io acc cls eref => some (io, infoTclr io.core acc cls, effTclr io.core acc cls eref)
  | .mma io f => some (io, infoMma io.core false f, effMma io.core false f)
  | .mmaSp io f => some (io, infoMma io.core true f, effMma io.core true f)
  | .tcvt io acc fmt sat img => some (io, infoTcvt io.core acc fmt img, effTcvt io.core acc fmt sat img)
  | .txf io acc row0 rowsM1 img => some (io, infoTxf io.core acc row0 rowsM1 img, effTxf io.core acc row0 rowsM1 img)
  | .tadd io acc img => some (io, infoTadd io.core acc img, effTadd io.core acc img)
  | .tstat io acc sd => some (io, infoTstat io.core acc sd, effTstat io.core acc sd)
  | .iadd io f => some (laneIo io f, vecInfo io.core vIadd f, effIadd io.core f)
  | .isub io f => some (laneIo io f, vecInfo io.core vIsub f, effIsub io.core f)
  | .imul io f => some (laneIo io f, vecInfo io.core vImul f, effImul io.core f)
  | .iand io f => some (laneIo io f, vecInfo io.core vIand f, effIand io.core f)
  | .ior io f => some (laneIo io f, vecInfo io.core vIor f, effIor io.core f)
  | .ixor io f => some (laneIo io f, vecInfo io.core vIxor f, effIxor io.core f)
  | .ishl io f => some (laneIo io f, vecInfo io.core vIshl f, effIshl io.core f)
  | .ishr io f => some (laneIo io f, vecInfo io.core vIshr f, effIshr io.core f)
  | .isra io f => some (laneIo io f, vecInfo io.core vIsra f, effIsra io.core f)
  | .imin io f => some (laneIo io f, vecInfo io.core vImin f, effImin io.core f)
  | .imax io f => some (laneIo io f, vecInfo io.core vImax f, effImax io.core f)
  | .iadds io f => some (laneIo io f, vecInfo io.core vIadds f, effIadds io.core f)
  | .icmp io f => some (laneIo io f, vecInfo io.core vIcmp f, effIcmp io.core f)
  | .sel io f => some (laneIo io f, vecInfo io.core vSel f, effSel io.core f)
  | .vmov io f => some (laneIo io f, vecInfo io.core vVmov f, effVmov io.core f)
  | .vshuf io f => some (laneIo io f, vecInfo io.core vVshuf f, effVshuf io.core f)
  | .fadd io f => some (laneIo io f, vecInfo io.core vFadd f, effFadd io.core f)
  | .fsub io f => some (laneIo io f, vecInfo io.core vFsub f, effFsub io.core f)
  | .fmul io f => some (laneIo io f, vecInfo io.core vFmul f, effFmul io.core f)
  | .ffma io f => some (laneIo io f, vecInfo io.core vFfma f, effFfma io.core f)
  | .fmin io f => some (laneIo io f, vecInfo io.core vFmin f, effFmin io.core f)
  | .fmax io f => some (laneIo io f, vecInfo io.core vFmax f, effFmax io.core f)
  | .fabs io f => some (laneIo io f, vecInfo io.core vFabs f, effFabs io.core f)
  | .fneg io f => some (laneIo io f, vecInfo io.core vFneg f, effFneg io.core f)
  | .fcmp io f => some (laneIo io f, vecInfo io.core vFcmp f, effFcmp io.core f)
  | .frsum io f => some (laneIo io f, vecInfo io.core vFrsum f, effFrsum io.core f)
  | .irsum io f => some (laneIo io f, vecInfo io.core vIrsum f, effIrsum io.core f)
  | .cvt io f => some (laneIo io f, vecInfo io.core vCvt f, effCvt io.core f)
  | .exp2 io f => some (laneIo io f, vecInfo io.core vExp2 f, effExp2 io.core f)
  | .log2 io f => some (laneIo io f, vecInfo io.core vLog2 f, effLog2 io.core f)
  | .rcp io f => some (laneIo io f, vecInfo io.core vRcp f, effRcp io.core f)
  | .rsqrt io f => some (laneIo io f, vecInfo io.core vRsqrt f, effRsqrt io.core f)
  | .sinpi io f => some (laneIo io f, vecInfo io.core vSinpi f, effSinpi io.core f)
  | .cospi io f => some (laneIo io f, vecInfo io.core vCospi f, effCospi io.core f)
  | .vrng io f => some (laneIo io f, vecInfo io.core vVrng f, effVrng io.core f)
  | .lds io f => some (io, infoLds io.core f, effLds io.core f)
  | .sts io f => some (io, infoSts io.core f, effSts io.core f io.ecc)
  | .ldv io f => some (io, infoLdv io.core f, effLdv io.core f)
  | .stv io f => some (io, infoStv io.core f, effStv io.core f)
  | .fill io f => some (io, infoFill io.core f, effFill io.core f)
  | .copy io f => some (io, infoCopy io.core f, effCopy io.core f)
  | .send io f => some (io, infoSend io.core f, effSend io.core f)
  | .sendv io f => some (io, infoSendv io.core f, effSendv io.core f)
  | .chRel io f => some (io, infoChRel io.core f, effChRel io.core f)
  | .shrd io f => some (io, infoShrd io.core f, effShrd io.core f)
  | .qRd io f => some (io, infoQRd io.core f, effQRd io.core f)
  | .qWr io f => some (io, infoQWr io.core f, effQWr io.core f)
  | .qGath io f => some (io, infoQGath io.core f, effQGath io.core f)
  | .ldArm io f => some (io, infoLdArm io.core f, effLdArm io.core f)
  | .addS io f => some (io, ctlInfo cAddS f, effAddS io.core f)
  | .subS io f => some (io, ctlInfo cSubS f, effSubS io.core f)
  | .andS io f => some (io, ctlInfo cAndS f, effAndS io.core f)
  | .orS io f => some (io, ctlInfo cOrS f, effOrS io.core f)
  | .xor io f => some (io, ctlInfo cXor f, effXor io.core f)
  | .shl io f => some (io, ctlInfo cShl f, effShl io.core f)
  | .shr io f => some (io, ctlInfo cShr f, effShr io.core f)
  | .sra io f => some (io, ctlInfo cSra f, effSra io.core f)
  | .slt io f => some (io, ctlInfo cSlt f, effSlt io.core f)
  | .sltu io f => some (io, ctlInfo cSltu f, effSltu io.core f)
  | .mul io f => some (io, ctlInfo cMul f, effMul io.core f)
  | .addi io f => some (io, ctlInfo cAddi f, effAddi io.core f)
  | .andi io f => some (io, ctlInfo cAndi f, effAndi io.core f)
  | .shli io f => some (io, ctlInfo cShli f, effShli io.core f)
  | .shri io f => some (io, ctlInfo cShri f, effShri io.core f)
  | .srai io f => some (io, ctlInfo cSrai f, effSrai io.core f)
  | .shin io f => some (io, ctlInfo cShin f, effShin io.core f)
  | .pmov io f => some (io, infoPmov f, effPmov io.core f)
  | .smov io f => some (io, infoSmov f, effSmov io.core f)
  | .beq io f => some (io, ctlInfo cBeq f, effBeq io.core f)
  | .bne io f => some (io, ctlInfo cBne f, effBne io.core f)
  | .blt io f => some (io, ctlInfo cBlt f, effBlt io.core f)
  | .bge io f => some (io, ctlInfo cBge f, effBge io.core f)
  | .bltu io f => some (io, ctlInfo cBltu f, effBltu io.core f)
  | .bgeu io f => some (io, ctlInfo cBgeu f, effBgeu io.core f)
  | .j io f => some (io, ctlInfo cJ f, effJ io.core f)
  | .loop io f => some (io, infoLoop f, effLoop io.core f)
  | _ => none

/-- The commands of R61 to R72 and 05 to 09 that a core, its interfaces or the mesh carry out. -/
def coreWork (c : Instr) : Bool :=
  (slotOf c).isSome || match c with
  | .flitInject _ _
  | .msg _
  | .ringRecordPlace _ _
  | .win _
  | .mcast _
  | .bBufferFill _
  | .ladle _ _
  | .ladleComplete _ _ _
  | .shrdReq _
  | .shrdMergeRead _ _
  | .shrdRep _
  | .qReq _ _ _
  | .qCmp _ _
  | .credit _
  | .ccReq _
  | .ccRep _
  | .admin _ _
  | .copyPacket _
  | .streamEntryStart _
  | .streamSegmentSend _
  | .streamSegmentReceive _
  | .streamEntryReadDone _
  | .streamCreditReturn _
  | .resultWriteback _ _
  | .mmaComplete _ _
  | .tileTransferComplete _ _ _
  | .fillCopyEnd _ => true
  | _ => false

/-- Scratchpads, HBM and instruction memories are the same. -/
def sameMem (s t : State) : Prop := t.spad = s.spad ∧ t.hbm = s.hbm ∧ t.imem = s.imem

/-- The registers that R124 gives a core, other than the arrival counters, are the same. -/
def sameRegs (c d : Core) : Prop := d.sregs = c.sregs ∧ d.vregs = c.vregs ∧ d.preds = c.preds ∧ d.tiles = c.tiles

/-- Every core but one is the same. -/
def sameOthers (k : Nat) (s t : State) : Prop := ∀ j, j ≠ k → t.core j = s.core j

/-- What the core of an operation is when it is considered, and after it has issued. -/
def before (s : State) (io : Issue) : Core := (s.atIssue io).core io.core

/-- No core has anything of its last bundle left to hand over. -/
def quiet (s : State) : Prop := ∀ x ∈ s.cores, (s.core x.1).loaded = false

/-- `u` is `s` with the open bundles of its cores closed, the first thing that an event's command does (log 9); `s` itself
where no core has one. -/
def closed (s u : State) : Prop := u = s.flushAll ∨ (quiet s ∧ u = s)

/-- A packet that its interface accepts at core `k` (09 R236 to R241, R250): a good header of the type, a sink in a compute core,
the current attempt tag, next in its order, no isolated die (a multicast's copies are judged die by die). -/
def arrives (u : State) (p : Packet) (ty k : Nat) : Prop :=
  arrivesOk p = true ∧ (pktH p).type = ty ∧ (pktH p).dkind = 0 ∧ u.coreOf (pktH p).epoch (pktH p).dst = some k ∧
  u.inOrder p = true ∧ (pktH p).att = u.slots.tag.toNat ∧ (ty = 3 ∨ (u.die (k / 272)).isolated = false)

/-- Nothing of a core's earlier operations is still under way. -/
def atRest (c : Core) : Prop := c.pend = [] ∧ c.mmas = [] ∧ c.xfer = none ∧ c.mem = []

/-- The exact sum that an MMA adds to element `n` of its tile (04 R93). -/
def mmaSum (t : Tile) (j : MmaJob) (n : Nat) : Int :=
  ((mmaPairs j.sparse j.a j.b j.fa.toNat j.fb.toNat (n / 32) (n % 32)).map (fun p => match p with
    | (some x, some y) => (truncTo (x.1 * y.1) (x.2 + y.2) t.unit).1
    | _ => 0)).sum

/-- Where it issues, the command answers a next state in which the core relates so to what it was. -/
def issuesWith (c : Instr) (q : Core → Core → Prop) : Prop :=
  ∀ io info eff, slotOf c = some (io, info, eff) → ∀ s : State, s.issues io info = true →
    answers c s (fun t => q (before s io) (t.core io.core) ∧ sameMem (s.atIssue io) t ∧ sameOthers io.core (s.atIssue io) t)

/-! ### Tables of 05 -/

/-- The CTL operations of R143 with a scalar result: cycles to the result, its register, its value. -/
def ctlValue : Instr → Option (Nat × BitVec 5 × (Core → BitVec 64))
  | .addS _ f => some (1, f.rd, fun c => c.sreg f.ra.toNat + c.sreg f.rb.toNat)
  | .subS _ f => some (1, f.rd, fun c => c.sreg f.ra.toNat - c.sreg f.rb.toNat)
  | .andS _ f => some (1, f.rd, fun c => c.sreg f.ra.toNat &&& c.sreg f.rb.toNat)
  | .orS _ f => some (1, f.rd, fun c => c.sreg f.ra.toNat ||| c.sreg f.rb.toNat)
  | .xor _ f => some (1, f.rd, fun c => c.sreg f.ra.toNat ^^^ c.sreg f.rb.toNat)
  | .shl _ f => some (1, f.rd, fun c => c.sreg f.ra.toNat <<< ((c.sreg f.rb.toNat).toNat % 64))
  | .shr _ f => some (1, f.rd, fun c => c.sreg f.ra.toNat >>> ((c.sreg f.rb.toNat).toNat % 64))
  | .sra _ f => some (1, f.rd, fun c => (c.sreg f.ra.toNat).sshiftRight ((c.sreg f.rb.toNat).toNat % 64))
  | .slt _ f => some (1, f.rd, fun c => if (c.sreg f.ra.toNat).toInt < (c.sreg f.rb.toNat).toInt then 1 else 0)
  | .sltu _ f => some (1, f.rd, fun c => if (c.sreg f.ra.toNat).toNat < (c.sreg f.rb.toNat).toNat then 1 else 0)
  | .mul _ f => some (3, f.rd, fun c => BitVec.ofNat 64 ((c.sreg f.ra.toNat).toNat * (c.sreg f.rb.toNat).toNat))
  | .addi _ f => some (1, f.rd, fun c => c.sreg f.ra.toNat + f.imm.signExtend 64)
  | .andi _ f => some (1, f.rd, fun c => c.sreg f.ra.toNat &&& f.imm.signExtend 64)
  | .shli _ f => some (1, f.rd, fun c => c.sreg f.ra.toNat <<< f.imm.toNat)
  | .shri _ f => some (1, f.rd, fun c => c.sreg f.ra.toNat >>> f.imm.toNat)
  | .srai _ f => some (1, f.rd, fun c => (c.sreg f.ra.toNat).sshiftRight f.imm.toNat)
  | .shin _ f => some (1, f.rd, fun c => (c.sreg f.ra.toNat <<< 19) ||| f.imm.zeroExtend 64)
  | .smov _ f => some (1, f.rd, fun c => c.predOf f.ra.toNat)
  | _ => none

/-- The branches of R143: whether the branch is taken. -/
def branchTaken : Instr → Option (CtlF × (Core → Bool))
  | .beq _ f => some (f, fun c => decide (c.sreg f.ra.toNat = c.sreg f.rb.toNat))
  | .bne _ f => some (f, fun c => decide (c.sreg f.ra.toNat ≠ c.sreg f.rb.toNat))
  | .blt _ f => some (f, fun c => decide ((c.sreg f.ra.toNat).toInt < (c.sreg f.rb.toNat).toInt))
  | .bge _ f => some (f, fun c => decide ((c.sreg f.rb.toNat).toInt ≤ (c.sreg f.ra.toNat).toInt))
  | .bltu _ f => some (f, fun c => decide ((c.sreg f.ra.toNat).toNat < (c.sreg f.rb.toNat).toNat))
  | .bgeu _ f => some (f, fun c => decide ((c.sreg f.rb.toNat).toNat ≤ (c.sreg f.ra.toNat).toNat))
  | .j _ f => some (f, fun _ => true)
  | _ => none

/-- The VEC operations that compute each governed lane on its own: fields, cycles to the result, interval, lane value (05
R137; 04 R115, R118). -/
def laneValue : Instr → Option (VecF × Nat × Nat × (Core → Nat → BitVec 32))
  | .iadd _ f => some (f, 1, 1, fun c i => c.lane f.va.toNat i + vecB c false f i)
  | .isub _ f => some (f, 1, 1, fun c i => c.lane f.va.toNat i - vecB c false f i)
  | .imul _ f => some (f, 3, 1, fun c i => BitVec.ofNat 32 ((c.lane f.va.toNat i).toNat * (vecB c false f i).toNat))
  | .iand _ f => some (f, 1, 1, fun c i => c.lane f.va.toNat i &&& vecB c false f i)
  | .ior _ f => some (f, 1, 1, fun c i => c.lane f.va.toNat i ||| vecB c false f i)
  | .ixor _ f => some (f, 1, 1, fun c i => c.lane f.va.toNat i ^^^ vecB c false f i)
  | .ishl _ f => some (f, 1, 1, fun c i => c.lane f.va.toNat i <<< ((vecB c false f i).toNat % 32))
  | .ishr _ f => some (f, 1, 1, fun c i => c.lane f.va.toNat i >>> ((vecB c false f i).toNat % 32))
  | .isra _ f => some (f, 1, 1, fun c i => (c.lane f.va.toNat i).sshiftRight ((vecB c false f i).toNat % 32))
  | .imin _ f => some (f, 1, 1, fun c i =>
      BitVec.ofInt 32 (min (c.lane f.va.toNat i).toInt (vecB c false f i).toInt))
  | .imax _ f => some (f, 1, 1, fun c i =>
      BitVec.ofInt 32 (max (c.lane f.va.toNat i).toInt (vecB c false f i).toInt))
  | .iadds _ f => some (f, 1, 1, fun c i =>
      BitVec.ofInt 32 (max (-2147483648) (min 2147483647 ((c.lane f.va.toNat i).toInt + (vecB c false f i).toInt))))
  | .sel _ f => some (f, 1, 1, fun c i =>
      if (c.predOf (f.vc.toNat % 8)).getLsbD i then c.lane f.va.toNat i else vecB c false f i)
  | .vmov _ f => some (f, 1, 1, fun c i => vecB c false f i)
  | .vshuf _ f => some (f, 2, 1, fun c i => c.lane f.va.toNat ((vecB c false f i).toNat % 64))
  | .fadd _ f => some (f, 4, 1, fun c i => faddF (c.lane f.va.toNat i) (vecB c true f i))
  | .fsub _ f => some (f, 4, 1, fun c i => fsubF (c.lane f.va.toNat i) (vecB c true f i))
  | .fmul _ f => some (f, 4, 1, fun c i => fmulF (c.lane f.va.toNat i) (vecB c true f i))
  | .ffma _ f => some (f, 4, 1, fun c i =>
      fmaF (c.lane f.va.toNat i) (vecB c true f i) (c.lane f.vc.toNat i))
  | .fmin _ f => some (f, 4, 1, fun c i => fminF (c.lane f.va.toNat i) (vecB c true f i))
  | .fmax _ f => some (f, 4, 1, fun c i => fmaxF (c.lane f.va.toNat i) (vecB c true f i))
  | .fabs _ f => some (f, 1, 1, fun c i => (c.lane f.va.toNat i) &&& 0x7FFFFFFF)
  | .fneg _ f => some (f, 1, 1, fun c i => (c.lane f.va.toNat i) ^^^ 0x80000000)
  | .exp2 _ f => some (f, 8, 4, fun c i => exp2F (f32 (c.lane f.va.toNat i)))
  | .log2 _ f => some (f, 8, 4, fun c i => log2F (f32 (c.lane f.va.toNat i)))
  | .rcp _ f => some (f, 8, 4, fun c i => rcpF (f32 (c.lane f.va.toNat i)))
  | .rsqrt _ f => some (f, 8, 4, fun c i => rsqrtF (f32 (c.lane f.va.toNat i)))
  | .sinpi _ f => some (f, 8, 4, fun c i => sinpiF (f32 (c.lane f.va.toNat i)))
  | .cospi _ f => some (f, 8, 4, fun c i => cospiF (f32 (c.lane f.va.toNat i)))
  | .vrng _ f => some (f, 6, 1, fun c i => rngElem f.fn.toNat (c.sreg f.va.toNat) (c.sreg f.vb.toNat) i)
  | _ => none

/-- The comparisons of R137: fields, cycles to the result, the predicate bit of a lane. -/
def laneTest : Instr → Option (VecF × Nat × (Core → Nat → Bool))
  | .icmp _ f => some (f, 1, fun c i => icmpF f.fn.toNat (c.lane f.va.toNat i) (vecB c false f i))
  | .fcmp _ f => some (f, 4, fun c i => fcmpF f.fn.toNat (c.lane f.va.toNat i) (vecB c true f i))
  | _ => none

/-- The VEC operations whose lanes depend on each other (05 R138, R139): fields, cycles to the result, interval, lanes. -/
def laneList : Instr → Option (VecF × Nat × Nat × (Core → List (Nat × BitVec 32)))
  | .frsum _ f => some (f, 12, 2, vecSum f faddF)
  | .irsum _ f => some (f, 6, 2, vecSum f (fun a b => a + b))
  | .cvt _ f => some (f, 4, 1, fun c => cvtList c f)
  | _ => none

end Sys2Proof.Claims

open Sys2Proof.Claims

/-! ## The queue -/

/-- A step runs the command at the front on the state with the queue's rest; on an empty queue only TIME counts on by one
nanosecond, which is the model's choice (log 11). -/
def Obligations.step_runs_front : Prop :=
  (∀ (s : State) (c : Instr) (r : List Instr), step { s with pending := c :: r } = exec c { s with pending := r }) ∧
  (∀ s : State, s.pending = [] → step s = .next { s with time := s.time + 1 })

/-- The queue is first in, first out: no command touches what waits behind it. -/
def Obligations.queue_fifo : Prop :=
  ∀ (s t : State), step s = .next t → t.pending = s.pending.tail

/-- Every memory keeps its canonical form through every step, so that equal memories are equal data. -/
def Obligations.memory_canonical : Prop :=
  ∀ (s t : State), s.memWf = true → step s = .next t → t.memWf = true

/-- The memories are canonical at reset. R440, R466: the power-on reset is AUX with TIME 0, no program, no session, no record,
no command waiting, and every object at its Default. That every core register reads zero then is the model's choice (log
1). -/
def Obligations.reset_state : Prop :=
  State.reset.memWf = true ∧ State.reset.panel = .aux ∧ State.reset.time = 0 ∧ State.reset.prog = none ∧
  State.reset.pending = [] ∧ State.reset.access.sessions = [] ∧ State.reset.recovery.fsr = [] ∧
  (∀ k row, objRow k = some row → State.reset.obj k = row.dflt) ∧
  (∀ k r, (State.reset.core k).sreg r = 0) ∧ (∀ i, (State.reset.die i).powered = false)

/-- R60, R71: no command that a core or the mesh carries out writes an instruction memory or moves the panel to another state,
and no slot operation writes HBM. -/
def Obligations.work_writes_no_code : Prop :=
  (∀ (c : Instr) (s t : State), coreWork c = true → exec c s = .next t → t.imem = s.imem ∧ t.panel = s.panel) ∧
  (∀ (c : Instr) (s t : State), (slotOf c).isSome = true → exec c s = .next t → t.hbm = s.hbm)

/-- A step stops only where a command names a part that the panel does not have (01 R12): a queue of well-formed commands
never stops. -/
def Obligations.wellformed_never_stops : Prop :=
  ∀ (s : State) (c : Instr), c.wf = true → ∃ t, exec c s = .next t

/-! ## How a core issues (03 R61 to R72, 05 R144 to R149) -/

/-- Where it issues, a slot operation answers the next state of its own effect, followed by what every issue does. -/
def Obligations.slot_op_issues : Prop :=
  ∀ c io info eff, slotOf c = some (io, info, eff) → ∀ s : State, s.issues io info = true →
    exec c s = .next ((eff (s.atIssue io)).issued io (info (s.atIssue io)))

/-- R72, R149: a static violation freezes the core, with its state as it was before the bundle, the bundle's address in the
record, and no slot of the bundle in effect. A dynamic one freezes it so when the bundle is complete, whose slots have all been
judged. R122, R130, R148: an opcode that its slot's table does not list is illegal, SYNC opcode 0x1F among them: the core freezes
with violation 1 (the model's number, log 70). -/
def Obligations.violation_freezes : Prop :=
  (∀ c io info eff, slotOf c = some (io, info, eff) → ∀ s : State, s.canRun io.core io.join = true → okCore io.core = true →
      (io.join = true → (s.core io.core).joinable (info (s.atIssue io)).slot = true) →
      (before s io).frozen = none → ∀ v, staticViol (before s io) io (info (s.atIssue io)) = some v →
      answers c s (fun t =>
        t.core io.core = { (s.atIssue io).snap io.core with
          frozen := some { pc := ((s.atIssue io).snap io.core).pc, slot := (info (s.atIssue io)).slot, violation := v }
          hold := none, openSlot := none } ∧
        sameMem (s.atIssue io) t ∧ sameOthers io.core (s.atIssue io) t)) ∧
  (∀ c io info eff, slotOf c = some (io, info, eff) → ∀ s : State, s.canRun io.core io.join = true → okCore io.core = true →
      (io.join = true → (s.core io.core).joinable (info (s.atIssue io)).slot = true) →
      (before s io).frozen = none → staticViol (before s io) io (info (s.atIssue io)) = none → (before s io).held = false →
      minHold ((s.atIssue io).unmet io.core (info (s.atIssue io))) = none → (before s io).viol = none →
      ∀ v, (s.atIssue io).violates io.core (info (s.atIssue io)) = some v →
      answers c s (fun t =>
        (t.core io.core).viol = some ((info (s.atIssue io)).slot, (info (s.atIssue io)).opc, v) ∧
        (t.core io.core).pend = (before s io).pend ∧ sameRegs (before s io) (t.core io.core) ∧
        sameMem (s.atIssue io) t ∧ sameOthers io.core (s.atIssue io) t)) ∧
  (∀ (s : State) (k opc v : Nat) (sl : Slot), (s.core k).viol = some (sl, opc, v) →
      (((s.flush k).core k).frozen.map (fun f => (f.pc, f.slot, f.violation))) = some ((s.snap k).pc, sl, v) ∧
      sameRegs (s.snap k) ((s.flush k).core k) ∧ sameMem s (s.flush k)) ∧
  (∀ (io : Issue) (sl : Slot) (opc : BitVec 7) (s : State), s.canRun io.core io.join = true → okCore io.core = true →
      (io.join = true → (s.core io.core).joinable sl = true) → (before s io).frozen = none →
      answers (.ill ⟨io, sl, opc⟩) s (fun t =>
        (t.core io.core).frozen = some { pc := ((s.atIssue io).snap io.core).pc, slot := sl, violation := 1 } ∧
        sameRegs ((s.atIssue io).snap io.core) (t.core io.core) ∧
        (t.core io.core).pc = ((s.atIssue io).snap io.core).pc ∧ sameMem (s.atIssue io) t))

/-- R64, R66: an unmet condition holds the whole bundle, and the held cycle counts under its lowest code. -/
def Obligations.hold_counts : Prop :=
  ∀ c io info eff, slotOf c = some (io, info, eff) → ∀ s : State, s.canRun io.core io.join = true → okCore io.core = true →
    (io.join = true → (s.core io.core).joinable (info (s.atIssue io)).slot = true) →
    (before s io).frozen = none → staticViol (before s io) io (info (s.atIssue io)) = none → (before s io).held = false →
    ∀ code what, minHold ((s.atIssue io).unmet io.core (info (s.atIssue io))) = some (code, what) →
    (∀ x ∈ (s.atIssue io).unmet io.core (info (s.atIssue io)), code ≤ x.1) ∧
    answers c s (fun t =>
      (t.core io.core).stall = (((s.atIssue io).snap io.core).countStall code 1).stall ∧
      (t.core io.core).held = true ∧ (t.core io.core).pc = ((s.atIssue io).snap io.core).pc ∧
      (t.core io.core).pend = ((s.atIssue io).snap io.core).pend ∧
      sameRegs ((s.atIssue io).snap io.core) (t.core io.core) ∧
      sameMem (s.atIssue io) t ∧ sameOthers io.core (s.atIssue io) t)

/-- A core that may not issue (not running, frozen, past its last frame mark, a spare position) is left as it is by every slot
operation. At issue no operation writes a register, a tile or memory: results are written when they are due (03 R62). -/
def Obligations.issue_frame : Prop :=
  (∀ c io info eff, slotOf c = some (io, info, eff) → ∀ s : State, s.canRun io.core io.join = false → okCore io.core = true →
      exec c s = .next s) ∧
  (∀ c io info eff, slotOf c = some (io, info, eff) → ∀ s : State, s.issues io info = true →
      answers c s (fun t => sameRegs (before s io) (t.core io.core) ∧ sameMem (s.atIssue io) t ∧
        sameOthers io.core (s.atIssue io) t ∧ t.time = (s.atIssue io).time ∧ t.prog = s.prog ∧ t.access = s.access))

/-- R62, R124: a result that is due is written: the register it names holds it, s0 keeps reading zero and p0 all ones, and no
other register changes. -/
def Obligations.result_written : Prop :=
  (∀ (s : State) (k r q : Nat) (v : BitVec 64), ((s.landDest k (.sreg r v)).core k).sreg q =
    if q = 0 then 0 else if q = r then v else (s.core k).sreg q) ∧
  (∀ (s : State) (k p q : Nat) (v : BitVec 64), ((s.landDest k (.pred p v)).core k).predOf q =
    if q = 0 then BitVec.allOnes 64 else if q = p then v else (s.core k).predOf q) ∧
  (∀ (s : State) (k r q i : Nat) (l : List (Nat × BitVec 32)), (∀ x ∈ l, x.1 ≠ 64 * q + i) →
    ((s.landDest k (.vreg r l)).core k).lane q i = (s.core k).lane q i) ∧
  (∀ (s : State) (k r q i : Nat) (v : BitVec 32) (l : List (Nat × BitVec 32)),
    ((s.landDest k (.vreg r (l ++ [(64 * q + i, v)]))).core k).lane q i = v) ∧
  (∀ (s : State) (k a j n : Nat) (b : Bytes), (spadKey j n < spadKey k a ∨ spadKey k a + b.length ≤ spadKey j n) →
    (s.landDest k (.store a b)).spadRead j n 1 = s.spadRead j n 1) ∧
  (∀ (s : State) (k a : Nat) (b : Bytes), (s.landDest k (.store a b)).spadRead k a b.length = b)

/-! ## CTL -/

/-- R143: the value of every scalar operation, in flight for s[RD] with the latency of the table. -/
def Obligations.ctl_results : Prop :=
  ∀ c lat rd v, ctlValue c = some (lat, rd, v) →
    issuesWith c (fun b a => a.pend = b.pend ++ [⟨.sreg rd.toNat (v b), b.cycle, b.cycle + lat⟩] ∧ a.pc = b.pc ∧
      a.nextIssue = b.nextIssue ∧ sameRegs b a ∧ a.acs = b.acs)

/-- R122, R143: a taken branch sets the bundle address and puts the next bundle two cycles on; one not taken changes neither.
R143: LOOP writes s[RA] less 1 and branches while the new value is not zero; PMOV puts s[RA] in p[RD]. -/
def Obligations.branches_loops : Prop :=
  (∀ c f taken, branchTaken c = some (f, taken) →
      issuesWith c (fun b a => a.pend = b.pend ∧ sameRegs b a ∧ a.acs = b.acs ∧
        (if taken b then a.pc = f.imm.toNat % 2048 ∧ a.nextIssue = b.cycle + 2 else a.pc = b.pc ∧ a.nextIssue = b.nextIssue))) ∧
  ((∀ io f, issuesWith (.loop io f) (fun b a => sameRegs b a ∧ a.acs = b.acs ∧
      a.pend = b.pend ++ [⟨.sreg f.ra.toNat (b.sreg f.ra.toNat - 1), b.cycle, b.cycle + 1⟩] ∧
      (if b.sreg f.ra.toNat - 1 = 0 then a.pc = b.pc ∧ a.nextIssue = b.nextIssue
        else a.pc = f.imm.toNat % 2048 ∧ a.nextIssue = b.cycle + 2))) ∧
    (∀ io f, issuesWith (.pmov io f) (fun b a => sameRegs b a ∧ a.acs = b.acs ∧ a.pc = b.pc ∧
      a.pend = b.pend ++ [⟨.pred f.rd.toNat (b.sreg f.ra.toNat), b.cycle, b.cycle + 1⟩])))

/-! ## VEC -/

/-- R137: every lane-wise operation gives each governed lane its value, with its latency; other lanes are not written. R137: a
comparison gives the predicate the bit of each governed lane and keeps the bits of the others. -/
def Obligations.vec_lanes : Prop :=
  (∀ c f lat itv g, laneValue c = some (f, lat, itv, g) →
      issuesWith c (fun b a => sameRegs b a ∧ a.vecFree = b.cycle + itv ∧
        a.pend = b.pend ++ [⟨.vreg f.vd.toNat ((vecGov b f).map (fun i => (64 * f.vd.toNat + i, g b i))), b.cycle,
          b.cycle + lat⟩])) ∧
  (∀ c f lat g, laneTest c = some (f, lat, g) →
      issuesWith c (fun b a => sameRegs b a ∧ a.vecFree = b.cycle + 1 ∧
        ∃ v : BitVec 64, a.pend = b.pend ++ [⟨.pred (f.vd.toNat % 8) v, b.cycle, b.cycle + lat⟩] ∧
          ∀ i, i < 64 → v.getLsbD i = if i ∈ vecGov b f then g b i else (b.predOf (f.vd.toNat % 8)).getLsbD i))

/-- R138, R139: the sums and the conversions, with their latencies and intervals. R138: IRSUM puts the sum of the governed
lanes, modulo 2^32, into the lowest lane of the range and zero into the others. -/
def Obligations.vec_sums_conversions : Prop :=
  (∀ c f lat itv g, laneList c = some (f, lat, itv, g) →
      issuesWith c (fun b a => sameRegs b a ∧ a.vecFree = b.cycle + itv ∧
        a.pend = b.pend ++ [⟨.vreg f.vd.toNat ((g b).map (fun x => (64 * f.vd.toNat + x.1, x.2))), b.cycle, b.cycle + lat⟩])) ∧
  (∀ (c : Core) (f : VecF) (i : Nat), i ∈ vecLanes f →
      ((vecSum f (fun a b => a + b) c).find? (fun x => x.1 == i)).map Prod.snd =
        some (if i = (vecLanes f).headD 0 then ((vecGov c f).map (fun j => c.lane f.va.toNat j)).foldl (fun a b => a + b) 0 else 0))

/-! ## SYNC (05 R130, R131, 03 R76) -/

/-- R130: the waits complete where their condition holds: WAIT.AC subtracts its operand if CONS is set, WAIT.Q with a count
retires the entries it waited for, the others change no register. R130: AC.SET writes a counter, AC.ADD adds modulo 2^32
with the immediate sign-extended; the other counters keep their values. NOP changes no register. R131: MARK counts the
frame mark and keeps the worst lateness; the last one has no queue entry open and no send waiting. PWR.HINT (03 R76) hands
its level to the governor 100 ns on. -/
def Obligations.sync_waits_counters : Prop :=
  ((∀ io idx cons src imm, issuesWith (.waitAc io idx cons src imm) (fun b a => sameRegs b a ∧ a.pend = b.pend ∧
      acOperand b src imm false ≤ b.ac idx.toNat ∧
      (∀ j, a.ac j = if cons = true ∧ j = idx.toNat then b.ac j - acOperand b src imm false else b.ac j))) ∧
    (∀ io q count arg, issuesWith (.waitQ io q count arg) (fun b a => sameRegs b a ∧ a.pend = b.pend ∧ a.acs = b.acs ∧
      a.queue q.toNat = if count then (b.queue q.toNat).drop arg.toNat else b.queue q.toNat)) ∧
    (∀ io ch arg, issuesWith (.waitCh io ch arg) (fun b a => sameRegs b a ∧ a.pend = b.pend ∧ a.acs = b.acs ∧
      a.rings = b.rings ∧ a.landing = b.landing)) ∧
    (∀ io ld, issuesWith (.waitLd io ld) (fun b a => sameRegs b a ∧ a.pend = b.pend ∧ a.acs = b.acs ∧
      (b.ladle ld.toNat).st = .complete ∧ a.ladles = b.ladles))) ∧
  ((∀ io idx src imm, issuesWith (.acSet io idx src imm) (fun b a => sameRegs b a ∧ a.pend = b.pend ∧
      (∀ j, a.ac j = if j = idx.toNat then (if src then (b.sreg (imm.toNat % 32)).setWidth 32 else imm.setWidth 32) else b.ac j))) ∧
    (∀ io idx src imm, issuesWith (.acAdd io idx src imm) (fun b a => sameRegs b a ∧ a.pend = b.pend ∧
      (∀ j, a.ac j = if j = idx.toNat then
        b.ac j + (if src then (b.sreg (imm.toNat % 32)).setWidth 32 else imm.signExtend 32) else b.ac j))) ∧
    (∀ io slot, issuesWith (.nop io slot) (fun b a => sameRegs b a ∧ a.pend = b.pend ∧ a.acs = b.acs))) ∧
  ((∀ io last index4, issuesWith (.mark io last index4) (fun b a => sameRegs b a ∧ a.pend = b.pend ∧ a.acs = b.acs ∧
      a.ordinal = b.ordinal + 1 ∧ a.lastMark = last ∧ b.late ≤ a.late ∧ (last = true → markWaits b = false))) ∧
    (∀ io level lead, ∀ s : State, s.issues io (infoPwrHint level) = true →
      answers (.pwrHint io level lead) s (fun t =>
        (t.core io.core).hints = (before s io).hints ++
          [((s.atIssue io).coreTime io.core (before s io).cycle + 100, level.toNat,
            (s.atIssue io).coreTime io.core ((before s io).cycle + lead.toNat))] ∧
        sameRegs (before s io) (t.core io.core) ∧ level.toNat ≤ 16)))

/-! ## MAT (04, 05 R132 to R135) -/

/-- R133: TCLR, TSTAT: the clear and the status word of R97 are in flight for the next cycle. R133: a tile transfer is
accepted when none runs, and runs on the tile and the address of its operands. -/
def Obligations.tile_operations : Prop :=
  ((∀ io acc cls eref, issuesWith (.tclr io acc cls eref) (fun b a => sameRegs b a ∧ cls ≠ 3 ∧
      a.pend = b.pend ++ [⟨.tclr acc.toNat eref cls, b.cycle, b.cycle + 1⟩])) ∧
    (∀ io acc sd, issuesWith (.tstat io acc sd) (fun b a => sameRegs b a ∧
      a.pend = b.pend ++ [⟨.sreg sd.toNat (BitVec.ofNat 64 ((b.tile acc.toNat).eref.toNat * 65536 +
        (if (b.tile acc.toNat).nonfinite then 8 else 0) + (if (b.tile acc.toNat).clamped then 4 else 0) +
        (if (b.tile acc.toNat).overflow then 2 else 0) + (if (b.tile acc.toNat).inexact then 1 else 0))),
        b.cycle, b.cycle + 1⟩]))) ∧
  ((∀ io acc fmt sat img, issuesWith (.tcvt io acc fmt sat img) (fun b a => sameRegs b a ∧ b.xfer = none ∧
      ∃ j, a.xfer = some j ∧ j.kind = .tcvt ∧ j.tile = acc.toNat ∧ j.vaddr = imgEa b img.ra img.offA ∧ j.fmt = fmt ∧
        j.sat = sat ∧ b.cycle + 4 ≤ j.done)) ∧
    (∀ io acc row0 rowsM1 img, issuesWith (.txf io acc row0 rowsM1 img) (fun b a => sameRegs b a ∧ b.xfer = none ∧
      ∃ j, a.xfer = some j ∧ j.kind = .txf ∧ j.tile = acc.toNat ∧ j.vaddr = imgEa b img.ra img.offA ∧
        j.row0 = row0.toNat ∧ j.rows = rowsM1.toNat + 1 ∧ b.cycle + 4 ≤ j.done)) ∧
    (∀ io acc img, issuesWith (.tadd io acc img) (fun b a => sameRegs b a ∧ b.xfer = none ∧
      ∃ j, a.xfer = some j ∧ j.kind = .tadd ∧ j.tile = acc.toNat ∧ j.vaddr = imgEa b img.ra img.offA ∧ b.cycle + 6 ≤ j.done)))

/-- R68, R133: MMA and MMA.SP take their operand images as they stand at issue, and their tile is readable K + 6 cycles after,
K doubled under Class D. R180: with B from an operand port, an MMA issues only on a full B buffer, whose flits are its B
image. -/
def Obligations.mma_starts : Prop :=
  (∀ c sp io f, (c = Instr.mma io f ∧ sp = false) ∨ (c = Instr.mmaSp io f ∧ sp = true) → f.bsrc = false →
      ∀ s : State, s.issues io (infoMma io.core sp f) = true →
      answers c s (fun t => ∃ j, (t.core io.core).mmas = (before s io).mmas ++ [j] ∧ j.tile = f.acc.toNat ∧ j.sparse = sp ∧
        j.a = (s.atIssue io).spadRead io.core ((s.atIssue io).phys io.core (imgEa (before s io) f.ra f.offA))
          (imageLen f.fa.toNat sp false) ∧
        j.b = (s.atIssue io).spadRead io.core ((s.atIssue io).phys io.core (imgEa (before s io) f.rb f.offB))
          (imageLen f.fb.toNat sp true) ∧
        j.k = kCycles sp f.fa.toNat f.fb.toNat ((before s io).tile f.acc.toNat).cls ∧
        j.done = (before s io).cycle + j.k + 6 ∧ sameRegs (before s io) (t.core io.core) ∧ sameMem (s.atIssue io) t)) ∧
  (∀ c sp io f, (c = Instr.mma io f ∧ sp = false) ∨ (c = Instr.mmaSp io f ∧ sp = true) → f.bsrc = true →
      ∀ s : State, s.issues io (infoMma io.core sp f) = true →
      answers c s (fun t => ∃ j x, (t.core io.core).mmas = (before s io).mmas ++ [j] ∧ j.tile = f.acc.toNat ∧
        readyBuf (before s io) f.chb.toNat (imageLen f.fb.toNat sp true / 64) = some x ∧
        j.b = (x.flits.take (imageLen f.fb.toNat sp true / 64)).flatMap flitBytes ∧
        sameRegs (before s io) (t.core io.core) ∧ sameMem (s.atIssue io) t))

/-- R91, R93: at its end an MMA adds to every element the exact sum of its products, each truncated to the tile's unit. -/
def Obligations.mma_exact : Prop :=
  ∀ (s : State) (k : Nat) (j : MmaJob) (n : Nat), n < 1024 →
    (((s.mmaEnd k j).core k).tile j.tile).elem n =
      ((s.core k).tile j.tile).elem n + BitVec.ofInt 320 (mmaSum ((s.core k).tile j.tile) j n)

/-! ## MOV (05 R140, R141; 06, 07, 08) -/

/-- R141: a scalar load puts n bytes, zero- or sign-extended, and a vector load the lines, in flight for the register; a store
puts the register's bytes in flight for the aligned address it computes. -/
def Obligations.loads_stores : Prop :=
  (∀ io f, ∀ s : State, s.issues io (infoLds io.core f) = true → answers (.lds io f) s (fun t =>
    (∃ lat, 4 ≤ lat ∧ (t.core io.core).pend = (before s io).pend ++
      [⟨.load f.x.toNat ((s.atIssue io).phys io.core (alignTo (szBytes f.sz.toNat) (movEa (before s io) f)))
        (szBytes f.sz.toNat) (decide (4 ≤ f.sz.toNat)), (before s io).cycle, (before s io).cycle + lat⟩]) ∧
    sameRegs (before s io) (t.core io.core) ∧ sameMem (s.atIssue io) t)) ∧
  (∀ io f, ∀ s : State, s.issues io (infoLdv io.core f) = true → answers (.ldv io f) s (fun t =>
    (∃ lat, 4 ≤ lat ∧ (t.core io.core).pend = (before s io).pend ++
      [⟨.loadv f.x.toNat f.roff.toNat ((s.atIssue io).phys io.core (alignTo 64 (movEa (before s io) f))) (cnt f),
        (before s io).cycle, (before s io).cycle + lat⟩]) ∧
    sameRegs (before s io) (t.core io.core) ∧ sameMem (s.atIssue io) t)) ∧
  (∀ io f, ∀ s : State, s.issues io (infoSts io.core f) = true → answers (.sts io f) s (fun t =>
    (if io.ecc = .double ∧ szBytes f.sz.toNat < 8 then (t.core io.core).pend = (before s io).pend else ∃ lat, 3 ≤ lat ∧ (t.core io.core).pend = (before s io).pend ++
      [⟨.store ((s.atIssue io).phys io.core (alignTo (szBytes f.sz.toNat) (movEa (before s io) f)))
        (bytesLE (szBytes f.sz.toNat) ((before s io).sreg f.x.toNat).toNat), (before s io).cycle, (before s io).cycle + lat⟩]) ∧
    sameRegs (before s io) (t.core io.core) ∧ sameMem (s.atIssue io) t)) ∧
  (∀ io f, ∀ s : State, s.issues io (infoStv io.core f) = true → answers (.stv io f) s (fun t =>
    (∃ lat, 3 ≤ lat ∧ (t.core io.core).pend = (before s io).pend ++
      [⟨.store ((s.atIssue io).phys io.core (alignTo 64 (movEa (before s io) f)))
        (vregBytes (before s io) f.x.toNat f.roff.toNat (cnt f)), (before s io).cycle, (before s io).cycle + lat⟩]) ∧
    sameRegs (before s io) (t.core io.core) ∧ sameMem (s.atIssue io) t))

/-- R157: FILL and COPY start a memory operation over whole lines; at its end FILL has written the repeated value and COPY the
source's bytes, and no other byte has changed. -/
def Obligations.fill_copy : Prop :=
  (∀ io f, ∀ s : State, s.issues io (infoFill io.core f) = true → answers (.fill io f) s (fun t =>
    ∃ j, (t.core io.core).mem = (before s io).mem ++ [j] ∧ j.fill = true ∧ j.len = movLen f ∧
      j.dst = (s.atIssue io).phys io.core (alignTo 64 (movEa (before s io) f)) ∧ j.value = (before s io).sreg f.rb.toNat ∧
      sameRegs (before s io) (t.core io.core) ∧ sameMem (s.atIssue io) t)) ∧
  (∀ io f, ∀ s : State, s.issues io (infoCopy io.core f) = true → answers (.copy io f) s (fun t =>
    ∃ j, (t.core io.core).mem = (before s io).mem ++ [j] ∧ j.fill = false ∧ j.len = movLen f ∧
      j.dst = (s.atIssue io).phys io.core (alignTo 64 (movEa (before s io) f)) ∧
      j.src = (s.atIssue io).phys io.core (copySrc (before s io) f) ∧
      sameRegs (before s io) (t.core io.core) ∧ sameMem (s.atIssue io) t)) ∧
  (∀ (s : State) (k a c : Nat) (j : MemJob), j.len % 8 = 0 →
    (s.memEnd k j).spadRead k j.dst j.len = (if j.fill then
      (List.range (j.len / 8)).flatMap (fun _ => bytesLE 8 j.value.toNat) else s.spadRead k j.src j.len) ∧
    ((spadKey c a < spadKey k j.dst ∨ spadKey k j.dst + j.len ≤ spadKey c a) →
      (s.memEnd k j).spadRead c a 1 = s.spadRead c a 1))

/-- R141, R175, R182: SEND and SENDV put their flits behind those of the channel's send queue; SENDV's are the register's
lines at issue. R168: CH.REL releases the N + 1 oldest messages of a ring, which it holds. R170: SHRD hands the owner one
request. -/
def Obligations.sends_releases : Prop :=
  ((∀ io f, ∀ s : State, s.issues io (infoSend io.core f) = true → answers (.send io f) s (fun t =>
      ((t.core io.core).sq f.x.toNat).length = ((before s io).sq f.x.toNat).length + cnt f ∧
      sendable ((s.atIssue io).outKind io.core f.x.toNat) = true ∧
      sameRegs (before s io) (t.core io.core) ∧ sameMem (s.atIssue io) t)) ∧
    (∀ io f, ∀ s : State, s.issues io (infoSendv io.core f) = true → answers (.sendv io f) s (fun t =>
      ((t.core io.core).sq f.x.toNat).map (fun x => x.data) = ((before s io).sq f.x.toNat).map (fun x => x.data) ++
        toFlits (cnt f) (vregBytes (before s io) f.rb.toNat f.roff.toNat (cnt f)) ∧
      sameRegs (before s io) (t.core io.core) ∧ sameMem (s.atIssue io) t))) ∧
  ((∀ io f, ∀ s : State, s.issues io (infoChRel io.core f) = true → answers (.chRel io f) s (fun t =>
      cnt f ≤ ringCount ((before s io).ring f.x.toNat) ∧
      (t.core io.core).ring f.x.toNat =
        ((before s io).ring f.x.toNat).release ((s.atIssue io).ringSize io.core f.x.toNat) (cnt f) ∧
      sameRegs (before s io) (t.core io.core) ∧ sameMem (s.atIssue io) t)) ∧
    (∀ io f, ∀ s : State, s.issues io (infoShrd io.core f) = true → answers (.shrd io f) s (fun t =>
      ∃ p, (t.core io.core).outbox = (before s io).outbox ++ [p] ∧ p.payload = [] ∧
        sameRegs (before s io) (t.core io.core) ∧ sameMem (s.atIssue io) t)))

/-- R210, R216: a queue operation allocates its entries in issue order, numbered on from the queue's count. R184: LD.ARM arms
its entry and announces its contributions. -/
def Obligations.queue_ladle_ops : Prop :=
  (∀ c io f wr, (c = Instr.qRd io f ∧ wr = false) ∨ (c = Instr.qWr io f ∧ wr = true) →
    ∀ s : State, s.issues io (if wr then infoQWr io.core f else infoQRd io.core f) = true → answers c s (fun t =>
    ∃ e, (t.core io.core).queue f.x.toNat = (before s io).queue f.x.toNat ++ [e] ∧ e.write = wr ∧ e.lines = cnt f ∧
      e.haddr = qAddr (before s io) f ∧ e.num = SMap.get zeroD (before s io).qCount f.x.toNat ∧ e.done = false ∧
      sameRegs (before s io) (t.core io.core) ∧ sameMem (s.atIssue io) t)) ∧
  (∀ io f, ∀ s : State, s.issues io (infoQGath io.core f) = true → answers (.qGath io f) s (fun t =>
    ((t.core io.core).queue f.x.toNat).length = ((before s io).queue f.x.toNat).length + cnt f ∧
    SMap.get zeroD (t.core io.core).qCount f.x.toNat = SMap.get zeroD (before s io).qCount f.x.toNat + cnt f ∧
    sameRegs (before s io) (t.core io.core) ∧ sameMem (s.atIssue io) t)) ∧
  (∀ io f, ∀ s : State, s.issues io (infoLdArm io.core f) = true → answers (.ldArm io f) s (fun t =>
    ((before s io).ladle f.x.toNat).st ≠ .armed ∧ ((t.core io.core).ladle f.x.toNat).st = .armed ∧
    ((t.core io.core).ladle f.x.toNat).n = armN f ∧ (t.core io.core).armed = (before s io).armed + armN f ∧
    sameRegs (before s io) (t.core io.core) ∧ sameMem (s.atIssue io) t))

/-! ## Ends of operations in flight -/

/-- R62: RESULT_WRITEBACK carries the core to the cycle of its next results; they are in flight no longer, and where one result
is due its register holds the value and every other register is as before. R68: MMA_COMPLETE carries the core to the end of its
oldest MMA, which adds its exact sums to its tile. R133: TILE_TRANSFER_COMPLETE ends the transfer: the image of TCVT or TXF is
written, a TADD adds its image to the tile. R157: FILL_COPY_END ends the oldest FILL or COPY, whose bytes are written. -/
def Obligations.completions : Prop :=
  (∀ (k c : Nat) (e : Ecc) (s : State), okCore k = true → nextDue (s.core k) = some c →
    answers (.resultWriteback k e) s (fun t =>
      (t.core k).pend = (s.core k).pend.filter (fun p => decide (c < p.ready)) ∧
      (∀ p : Pend, (s.core k).pend.filter (fun q => decide (q.ready ≤ c)) = [p] →
        (∀ r v, p.dest = .sreg r v → ∀ q, (t.core k).sreg q = if q = 0 then 0 else if q = r then v else (s.core k).sreg q) ∧
        (∀ r v, p.dest = .pred r v → ∀ q, (t.core k).predOf q =
          if q = 0 then BitVec.allOnes 64 else if q = r then v else (s.core k).predOf q) ∧
        (∀ r l, p.dest = .vreg r l → (t.core k).vregs = SMap.putAll (fun _ => 0) (s.core k).vregs l)))) ∧
  (∀ (k : Nat) (e : Ecc) (s : State), okCore k = true → (s.core k).pend = [] →
    answers (.resultWriteback k e) s (fun t => sameRegs (s.core k) (t.core k) ∧ sameMem s t)) ∧
  (∀ (k off : Nat) (dup : Bool) (j : MmaJob) (s : State), okCore k = true → (s.core k).mmas.head? = some j →
    answers (.mmaComplete k ⟨dup, off⟩) s (fun t =>
      (t.core k).mmas = (s.core k).mmas.filter (fun x => decide (j.done < x.done)) ∧
      (t.core k).cycle = max (s.core k).cycle (j.done - 1) ∧
      ((s.core k).mmas = [j] → (s.core k).pend = [] → (s.core k).xfer = none → ∀ n, n < 1024 →
        ((t.core k).tile j.tile).elem n =
          ((s.core k).tile j.tile).elem n + BitVec.ofInt 320 (mmaSum ((s.core k).tile j.tile) j n)))) ∧
  (∀ (k off : Nat) (dup : Bool) (e : Ecc) (j : XferJob) (s : State), okCore k = true → (s.core k).xfer = some j →
    answers (.tileTransferComplete k ⟨dup, off⟩ e) s (fun t =>
      (t.core k).xfer = none ∧ s.time ≤ t.time ∧
      ((s.core k).pend = [] → (s.core k).mmas = [] → (s.core k).mem = [] →
        (j.kind = .tcvt → j.hdrAt = 0 → t.spad = writeBytes s.spad (spadKey k j.addr)
          (({ (s.core k).tile j.tile with
              overflow := ((s.core k).tile j.tile).overflow || ((s.core k).tile j.tile).leaves 0 32 }).convert j.fmt.toNat j.sat).1) ∧
        (j.kind = .txf → j.hdrAt = 0 → t.spad = writeBytes s.spad (spadKey k j.addr)
          (({ (s.core k).tile j.tile with
              overflow := ((s.core k).tile j.tile).overflow || ((s.core k).tile j.tile).leaves j.row0 j.rows }).exact j.row0 j.rows)) ∧
        (j.kind = .tadd → s.taddOk k j = true → ∀ n,
          ((t.core k).tile j.tile).elem n = (((s.core k).tile j.tile).tadd
            (s.spadRead k j.addr (64 + 1024 * (xHdr (s.spadRead k j.addr 64)).rows))).elem n)))) ∧
  (∀ (k : Nat) (j : MemJob) (s : State), okCore k = true → (s.core k).mem.head? = some j →
    answers (.fillCopyEnd k) s (fun t => j ∉ (t.core k).mem ∧ s.time ≤ t.time ∧
      ((s.core k).mem = [j] → (s.core k).pend = [] → (s.core k).mmas = [] → (s.core k).xfer = none →
        sameRegs (s.core k) (t.core k) ∧ t.spad = writeBytes s.spad (spadKey k j.dst)
          (if j.fill then (List.range (j.len / 8)).flatMap (fun _ => bytesLE 8 j.value.toNat) else s.spadRead k j.src j.len))))

/-! ## Arrival of packets (09 R236 to R241, 06, 07) -/

/-- R241, R250, R239: what an interface does with a packet that it does not accept: bad headers, isolated dies and late tags
lead to a discard, of which none reaches a core, a scratchpad or HBM. -/
def Obligations.discards_reach_nothing : Prop :=
  ∀ (s t : State) (p : Packet) (n : Nat), s.arriveAt p n = .over t →
    sameMem s.flushAll t ∧ t.cores = s.flushAll.cores

/-- R180, R182, R163, R167: a message accepted at an operand port joins its receive FIFO in order; one at a ring is written behind
its record's header line, or waits behind those that wait; one at a window is written at its line offset, and its last flit
increments the arrival counter of the binding by 1. -/
def Obligations.message_arrival : Prop :=
  (∀ (s u : State) (k : Nat) (p : Packet), closed s u → arrives u p 1 k → seqOk (u.core k) (pktH p) = true →
    u.inKind k (pktH p).dch = 1 →
    answers (.msg p) s (fun t => (t.core k).land (pktH p).dch = (u.core k).land (pktH p).dch ++ p.payload ∧
      sameRegs (u.core k) (t.core k) ∧ sameMem u t ∧ sameOthers k u t)) ∧
  (∀ (s u : State) (k : Nat) (p : Packet), closed s u → arrives u p 1 k → seqOk (u.core k) (pktH p) = true →
    u.inKind k (pktH p).dch = 2 → ((u.core k).ring (pktH p).dch).waiting ≠ [] →
    answers (.msg p) s (fun t =>
      ((t.core k).ring (pktH p).dch).waiting = ((u.core k).ring (pktH p).dch).waiting ++ [p] ∧
      sameRegs (u.core k) (t.core k) ∧ sameMem u t ∧ sameOthers k u t)) ∧
  (∀ (s u : State) (k x : Nat) (p : Packet) (b : Bnd) (r : Ring) (sk : Option Nat), closed s u → arrives u p 1 k →
    seqOk (u.core k) (pktH p) = true → u.bindIn k (pktH p).dch = some b → b.kind = 2 →
    ((u.core k).ring (pktH p).dch).waiting = [] → (u.core k).arrOf (arrKey (pktH p)) = {} →
    ((u.core k).ring (pktH p).dch).place b.size (64 * ((pktH p).len + 1)) = some (r, x, sk) →
    answers (.msg p) s (fun t =>
      t.spadRead k (b.base + x + 64) (64 * p.payload.length) = p.payload.flatMap flitBytes ∧
      ((t.core k).ring (pktH p).dch).u = r.u ∧ ((t.core k).ring (pktH p).dch).t = r.t ∧
      sameRegs (u.core k) (t.core k) ∧ t.hbm = u.hbm ∧ t.imem = u.imem ∧ sameOthers k u t)) ∧
  (∀ (s u : State) (k : Nat) (p : Packet) (b : Bnd), closed s u → arrives u p 2 k → seqOk (u.core k) (pktH p) = true →
    u.bindIn k (pktH p).dch = some b → b.kind = 3 →
    answers (.win p) s (fun t =>
      t.spad = writeBytes u.spad (spadKey k (b.base + 64 * (bits (pktH p).arg 12 0 +
        ((u.core k).arrOf (arrKey (pktH p))).got))) (p.payload.flatMap flitBytes) ∧
      (∀ j, (t.core k).ac j =
        if (pktH p).len ≤ ((u.core k).arrOf (arrKey (pktH p))).got + p.payload.length ∧ j = b.counter ∧ j < 64
        then (u.core k).ac j + 1 else (u.core k).ac j) ∧
      sameRegs (u.core k) (t.core k) ∧ t.hbm = u.hbm ∧ t.imem = u.imem ∧ sameOthers k u t))

/-- R183, R250: a multicast packet whose SEQ every receiver expects is delivered to each core of its span on a die that is not
isolated, and to no other; otherwise it is a header fault and no core changes. -/
def Obligations.multicast_arrival : Prop :=
  (∀ (s u : State) (k : Nat) (p : Packet), closed s u → arrives u p 3 k →
    (∀ x ∈ u.mcastCores (pktH p), seqOk (u.core x) (pktH p) = true) →
    answers (.mcast p) s (fun t =>
      (∀ x, (u.mcastCores (pktH p)).count x = 1 → u.inKind x (pktH p).dch = 1 →
        (t.core x).land (pktH p).dch = (u.core x).land (pktH p).dch ++ p.payload) ∧
      (∀ x, x ∈ u.mcastCores (pktH p) → sameRegs (u.core x) (t.core x)) ∧
      (∀ x, x ∉ u.mcastCores (pktH p) → t.core x = u.core x) ∧ t.hbm = u.hbm ∧ t.imem = u.imem)) ∧
  (∀ (s u : State) (k x : Nat) (p : Packet), closed s u → arrives u p 3 k → x ∈ u.mcastCores (pktH p) →
    seqOk (u.core x) (pktH p) = false →
    answers (.mcast p) s (fun t => t.cores = u.cores ∧ sameMem u t))

/-- R176: a flit leaves its send queue only with a credit of each destination, and takes one; without it nothing leaves. R167:
flits that wait for a ring are taken in their order of arrival, from the front; with no room they go on waiting. R180: a B
buffer takes up to two flits a cycle from the front of the receive FIFO of the next MMA. -/
def Obligations.credits_drains : Prop :=
  ((∀ (s u : State) (k ch : Nat) (f : SFlit) (l : List SFlit) (b : Bnd), closed s u → okCore k = true → ch < 16 →
      u.bindOut k ch = some b → (u.core k).sq ch = f :: l → (f.src = none ∨ f.after ≤ u.nowCycle k) → u.roomFor k ch b = true →
      answers (.flitInject k ch) s (fun t => ((t.core k).sq ch).length = l.length ∧
        (∀ v, (t.core k).takenOf ch v = (u.core k).takenOf ch v + (u.sinks k ch).count v) ∧
        (f.src = none → f.idx = 0 → ∃ x, t.net.flight = u.net.flight ++ [x] ∧ x.pkt.payload = [f.data]) ∧
        sameRegs (u.core k) (t.core k) ∧ sameMem u t ∧ sameOthers k u t)) ∧
    (∀ (s u : State) (k ch v : Nat), closed s u → okCore k = true → ch < 16 → v ∈ u.sinks k ch →
      16 ≤ (u.core k).takenOf ch v →
      answers (.flitInject k ch) s (fun t => ((t.core k).sq ch).length = ((u.core k).sq ch).length ∧
        (t.core k).taken = (u.core k).taken ∧ t.net = u.net ∧ sameRegs (u.core k) (t.core k) ∧ sameMem u t ∧
        sameOthers k u t))) ∧
  ((∀ (s u : State) (k ch : Nat) (b : Bnd) (p : Packet) (l : List Packet), closed s u → okCore k = true → ch < 16 →
      u.bindIn k ch = some b → ((u.core k).ring ch).waiting = p :: l →
      ((u.core k).arrOf (arrKey (pktH p))).base.isSome ∨
        (((u.core k).ring ch).place b.size (64 * ((pktH p).len + 1))).isSome →
      answers (.ringRecordPlace k ch) s (fun t => (∃ n, ((t.core k).ring ch).waiting = l.drop n) ∧
        sameRegs (u.core k) (t.core k) ∧ t.hbm = u.hbm ∧ t.imem = u.imem ∧ sameOthers k u t)) ∧
    (∀ (s u : State) (k ch : Nat) (b : Bnd) (p : Packet) (l : List Packet), closed s u → okCore k = true → ch < 16 →
      u.bindIn k ch = some b → ((u.core k).ring ch).waiting = p :: l →
      ((u.core k).arrOf (arrKey (pktH p))).base = none → ((u.core k).ring ch).place b.size (64 * ((pktH p).len + 1)) = none →
      answers (.ringRecordPlace k ch) s (fun t => ((t.core k).ring ch).waiting = p :: l ∧
        sameRegs (u.core k) (t.core k) ∧ sameMem u t ∧ sameOthers k u t)) ∧
    (∀ (s u : State) (k ch : Nat), closed s u → okCore k = true → ch < 16 → ((u.core k).ring ch).waiting = [] →
      exec (.ringRecordPlace k ch) s = .next u) ∧
    (∀ (s u : State) (k ch n : Nat) (b : Bnd) (o : Option BBuf), closed s u → okCore k = true →
      fillable (u.core k) ch n = some o → u.bindIn k ch = some b → b.kind = 1 →
      answers (.bBufferFill ⟨k, ch, n⟩) s (fun t => ∃ m,
        m = min 2 (min ((u.core k).land ch).length (n - (o.getD { ch := ch, flits := [] }).flits.length)) ∧
        (t.core k).land ch = ((u.core k).land ch).drop m ∧
        (0 < m → ∃ x ∈ (t.core k).bbufs, x.ch = (o.getD { ch := ch, flits := [] }).ch ∧
          x.flits = (o.getD { ch := ch, flits := [] }).flits ++ ((u.core k).land ch).take m) ∧
        sameMem u t ∧ sameRegs (u.core k) (t.core k) ∧ sameOthers k u t)))

/-! ## Ladle entries (07 R184 to R190) -/

/-- R184: a contribution to an entry that is not ARMED waits in the landing buffer behind the others. R186, R187: a message that an
armed entry accepts adds its elements to the sums in exact mode, or lies at its contributor's place in ordered mode. R188: a ready
entry writes its result, enters COMPLETE, and its counter is incremented by 1. -/
def Obligations.ladle_arrival_completion : Prop :=
  (∀ (s u : State) (k : Nat) (p : Packet) (d : Bool), closed s u → arrives u p 4 k → seqOk (u.core k) (pktH p) = true →
    (∀ x, s.coreOf (pktH p).epoch (pktH p).dst = some x → p ∉ ((s.core x).ladle (bits (pktH p).arg 10 6)).waiting) →
    ((u.core k).ladle (bits (pktH p).arg 10 6)).st ≠ .armed →
    answers (.ladle p d) s (fun t =>
      ((t.core k).ladle (bits (pktH p).arg 10 6)).waiting = ((u.core k).ladle (bits (pktH p).arg 10 6)).waiting ++ [p] ∧
      sameRegs (u.core k) (t.core k) ∧ sameMem u t ∧ sameOthers k u t)) ∧
  (∀ (s u : State) (k : Nat) (p : Packet) (d : Bool) (l : Ladle) (b : Bytes), closed s u → arrives u p 4 k →
    seqOk (u.core k) (pktH p) = true →
    (∀ x, s.coreOf (pktH p).epoch (pktH p).dst = some x → p ∉ ((s.core x).ladle (bits (pktH p).arg 10 6)).waiting) →
    (u.core k).ladle (bits (pktH p).arg 10 6) = l → l.st = .armed → l.waiting = [] → l.hdrAt = 0 → atRest (u.core k) →
    b = (((u.core k).arrOf (arrKey (pktH p))).flits ++ p.payload).flatMap flitBytes →
    (pktH p).len ≤ (((u.core k).arrOf (arrKey (pktH p))).flits ++ p.payload).length →
    l.refuses (bits (pktH p).arg 5 0) b = false →
    answers (.ladle p d) s (fun t =>
      (l.ordered = true → t.spad = writeBytes u.spad
        (spadKey k (l.base + l.len + bits (pktH p).arg 5 0 * l.len + l.nextOf (bits (pktH p).arg 5 0))) b) ∧
      (l.ordered = false → ∀ i, i < 32 * (xHdr b).rows →
        t.ladleSum k ((t.core k).ladle (bits (pktH p).arg 10 6)) (32 * ((xHdr b).row0 - l.r0) + i) =
          u.ladleSum k l (32 * ((xHdr b).row0 - l.r0) + i) +
            clamp256 (truncTo (exactAt b (64 + 32 * i)) ((xHdr b).eref - 160) (l.eref - 160)).1) ∧
      ((t.core k).ladle (bits (pktH p).arg 10 6)).st = .armed ∧
      sameRegs (u.core k) (t.core k) ∧ t.hbm = u.hbm ∧ t.imem = u.imem ∧ sameOthers k u t)) ∧
  (∀ (s u : State) (k e : Nat) (d : Bool) (c : Ecc) (l : Ladle), closed s u → okCore k = true → (u.core k).ladle e = l →
    l.ready = true →
    answers (.ladleComplete k e ⟨d, c⟩) s (fun t => ((t.core k).ladle e).st = .complete ∧
      (l.ordered = true → ∀ i, i < l.len / 4 → t.spadRead k (l.base + 4 * i) 4 = bytesLE 4 (orderedSum u k l i).toNat) ∧
      (l.ordered = false → ∀ i, i < 32 * l.rows →
        t.spadRead k (l.base + 64 + 32 * i) 32 = sumBytes (l.written (u.ladleSum k l i))) ∧
      (∀ j, (t.core k).ac j = if j = u.ladleCounter k e ∧ j < 64 then (u.core k).ac j + 1 else (u.core k).ac j) ∧
      sameRegs (u.core k) (t.core k) ∧ t.hbm = u.hbm ∧ t.imem = u.imem ∧ sameOthers k u t))

/-- R186, R189: an accepted exact-mode contribution adds each of its elements, truncated to the entry's unit and clamped, to
the sum of the same element, whose low 256 bits are written and whose rest stays in the guard store; a refused one changes no
entry and freezes the core that sent it. -/
def Obligations.ladle_contribution : Prop :=
  (∀ (s : State) (k : Nat) (l : Ladle) (c i : Nat) (b : Bytes), (xHdr b).row0 = l.r0 → i < 32 * (xHdr b).rows →
    exactAt (slice (s.addExact k l c b).2 (32 * i) 32) 0 + 2 ^ 256 * SMap.get zeroI (s.addExact k l c b).1.guard i =
      s.ladleSum k l i + clamp256 (truncTo (exactAt b (64 + 32 * i)) ((xHdr b).eref - 160) (l.eref - 160)).1) ∧
  (∀ (s : State) (k x : Nat) (h : Hdr) (b : Bytes), atRest (s.core k) → ((s.core k).ladle (bits h.arg 10 6)).hdrAt = 0 →
    ((s.core k).ladle (bits h.arg 10 6)).refuses (bits h.arg 5 0) b = true → s.coreOf h.epoch h.src = some x →
    ((s.ladleTake k h b).core x).frozen.isSome = true ∧ sameMem s (s.ladleTake k h b) ∧
    ∀ e, ((s.ladleTake k h b).core k).ladle e = (s.core k).ladle e)

/-! ## Shared windows (06 R170) -/

/-- R170: a request joins the entry of the same lines or opens one of at most 16; reading an entry removes it and replies to each
requester with its lines; the reply's lines land at the requester and increment its counter by 1. -/
def Obligations.shared_windows : Prop :=
  (∀ (s u : State) (k : Nat) (p : Packet) (b : Bnd), closed s u → arrives u p 5 k →
    (u.bindingsOf (pktH p).src).find? (fun b => b.ch == 16 + (pktH p).sch) = some b →
    ((∀ e ∈ (u.core k).merge, e.addr ≠ b.base + 64 * bits (pktH p).arg 12 0) → (u.core k).merge.length < 16 →
      answers (.shrdReq p) s (fun t => (∃ e, (t.core k).merge = (u.core k).merge ++ [e] ∧
        e.addr = b.base + 64 * bits (pktH p).arg 12 0 ∧ e.lines = bits (pktH p).arg 18 13 + 1 ∧
        e.askers.map (fun q => q.vcore) = [(pktH p).src]) ∧ sameRegs (u.core k) (t.core k) ∧ sameMem u t ∧ sameOthers k u t)) ∧
    (∀ e, (u.core k).merge = [e] → e.addr = b.base + 64 * bits (pktH p).arg 12 0 → e.lines = bits (pktH p).arg 18 13 + 1 →
      e.askers.length < 64 →
      answers (.shrdReq p) s (fun t => (∃ e', (t.core k).merge = [e'] ∧ e'.addr = e.addr ∧ e'.lines = e.lines ∧
        e'.askers.map (fun q => q.vcore) = e.askers.map (fun q => q.vcore) ++ [(pktH p).src]) ∧
        sameRegs (u.core k) (t.core k) ∧ sameMem u t ∧ sameOthers k u t))) ∧
  (∀ (s u : State) (k i : Nat) (c : Ecc) (e : MergeEnt), closed s u → okCore k = true → (u.core k).merge[i]? = some e →
    answers (.shrdMergeRead k ⟨i, c⟩) s (fun t => (t.core k).merge = (u.core k).merge.eraseIdx i ∧
      t.net.flight.map (fun x => x.pkt.payload) = u.net.flight.map (fun x => x.pkt.payload) ++
        e.askers.map (fun _ => toFlits e.lines (u.viewRead k e.addr (64 * e.lines))) ∧
      sameRegs (u.core k) (t.core k) ∧ sameMem u t ∧ sameOthers k u t)) ∧
  (∀ (s u : State) (k : Nat) (p : Packet), closed s u → arrives u p 6 k →
    answers (.shrdRep p) s (fun t =>
      t.spad = writeBytes u.spad (spadKey k (64 * bits (pktH p).arg 12 0)) (p.payload.flatMap flitBytes) ∧
      (∀ j, (t.core k).ac j = if j = u.shrdCounter (pktH p).dst (pktH p).dch ∧ j < 64 then (u.core k).ac j + 1
        else (u.core k).ac j) ∧
      sameRegs (u.core k) (t.core k) ∧ t.hbm = u.hbm ∧ t.imem = u.imem ∧ sameOthers k u t))

/-! ## HBM requests (08 R203 to R211) -/

/-- R203, R211: an accepted write request writes its lines of HBM and no other byte; a read request writes none and answers
with its lines. R206, R210: a completion of a read writes its lines at their place in the destination; the entry is done with
its last line. A completion of a write touches no scratchpad. -/
def Obligations.hbm_traffic : Prop :=
  (∀ (s u : State) (p : Packet) (err : List (BitVec 32)) (rot : List Nat), closed s u → arrivesOk p = true → (pktH p).type = 7 →
      (pktH p).dkind = 1 → u.inOrder p = true → u.qBefore p = false → (pktH p).att = u.slots.tag.toNat →
      (bits (pktH p).arg 63 63 = 0 →
        (∀ i, i < bits (pktH p).arg 62 51 + 1 → u.inputAt (bits (pktH p).arg 42 0 + 64 * i) = none) →
        answers (.qReq p err rot) s (fun t => sameMem u t ∧ t.cores = u.cores ∧
          ∃ l, t.net.flight = (u.eject p).net.flight ++ l ∧ l.flatMap (fun x => x.pkt.payload.flatMap flitBytes) =
            u.hbmRead ((u.net.route (pktH p).epoch).stackOf (bits (pktH p).arg 42 0 / 2 ^ 37)) (bits (pktH p).arg 42 0 % 2 ^ 37)
              (64 * (bits (pktH p).arg 62 51 + 1)))) ∧
      (bits (pktH p).arg 63 63 = 1 → p.payload.length = bits (pktH p).arg 62 51 + 1 →
        answers (.qReq p err rot) s (fun t => t.spad = u.spad ∧ t.imem = u.imem ∧ t.cores = u.cores ∧
          t.hbm = writeBytes u.hbm
            (hbmKey ((u.net.route (pktH p).epoch).stackOf (bits (pktH p).arg 42 0 / 2 ^ 37)) (bits (pktH p).arg 42 0 % 2 ^ 37))
            (p.payload.flatMap flitBytes)))) ∧
  (∀ (s u : State) (k : Nat) (p : Packet) (err : List (BitVec 32)) (e : QEnt), closed s u → arrives u p 8 k →
      slotEnt (u.core k) (bits (pktH p).arg 50 49) (bits (pktH p).arg 48 43) = some e →
      (e.write = false → olderRead (u.core k) e (bits (pktH p).arg 50 49) = false →
        answers (.qCmp p err) s (fun t =>
          t.spad = writeBytes u.spad (spadKey k (e.spad + 64 * bits (pktH p).arg 11 0)) (p.payload.flatMap flitBytes) ∧
          (∃ e', e' ∈ (t.core k).queue (bits (pktH p).arg 50 49) ∧ e'.num = e.num ∧ e'.got = e.got + p.payload.length ∧
            (e'.done = true ↔ e.lines ≤ e.got + p.payload.length)) ∧
          sameRegs (u.core k) (t.core k) ∧ t.hbm = u.hbm ∧ t.imem = u.imem ∧ sameOthers k u t)) ∧
      (e.write = true → answers (.qCmp p err) s (fun t =>
          (∃ e', e' ∈ (t.core k).queue (bits (pktH p).arg 50 49) ∧ e'.num = e.num ∧
            (e'.done = true ↔ (e.lines + 63) / 64 ≤ e.got + 1)) ∧
          sameRegs (u.core k) (t.core k) ∧ sameMem u t ∧ sameOthers k u t)))

/-- R234, R238: a channel credit gives the sender back its count on that channel and destination; an HBM request credit gives
it back to the die. No memory changes. R81, R238: a control core's request inside its windows writes or reads its line, and a
reply goes back; a halted pair's request does not leave it (R82); a reply ends the wait. R249, R251: a route-version entry is
written to the inactive version of the hub or NI that it names, and neither version that packets follow changes. R236: a COPY
packet's lines land at its address. -/
def Obligations.credits_control : Prop :=
  ((∀ (s u : State) (k : Nat) (p : Packet), closed s u → arrives u p 9 k → bits (pktH p).arg 16 16 = 0 →
      answers (.credit p) s (fun t =>
        (t.core k).takenOf (bits (pktH p).arg 3 0) (pktH p).src =
          (u.core k).takenOf (bits (pktH p).arg 3 0) (pktH p).src - bits (pktH p).arg 15 8 ∧
        sameRegs (u.core k) (t.core k) ∧ sameMem u t ∧ sameOthers k u t)) ∧
    (∀ (s u : State) (k : Nat) (p : Packet), closed s u → bits (pktH p).arg 16 16 = 1 → arrivesOk p = true → (pktH p).type = 9 →
      u.coreOf (pktH p).epoch (pktH p).dst = some k → u.inOrder p = true → (u.die (k / 272)).isolated = false →
      answers (.credit p) s (fun t =>
        SMap.get zeroD t.net.reqTaken (2 * (k / 272 * 16 + (pktH p).src)) =
          SMap.get zeroD u.net.reqTaken (2 * (k / 272 * 16 + (pktH p).src)) - bits (pktH p).arg 15 8 ∧
        t.cores = u.cores ∧ sameMem u t))) ∧
  ((∀ (s u : State) (p : Packet) (c : Ecc), closed s u → u.withheld (pktH p) = true → exec (.ccReq ⟨p, c⟩) s = .next u) ∧
    (∀ (s u : State) (k a : Nat) (p : Packet) (c : Ecc), closed s u → u.withheld (pktH p) = false → arrivesOk p = true →
      (pktH p).type = 10 → u.inOrder p = true → u.toIsolated p = false → bits (pktH p).arg 43 43 = 0 → (pktH p).dkind = 0 →
      u.coreOf (pktH p).epoch (pktH p).dst = some k → a = alignTo 64 (bits (pktH p).arg 42 0) →
      (bits (pktH p).arg 44 44 = 1 → a + 64 * p.payload.length ≤ 393216 →
        u.ccMay (pktH p) false true (pktH p).dst a (64 * p.payload.length) = true →
        answers (.ccReq ⟨p, c⟩) s (fun t => t.spad = writeBytes u.spad (spadKey k a) (p.payload.flatMap flitBytes) ∧
          t.hbm = u.hbm ∧ t.imem = u.imem ∧ sameRegs (u.core k) (t.core k) ∧ sameOthers k u t)) ∧
      (bits (pktH p).arg 44 44 = 0 → a + 64 ≤ 393216 → u.ccMay (pktH p) false false (pktH p).dst a 64 = true →
        answers (.ccReq ⟨p, c⟩) s (fun t => sameMem u t ∧ sameRegs (u.core k) (t.core k) ∧ sameOthers k u t ∧
          ∃ x ∈ t.net.flight, x.pkt.payload = toFlits 1 (u.spadRead k a 64)))) ∧
    (∀ (s u : State) (p : Packet), closed s u → arrivesOk p = true → (pktH p).type = 11 → u.inOrder p = true →
      u.toIsolated p = false →
      answers (.ccRep p) s (fun t => ((pktH p).dst, bits (pktH p).arg 52 45) ∉ t.net.ccWait ∧
        sameMem u t ∧ t.cores = u.cores)) ∧
    (∀ (s u : State) (p : Packet) (vd site : Nat), closed s u → u.withheld (pktH p) = false → arrivesOk p = true →
      (pktH p).type = 12 → u.inOrder p = true → u.toIsolated p = false → u.routeFree = true →
      answers (.admin p (.dieMap vd site)) s (fun t =>
        t.net.writes = u.net.writes ++ [(u.routeHolder (pktH p), .dieMap vd site)] ∧ t.net.a = u.net.a ∧ t.net.b = u.net.b ∧
        sameMem u t ∧ t.cores = u.cores)) ∧
    (∀ (s u : State) (k : Nat) (p : Packet), closed s u → u.withheld (pktH p) = false → arrivesOk p = true →
      (pktH p).type = 13 → u.inOrder p = true → u.toIsolated p = false → bits (pktH p).arg 43 43 = 1 → (pktH p).dkind = 0 →
      u.coreOf (pktH p).epoch (pktH p).dst = some k →
      answers (.copyPacket p) s (fun t => t.spad = writeBytes u.spad (spadKey k (alignTo 64 (bits (pktH p).arg 42 0)))
          ((p.payload.flatMap flitBytes).take (393216 - alignTo 64 (bits (pktH p).arg 42 0))) ∧
        t.hbm = u.hbm ∧ t.imem = u.imem ∧ sameRegs (u.core k) (t.core k) ∧ sameOthers k u t)))

/-! ## Raw streams (09 R245 to R248) -/

/-- R245, R246: an entry starts at its threshold; a segment of up to 16 lines leaves for one credit; its bytes land at the
destination in order; the credit comes back; the release counter is incremented after the last line has been read. R250: for an
isolated die the segment is refused, and no core or memory changes. -/
def Obligations.streams : Prop :=
  (∀ (s u : State) (st k : Nat) (e : StreamEnt), closed s u → (u.stream st).cur = some e → u.endCore e.srcCore = some k →
    u.streamRuns (u.stream st) e k = true →
    ((u.stream st).started = false → e.threshold ≤ ((u.core k).ac e.trigger).toNat →
      answers (.streamEntryStart st) s (fun t => (t.stream st).started = true ∧ (t.stream st).line = 0 ∧
        sameMem u t ∧ t.cores = u.cores)) ∧
    (∀ c, (u.stream st).started = true → 0 < (u.stream st).credits → (u.stream st).line < e.lines →
      answers (.streamSegmentSend ⟨st, c⟩) s (fun t => (t.stream st).credits = (u.stream st).credits - 1 ∧
        (t.stream st).line = (u.stream st).line + min 16 (e.lines - (u.stream st).line) ∧
        (t.stream st).flight = (u.stream st).flight ++ [((u.stream st).entry,
          u.viewRead k (e.srcAddr + 64 * (u.stream st).line) (64 * min 16 (e.lines - (u.stream st).line)))] ∧
        sameRegs (u.core k) (t.core k) ∧ sameMem u t ∧ sameOthers k u t)) ∧
    ((u.stream st).started = true → e.lines ≤ (u.stream st).line →
      answers (.streamEntryReadDone st) s (fun t => (t.stream st).entry = (u.stream st).entry + 1 ∧
        (∀ j, (t.core k).ac j = if j = e.release ∧ j < 64 then (u.core k).ac j + 1 else (u.core k).ac j) ∧
        sameMem u t ∧ sameOthers k u t))) ∧
  (∀ (s u : State) (st i k : Nat) (e : StreamEnt) (b : Bytes) (l : List (Nat × Bytes)), closed s u →
    (u.stream st).flight = (i, b) :: l → (u.stream st).list[i]? = some e → u.endCore e.dstCore = some k →
    ((u.die (k / 272)).isolated = false → answers (.streamSegmentReceive st) s (fun t => (t.stream st).flight = l ∧
      (t.stream st).owed = (u.stream st).owed + 1 ∧
      t.spad = writeBytes u.spad (spadKey k (e.dstAddr + 64 * (u.stream st).landed)) b ∧
      t.hbm = u.hbm ∧ t.imem = u.imem ∧ sameRegs (u.core k) (t.core k) ∧ sameOthers k u t)) ∧
    ((u.die (k / 272)).isolated = true → answers (.streamSegmentReceive st) s (fun t => (t.stream st).flight = l ∧
      sameMem u t ∧ t.cores = u.cores))) ∧
  (∀ (s : State) (st : Nat), 0 < (s.stream st).owed → answers (.streamCreditReturn st) s (fun t =>
    (t.stream st).credits = (s.stream st).credits + 1 ∧ (t.stream st).owed = (s.stream st).owed - 1 ∧
    sameMem s t ∧ t.cores = s.cores))

/-! ## Slots (02 R40 to R44, 08 R207) -/

/-- R40 to R43, R49: SLOT_TICK opens the next slot at its tick, which is not before the slot that ran; the cores start a
replay again at its offset; at P / 2 the descriptor of the slot after the next is posted: EMPTY without a program and
where the collective inputs of the frame have not landed, PROGRAM else. R207, R208: the next refresh window opens 240 ns
after the last unless the slot ends first; window 8 k takes the rate that a stack's temperature asks for, and the banks of
the window's set are refreshed (at the normal rate in every second cycle, log 61). -/
def Obligations.slots_turn : Prop :=
  (∀ (s : State) (missed : List Nat), s.panel ≠ .cold → answers (.slotTick missed) s (fun t =>
    t.slots.slot = s.nextSlot ∧ s.tickOf s.nextSlot ≤ t.time ∧ s.time ≤ t.time)) ∧
  (∀ (s : State) (a : Attempt), s.slots.att = some a → a.restartWait = true → answers .replayRestart s (fun t =>
    t.slots.att = some { a with restartWait := false } ∧ t.time = max s.time a.start ∧ sameMem s t ∧ t.cores = s.cores)) ∧
  (∀ s : State, s.slots.posted.length ≤ 1 → s.prog = none → answers .slotDescriptorPost s (fun t =>
    t.slots.posted = (if s.slots.posted = [] then [({} : Desc)] else s.slots.posted) ++ [({} : Desc)] ∧
    t.time = max s.time (s.tickOf s.slots.slot + s.period / 2))) ∧
  (∀ (s : State) (p : Prog), s.slots.posted.length ≤ 1 → s.prog = some p → s.panel = .running → s.thermal.quench = none →
    s.recovery.reqs = [] → s.recovery.waitFrame = none → s.slots.pResume = false → s.recovery.roll = none →
    s.slots.rollFrom = none → answers .slotDescriptorPost s (fun t =>
      t.slots.posted = (if s.slots.posted = [] then [({} : Desc)] else s.slots.posted) ++
        (if s.collLanded s.postFrame then
          framePair { kind := .program, two := s.stretchedAt (s.slots.slot + 2) }
          else [({} : Desc)]) ∧ sameMem s t ∧ t.cores = s.cores)) ∧
  (∀ (s : State) (j : Nat), j = (s.time - s.tickOf s.slots.slot) / 240 + 1 →
    (s.tickOf (s.slots.slot + 1) ≤ s.tickOf s.slots.slot + 240 * j → exec .refreshWindow s = .next s) ∧
    (s.tickOf s.slots.slot + 240 * j < s.tickOf (s.slots.slot + 1) → answers .refreshWindow s (fun t =>
      t.time = max s.time (s.tickOf s.slots.slot + 240 * j) ∧
      t.hbmStacks = SMap.mapV stackD (fun x =>
        let y : Stack := if j % 8 = 0 then { x with doubled := x.wantDoubled } else x
        if y.st = 0 ∧ (y.doubled = true ∨ j / 8 % 2 = 0) then { y with refs := SMap.upd zeroD y.refs (j % 8) (fun n => n + 1) }
        else y) s.hbmStacks ∧
      sameMem s t ∧ t.cores = s.cores)))

/-! ## Inputs, checkpoints, the scratchpad mode (01 R29, 06 R160, R161, 08 R222 to R228) -/

/-- R222: a frame's inputs are sealed once, into its retention slot, through the coder. R225, R226: a buffer's copy ends; with the
last one the shares are written and the digest taken; a checkpoint is committed once its shares are written and the frame
after it has passed. R228: a restore decodes the shares and writes the data and the tables back, or, where a stripe has
lost more than two shares, the panel enters SAFE. R160, R161: a mode change leaves zero in every word of the die and
touches no other word; where hashing mode is not allowed the abort code is 6 and nothing changes. -/
def Obligations.inputs_checkpoints : Prop :=
  (∀ (s : State) (p : Prog) (n : Nat) (inputs : Bytes) (adm : List Nat) (tab : List PageWrite) (freed : Nat),
    s.prog = some p → s.sealFrame = some n →
    ((∀ m, s.larder.sealed = some m → m < n) → answers (.batchSeal inputs adm tab freed) s (fun t =>
      t.larder.sealed = some n ∧ SMap.get zeroD t.larder.retained (n % max 1 p.rd) = n + 1 ∧
      t.fabric.held = s.fabric.held.map (fun r => if r.id ∈ adm ∧ r.frame = none then { r with frame := some n } else r) ∧
      (tab = [] → t.spad = s.spad ∧ ∀ u, u = s.atTime (s.tickOf (s.slots.slot + 1) - 25000) →
        t.hbm = (u.retainWrite p (n % max 1 p.rd) (overlay (inputs.take p.input) (u.retainRead p (n % max 1 p.rd)))).hbm) ∧
      t.imem = s.imem ∧ t.cores = s.cores)) ∧
    (∀ m, s.larder.sealed = some m → n ≤ m → exec (.batchSeal inputs adm tab freed) s = .next s)) ∧
  (∀ (s : State) (p : Prog) (pre post : List Ck) (c : Ck) (buf : CkBuf), s.prog = some p → s.larder.copying = pre ++ c :: post →
    (∀ x ∈ pre, buf ∉ x.wait) → buf ∈ c.wait →
    ((∃ b ∈ c.wait, b ≠ buf) → answers (.checkpointCopyComplete buf) s (fun t =>
      t.larder.copying = s.larder.copying.map (fun x =>
        if x = c then { c with wait := c.wait.filter (fun b => b != buf) } else x) ∧ sameMem s t ∧ t.cores = s.cores)) ∧
    ((∀ b ∈ c.wait, b = buf) → answers (.checkpointCopyComplete buf) s (fun t =>
      (∃ x ∈ t.larder.copying, x.resume = c.resume ∧ x.wait = [] ∧ x.written = true ∧ x.digest = ckDigest (ckBytes p c)) ∧
      t.hbm = (s.writeStripes p 16 (p.ckSlot c) (ckBytes p c)).hbm ∧ t.spad = s.spad ∧ t.imem = s.imem ∧ t.cores = s.cores))) ∧
  (∀ (s : State) (p : Prog) (f : Nat), s.prog = some p → s.slots.passed = some f →
    ((∀ c ∈ s.larder.copying, c.wait ≠ [] ∨ f < c.resume) → exec .checkpointCommit s = .next s) ∧
    (∀ c l, s.larder.copying = c :: l → c.wait = [] → c.resume ≤ f → answers .checkpointCommit s (fun t =>
      t.larder.committed = some (if c.written then c else c.coded p) ∧ c ∉ t.larder.copying ∧ t.spad = s.spad ∧ t.imem = s.imem ∧
      (c.written = true → t.hbm = s.hbm) ∧ t.cores = s.cores))) ∧
  (∀ (s : State) (r : Rollback) (p : Prog) (c : Ck), s.recovery.roll = some r → s.prog = some p →
    s.larder.committed = some c → s.thermal.quench = none → (∀ v ∈ r.vds, ∃ m ∈ r.moves, m.1 = v) →
    (∀ una bad data, s.readStripes p 16 (p.ckSlot c) (stripesOf p.ckLen) (una ++ bad) = some data → answers (.recoveryRestoreDone una bad) s (fun t =>
      t.recovery.roll = some { r with restored := true } ∧ t.larder.tables = c.tables ∧ t.larder.kvFree = c.kvFree ∧
      t.larder.degraded = s.degradedIn p 16 (p.ckSlot c) (stripesOf p.ckLen) (una ++ bad) ∧ t.imem = s.imem)) ∧
    (∀ una bad, s.readStripes p 16 (p.ckSlot c) (stripesOf p.ckLen) (una ++ bad) = none → s.panel = .running → answers (.recoveryRestoreDone una bad) s (fun t =>
      t.panel = .safe ∧ t.recovery.roll = none ∧ sameMem s t))) ∧
  (∀ (s : State) (site : Nat) (h : Bool), site < 144 →
    ((h = true → s.mustWheel site = false ∧
        (s.panel = .bringup ∨ (s.die site).st = .test ∨ (s.die site).st = .frozen ∨ (s.die site).quarantined = true)) →
      answers (.spadModeChange site h) s (fun t => (t.die site).hashing = h ∧
        (∀ k a, a < 2 ^ 19 → t.spadRead k a 1 =
          if k / 272 = site ∧ (s.die site).hashing ≠ h then [0] else s.spadRead k a 1) ∧
        t.hbm = s.hbm ∧ t.imem = s.imem ∧ t.cores = s.cores)) ∧
    (h = true → s.mustWheel site = true ∨
        (s.panel ≠ .bringup ∧ (s.die site).st ≠ .test ∧ (s.die site).st ≠ .frozen ∧ (s.die site).quarantined = false) →
      answers (.spadModeChange site h) s (fun t => (t.die site).modeAbort = 6 ∧ (t.die site).hashing = (s.die site).hashing ∧
        sameMem s t ∧ t.cores = s.cores)))

/-! ## Audit, verdict, chain, certificates, notices (02 R45, R50, 09 R255, 10 R286 to R291, 12 R359) -/

/-- R254, R255: the audit judges the snapshot at 20 µs by the sums that reach the two roots, and keeps its result. R45, R50: the verdict passes a frame without a report,
and fails one with a report. R286 to R290: a passed frame's record is chained by its hash, its outputs are released in
order outside SAFE and rollback, a due certificate is signed while a half of the secure element works. R359: notices leave
the oldest first, numbered by kind. -/
def Obligations.audit_to_notice : Prop :=
  (∀ (s : State) (n : Snap) (err0 err15 : List (Nat × Int)), s.slots.snap = some n → answers (.audit ⟨err0, err15⟩) s (fun t =>
    t.slots.snap = none ∧ t.time = max s.time (n.boundary + 20000) ∧
    t.num Obj.AUDIT_LAST_RESULT =
      (if field n.summary 32 2 = 0 ∧ rootBits n.cells err0 = 0 ∧ rootBits n.cells err15 = 0 then 0 else 1) ∧
    (∀ e, s.slots.ended = some e → e.boundary = n.boundary → ∃ e', t.slots.ended = some e' ∧ e'.att = e.att ∧
      e'.audit = some (decide (field n.summary 32 2 = 0 ∧ rootBits n.cells err0 = 0 ∧ rootBits n.cells err15 = 0))) ∧
    sameMem s t ∧ t.cores = s.cores)) ∧
  (∀ (s : State) (e : Ended), s.slots.ended = some e → s.panel = .running →
    (e.audit = some true → e.reports = [] → e.att.rollback = false → answers .verdict s (fun t =>
      t.slots.passed = some e.att.frame ∧ t.slots.ended = none ∧ t.slots.attempts = 0 ∧ t.slots.failed = none ∧
      e.boundary + 24000 ≤ t.time ∧ ∃ d ∈ t.checks.done, d.att = e.att ∧ d.boundary = e.boundary)) ∧
    (∀ ok, e.audit = some ok → e.reports ≠ [] → answers .verdict s (fun t =>
      t.slots.failed = some e.att.frame ∧ t.slots.ended = none ∧ t.slots.att = none ∧ e.boundary + 24000 ≤ t.time))) ∧
  (∀ (s : State) (d : Done) (l : List Done), s.checks.done = d :: l → answers .chainAppend s (fun t =>
    t.checks.done = l ∧ t.checks.entries = s.checks.entries + 1 ∧
    (∃ rec', t.checks.head = sha384 rec' ∧ (s.checks.entries, rec') ∈ t.checks.recs ∧
      (fit 48 s.chainHead ++ bytesLE 8 d.att.frame ++ s.outDigest d.att.frame) <+: rec') ∧
    t.time = max s.time (d.boundary + 32000) ∧ sameMem s t ∧ t.cores = s.cores)) ∧
  (∀ (s : State) (d : Done) (l : List Done), s.checks.release = d :: l →
    (s.panel = .safe ∨ s.recovery.roll ≠ none → exec .outputRelease s = .next s) ∧
    (s.panel ≠ .safe → s.recovery.roll = none → answers .outputRelease s (fun t =>
      t.checks.release = l ∧ t.fabric.responses = s.fabric.responses ++ s.responsesOf d ∧
      (∃ f, t.checks.lastReleased = some f ∧ d.att.frame ≤ f) ∧ t.time = max s.time (d.boundary + 40000) ∧ sameMem s t))) ∧
  (∀ (s : State) (n : Nat) (od : Bool) (l : List (Nat × Bool)), s.checks.certDue = (n, od) :: l →
    (s.access.halves = 0 → exec .certificateSign s = .next { s with checks := { s.checks with certDue := [] } }) ∧
    (s.access.halves ≠ 0 → answers .certificateSign s (fun t => (∃ f, t.checks.lastCertified = some (f, n)) ∧
      t.access.signCount = s.access.signCount + 1 ∧ t.checks.lastCert = s.certificate
        (match s.checks.lastCertified with | some c => c.2 + 1 | none => 0) n od ∧
      t.fabric.notices = s.fabric.notices ++ [(2, 0, t.checks.lastCert)] ∧ sameMem s t))) ∧
  (∀ (c : Instr) (kind : Nat) (q : Fabric → Nat), (c = .noticeFinal ∧ kind = 0 ∧ q = fun f => f.finalSeq) ∨
      (c = .noticeRevoke ∧ kind = 1 ∧ q = fun f => f.revokeSeq) ∨ (c = .noticeCert ∧ kind = 2 ∧ q = fun f => f.certSeq) →
    ∀ s : State, (s.fabric.notices.find? (fun n => n.1 == kind) = none → exec c s = .next s) ∧
      (∀ n, s.fabric.notices.find? (fun n => n.1 == kind) = some n → answers c s (fun t =>
        t.fabric.notices = s.fabric.notices.erase n ∧ sameMem s t ∧ t.cores = s.cores ∧
        q t.fabric = if (s.octets Obj.NOTICE_DEST).all (fun b => b == 0) then q s.fabric else q s.fabric + 1)))

/-! ## Operating points, references, TIME (02 R33 to R39, R52 to R55, 12 R344 to R346) -/

/-- R54: at the switch every changing die takes its new point, no higher than its safe point. R55, R53: a lower safe point is
what the monitors allow, and a stretched cycle counts as stall. R33, R34: the mesh leaves a lost reference for the other
good input or for holdover, without a step in TIME, takes a good one in holdover, and returns to the preferred input at a
tick. R35: sixteen comparisons in a row beyond 1 ns lose the hub. -/
def Obligations.points_references : Prop :=
  ((∀ s : State, s.slots.opDue = false → exec .opSwitch s = .next s) ∧
    (∀ s : State, s.slots.opDue = true → answers .opSwitch s (fun t => t.slots.opDue = false ∧ t.slots.opNew = [] ∧
      (∀ l i p r, s.slots.opNew = l ++ (i, p) :: r → (∀ x ∈ r, x.1 ≠ i) → (t.die i).op = min p (s.die i).safe) ∧
      (∀ i, (∀ x ∈ s.slots.opNew, x.1 ≠ i) → t.die i = s.die i) ∧ sameMem s t ∧ t.cores = s.cores)) ∧
    (∀ (s : State) (site p : Nat), site < 144 → answers (.safePointChange site p) s (fun t =>
      (t.die site).mon = min p 11 ∧ (t.die site).safe ≤ min p 11 ∧ (t.die site).op = (s.die site).op ∧
      (∀ j, j ≠ site → t.die j = s.die j) ∧ sameMem s t ∧ t.cores = s.cores)) ∧
    (∀ (s : State) (site ns p : Nat), site < 144 → s.slots.att ≠ none → (s.die site).st = .active →
      answers (.clockStretch site ns p) s (fun t => (t.die site).stallNs = (s.die site).stallNs + ns ∧ (t.die site).safe ≤ p ∧
        (∀ j, j ≠ site → t.die j = s.die j) ∧ sameMem s t ∧ t.cores = s.cores))) ∧
  ((∀ (s : State) (i : RefIn), s.mesh.ok i = true → answers (.refclkLoss i) s (fun t => t.mesh.ok i = false ∧
      t.time = s.time ∧ t.mesh.ok (refOther i) = s.mesh.ok (refOther i) ∧
      t.mesh.src = (if s.mesh.src = refCode i then (if s.mesh.ok (refOther i) then refCode (refOther i) else 3) else s.mesh.src) ∧
      sameMem s t ∧ t.cores = s.cores)) ∧
    (∀ (s : State) (i : RefIn), s.mesh.ok i = false → answers (.refclkInputGood i) s (fun t => t.mesh.ok i = true ∧
      t.time = s.time ∧ (s.mesh.src = 3 → t.mesh.src = refCode i) ∧ (s.mesh.src = 1 ∨ s.mesh.src = 2 → t.mesh.src = s.mesh.src) ∧
      sameMem s t ∧ t.cores = s.cores)) ∧
    (∀ s : State, s.mesh.ok s.preferred = true → s.mesh.src = refCode (refOther s.preferred) →
      (s.mesh.since s.preferred + 10000000000 ≤ s.nextTick → answers .refclkReturn s (fun t =>
        t.mesh.src = refCode s.preferred ∧ t.time = max s.time s.nextTick ∧ sameMem s t ∧ t.cores = s.cores)) ∧
      (s.nextTick < s.mesh.since s.preferred + 10000000000 → exec .refclkReturn s = .next s)) ∧
    (∀ (s : State) (h : Nat) (l : List Int), h < 16 → (s.hub h).lost = false →
      ((∃ p ∈ l, p.natAbs ≤ 1000) → answers (.meshPhaseCompare h l) s (fun t => (t.hub h).phaseRun = 0 ∧
        (t.hub h).lost = false ∧ (t.hub h).phase = l ∧ sameMem s t ∧ t.cores = s.cores)) ∧
      (l ≠ [] → (∀ p ∈ l, 1000 < p.natAbs) → 15 ≤ (s.hub h).phaseRun → answers (.meshPhaseCompare h l) s (fun t =>
        (t.hub h).lost = true ∧ (s.panel = .running → t.panel = .safe)))))

/-- R38, R39, R344 to R346: TIME is stepped only before S8 completes; after it the offset is kept and TIME does not jump. A
slew changes the rate only, which is the model's choice (log 32). -/
def Obligations.time_follows : Prop :=
  (∀ s : State, s.panel ≠ .cold → answers .timepulseOut s (fun t => ∃ n, t.pins.pulseAt = some (1000000000 * n) ∧
    t.time = 1000000000 * n ∧ s.time ≤ t.time ∧ t.time < s.time + 1000000000)) ∧
  (∀ s : State, answers .timepulseInEdge s (fun t =>
    t.num Obj.TIMEPULSE_IN_OFFSET = i32 ((s.time : Int) - ((s.time + 500000000) / 1000000000 * 1000000000 : Nat)) ∧
    t.time = (if s.isMaster = true ∧ s.num Obj.TIME_DISCIPLINE = 2 ∧ s.panel ≠ .cold ∧ s.mayStep = true
      then (s.time + 500000000) / 1000000000 * 1000000000 else s.time) ∧ sameMem s t ∧ t.cores = s.cores)) ∧
  (∀ (s : State) (d : Nat), d < 4 → s.linkMode d ≠ 0 → answers (.timeProbeSend d) s (fun t =>
    (t.dir d).probe = some t.time ∧ t.time % s.probeEvery = 0 ∧ s.time ≤ t.time ∧ sameMem s t ∧ t.cores = s.cores)) ∧
  (∀ (s : State) (d t1 p : Nat) (l : List Nat), d < 4 → s.dirUp d = p :: l → answers (.timeProbe d t1) s (fun t =>
    ((t.port p).wait.filter (fun f => f.op == 0x11)).length ≤ 1 ∧ (∀ m ∈ t.fabric.expMax.head?, s.time - t1 ≤ m) ∧
    t.time = s.time ∧ sameMem s t ∧ t.cores = s.cores)) ∧
  (∀ (s : State) (d t1 t2 t3 : Nat), d < 4 → (s.dir d).probe = some t1 → s.isMaster = false → s.parentDir = some d →
    answers (.timeReply d t1 t2 t3) s (fun t =>
      t.num Obj.TIME_GROUP_OFFSET = i32 (-((((t2 : Int) - t1) - ((s.time : Int) - t3)) / 2)) ∧
      t.time = (if s.mayStep then ((s.time : Int) + (((t2 : Int) - t1) - ((s.time : Int) - t3)) / 2).toNat else s.time) ∧
      sameMem s t ∧ t.cores = s.cores)) ∧
  (∀ (s : State) (p dom : Nat) (o : Int), p < 128 → (s.port p).up = true → s.portRole p = 1 → s.isMaster = true →
    s.num Obj.TIME_DISCIPLINE = 1 → dom = s.num Obj.PTP_DOMAIN →
    (∀ k, k = .sync ∨ k = .followUp → answers (.ptpMessage p k dom o) s (fun t => t.fabric.ptp = some o ∧ t.time = s.time ∧
      sameMem s t ∧ t.cores = s.cores)) ∧
    (∀ ms, s.fabric.ptp = some ms → answers (.ptpMessage p .delayResp dom o) s (fun t =>
      t.time = (if s.mayStep then ((s.time : Int) - (ms - o) / 2).toNat else s.time) ∧ sameMem s t ∧ t.cores = s.cores)))

/-! ## The governor (03 R76, R77, 13 R376, R377) -/

/-- R76: a hint that arrives leaves its core and, 2 µs before its step, becomes a step of the governor. R77, R377: every 100
ns the allowance rises by at most 0.2 level and falls by at most 0.4, moves at a due step to its target within the peak,
and is 0 in a quench. -/
def Obligations.governor : Prop :=
  (∀ (s : State) (site k : Nat) (h : Nat × Nat × Nat) (l : List (Nat × Nat × Nat)), site < 144 →
    s.cores.filter (fun x => x.1 / 272 == site && !x.2.hints.isEmpty) = [(k, s.core k)] → (s.core k).hints = h :: l →
    answers (.hintArrival site) s (fun t => (t.core k).hints = l ∧ (t.core k).hintLevel = h.2.1 ∧ t.time = max s.time h.1 ∧
      (h.2.2 < h.1 + 2000 → t.dies = s.dies) ∧
      (h.1 + 2000 ≤ h.2.2 → ∃ tg, (t.die site).steps = (s.die site).steps ++ [(h.2.2, tg)] ∧ tg ≤ 1000 * s.peakOf site) ∧
      sameMem s t ∧ sameOthers k s t)) ∧
  (∀ (s : State) (site : Nat), site < 144 → answers (.governorTick site) s (fun t =>
    (s.thermal.quench ≠ none → (t.die site).allow = 0) ∧
    (s.thermal.quench = none → s.thermal.release = false →
      (∀ l x, (s.die site).steps.filter (fun y => decide (y.1 ≤ t.time)) = l ++ [x] →
        (t.die site).allow = min (1000 * s.peakOf site) x.2) ∧
      ((∀ x ∈ (s.die site).steps, t.time < x.1) →
        (t.die site).allow ≤ (s.die site).allow + 200 ∧ (s.die site).allow ≤ (t.die site).allow + 400 ∧
        (t.die site).allow ≤ max (1000 * s.peakOf site) (s.die site).allow)) ∧
    (∀ k, k / 272 = site → (t.core k).used = 0) ∧
    (∀ j, j ≠ site → t.die j = s.die j) ∧ t.time = (s.nextSample (s.die site).govAt 100).time ∧ sameMem s t))

/-! ## Replays and field tests (10 R276 to R278, 16 R456 to R459) -/

/-- R276, R277: a replay starts on a spare that may take it. R278: after its two slots an equal digest passes; a first unequal
one asks for a second replay. R456 to R459: a die is tested only when admitted, enters TEST at corner 1, passes from
corner to corner, becomes WARM-SPARE after corner 4, and is quarantined by a failure; a sense point that warns again
takes it to LOST (R414); one whose test is due joins the queue. -/
def Obligations.replays_tests : Prop :=
  ((∀ (s : State) (site vd : Nat), site < 144 → s.mayReplay site = false → exec (.replayDieStart site vd) s = .next s) ∧
    (∀ (s : State) (p : Prog) (site vd : Nat), site < 144 → s.prog = some p → s.mayReplay site = true →
      s.thermal.quench = none → s.checks.again = [] → vd ∈ s.checks.waitReplay → answers (.replayDieStart site vd) s (fun t =>
        t.checks.reps = s.checks.reps ++ [{ site := site, vd := vd, since := s.slots.slot }] ∧
        t.checks.waitReplay = s.checks.waitReplay.erase vd ∧ (t.die site).hashing = false ∧ t.hbm = s.hbm)) ∧
    (∀ (s : State) (site : Nat) (b : Bytes) (r : Rep), site < 144 →
      s.checks.reps.find? (fun r => r.site == site) = some r →
      (s.slots.slot < r.since + 2 → exec (.replayCompare site b) s = .next s) ∧
      (r.since + 2 ≤ s.slots.slot → r.second = false → answers (.replayCompare site b) s (fun t =>
        t.checks.reps = s.checks.reps.filter (fun x => x.site != site) ∧ sameMem s t ∧
        (∀ k, t.core k = if k / 272 = site then {} else s.core k) ∧
        (b = SMap.get noB s.checks.transcripts r.vd →
          t.num Obj.R_REPLAYS_PASSED = s.num Obj.R_REPLAYS_PASSED + 1 ∧ t.checks.again = s.checks.again) ∧
        (b ≠ SMap.get noB s.checks.transcripts r.vd → t.num Obj.R_REPLAYS_FAILED = s.num Obj.R_REPLAYS_FAILED + 1 ∧
          ∃ x, t.checks.again = s.checks.again ++ [x] ∧ x.vd = r.vd ∧ x.second = true ∧ x.firstSite = site ∧
            x.firstDigest = b))))) ∧
  ((∀ (s : State) (site : Nat), site < 144 → s.admitsTest site = false → exec (.testStart site) s = .next s) ∧
    (∀ (s : State) (site : Nat), site < 144 → s.admitsTest site = true → (s.die site).st = .warmSpare →
      answers (.testStart site) s (fun t => (t.die site).st = .test ∧ (t.die site).corner = 1 ∧ (t.die site).hashing = true ∧
        (t.die site).cornerAt = s.time ∧ site ∉ t.bringup.testQ ∧
        ((s.die site).hashing = false → ∀ k a, k / 272 = site → a < 2 ^ 19 → t.spadRead k a 1 = [0]) ∧
        t.hbm = s.hbm ∧ t.imem = s.imem)) ∧
    (∀ (s : State) (site heat : Nat), site < 144 → (s.die site).st = .test → (s.die site).corner ≠ 0 →
      answers (.testCornerEnd site false ⟨heat, none⟩) s (fun t => t.num Obj.TEST_FAILS = s.num Obj.TEST_FAILS + 1 ∧
        (t.die site).quarantined = true ∧ sameMem s t) ∧
      ((s.die site).corner < 4 → answers (.testCornerEnd site true ⟨heat, none⟩) s (fun t =>
        (t.die site).corner = (s.die site).corner + 1 ∧ (t.die site).st = .test ∧ (t.die site).cornerAt = t.time ∧
        t.time = max s.time ((s.die site).cornerAt + 40000000000) ∧ sameMem s t)) ∧
      ((s.die site).corner = 4 → (s.die site).field = [] → answers (.testCornerEnd site true ⟨heat, none⟩) s (fun t =>
        t.num Obj.TEST_PASSES = s.num Obj.TEST_PASSES + 1 ∧ (t.die site).st = .warmSpare ∧ (t.die site).corner = 0 ∧
        t.time = max s.time ((s.die site).cornerAt + min heat 60000000000 + 40000000000) ∧ (t.die site).hashing = false ∧
        (t.die site).lastPass = t.time ∧ (t.die site).phases = [] ∧ (t.die site).marks = [])) ∧
      (∀ p, (s.die site).connTest = true → answers (.testCornerEnd site true ⟨heat, some p⟩) s (fun t => (t.die site).st = .lost ∧
        (t.die site).powered = false ∧ t.num Obj.CONN_WARNINGS = s.num Obj.CONN_WARNINGS + 1 ∧
        t.num Obj.CONN_LAST_SITE = site ∧ t.num Obj.CONN_LAST_POINT = p ∧ sameMem s t ∧ t.cores = s.cores))) ∧
    (∀ (s : State) (site : Nat), site < 144 → s.testing = true → (s.die site).st = .warmSpare →
      (s.die site).quarantined = false → answers (.fieldTestDue site) s (fun t => site ∈ t.bringup.testQ ∧
        t.time = max s.time (s.die site).testDue ∧ sameMem s t ∧ t.cores = s.cores)))

/-! ## Flips, faults and migrations (09 R251, R252, R257, R258, 15 R413 to R434) -/

/-- R251: a flip is announced for the first boundary from a named count on, at least 2 × P ahead, once the version is written and agreed, and takes effect when
due: the other version is active and no migration is left. R252: a drained word strikes its site. R418: a copy that
matches completes its migration; a cancelled flip leaves none. R258: a retry is counted. -/
def Obligations.flips_migrations : Prop :=
  (∀ (s : State) (count at' : Nat), 0 < s.period →
    at' = (if s.recovery.roll = none then count else s.time + 2 * s.period) →
    (s.net.invState = 1 → s.hubsAgree = true → s.thermal.quench = none → s.time + 2 * s.period ≤ at' →
      answers (.routeFlipAnnounce count) s (fun t =>
        t.net.invState = 2 ∧ t.net.writes = [] ∧
        t.net.flipAt % s.period = 0 ∧ at' ≤ t.net.flipAt ∧ t.net.flipAt < at' + s.period ∧
        sameMem s t ∧ t.cores = s.cores)) ∧
    (2 ≤ s.net.invState → answers (.routeFlipAnnounce count) s (fun t =>
      t.num Obj.ROUTE_FLIPS_REFUSED = s.num Obj.ROUTE_FLIPS_REFUSED + 1 ∧ t.net = s.net ∧ sameMem s t ∧ t.cores = s.cores)) ∧
    (s.net.invState = 0 ∨ (s.net.invState = 1 ∧ (s.hubsAgree = false ∨ s.thermal.quench ≠ none ∨ at' < s.time + 2 * s.period)) →
      exec (.routeFlipAnnounce count) s = .next s)) ∧
  (∀ s : State, (s.net.flipDue = false → exec .routeFlip s = .next s) ∧
    (s.net.flipDue = true → answers .routeFlip s (fun t => t.net.epochB = (!s.net.epochB) ∧
      t.net.invState = (if t.net.oldFlits = 0 then 0 else 3) ∧
      t.net.flipDue = false ∧ t.recovery.migs = [] ∧ t.net.a = s.net.a ∧ t.net.b = s.net.b ∧
      t.num Obj.ROUTE_FLIP_COUNT = s.num Obj.ROUTE_FLIP_COUNT + 1 ∧ t.hbm = s.hbm ∧ t.imem = s.imem))) ∧
  (∀ (s : State) (site : Nat), site < 144 → answers (.drainedWord site) s (fun t =>
    (∀ i, i ∈ t.net.undrained ↔ i ∈ s.net.undrained ∧ (i = site → site ∈ s.oldSites)) ∧ sameMem s t ∧ t.cores = s.cores)) ∧
  (∀ (s : State) (vd : Nat) (m : Mig), s.recovery.migs.find? (fun m => m.vd == vd) = some m → s.slots.kind = .blank →
    m.copied = false → m.fromLoad = false →
    (m.src ∉ s.net.undrained → s.thermal.quench = none → m.tries < 2 → answers (.migrationCopy vd true) s (fun t =>
      (∀ x ∈ t.recovery.migs, x.vd = vd → x.copied = true) ∧ t.recovery.migs.length = s.recovery.migs.length ∧
      t.spad = (s.copySpads m.src m.dst vd).spad ∧ t.hbm = s.hbm ∧ t.imem = s.imem ∧ t.cores = s.cores)) ∧
    (m.src ∉ s.net.undrained → s.thermal.quench = none → m.tries = 1 → answers (.migrationCopy vd false) s (fun t =>
      (∀ x ∈ t.recovery.migs, x.vd = vd → 0 < x.tries) ∧
      ((s.die m.dst).field.length < 4 → (t.die m.dst).field.length = (s.die m.dst).field.length + 1) ∧
      t.bringup.mapSeq = s.bringup.mapSeq + 1)) ∧
    answers (.migrationCancel vd) s (fun t => t.recovery.migs = [] ∧ t.net.flipDue = false ∧ t.net.flipAt = 0 ∧
      t.num Obj.MIGRATIONS_CANCELLED = s.num Obj.MIGRATIONS_CANCELLED + s.recovery.migs.length ∧
      t.time = max s.time (s.tickOf (s.slots.slot + 1) - 10000) ∧ sameMem s t ∧ t.cores = s.cores)) ∧
  (∀ (s : State) (site ns : Nat), site < 144 → answers (.linkRetry (.dieToHub site) ns) s (fun t =>
    t.num Obj.D2D_RETRIES = s.num Obj.D2D_RETRIES + 1 ∧ (t.die site).stallNs = (s.die site).stallNs + ns ∧
    sameMem s t ∧ t.cores = s.cores))

/-- R257, R420: a FAULT word ends the attempt, whose traffic is discarded, and abandons the slot; outside an attempt it
changes nothing. R257, R423: a word of which both copies fail counts, and with the
fourth in a row the link between two hubs is down, which both note; a word with a good copy ends the run. R82, R83: a lockstep mismatch halts the pair and asks
for a migration. R433: a link that misses its counts is entered in the lost ledger. R434: a lost panel leads to HOLD with
cause 7. -/
def Obligations.faults_reported : Prop :=
  (∀ (s : State) (k : FaultKind), s.slots.att = none → exec (.faultWord k) s = .next s) ∧
  (∀ (s : State) (k : FaultKind) (a : Attempt), s.slots.att = some a → k ≠ .overrun ∨ a.restartWait = false →
    answers (.faultWord k) s (fun t => t.slots.att = none ∧ t.slots.kind = .abandoned ∧
      (∀ x ∈ t.net.flight, ofAttempt x.pkt = false) ∧ s.net.discards ≤ t.net.discards ∧ sameMem s t ∧ t.cores = s.cores)) ∧
  (∀ (s : State) (a b : Nat) (l : List (BitVec 96 × BitVec 96)), a < 16 → b < 16 → b ∈ hubNeighbours a →
    (l ≠ [] → (∀ w ∈ l, syncTake w = none) → answers (.syncLinkDown ⟨.hubHub a b, l⟩) s (fun t =>
      t.num Obj.SYNC_WORD_ERRORS = s.num Obj.SYNC_WORD_ERRORS + l.length ∧
      (4 ≤ SMap.get zeroD s.net.syncBad (syncKey (.hubHub a b)) + l.length → b ∈ (t.hub a).linksDown ∧ a ∈ (t.hub b).linksDown) ∧
      (SMap.get zeroD s.net.syncBad (syncKey (.hubHub a b)) + l.length < 4 → t.hubs = s.hubs) ∧ sameMem s t)) ∧
    (∀ w, syncTake w ≠ none → answers (.syncLinkDown ⟨.hubHub a b, [w]⟩) s (fun t =>
      SMap.get zeroD t.net.syncBad (syncKey (.hubHub a b)) = 0 ∧ t.hubs = s.hubs ∧
      t.num Obj.SYNC_WORD_ERRORS = s.num Obj.SYNC_WORD_ERRORS ∧ sameMem s t ∧ t.cores = s.cores))) ∧
  (∀ (s : State) (site p : Nat) (w : Option Nat), site < 144 → p < 4 → (s.die site).powered = true →
    p ∉ (s.die site).haltedPairs → answers (.controlCoreLockstepMismatch site p w) s (fun t =>
      (t.die site).haltedPairs = (s.die site).haltedPairs ++ [p] ∧ (t.die site).lockstep = (s.die site).lockstep + 1 ∧
      ((s.die site).vd.isSome = true → ∃ r ∈ t.recovery.reqs, r.site = site) ∧ t.time = s.time ∧ sameMem s t ∧
      t.cores = s.cores)) ∧
  (∀ (s : State) (p : Nat), p < 128 → (s.port p).linked = true →
    ((s.port p).gotAudit = true → exec (.auditCountTimeout p) s = .next s) ∧
    ((s.port p).gotAudit = false → answers (.auditCountTimeout p) s (fun t => (t.port p).lost = true ∧
      (t.port p).missed = (s.port p).missed + 1 ∧ (t.port p).retry = [] ∧ s.num Obj.LOST_LEDGER_FLITS ≤ t.num Obj.LOST_LEDGER_FLITS ∧
      t.time = max s.time (s.tickOf s.slots.slot + 15000) ∧ sameMem s t ∧ t.cores = s.cores))) ∧
  (∀ (s : State) (n : Nat), s.fabric.emptySince = some n → s.panel = .running → s.fabric.lostPanels ≠ [] →
    answers .lostPanelHold s (fun t => t.panel = .hold ∧ t.num Obj.HOLD_CAUSE = 7 ∧ t.time = max s.time (n + 1000000000) ∧
      sameMem s t ∧ t.cores = s.cores))

/-- R420, R421: a die lost by its clock (02 R36), its regulation (13 R374), its fuse (13 R375) or its sync link (15 R423) goes
dark and is isolated; its cores and scratchpads are lost; no attempt runs on; the record of its ledger is written. A spare
that is lost touches no other memory; the loss of an ACTIVE die may prepare its target at once (15 R424). -/
def Obligations.dies_lost : Prop :=
  ∀ (c : Instr) (site : Nat) (s : State), c = .clockLoss site ∨ c = .lossOfRegulation site ∨
      (c = .efuseOpen site ∧ (s.panel ≠ .bringup ∨ (s.die site).efuseBefore = false)) ∨
      (∃ l, c = .syncLinkDown ⟨.dieHub site, l⟩ ∧ (s.syncWords (syncKey (.dieHub site)) l).2 = true) →
    site < 144 → (s.die site).powered = true → (s.die site).st ≠ .dark → (s.die site).st ≠ .lost →
    (s.die site).st ≠ .coldSpare → answers c s (fun t => (t.die site).st = .dark ∧ (t.die site).isolated = true ∧
      (t.die site).powered = false ∧ (t.die site).vd = none ∧ t.slots.att = none ∧
      (∀ k, t.core k = if k / 272 = site then {} else s.core k) ∧
      (s.recovery.roll = none → (∀ m ∈ s.recovery.migs, m.dst ≠ site) →
        ∀ k a, k / 272 = site → a < 2 ^ 19 → t.spadRead k a 1 = [0]) ∧
      ((s.die site).vd = none → t.imem = s.imem ∧
        ∀ k a, k / 272 ≠ site → a < 2 ^ 19 → t.spadRead k a 1 = s.spadRead k a 1) ∧
      t.recovery.recons.length = s.recovery.recons.length + 1 ∧ s.num Obj.FSR_LAST_SEQ < t.num Obj.FSR_LAST_SEQ ∧
      t.hbm = s.hbm)

/-! ## Ports and panel links (12 R327 to R343, R352, R355, R362) -/

/-- R327, R333, R362: a port comes up where it may, and one that goes down drops what it kept. R332, R333: a frame with a bad
LCRC is refused; one in sequence is taken, and a frozen panel's is discarded into the ledger; after a NAK the later frames
are sent again first. R340: the row of a concord record sets the link's mode. R352: the peer's counts are kept. R355: a
host-mode port answers. -/
def Obligations.ports_links : Prop :=
  (∀ (s : State) (p : Nat), p < 128 →
    ((s.port p).up = false → exec (.portDown p) s = .next s) ∧
    ((s.port p).up = true → answers (.portDown p) s (fun t => (t.port p).up = false ∧ (t.port p).retry = [] ∧
      (t.port p).wait = [] ∧ s.net.discards ≤ t.net.discards ∧ sameMem s t ∧ t.cores = s.cores)) ∧
    (∀ ns, ((s.port p).up = true ∨ s.mayUp p = false → exec (.portUp p ns) s = .next s) ∧
      ((s.port p).up = false → s.mayUp p = true → answers (.portUp p ns) s (fun t => (t.port p).up = true ∧
        (t.port p).linked = true ∧ (t.port p).flight = ns ∧ (t.port p).rxSeq = 0 ∧ sameMem s t ∧ t.cores = s.cores)))) ∧
  (∀ (s : State) (d : Nat), d < 8 → s.panel = .simmer → (s.portDie d).laneDown = false → (s.portDie d).off = false →
    answers (.lowRateLaneFallback d) s (fun t =>
      (t.portDie d).lane = (if (s.portDie d).lane < 3 then (s.portDie d).lane + 1 else (s.portDie d).lane) ∧
      (t.portDie d).laneDown = !decide ((s.portDie d).lane < 3) ∧ sameMem s t ∧ t.cores = s.cores)) ∧
  (∀ (s : State) (p : Nat) (f : GlpFrame), p < 128 → (s.port p).up = true → s.portRole p = 0 →
    answers (.glpFrameReceive p f) s (fun t => sameMem s t ∧ t.cores = s.cores ∧
      (t.port p).rxSeq = (if f.lcrc.toNat = f.lcrcOf ∧ f.cls ≠ 15 ∧ f.lseq = (s.port p).rxSeq
        then ((s.port p).rxSeq + 1) % 4096 else (s.port p).rxSeq) ∧
      (f.lcrc.toNat = f.lcrcOf → f.cls ≠ 15 → f.cls ≠ 4 → f.lseq = (s.port p).rxSeq → s.panelFrozen f.srcp = true →
        t.net.discards = s.net.discards + f.units))) ∧
  (∀ (s : State) (p : Nat), p < 128 → (s.port p).up = true →
    (∀ n, answers (.nak p n) s (fun t => (s.port p).retry.filter (fun g => decide (2048 ≤ (n % 4096 + 4096 - g.lseq) % 4096)) <+:
      (t.port p).retry ∧ sameMem s t ∧ t.cores = s.cores)) ∧
    (s.portRole p = 0 → (s.port p).wait = [] → answers (.idle p) s (fun t => (t.port p).idleAt = t.time ∧
      t.time = (s.nextSample (s.port p).idleAt 100).time ∧ sameMem s t ∧
      t.cores = s.cores)) ∧
    (s.portRole p = 0 → ∀ r c, answers (.concord p r c) s (fun t =>
      (t.port p).base = (if s.concordRow p r c ≤ 3 then 0 else if s.concordRow p r c ≤ 6 then 1 else 2) ∧
      (t.port p).retryAt = (if s.concordRow p r c = 1 then s.time + 10000000000 else 0) ∧
      (3 < s.concordRow p r c → (t.port p).peerProgram = slice r 76 48) ∧
      (s.concordRow p r c < 8 → t.num Obj.CONCORD_LAST_FINDING = 256 * dirOf p + s.concordRow p r c) ∧ sameMem s t ∧
      t.cores = s.cores)) ∧
    ((s.port p).retryAt ≠ 0 → answers (.concordRetry p) s (fun t => (t.port p).retryAt = 0 ∧
      t.time = max s.time (s.port p).retryAt ∧ sameMem s t ∧ t.cores = s.cores)) ∧
    (∀ l, answers (.auditCount p s.slots.slot l) s (fun t => (t.port p).peerSent = l ∧ (t.port p).gotAudit = true ∧
      (t.port p).missed = 0 ∧ sameMem s t ∧ t.cores = s.cores)) ∧
    (s.portRole p = 1 → answers (.neighborSolicitation p (fit 16 (s.effOct Obj.HOST_ADDR))) s (fun t =>
      SMap.get (fun _ => (0, [])) t.fabric.icmp p = (0, fit 16 (s.effOct Obj.HOST_ADDR)) ∧ sameMem s t ∧ t.cores = s.cores)) ∧
    (s.portRole p = 1 → ∀ a, answers (.echoRequest p a) s (fun t =>
      SMap.get (fun _ => (0, [])) t.fabric.icmp p = (1, a) ∧ sameMem s t ∧ t.cores = s.cores))) ∧
  (∀ (s : State) (p k : Nat), answers (.faultFlag p k) s (fun t => t.fabric.flags = s.fabric.flags ++ [(p, k)] ∧
    sameMem s t ∧ t.cores = s.cores))

/-! ## The host (12 R349 to R361) -/

/-- R356, R358: the packets of a request add up; a request too short for its record is answered 5, one held already 1, and one
that the panel takes is held and answered 1; a request that stops for 10 s is answered 5. R357: a response ends with its
last packet. -/
def Obligations.host_requests : Prop :=
  (∀ (s : State) (n g off : Nat) (l : Bool) (b : Bytes), s.inband n = none → answers (.submit n g off l b) s (fun t =>
    t.num Obj.HOST_DROPS = s.num Obj.HOST_DROPS + 1 ∧ t.fabric = s.fabric ∧ sameMem s t ∧ t.cores = s.cores)) ∧
  (∀ (s u : State) (n g off : Nat) (b : Bytes) (x : Session), s.inband n = some u → u.session n = some x →
    u.sessFrozen x = false →
    answers (.submit n g off false b) s (fun t => ∃ r ∈ t.fabric.partials, r.sess = n ∧ r.tag = g ∧
      r.data = (match u.fabric.partials.find? (fun r => r.sess == n && r.tag == g) with | some o => o.data | none => []) ++ b ∧
      sameMem s t ∧ t.cores = s.cores) ∧
    (u.fabric.partials.find? (fun r => r.sess == n && r.tag == g) = none →
      ((∃ h ∈ u.fabric.held, h.id = field b 0 8) → field b 0 8 ≠ 0 → answers (.submit n g 0 true b) s (fun t =>
        t.fabric.held = u.fabric.held ∧ ∃ p, t.fabric.responses = u.fabric.responses ++ [p] ∧ p.id = field b 0 8 ∧
          p.sess = n ∧ p.tag = g ∧ p.status = 1 ∧ p.body = [])) ∧
      (b.length < 64 → (∀ h ∈ u.fabric.held, h.id ≠ field b 0 8) → answers (.submit n g 0 true b) s (fun t =>
        t.fabric.held = u.fabric.held ∧ t.num Obj.REQUESTS_MALFORMED = u.num Obj.REQUESTS_MALFORMED + 1 ∧
        ∃ p, t.fabric.responses = u.fabric.responses ++ [p] ∧ p.sess = n ∧ p.tag = g ∧ p.status = 5)) ∧
      (∀ p, u.prog = some p → (u.fabric.held.filter (fun h => h.ring)).length < p.services.capacity →
        u.effNum Obj.GROUP_BRIDGE = u.panelIndex → field b 16 1 = 0xFF → (∀ h ∈ u.fabric.held, h.id ≠ field b 0 8) →
        u.requestOk { id := field b 0 8, sess := n, tag := g, data := b, last := u.time, panel := 255 } = true →
        answers (.submit n g 0 true b) s (fun t => ∃ h, t.fabric.held = u.fabric.held ++ [h] ∧ h.id = field b 0 8 ∧ h.sess = n ∧
          h.data = b ∧ h.ring = true ∧ ∃ p, t.fabric.responses = u.fabric.responses ++ [p] ∧ p.id = field b 0 8 ∧ p.status = 1)))) ∧
  (∀ (s : State) (n g : Nat) (r : Request), s.fabric.partials.find? (fun r => r.sess == n && r.tag == g) = some r →
    answers (.requestTimeout n g) s (fun t => (∀ x ∈ t.fabric.partials, ¬ (x.sess = n ∧ x.tag = g)) ∧
      t.time = max s.time (r.last + 10000000000) ∧
      (∃ p, t.fabric.responses = s.fabric.responses ++ [p] ∧ p.status = 5 ∧ p.sess = r.sess ∧ p.tag = r.tag) ∧ sameMem s t ∧
      t.cores = s.cores)) ∧
  (∀ (s : State) (n g : Nat) (r : Response) (b : Bytes),
    s.fabric.responses.find? (fun r => r.sess == n && r.tag == g) = some r → b ≠ [] →
    r.sent + b.length = (s.rspBytes r).length → b = slice (s.rspBytes r) r.sent b.length → b.length ≤ s.rspMax →
    answers (.response n g r.sent true b) s (fun t => t.fabric.responses = s.fabric.responses.erase r ∧ sameMem s t ∧
      t.cores = s.cores)) ∧
  (∀ (s : State) (n : Nat) (x : Nat × Bytes), s.fabric.objOut.find? (fun x => x.1 == n) = some x →
    answers (.objRsp n) s (fun t => t.fabric.objOut = s.fabric.objOut.erase x ∧ sameMem s t ∧ t.cores = s.cores))

/-- R361: a bulk write of an OPERATOR session in READY writes its lines of HBM; each is answered once. R350, R351: an entry
sends each final frame once, in order; data of a source land in their retention slot; a full acknowledgement ends the
entry, and its absence sends the frame again. -/
def Obligations.bulk_collectives : Prop :=
  (∀ (s u : State) (n a : Nat) (b : Bytes) (x : Session), s.inband n = some u → u.session n = some x →
    u.sessFrozen x = false → 1 ≤ x.role → u.panel = .ready → a / 2 ^ 37 < 48 → a % 2 ^ 37 + b.length ≤ 0x1670000000 → a % 64 = 0 →
    b.length % 64 = 0 → 0 < b.length → b.length ≤ 4096 → answers (.bulkWrite n a b) s (fun t =>
      t.hbm = writeBytes u.hbm (hbmKey ((u.net.route u.net.epochB).stackOf (a / 2 ^ 37)) (a % 2 ^ 37)) b ∧
      t.fabric.acks = u.fabric.acks ++ [(n, a, 0)] ∧ t.spad = s.spad ∧ t.imem = s.imem ∧ t.cores = s.cores)) ∧
  (∀ (s : State) (n a c : Nat), (n, a, c) ∈ s.fabric.acks → answers (.bulkAck n a c) s (fun t =>
    t.fabric.acks = s.fabric.acks.erase (n, a, c) ∧ sameMem s t ∧ t.cores = s.cores)) ∧
  (∀ (s : State) (p : Prog) (i : Nat) (c : Coll), s.prog = some p → p.colls[i]? = some c →
    (s.isFinal (SMap.get zeroD s.fabric.collNext i) = false → exec (.collSend i) s = .next s) ∧
    (s.isFinal (SMap.get zeroD s.fabric.collNext i) = true → answers (.collSend i) s (fun t =>
      SMap.get zeroD t.fabric.collNext i = SMap.get zeroD s.fabric.collNext i + 1 ∧
      (∃ e, t.fabric.collSent = s.fabric.collSent ++ [e] ∧ e.entry = i ∧ e.frame = SMap.get zeroD s.fabric.collNext i ∧
        e.data = slice (s.outputOf e.frame) c.src c.len) ∧
      sameMem s t ∧ t.cores = s.cores)) ∧
    (∀ f off b, off + b.length ≤ c.len → answers (.collData i f off b) s (fun t =>
      (∀ old, old = fit p.input (s.retainRead p ((f + c.lag) % max 1 p.rd)) →
        t.hbm = (s.retainWrite p ((f + c.lag) % max 1 p.rd)
          (slice old 0 (c.dst + off) ++ b ++ old.drop (c.dst + off + b.length))).hbm) ∧
      (∃ x ∈ t.fabric.landed, x.1 = i ∧ x.2.1 = f) ∧ t.spad = s.spad ∧ t.imem = s.imem ∧ t.cores = s.cores)) ∧
    (∀ f off b, c.len < off + b.length → answers (.collData i f off b) s (fun t =>
      t.net.discards = s.net.discards + ((b.length + 63) / 64 + 1) ∧ t.larder = s.larder ∧ sameMem s t ∧ t.cores = s.cores)) ∧
    (∀ f n, answers (.collAck i f n) s (fun t => (c.len ≤ n → ∀ e ∈ t.fabric.collSent, ¬ (e.entry = i ∧ e.frame = f)) ∧
      (∀ e ∈ s.fabric.collSent, ¬ (e.entry = i ∧ e.frame = f) → e ∈ t.fabric.collSent) ∧ sameMem s t ∧ t.cores = s.cores)) ∧
    (∀ f e, s.fabric.collSent.find? (fun e => e.entry == i && e.frame == f) = some e → answers (.collResend i f) s (fun t =>
      t.num Obj.COLL_RESENDS = s.num Obj.COLL_RESENDS + 1 ∧ t.time = max s.time (e.time + 1000000) ∧ sameMem s t ∧
      t.cores = s.cores)))

/-! ## Supplies, pins, power-on (13, 16 R440, 17 R480, 19 R515 to R519) -/

/-- R367, R368, R440, R480: a VIN loss leaves AUX with no program and no memory, two bad samples or a low VIN_PGOOD are one;
AUX_PGOOD gives a power-on reset out of COLD and COLD when it falls; PANEL_RESET_N of 1 µs or more is a hard reset and a
shorter one nothing; VIN_PGOOD in range leads on from AUX. R515: a PHY's reset goes high 10 ms after a reset. -/
def Obligations.supplies_resets : Prop :=
  (∀ s : State, answers .vinLoss s (fun t => t.pins.vinPgood = false ∧
    (s.panel ≠ .cold → s.panel ≠ .aux → t.panel = .aux ∧ t.prog = none ∧ t.cores = [] ∧ t.spad = [] ∧ t.hbm = [] ∧
      t.imem = [] ∧ t.num Obj.RESET_CAUSE = 3 ∧ t.num Obj.VIN_LOSS_COUNT = s.num Obj.VIN_LOSS_COUNT + 1 ∧ t.time = s.time) ∧
    (s.panel = .cold ∨ s.panel = .aux → t = s.setPins (fun p => { p with vinPgood := false })))) ∧
  (∀ (s : State) (h mv : Nat), h < 16 → s.panel = .running → s.pins.vinPgood = true →
    (mv < 1600 ∨ 2050 < mv → (s.hub h).vinBadRun = 1 → answers (.vinSample h mv) s (fun t => t.panel = .aux ∧ t.prog = none)) ∧
    (1600 ≤ mv → mv ≤ 2050 → answers (.vinSample h mv) s (fun t => t.panel = .running ∧ (t.hub h).vinBadRun = 0 ∧
      (t.hub h).vinLowRun = (if mv < 1700 then (s.hub h).vinLowRun + 1 else 0) ∧ (mv < 1720 → t.power.vinOkSince = none) ∧
      t.time = (s.nextSample (s.hub h).vinAt 1000).time ∧ sameMem s t ∧ t.cores = s.cores))) ∧
  (∀ (s : State) (mv : Nat), s.panel = .aux → s.pins.auxPgood = true → answers (.vinPgoodRise mv) s (fun t =>
    t.pins.vinPgood = true ∧ (1700 ≤ mv → mv ≤ 1950 → t.time = max s.time (max s.time 50000000 + 100000000) ∧
      t.panel = (if s.num Obj.AUTO_BRINGUP = 1 then .bringup else .simmer)) ∧
    (mv < 1700 ∨ 1950 < mv → t.panel = (if s.num Obj.AUTO_BRINGUP = 1 then .bringup else .aux)))) ∧
  (∀ s : State, s.panel = .cold → answers .auxPgoodRise s (fun t => t.panel = .aux ∧ t.time = 0 ∧ t.prog = none ∧
    t.access.sessions = [] ∧ t.num Obj.RESET_CAUSE = 0 ∧ t.hbm = [] ∧ t.spad = [] ∧ t.cores = [] ∧ t.slots = {} ∧
    t.pins.auxPgood = true)) ∧
  (∀ s : State, answers .auxPgoodFall s (fun t => t.panel = .cold ∧ t.pins.auxPgood = false ∧
    (s.panel ≠ .cold → t.prog = none ∧ t.hbm = [] ∧ t.cores = [] ∧ t.access.sessions = [] ∧ t.recovery.fsr = s.recovery.fsr))) ∧
  (∀ (s : State) (ns : Nat), (ns < 1000 ∨ s.panel = .cold → exec (.panelResetN ns) s = .next s) ∧
    (1000 ≤ ns → s.panel ≠ .cold → answers (.panelResetN ns) s (fun t => t.prog = none ∧ t.access.sessions = [] ∧
      t.num Obj.RESET_CAUSE = 1 ∧ t.hbm = [] ∧ t.cores = [] ∧ t.access.roleKeys = s.access.roleKeys ∧ t.time = s.time ∧
      (t.panel = .aux ↔ s.panel = .aux) ∧ (t.panel = .aux ∨ t.panel = .simmer ∨ t.panel = .bringup)))) ∧
  (∀ (s : State) (p : Nat), p < 2 → s.panel ≠ .cold → answers (.mgmtPhyResetRelease p) s (fun t =>
    SMap.get zeroD t.pins.phyRstN p = 1 ∧ t.time = max s.time (s.pins.rstAt + 10000000) ∧ sameMem s t ∧ t.cores = s.cores))

/-- R371 to R373: a phase that fails is disabled and its quadrant's count caps the die. R385, R387: the die at the head of the
queue starts when budget, spacing and peaks allow, else it is deferred and counted once; after 200 µs it is powered and a
WARM-SPARE. R388: a sample over 25 mV at known load lengthens its run, and the thousandth warns. R384: the standby takes
over. -/
def Obligations.power_on : Prop :=
  (∀ (s : State) (site q p : Nat), site < 144 → q < 4 → p < 12 → (s.die site).powered = true →
    ((q, p) ∈ (s.die site).phaseOff → exec (.ivrPhaseFault site q p) s = .next s) ∧
    ((q, p) ∉ (s.die site).phaseOff → answers (.ivrPhaseFault site q p) s (fun t =>
      (t.die site).phaseOff = (s.die site).phaseOff ++ [(q, p)] ∧
      SMap.get zeroD (t.die site).phases q = SMap.get zeroD (s.die site).phases q + 1 ∧
      (t.die site).ivrCap = min (s.die site).ivrCap (phaseCap (SMap.get zeroD (s.die site).phases q + 1)) ∧
      (t.die site).safe ≤ (t.die site).ivrCap ∧ sameMem s t))) ∧
  (∀ (s : State) (site : Nat) (l : List Nat), s.power.queue = site :: l → s.panel = .ready → s.power.soft = none →
    s.power.lastOn = none → s.thermal.quench = none →
    (s.peakNear site = true → s.power.deferred = false → answers .powerOnAdmit s (fun t =>
      t.power.queue = s.power.queue ∧ t.power.deferred = true ∧
      t.num Obj.POWERON_DEFERRED = s.num Obj.POWERON_DEFERRED + 1 ∧ sameMem s t ∧ t.cores = s.cores)) ∧
    (s.peakNear site = false → ({ s with power := { s.power with soft := some (site, s.time) } }.fits
        ({ s with power := { s.power with soft := some (site, s.time) } }.estimate (fun i => (s.die i).op))) = true →
      answers .powerOnAdmit s (fun t => t.power.queue = l ∧ t.power.soft = some (site, s.time) ∧
        t.power.lastOn = some s.time ∧ t.num Obj.POWERON_LAST_SITE = site ∧ sameMem s t ∧ t.cores = s.cores))) ∧
  (∀ (s : State) (site n : Nat), site < 144 → s.power.soft = some (site, n) → (s.die site).st = .coldSpare →
    (s.die site).vd = none → answers (.softStartEnd site) s (fun t => t.power.soft = none ∧ (t.die site).powered = true ∧
      (t.die site).st = (if (s.die site).quarantined then .coldSpare else .warmSpare) ∧ t.time = max s.time (n + 200000) ∧
      sameMem s t ∧ t.cores = s.cores)) ∧
  (∀ (s : State) (site p d m e n : Nat), e = d - m → site < 144 → p < 64 → (s.die site).powered = true →
    n = (s.nextSample (SMap.get zeroD (s.die site).senseAt p) 10000).time →
    (SMap.get zeroD (s.die site).excessRun p < 999 → answers (.irDropSample site p d m) s (fun t =>
      SMap.get zeroD (t.die site).excessRun p = (if (s.die site).allowAt + 10000 ≤ n
        then (if 25 < e then SMap.get zeroD (s.die site).excessRun p + 1 else 0)
        else SMap.get zeroD (s.die site).excessRun p) ∧ t.time = n ∧ sameMem s t ∧ t.cores = s.cores)) ∧
    (25 < e → SMap.get zeroD (s.die site).excessRun p = 999 → (s.die site).allowAt + 10000 ≤ n →
      answers (.irDropSample site p d m) s (fun t =>
        t.num Obj.CONN_WARNINGS = s.num Obj.CONN_WARNINGS + 1 ∧ t.num Obj.CONN_LAST_SITE = site ∧
        t.num Obj.CONN_LAST_POINT = p))) ∧
  (∀ s : State, s.panel ≠ .cold → ∀ o, o = (if s.num Obj.TRIVET_PRIMARY = 0 then 15 else 0) →
    ((s.hub o).lost = true → exec .trivetTakeover s = .next s) ∧
    ((s.hub o).lost = false → (s.hub o).restarting = false → answers .trivetTakeover s (fun t =>
      t.num Obj.TRIVET_PRIMARY = o ∧ t.num Obj.TRIVET_TAKEOVERS = s.num Obj.TRIVET_TAKEOVERS + 1 ∧ t.power = s.power ∧
      t.slots = s.slots ∧ sameMem s t ∧ t.cores = s.cores)))

/-! ## Heat (14) -/

/-- R403, R404, R406: a quench, whatever its cause, stops the attempt, drops every die to OP0 with no allowance, and takes
RUNNING to HOLD with cause 4. COOL_OK low is cause 1 once a program is loaded (R402). -/
def Obligations.quench_stops : Prop :=
  (∀ (s : State) (n : Nat), s.thermal.quench = none → s.panel ≠ .cold → s.panel ≠ .aux →
    (∃ q, (s.quench n).thermal.quench = some q ∧ q.cause = n ∧ q.time = s.time) ∧
    (s.quench n).slots.att = none ∧ (s.quench n).power.queue = [] ∧ (s.quench n).power.soft = none ∧
    (s.panel = .running → (s.quench n).panel = .hold ∧ (s.quench n).num Obj.HOLD_CAUSE = 4) ∧
    (∀ i, ((s.quench n).die i).allow = 0 ∧ ((s.quench n).die i).op = 0) ∧
    (s.quench n).num Obj.QUENCH_COUNT = s.num Obj.QUENCH_COUNT + 1 ∧ sameMem s (s.quench n)) ∧
  (∀ s : State, answers .coolOkLow s (fun t => t.pins.coolOk = false ∧ (s.prog = none → t.thermal = s.thermal) ∧
    (∀ p, s.prog = some p → s.thermal.quench = none → s.panel = .running →
      ∃ q, t.thermal.quench = some q ∧ q.cause = 1) ∧ sameMem s t ∧ t.cores = s.cores))

/-- R390, R393: a sample keeps its values; the second over the limit in a row trips the die, the port die or the panel; a
stack's trip quenches with cause 8. R400: silence of the coolant unit is noted after 10 s. R407, R408: a quench escalates
from 100 ms on and ends once its conditions have held for 10 s. -/
def Obligations.heat_events : Prop :=
  (∀ (s : State) (site : Nat) (l : List Int), site < 144 → (s.die site).powered = false →
    exec (.sensorSample (.die site) l) s = .next s) ∧
  (∀ (s : State) (h : Nat) (l : List Int), h < 16 → s.panel = .running → (s.hub h).lost = false → l.length = 8 →
    (∀ i, s.tempOffset (144 + h) 64 i = 0) →
    ((∀ x ∈ l, x < 11000) → answers (.sensorSample (.hub h) l) s (fun t => (t.hub h).temps = l ∧ (t.hub h).tripRun = 0 ∧
      t.panel = .running ∧ t.time = (s.nextSample (s.hub h).tempAt 100000).time ∧ sameMem s t ∧ t.cores = s.cores)) ∧
    ((∃ x ∈ l, 11000 ≤ x) → (s.hub h).tripRun = 1 → answers (.sensorSample (.hub h) l) s (fun t => t.panel = .aux ∧
      t.prog = none ∧ t.hbm = [] ∧ t.num Obj.TRIP_EVENTS = s.num Obj.TRIP_EVENTS + 1))) ∧
  (∀ (s : State) (d : Nat) (l : List Int), d < 8 → s.panel = .running → (s.portDie d).off = false → l.length = 4 →
    (∀ i, s.tempOffset (160 + d) 64 i = 0) → (∃ x ∈ l, 11000 ≤ x) → (s.portDie d).tripRun = 1 →
    answers (.sensorSample (.port d) l) s (fun t => (t.portDie d).off = true ∧ (t.portDie d).temps = l ∧
      (∀ i, i < 16 → (t.port (16 * d + i)).up = false) ∧ sameMem s t ∧ t.cores = s.cores)) ∧
  (∀ (s : State) (k : Nat) (x : Int), k < 48 → s.panel = .running → s.thermal.quench = none →
    answers (.stackTempReadout k x) s (fun t => (t.stack k).temp = x ∧ (8500 < x → (t.stack k).wantDoubled = true) ∧
      (10000 ≤ x → (s.stack k).tripRun = 1 → ∃ q, t.thermal.quench = some q ∧ q.cause = 8) ∧
      (x < 10000 → (t.stack k).tripRun = 0 ∧ t.panel = .running) ∧
      t.time = (s.nextSample (s.stack k).readAt 500000).time ∧ sameMem s t ∧ t.cores = s.cores)) ∧
  (∀ s : State, s.panel ≠ .cold → s.thermal.stale = false → answers .coolantStale s (fun t => t.thermal.stale = true ∧
    t.time = max s.time (s.thermal.reported + 10000000000) ∧ sameMem s t ∧ t.cores = s.cores)) ∧
  (∀ s : State, s.thermal.quench = none → exec .quenchEscalation s = .next s ∧ exec .quenchEnd s = .next s) ∧
  (∀ (s : State) (q : Quench), s.thermal.quench = some q →
    ((∃ h, h < 16 ∧ 2 ≤ (s.hub h).tripRun) → answers .quenchEscalation s (fun t => t.panel = .aux ∧ t.prog = none ∧
      t.hbm = [])) ∧
    ((∀ h, h < 16 → (s.hub h).tripRun < 2) → q.stage ≠ 1 → answers .quenchEscalation s (fun t =>
      t = s.atTime (q.time + 100000000))) ∧
    (s.cool = false → exec .quenchEnd s = .next s) ∧
    (s.cool = true → answers .quenchEnd s (fun t => t.thermal.quench = none ∧ t.pins.coolOk = true ∧
      t.time = max s.time (q.okSince.getD s.time + 10000000000) ∧ sameMem s t ∧ t.cores = s.cores)))

/-! ## Bring-up, load, update (11 R318 to R323, 16 R442 to R453) -/

/-- R442, R443: a stage that finds no halting code hands over to the next one, S10 to READY, and one that does halts with its
code. R321: a fault during the writing steps leaves READY with 0x0A01; a load that completes leaves LOADED with the
program. R453: the update's steps follow each other; without one under way the step does nothing. -/
def Obligations.bringup_load_update : Prop :=
  (∀ (s : State) (n : Nat) (o : StageOutcome), s.bringup.stage = some n → s.panel = .bringup → s.bringup.halted = false →
    s.thermal.quench = none → n ≤ 10 →
    (∀ c, (s.atTime (s.bringup.stageAt + o.durationMs * 1000000)).haltCode n o = c → c ≠ 0 →
      answers (.bringupStageEnd o) s (fun t => t.bringup.halted = true ∧ t.bringup.stage = some n ∧ t.panel = .bringup ∧
        t.num (stageObj n 2) = c ∧ t.num (stageObj n 1) = 4 ∧ sameMem s t)) ∧
    ((s.atTime (s.bringup.stageAt + o.durationMs * 1000000)).haltCode n o = 0 → answers (.bringupStageEnd o) s (fun t =>
      (n = 10 → t.panel = .ready ∧ t.bringup.stage = none) ∧
      (n < 10 → t.panel = .bringup ∧ t.bringup.halted = false ∧
        t.bringup.stage = some (if n = 5 ∧ s.bringup.fast = true then 7 else n + 1)) ∧ (n = 5 → t.hbm = [])))) ∧
  (∀ (s : State) (l : Loading), s.loading = some l → s.panel = .ready →
    (∀ i, i < 144 → answers (.loadComplete (some i)) s (fun t => t.loading = none ∧ t.panel = .ready ∧ t.prog = s.prog ∧
      t.num Obj.LOAD_RESULT = 0x0A01 ∧ t.num Obj.LOAD_DETAIL = i)) ∧
    (s.lostPlace l = none → s.allPowered l = true → s.thermal.quench = none → s.preloadChanged l = false →
      s.pins.coolOk = true → answers (.loadComplete none) s (fun t => t.loading = none ∧ t.panel = .loaded ∧
        t.prog = some { l.prog with loadTime := s.time } ∧ t.num Obj.LOAD_RESULT = 0 ∧
        t.num Obj.LOAD_COUNT = s.num Obj.LOAD_COUNT + 1 ∧ t.checks.entries = 0 ∧
        t.checks.root = chainRoot l.prog.digest s.time ∧ t.net.a = t.net.b ∧ t.net.epochB = false ∧
        (∃ c, t.larder.committed = some c ∧ c.resume = 0)))) ∧
  (∀ (s : State) (ok : Bool), s.bringup.fwStep = 0 → exec (.liveUpdateStep ok) s = .next s) ∧
  (∀ s : State, s.panel = .ready → s.recovery.roll = none → s.thermal.quench = none →
    (s.bringup.fwStep = 2 → answers (.liveUpdateStep true) s (fun t => t.bringup.fwStep = 3 ∧ t.bringup.fwImage = s.fwStaged ∧
        t.num Obj.FW_FLASH_VALID = 1 ∧ sameMem s t ∧ t.cores = s.cores) ∧
      answers (.liveUpdateStep false) s (fun t => t.bringup.fwStep = 0 ∧ t.bringup.fwImage = s.bringup.fwImage ∧
        t.num Obj.FW_FLASH_VALID = 0 ∧ t.num Obj.FW_RESULT = 5 ∧ sameMem s t ∧ t.cores = s.cores)) ∧
    (s.bringup.fwStep = 4 → ∀ ok, answers (.liveUpdateStep ok) s (fun t => t.bringup.fwStep = 5 ∧
      (∀ i, i < 144 → (s.die i).st = .warmSpare → (t.die i).newFw = true) ∧ sameMem s t ∧ t.cores = s.cores)))

/-! ## Sessions and the secure element (17 R475 to R477, 18 R496) -/

/-- R475: a handshake opens the lowest free session with the role of its certificate's issuer; sessions close when idle, and a
partial value is dropped after 10 s (R472). R496: a half that fails serves no request until it recovers. -/
def Obligations.sessions_elements : Prop :=
  (∀ (s : State) (path n : Nat) (cert : Bytes) (r : Nat × Option Nat), path < 2 → s.panel ≠ .cold →
    s.certRole cert = some r → s.freeNum 1 32 = some n → answers (.sessionHandshake path cert) s (fun t => ∃ x,
      t.access.sessions = s.access.sessions ++ [x] ∧ x.num = n ∧ x.role = r.1 ∧ x.path = path ∧ x.opened = s.time ∧
      x.cred = Config.certKey cert ∧ x.frozenFirst = (decide (256 ≤ s.access.frozen.length) && decide (r.1 < 2)) ∧
      sameMem s t ∧ t.cores = s.cores)) ∧
  (∀ (s : State) (path : Nat) (cert : Bytes), path < 2 → s.panel = .cold ∨ s.certRole cert = none ∨ s.freeNum 1 32 = none →
    exec (.sessionHandshake path cert) s = .next s) ∧
  (∀ (s : State) (n : Nat) (x : Session), s.session n = some x →
    (x.path < 2 → answers (.mgmtSessionIdleClose n) s (fun t => t.session n = none ∧
      t.time = max s.time (x.last + 1000000000 * s.num Obj.SESSION_IDLE_S) ∧ sameMem s t ∧ t.cores = s.cores)) ∧
    (x.path = 2 → answers (.hostSessionIdleClose n) s (fun t => t.session n = none ∧
      t.time = max s.time (x.last + 60000000000) ∧ (∀ r ∈ t.fabric.partials, r.sess ≠ n) ∧ sameMem s t ∧ t.cores = s.cores)) ∧
    (∀ p, x.parts = [p] → answers (.segmentTimeout n) s (fun t => t.time = max s.time (p.time + 10000000000) ∧
      (∃ y, t.session n = some y ∧ y.parts = []) ∧ sameMem s t ∧ t.cores = s.cores))) ∧
  (∀ (s : State) (h : Nat), h < 2 →
    answers (.seHalfFail h) s (fun t => t.access.halves.testBit h = false ∧
      t.access.halves.testBit (1 - h) = s.access.halves.testBit (1 - h) ∧ sameMem s t ∧ t.cores = s.cores) ∧
    answers (.seHalfRecover h) s (fun t => t.access.halves = s.access.halves ||| 2 ^ h ∧ t.fabric.bringWait = [] ∧ sameMem s t ∧
      t.cores = s.cores))

/-! ## Sessions' requests (17 R466 to R477) -/

/-- The SEQ has no response kept, lies at most 64 below the highest of the session, and has not been executed. -/
def Sys2Proof.Claims.fresh (x : Session) (r : ReqHead) : Prop :=
  x.seqs.find? (fun e => e.1 == r.seq.toNat) = none ∧ (∀ h, x.highest = some h → h ≤ r.seq.toNat + 64) ∧
  r.seq.toNat ∉ x.done

/-- A request that is fresh: the panel is not COLD, its session `x` is open in `u` (the state with the session's sign of
life), its credential is not frozen, its SEQ is new (R473), and no partial value waits. -/
def Sys2Proof.Claims.asks (s u : State) (x : Session) (r : ReqHead) : Prop :=
  s.panel ≠ .cold ∧ s.sessionOf r.sess = some u ∧ u.session r.sess = some x ∧ u.sessFrozen x = false ∧
  fresh x r ∧ x.parts = []

/-- The response that the session got last. -/
def Sys2Proof.Claims.got (t : State) (r : ReqHead) (a : Resp) : Prop :=
  t.access.lastResp = some (r.sess, r.seq.toNat, a)

/-- A fresh request with the type code of its object, from a session with the role of its write, in a state and with a value
that its rules allow, is answered OK and has the effect `p`. -/
def Sys2Proof.Claims.grants (c : ReqHead → Instr) (role typ : Nat) (may : State → Session → Prop) (p : State → State → Prop) : Prop :=
  ∀ (r : ReqHead) (s u : State) (x : Session), asks s u x r → role ≤ x.role → r.typ.toNat = typ → may u x →
    answers (c r) s (fun t => got t r { abort := 0 } ∧ p u t)

/-- R473, R476, R477: a SEQ that has been answered gets the same response again and nothing else changes; a fresh request of a
frozen session is answered FROZEN; an object that does not exist, a role too low, a type that is not the object's, a value
out of range and a state in which it is not legal are answered with their codes, in this order, and leave the object as it
is. A role too low freezes the session. -/
def Obligations.requests_in_order : Prop :=
  (∀ (s u : State) (x : Session) (r : ReqHead) (o : Nat) (g : Seg) (b : Bytes) (e : Nat × Resp), s.panel ≠ .cold →
    s.sessionOf r.sess = some u → u.session r.sess = some x → x.seqs.find? (fun e => e.1 == r.seq.toNat) = some e →
    answers (.objectWrite r o g b) s (fun t => got t r e.2 ∧ t.od = u.od ∧ t.access.sessions = u.access.sessions ∧
      t.panel = s.panel ∧ t.slots = s.slots ∧ sameMem s t ∧ t.cores = s.cores)) ∧
  (∀ (s u : State) (x : Session) (r : ReqHead) (o : Nat) (g : Seg) (b : Bytes), s.panel ≠ .cold →
    s.sessionOf r.sess = some u → u.session r.sess = some x → u.sessFrozen x = true → fresh x r →
    answers (.objectWrite r o g b) s (fun t => got t r { abort := 9 } ∧ t.od = u.od ∧ t.slots = u.slots ∧
      t.panel = u.panel ∧ sameMem s t ∧ t.cores = s.cores)) ∧
  (∀ (s u : State) (x : Session) (r : ReqHead) (o n v : Nat), asks s u x r → v < 256 ^ n → n ≤ 8 →
    ((subsOf (o / 256)).isEmpty = true → answers (.objectWrite r o ⟨0, n⟩ (bytesLE n v)) s (fun t => got t r { abort := 1 })) ∧
    ((subsOf (o / 256)).isEmpty = false → rowOf o = none →
      answers (.objectWrite r o ⟨0, n⟩ (bytesLE n v)) s (fun t => got t r { abort := 2 })) ∧
    (∀ row, (subsOf (o / 256)).isEmpty = false → rowOf o = some row →
      (row.acc = .ro ∨ (∀ w, row.wr = some w → x.role < w) → answers (.objectWrite r o ⟨0, n⟩ (bytesLE n v)) s (fun t =>
        got t r { abort := 5 } ∧ t.num Obj.DENIED_COUNT = u.num Obj.DENIED_COUNT + 1 ∧
        (u.access.frozen.length < 256 → t.access.frozen = u.access.frozen ++ [(x.credKey, u.time, credEntry x.credKey x.cred)]))) ∧
      (∀ w, row.acc ≠ .ro → row.wr = some w → w ≤ x.role →
        (r.typ.toNat ≠ row.ty.code → answers (.objectWrite r o ⟨0, n⟩ (bytesLE n v)) s (fun t => got t r { abort := 3 } ∧
          t.od = u.od)) ∧
        (r.typ.toNat = row.ty.code → row.ty.size = some n → 0 < n →
          (u.rangeOk x o row.ty (bytesLE n v) = false → answers (.objectWrite r o ⟨0, n⟩ (bytesLE n v)) s (fun t =>
            got t r { abort := 4 } ∧ t.od = u.od)) ∧
          (u.rangeOk x o row.ty (bytesLE n v) = true → u.writeLegal x row v = false →
            answers (.objectWrite r o ⟨0, n⟩ (bytesLE n v)) s (fun t => got t r { abort := 6 } ∧ t.od = u.od)))))) ∧
  (∀ (s u : State) (x : Session) (r : ReqHead) (o : Nat) (row : ObjRow) (v : ObjVal), asks s u x r →
    (subsOf (o / 256)).isEmpty = false → rowOf o = some row → row.acc ≠ .wo → row.mayRead x.role = true → r.typ = 0 →
    u.readVal x o = .ok v → u.served o false = true → answers (.objectRead r o 0) s (fun t =>
      got t r { abort := 0, data := (row.ty.encode v).take 1024, total := (row.ty.encode v).length } ∧ t.od = u.od ∧
      sameMem s t ∧ t.cores = s.cores))

/-- R466, R470, R475: an in-band message shorter than its header is not answered; a message of one writes, reads, raises or
closes as the request it spells does. -/
def Obligations.messages_in_band : Prop :=
  (∀ (s : State) (n : Nat) (m : Bytes), m.length < 32 → exec (.objReq n m) s = .next s) ∧
  (∀ (s : State) (n : Nat) (m : Bytes), 32 ≤ m.length → field m 0 2 = 1 → field m 3 1 = 0 → field m 14 2 = 0 →
    field m 24 8 = 0 → field m 12 2 ≤ 1024 → 32 + field m 12 2 ≤ m.length →
    (field m 2 1 = 1 → field m 12 2 = 0 → field m 20 4 = 0 → exec (.objReq n m) s = exec (.objectRead
      ⟨n, BitVec.ofNat 32 (field m 4 4), BitVec.ofNat 8 (field m 11 1)⟩ (256 * field m 8 2 + field m 10 1) (field m 16 4)) s) ∧
    (field m 2 1 = 2 → exec (.objReq n m) s = exec (.objectWrite
      ⟨n, BitVec.ofNat 32 (field m 4 4), BitVec.ofNat 8 (field m 11 1)⟩ (256 * field m 8 2 + field m 10 1)
      ⟨field m 16 4, field m 20 4⟩ (slice m 32 (field m 12 2))) s)) ∧
  (∀ (s u : State) (x : Session) (r : ReqHead) (b : Bytes), asks s u x r → x.path = 2 →
    (b.length ≤ 1024 → 0 < b.length → answers (.openS r ⟨0, b.length⟩ b) s (fun t =>
      got t r { abort := 0, data := fit 32 (Config.challenge u.access.drawn), total := 32 } ∧
      t.access.drawn = u.access.drawn + 1 ∧ (∃ y, t.session r.sess = some y ∧ y.cert = b ∧ y.role = x.role) ∧ sameMem s t ∧
      t.cores = s.cores)) ∧
    (∀ c k, x.challenge = some c → u.certRole x.cert = some k → b.length = 96 →
      (Config.verify (Config.certKey x.cert) b (c ++ fit 16 Config.panelSerial ++ bytesLE 2 x.num) = true →
        answers (.prove r b) s (fun t => got t r { abort := 0 } ∧ (∃ y, t.session r.sess = some y ∧ y.role = k.1 ∧
          y.credKey = true ∧ y.cred = Config.certKey x.cert ∧ y.challenge = none) ∧ sameMem s t ∧ t.cores = s.cores)) ∧
      (Config.verify (Config.certKey x.cert) b (c ++ fit 16 Config.panelSerial ++ bytesLE 2 x.num) = false →
        answers (.prove r b) s (fun t => got t r { abort := 5 } ∧
          t.num Obj.DENIED_COUNT = u.num Obj.DENIED_COUNT + 1)))) ∧
  (∀ (s u : State) (x : Session) (r : ReqHead), asks s u x r → answers (.close r) s (fun t => got t r { abort := 0 } ∧
    t.session r.sess = none ∧ (∀ y ∈ u.access.sessions, y.num ≠ r.sess → y ∈ t.access.sessions) ∧ sameMem s t ∧ t.cores = s.cores))

/-! ## Commands by object (11 R317 to R323, 15 R428, 16 R440 to R455, 17 R480 to R484) -/

/-- R480, R483: LOAD_COMMAND and PANEL_COMMAND are pending until their slot or boundary; R318, R317: a load is taken up, its
bytes are staged and cleared; R440, R442, R480: bring-up, a warm reset and SIMMER; R428: the ways out of SAFE; R290: a
certificate on demand; R440: the settings are cleared at the next reset. -/
def Obligations.panel_commands : Prop :=
  grants .load 1 2 (fun u _ => u.panel = .ready ∧ u.coolingState < 2 ∧ u.loading = none)
    (fun u t => t.panel = .ready ∧ (match u.checkImage (readBytes u.stage 0 (u.num Obj.STAGE_LENGTH)) with
      | .inl b => t.loading = none ∧ t.num Obj.LOAD_RESULT = b.code
      | .inr l => t.loading = some l ∧ t.num Obj.LOAD_RESULT = 0xFFFF) ∧ sameMem u t ∧ t.cores = u.cores) ∧
  grants .start 1 2 (fun u _ => u.panel = .loaded ∧ u.coolingState < 2 ∧ u.slots.pUnload = false)
    (fun u t => t.slots = { u.slots with pStart := true } ∧ t.panel = u.panel ∧ sameMem u t ∧ t.cores = u.cores) ∧
  grants .unload 1 2 (fun u _ => (u.panel = .loaded ∨ u.panel = .hold) ∧ u.slots.pStart = false ∧ u.slots.pResume = false)
    (fun u t => t.slots = { u.slots with pUnload := true } ∧ t.panel = u.panel ∧ sameMem u t ∧ t.cores = u.cores) ∧
  grants .hold 1 2 (fun u _ => u.panel = .running)
    (fun u t => t.slots = { u.slots with pHold := true } ∧ t.panel = u.panel ∧ sameMem u t ∧ t.cores = u.cores) ∧
  grants .resume 1 2 (fun u _ => u.panel = .hold ∧ u.resumeLocked = false ∧ u.slots.pUnload = false)
    (fun u t => t.slots = { u.slots with pResume := true } ∧ t.panel = u.panel ∧ sameMem u t ∧ t.cores = u.cores) ∧
  (∀ b, 1 ≤ b.length → b.length ≤ 1024 → grants (fun r => .stageData r b) 1 10 (fun u _ => u.panel = .ready ∧
      u.num Obj.STAGE_OFFSET + b.length ≤ 12 * 2 ^ 30 ∧ u.bringup.fwStep = 0)
    (fun u t => t.stage = writeBytes u.stage (u.num Obj.STAGE_OFFSET) b ∧
      t.num Obj.STAGE_OFFSET = u.num Obj.STAGE_OFFSET + b.length ∧ t.spad = u.spad ∧ t.hbm = u.hbm ∧ t.cores = u.cores)) ∧
  grants .stageClear 1 1 (fun u _ => u.panel = .ready)
    (fun u t => t.stage = [] ∧ t.num Obj.STAGE_OFFSET = 0 ∧ t.num Obj.STAGE_LENGTH = 0 ∧ sameMem u t ∧ t.cores = u.cores) ∧
  (∀ b, 1 ≤ b.length → b.length ≤ 1024 → grants (fun r => .fwStageData r b) 2 10 (fun u _ => u.panel = .ready ∧
      u.num Obj.FW_STAGE_OFFSET + b.length ≤ 2 ^ 30 ∧ u.bringup.fwStep = 0)
    (fun u t => t.fwStage = writeBytes u.fwStage (u.num Obj.FW_STAGE_OFFSET) b ∧ t.stage = [] ∧
      t.num Obj.FW_STAGE_OFFSET = u.num Obj.FW_STAGE_OFFSET + b.length ∧ sameMem u t ∧ t.cores = u.cores)) ∧
  grants .bringupStart 2 2 (fun u _ => u.panel = .simmer)
    (fun _ t => t.panel = .bringup ∧ t.bringup.stage = some 0 ∧ t.bringup.halted = false ∧ t.bringup.fast = false) ∧
  grants .warmReset 2 2 (fun u _ => u.panel = .ready)
    (fun u t => t.panel = .bringup ∧ t.bringup.stage = some 0 ∧ t.hbm = [] ∧ t.prog = none ∧ t.access.sessions = [] ∧
      t.num Obj.RESET_CAUSE = 2 ∧ t.time = u.time ∧ t.bringup.fast = (u.num Obj.FAST_PATH_ALLOWED == 1 &&
        u.bringup.reachedS10 && u.bringup.powerKept)) ∧
  grants .enterSimmer 2 2 (fun u _ => u.panel = .ready ∧ u.loading = none ∧ u.bringup.fwStep = 0)
    (fun u t => t.panel = .simmer ∧ t.power.queue = [] ∧ t.fabric.ports = [] ∧
      (∀ i, i < 144 → (u.die i).st ≠ .dark → (u.die i).st ≠ .lost → (t.die i).st = .coldSpare ∧ (t.die i).powered = false) ∧
      (u.num Obj.SIMMER_HBM = 0 → t.hbm = []) ∧ (u.num Obj.SIMMER_HBM ≠ 0 → t.hbm = u.hbm)) ∧
  grants .recoveryRestart 2 2 (fun u _ => u.panel = .safe ∧ u.num Obj.SAFE_CAUSE = 4 ∧ u.recovery.restart = [])
    (fun u t => t.recovery.restart = u.sites.filter (fun i => (u.die i).st == .active && !(u.die i).powered) ∧
      (∀ i ∈ t.recovery.restart, i ∈ t.power.queue) ∧ t.panel = .safe ∧ sameMem u t ∧ t.cores = u.cores) ∧
  grants .recoveryDiscard 2 2 (fun u _ => u.panel = .safe)
    (fun u t => t.panel = .ready ∧ t.prog = none ∧ t.num Obj.SAFE_CAUSE = 0 ∧ t.fabric.held = [] ∧ t.hbm = u.hbm ∧
      t.imem = u.imem) ∧
  grants .certOnDemand 1 1 (fun u _ => u.panel = .running)
    (fun u t => t.checks = { u.checks with onDemand := true } ∧ sameMem u t ∧ t.cores = u.cores) ∧
  grants .settingsClear 2 1 (fun u _ => u.panel = .ready)
    (fun u t => t.bringup = { u.bringup with clearSettings := true } ∧ sameMem u t ∧ t.cores = u.cores)

/-- R453, R455: a staged image that fails its checks leaves its code; one that passes is being written. R339: a link bring-up
takes the settings. R415, R478: releases. R456, R484, R486: a die is put at the head of the test queue. R497, R498: keys.
R507: a calibration set is stored and not yet in use. R499: a nonce serves its session's quote. -/
def Obligations.service_commands : Prop :=
  grants .liveUpdate 2 2 (fun u _ => u.panel = .ready ∧ u.bringup.fwStep = 0)
    (fun u t => (fwFault u.fwStaged ≠ 0 → t.num Obj.FW_RESULT = fwFault u.fwStaged ∧ t.bringup.fwStep = 0) ∧
      (fwFault u.fwStaged = 0 → fwSeries u.fwStaged = fwSeries u.fwRun → fwSchema u.fwStaged = fwSchema u.fwRun →
        t.num Obj.FW_RESULT = 0xFFFF ∧ t.bringup.fwStep = 2) ∧ sameMem u t ∧ t.cores = u.cores) ∧
  (∀ ok, grants (fun r => .fwWriteOnly r ok) 2 2 (fun u _ => u.panel = .ready ∧ u.bringup.fwStep = 0)
    (fun u t => (fwFault u.fwStaged ≠ 0 → t.num Obj.FW_RESULT = fwFault u.fwStaged ∧ t.bringup = u.bringup) ∧
      (fwFault u.fwStaged = 0 → ok = true → t.num Obj.FW_RESULT = 0 ∧ t.bringup.fwImage = u.fwStaged) ∧
      (fwFault u.fwStaged = 0 → ok = false → t.num Obj.FW_RESULT = 5 ∧ t.num Obj.FW_FLASH_VALID = 0 ∧ t.bringup = u.bringup) ∧
      sameMem u t ∧ t.cores = u.cores)) ∧
  (∀ v k, grants (fun r => .unfreezeCore r v) 2 3 (fun u _ => u.panel = .hold ∧ v < 32768 ∧ vdOf u.gridW v < u.gridV ∧
      v % 256 / 16 < u.gridW ∧ u.coreOf u.net.epochB v = some k)
    (fun u t => (t.core k = if (u.core k).frozen.isSome then {} else u.core k) ∧ sameOthers k u t ∧ sameMem u t)) ∧
  (∀ p, p < 64 → grants (fun r => .unfreezePanel r p) 2 2 (fun u _ => u.panel = .ready)
    (fun u t => t.panelFrozen p = false ∧ (∀ q, q ≠ p → t.panelFrozen q = u.panelFrozen q) ∧ sameMem u t ∧ t.cores = u.cores)) ∧
  (∀ n, grants (fun r => .unfreezeCredential r n) 2 3 (fun u _ => u.panel = .ready ∧ n < u.access.frozen.length ∧ n < 65535)
    (fun u t => t.access.frozen = u.access.frozen.eraseIdx n ∧ sameMem u t ∧ t.cores = u.cores)) ∧
  (∀ i, i < 144 → grants (fun r => .quarantineRelease r i) 2 3 (fun u _ => u.panel = .ready ∧ (u.die i).quarantined = true ∧
      (u.die i).st = .coldSpare)
    (fun u t => (t.die i).quarantined = false ∧ t.bringup.testQ.head? = some i ∧ sameMem u t ∧ t.cores = u.cores)) ∧
  (∀ i, i < 144 → grants (fun r => .testNow r i) 1 3 (fun u _ => u.panel = .ready ∧ (u.die i).quarantined = false ∧
      (u.die i).st = .warmSpare)
    (fun u t => t.bringup.testQ.head? = some i ∧ t.dies = u.dies ∧ sameMem u t ∧ t.cores = u.cores)) ∧
  (∀ d, d < 4 → grants (fun r => .linkBringup r d) 1 2 (fun u _ => u.panel = .ready)
    (fun u t => t.fabric.eff = (u.takeSettings).fabric.eff ∧ (∀ p ∈ portsOf d, (t.port p).lost = false) ∧ sameMem u t ∧
      t.cores = u.cores)) ∧
  (∀ b i, b.length = 104 → field b 0 1 ≤ 2 →
    grants (fun r => .roleKeyInstall r b) 2 10 (fun u _ => u.panel = .ready ∧ u.freeRole = some i)
    (fun u t => t.roleKey i = (field b 0 1, slice b 7 97) ∧ (∀ j, j ≠ i → t.roleKey j = u.roleKey j) ∧ sameMem u t ∧
      t.cores = u.cores)) ∧
  (∀ i, i < 16 → grants (fun r => .roleKeyRemove r i) 2 2 (fun u _ => u.panel = .ready ∧
      ∃ j, j < 16 ∧ j ≠ i ∧ (u.roleKey j).1 = 2)
    (fun u t => (t.roleKey i).1 = 255 ∧ (∀ j, j ≠ i → t.roleKey j = u.roleKey j) ∧
      (∀ y ∈ t.access.sessions, y.keyEntry ≠ some i) ∧ sameMem u t ∧ t.cores = u.cores)) ∧
  (∀ b, b.length = 104 → field b 0 2 ≤ 7 →
    grants (fun r => .ownerKeyInstall r b) 2 10 (fun u _ => u.panel = .ready)
    (fun u t => SMap.get noB t.access.ownerKeys (field b 0 2) = slice b 7 97 ∧ sameMem u t ∧ t.cores = u.cores)) ∧
  (∀ i, i < 8 → grants (fun r => .ownerKeyRemove r i) 2 3 (fun u _ => u.panel = .ready)
    (fun u t => SMap.get noB t.access.ownerKeys i = [] ∧ sameMem u t ∧ t.cores = u.cores)) ∧
  (∀ b i, b.length = 1024 → grants (fun r => .calSetWrite r b) 2 10 (fun u x => u.panel = .ready ∧
      x.selOf Obj.CAL_SELECT = i ∧ 144 ≤ i ∧ u.calOk i b = true)
    (fun u t => SMap.get noB t.access.calStored i = b ∧ SMap.get zeroD t.access.calStatus i = 2 ∧
      t.access.calUse = u.access.calUse ∧ sameMem u t ∧ t.cores = u.cores)) ∧
  (∀ (r : ReqHead) (s u : State) (x : Session), asks s u x r → u.panel = .ready →
    (∀ b, b.length = 32 → r.typ.toNat = 10 → answers (.quoteNonce r b) s (fun t => got t r { abort := 0 } ∧
      (∃ y, t.session r.sess = some y ∧ y.nonce = some b) ∧ t.od = u.od ∧ sameMem s t ∧ t.cores = s.cores)) ∧
    (r.typ = 0 → answers (.calSetExport r) s (fun t =>
      got t r { abort := 0, data := fit 1024 (u.calSet (x.selOf Obj.CAL_SELECT)), total := 1024 } ∧
      SMap.get zeroD t.access.calExported (x.selOf Obj.CAL_SELECT) = 1 ∧ sameMem s t ∧ t.cores = s.cores)) ∧
    (∀ n, r.typ = 0 → x.nonce = some n → u.access.halves ≠ 0 → answers (.quote r) s (fun t =>
      (∃ a, got t r a ∧ a.abort = 0) ∧ t.access.signCount = u.access.signCount + 1 ∧ sameMem s t ∧ t.cores = s.cores)))

/-! ## Rules stated whole -/

/-- R22: a die is usable when its state is ACTIVE, WARM-SPARE, COLD-SPARE or TEST and it is not quarantined. R23: the grade is
the sum over the 16 cells of the smaller of 8 and the usable dies of the cell, at most 128. R295: in LOADED, RUNNING and
HOLD a load command is answered with abort 6 and the loaded program stays. -/
def Obligations.grade_and_load : Prop :=
  (∀ d : Die, d.usable = true ↔
    (d.st = .active ∨ d.st = .warmSpare ∨ d.st = .coldSpare ∨ d.st = .test) ∧ d.quarantined = false) ∧
  (∀ s : State, s.grade = ((List.range 16).map (fun c =>
      min 8 (((List.range 144).filter (fun i => decide (i / 9 = c) && (s.die i).usable)).length))).sum ∧ s.grade ≤ 128) ∧
  (∀ (r : ReqHead) (s u : State) (x : Session), asks s u x r → 1 ≤ x.role → r.typ.toNat = 2 →
    (s.panel = .loaded ∨ s.panel = .running ∨ s.panel = .hold) →
    answers (.load r) s (fun t => got t r { abort := 6 } ∧ t.prog = s.prog ∧ t.loading = s.loading ∧ t.panel = s.panel ∧
      sameMem s t ∧ t.cores = s.cores))

/-- R117: rng is six rounds of one function on the counter xor the key; every round can be inverted, and for a fixed key
distinct counters give distinct outputs. -/
def Obligations.rng_inverts : Prop :=
  (∀ key ctr : BitVec 64, rng key ctr = rngRound key (rngRound key (rngRound key (rngRound key (rngRound key (rngRound key
    (ctr ^^^ key) 0) 1) 2) 3) 4) 5) ∧
  (∀ (key x : BitVec 64) (r : Nat), rngRound key x r =
    (fun z : BitVec 64 => z ^^^ (z >>> 29)) ((fun y : BitVec 64 => (y ^^^ (y >>> 31)) * 0xC3A59E1D7B246F8B#64) (x + key.rotateLeft (16 * r)))) ∧
  (∀ (key : BitVec 64) (r : Nat), ∃ back : BitVec 64 → BitVec 64, ∀ x, back (rngRound key x r) = x) ∧
  (∀ key c d : BitVec 64, rng key c = rng key d → c = d)

/-- R516: FAULT_N is low in SAFE, in a halted bring-up and in HOLD with a cause other than 1, and released in every other
case; THERM_ALERT_N is independent of it: it is low while a powered die, a hub, a port die or a stack is at its throttle
limit, while cooling is degraded, and in a quench (14 R409; only a powered die counts, which is the model's reading, log
106); a quench outside COLD drives it low, and FAULT_N is low in the HOLD that a quench causes. -/
def Obligations.alerts_low : Prop :=
  (∀ s : State, s.faultLow = true ↔ s.panel = .safe ∨ (s.panel = .bringup ∧ s.bringup.halted = true) ∨
    (s.panel = .hold ∧ s.num Obj.HOLD_CAUSE ≠ 1)) ∧
  (∀ s : State, s.panel ≠ .cold → (s.thermAlertLow = true ↔
    (∃ i, i < 144 ∧ (s.die i).powered = true ∧ 9500 ≤ (s.die i).control) ∨
    (∃ i, i < 16 ∧ ∃ c ∈ (s.hub i).temps, 9500 ≤ c) ∨ (∃ i, i < 8 ∧ ∃ c ∈ (s.portDie i).temps, 9500 ≤ c) ∨
    (∃ i, i < 48 ∧ 8500 ≤ (s.stack i).temp) ∨ s.thermal.degraded = true ∨ s.thermal.quench ≠ none)) ∧
  (∀ a b : Bool, ∃ s : State, s.thermAlertLow = a ∧ s.faultLow = b) ∧
  (∀ s : State, s.panel = .hold → s.num Obj.HOLD_CAUSE = 4 → s.thermal.quench ≠ none →
    s.thermAlertLow = true ∧ s.faultLow = true)
end

