-- ==== Sys2Proof/Laws/SMap.lean ====
section
/-! SUPPORT. What a read of a sparse map gives after a write, and that a write keeps the canonical form. -/

namespace Sys2Proof

variable {α : Type}

theorem SMap.get_erase_same (d : Nat → α) (m : SMap α) (k : Nat) :
    SMap.get d (SMap.erase m k) k = d k := by
  induction m with
  | nil => rfl
  | cons p t ih =>
    obtain ⟨k', v⟩ := p
    by_cases h : k' = k <;> simp [SMap.erase, SMap.get, h, ih]

theorem SMap.get_erase_other (d : Nat → α) (m : SMap α) {k j : Nat} (h : j ≠ k) :
    SMap.get d (SMap.erase m k) j = SMap.get d m j := by
  induction m with
  | nil => rfl
  | cons p t ih =>
    obtain ⟨k', v⟩ := p
    by_cases hk : k' = k
    · subst hk
      have hj : ¬ k' = j := fun e => h e.symm
      simp [SMap.erase, SMap.get, ih, hj]
    · simp only [SMap.erase, if_neg hk, SMap.get, ih]

/-- No entry of `k` is listed. -/
def SMap.noKey (m : SMap α) (k : Nat) : Prop := ∀ p ∈ m, p.1 ≠ k

theorem SMap.noKey_erase (m : SMap α) (k : Nat) : SMap.noKey (SMap.erase m k) k := by
  induction m with
  | nil => intro p hp; cases hp
  | cons p t ih =>
    obtain ⟨k', v⟩ := p
    by_cases h : k' = k
    · simpa [SMap.erase, h] using ih
    · intro q hq
      simp only [SMap.erase, if_neg h, List.mem_cons] at hq
      rcases hq with rfl | hq
      · exact h
      · exact ih q hq

theorem SMap.get_insert_same (d : Nat → α) (m : SMap α) (k : Nat) (v : α) (h : SMap.noKey m k) :
    SMap.get d (SMap.insert m k v) k = v := by
  induction m with
  | nil => simp [SMap.insert, SMap.get]
  | cons p t ih =>
    obtain ⟨k', v'⟩ := p
    have hk : k' ≠ k := h (k', v') (by simp)
    by_cases hl : k < k'
    · simp [SMap.insert, SMap.get, hl]
    · simp only [SMap.insert, if_neg hl, SMap.get, if_neg hk]
      exact ih (fun q hq => h q (by simp [hq]))

theorem SMap.get_insert_other (d : Nat → α) (m : SMap α) {k j : Nat} (v : α) (h : j ≠ k) :
    SMap.get d (SMap.insert m k v) j = SMap.get d m j := by
  have hkj : ¬ k = j := fun e => h e.symm
  induction m with
  | nil => simp [SMap.insert, SMap.get, hkj]
  | cons p t ih =>
    obtain ⟨k', v'⟩ := p
    by_cases hl : k < k'
    · simp [SMap.insert, SMap.get, hl, hkj]
    · simp only [SMap.insert, if_neg hl, SMap.get, ih]

theorem SMap.sortedFrom_mono {lo lo' : Nat} (m : SMap α) (h : lo' ≤ lo)
    (hs : SMap.sortedFrom lo m = true) : SMap.sortedFrom lo' m = true := by
  cases m with
  | nil => rfl
  | cons p t =>
    obtain ⟨k, v⟩ := p
    simp only [SMap.sortedFrom, Bool.and_eq_true, decide_eq_true_eq] at hs ⊢
    exact ⟨le_trans h hs.1, hs.2⟩

theorem SMap.sortedFrom_filter (f : Nat × α → Bool) (m : SMap α) (lo : Nat)
    (hs : SMap.sortedFrom lo m = true) : SMap.sortedFrom lo (m.filter f) = true := by
  induction m generalizing lo with
  | nil => rfl
  | cons p t ih =>
    obtain ⟨k, v⟩ := p
    simp only [SMap.sortedFrom, Bool.and_eq_true, decide_eq_true_eq] at hs
    by_cases hf : f (k, v) = true
    · rw [List.filter_cons_of_pos hf]
      simp [SMap.sortedFrom, hs.1, ih _ hs.2]
    · rw [List.filter_cons_of_neg hf]
      exact SMap.sortedFrom_mono _ (by omega) (ih _ hs.2)

theorem SMap.sortedFrom_erase (m : SMap α) (k lo : Nat) (hs : SMap.sortedFrom lo m = true) :
    SMap.sortedFrom lo (SMap.erase m k) = true := by
  induction m generalizing lo with
  | nil => rfl
  | cons p t ih =>
    obtain ⟨k', v⟩ := p
    simp only [SMap.sortedFrom, Bool.and_eq_true, decide_eq_true_eq] at hs
    by_cases h : k' = k
    · simp only [SMap.erase, if_pos h]
      exact SMap.sortedFrom_mono _ (by omega) (ih _ hs.2)
    · simp [SMap.erase, h, SMap.sortedFrom, hs.1, ih _ hs.2]

theorem SMap.sortedFrom_insert (m : SMap α) (k lo : Nat) (v : α) (hn : SMap.noKey m k) (hk : lo ≤ k)
    (hs : SMap.sortedFrom lo m = true) : SMap.sortedFrom lo (SMap.insert m k v) = true := by
  induction m generalizing lo with
  | nil => simp [SMap.insert, SMap.sortedFrom, hk]
  | cons p t ih =>
    obtain ⟨k', v'⟩ := p
    simp only [SMap.sortedFrom, Bool.and_eq_true, decide_eq_true_eq] at hs
    have hne : k' ≠ k := hn (k', v') (by simp)
    by_cases hl : k < k'
    · have : k + 1 ≤ k' := hl
      simp [SMap.insert, hl, SMap.sortedFrom, hk, hs.2, this]
    · have hlt : k' + 1 ≤ k := by omega
      simp [SMap.insert, hl, SMap.sortedFrom, hs.1,
        ih _ (fun q hq => hn q (by simp [hq])) hlt hs.2]

theorem SMap.mem_erase {m : SMap α} {k : Nat} {p : Nat × α} (h : p ∈ SMap.erase m k) : p ∈ m := by
  induction m with
  | nil => cases h
  | cons q t ih =>
    obtain ⟨k', v⟩ := q
    by_cases hk : k' = k
    · rw [SMap.erase, if_pos hk] at h; simp [ih h]
    · rw [SMap.erase, if_neg hk] at h
      rcases List.mem_cons.mp h with rfl | h
      · simp
      · simp [ih h]

theorem SMap.mem_insert {m : SMap α} {k : Nat} {v : α} {p : Nat × α}
    (h : p ∈ SMap.insert m k v) : p = (k, v) ∨ p ∈ m := by
  induction m with
  | nil => simpa [SMap.insert] using h
  | cons q t ih =>
    obtain ⟨k', v'⟩ := q
    by_cases hl : k < k'
    · simpa [SMap.insert, hl] using h
    · rw [SMap.insert, if_neg hl] at h
      rcases List.mem_cons.mp h with rfl | h
      · simp
      · rcases ih h with h | h <;> simp [h]

/-- Rising keys of two lists, the second from a bound on that the first stays below. -/
theorem SMap.sortedFrom_append {a b : SMap α} {lo mid : Nat} (ha : SMap.sortedFrom lo a = true)
    (hb : SMap.sortedFrom mid b = true) (hl : ∀ p ∈ a, p.1 < mid) (hm : lo ≤ mid) :
    SMap.sortedFrom lo (a ++ b) = true := by
  induction a generalizing lo with
  | nil => exact SMap.sortedFrom_mono b hm hb
  | cons p t ih =>
    obtain ⟨k, v⟩ := p
    simp only [SMap.sortedFrom, Bool.and_eq_true, decide_eq_true_eq] at ha
    have hk : k < mid := hl (k, v) (by simp)
    simp only [List.cons_append, SMap.sortedFrom, Bool.and_eq_true, decide_eq_true_eq]
    exact ⟨ha.1, ih ha.2 (fun q hq => hl q (by simp [hq])) hk⟩

/-- Entries from a bound on are sorted from that bound. -/
theorem SMap.sortedFrom_of_ge {a : SMap α} {lo mid : Nat} (ha : SMap.sortedFrom lo a = true)
    (hl : ∀ p ∈ a, mid ≤ p.1) : SMap.sortedFrom mid a = true := by
  cases a with
  | nil => rfl
  | cons p t =>
    obtain ⟨k, v⟩ := p
    simp only [SMap.sortedFrom, Bool.and_eq_true, decide_eq_true_eq] at ha ⊢
    exact ⟨hl (k, v) (by simp), ha.2⟩

section
variable [DecidableEq α]

@[simp] theorem SMap.get_put_same (d : Nat → α) (m : SMap α) (k : Nat) (v : α) :
    SMap.get d (SMap.put d m k v) k = v := by
  unfold SMap.put
  split
  · next h => rw [SMap.get_erase_same, h]
  · exact SMap.get_insert_same d _ k v (SMap.noKey_erase m k)

@[simp] theorem SMap.get_put_other (d : Nat → α) (m : SMap α) {k j : Nat} (v : α) (h : j ≠ k) :
    SMap.get d (SMap.put d m k v) j = SMap.get d m j := by
  unfold SMap.put
  split
  · exact SMap.get_erase_other d m h
  · rw [SMap.get_insert_other d _ v h, SMap.get_erase_other d m h]

theorem SMap.get_put (d : Nat → α) (m : SMap α) (k j : Nat) (v : α) :
    SMap.get d (SMap.put d m k v) j = if j = k then v else SMap.get d m j := by
  by_cases h : j = k
  · subst h; simp
  · simp [h]

theorem SMap.get_putAll_other (d : Nat → α) (l : List (Nat × α)) (m : SMap α) (j : Nat)
    (h : ∀ p ∈ l, p.1 ≠ j) : SMap.get d (SMap.putAll d m l) j = SMap.get d m j := by
  induction l generalizing m with
  | nil => rfl
  | cons p t ih =>
    obtain ⟨k, v⟩ := p
    rw [SMap.putAll, ih _ (fun q hq => h q (by simp [hq]))]
    exact SMap.get_put_other d m v (fun e => h (k, v) (by simp) e.symm)

/-- A write keeps the canonical form. -/
theorem SMap.wf_put (d : Nat → α) (m : SMap α) (k : Nat) (v : α) (h : SMap.wf d m = true) :
    SMap.wf d (SMap.put d m k v) = true := by
  simp only [SMap.wf, Bool.and_eq_true, List.all_eq_true, decide_eq_true_eq] at h ⊢
  unfold SMap.put
  split
  · exact ⟨SMap.sortedFrom_erase m k 0 h.1, fun p hp => h.2 p (SMap.mem_erase hp)⟩
  · next hv =>
    refine ⟨SMap.sortedFrom_insert _ k 0 v (SMap.noKey_erase m k) (Nat.zero_le _)
      (SMap.sortedFrom_erase m k 0 h.1), fun p hp => ?_⟩
    rcases SMap.mem_insert hp with rfl | hp
    · exact hv
    · exact h.2 p (SMap.mem_erase hp)

theorem SMap.wf_putAll (d : Nat → α) (l : List (Nat × α)) (m : SMap α) (h : SMap.wf d m = true) :
    SMap.wf d (SMap.putAll d m l) = true := by
  induction l generalizing m with
  | nil => exact h
  | cons p t ih => exact ih _ (SMap.wf_put d m p.1 p.2 h)

theorem SMap.wf_filter (d : Nat → α) (f : Nat × α → Bool) (m : SMap α) (h : SMap.wf d m = true) :
    SMap.wf d (m.filter f) = true := by
  simp only [SMap.wf, Bool.and_eq_true, List.all_eq_true, decide_eq_true_eq] at h ⊢
  exact ⟨SMap.sortedFrom_filter f m 0 h.1, fun p hp => h.2 p (List.mem_filter.mp hp).1⟩

theorem SMap.wf_upd (d : Nat → α) (m : SMap α) (k : Nat) (f : α → α) (h : SMap.wf d m = true) :
    SMap.wf d (SMap.upd d m k f) = true := SMap.wf_put d m k _ h

theorem SMap.wf_ofList (d : Nat → α) (l : List (Nat × α)) : SMap.wf d (SMap.ofList d l) = true := by
  unfold SMap.ofList
  split
  · assumption
  · exact SMap.wf_putAll d l [] rfl

theorem SMap.wf_range (d : Nat → α) (m : SMap α) (lo hi : Nat) (h : SMap.wf d m = true) :
    SMap.wf d (SMap.range m lo hi) = true := SMap.wf_filter d _ m h

theorem SMap.wf_clearRange (d : Nat → α) (m : SMap α) (lo hi : Nat) (h : SMap.wf d m = true) :
    SMap.wf d (SMap.clearRange m lo hi) = true := SMap.wf_filter d _ m h

/-- A range replaced keeps the canonical form, whatever the list. -/
theorem SMap.wf_splice (d : Nat → α) (m : SMap α) (lo hi : Nat) (l : List (Nat × α)) (h : SMap.wf d m = true) :
    SMap.wf d (SMap.splice d m lo hi l) = true := by
  have w1 := SMap.wf_filter d (fun p => decide (p.1 < lo)) m h
  have w2 := SMap.wf_range d _ lo hi (SMap.wf_ofList d l)
  have w3 := SMap.wf_filter d (fun p => decide (lo ≤ p.1) && decide (hi ≤ p.1)) m h
  simp only [SMap.wf, Bool.and_eq_true, List.all_eq_true] at w1 w2 w3 ⊢
  refine ⟨?_, fun p hp => ?_⟩
  · unfold SMap.splice
    rw [List.append_assoc]
    refine SMap.sortedFrom_append (mid := lo) w1.1 ?_ (fun p hp => by simpa using (List.mem_filter.mp hp).2) (by omega)
    have h2 : SMap.sortedFrom lo (SMap.range (SMap.ofList d l) lo hi) = true :=
      SMap.sortedFrom_of_ge w2.1 (fun p hp => by
        have := (List.mem_filter.mp hp).2
        simp only [Bool.and_eq_true, decide_eq_true_eq] at this
        exact this.1)
    refine SMap.sortedFrom_append (mid := max lo hi) h2 ?_ (fun p hp => by
        have := (List.mem_filter.mp hp).2
        simp only [Bool.and_eq_true, decide_eq_true_eq] at this
        omega) (by omega)
    exact SMap.sortedFrom_of_ge w3.1 (fun p hp => by
      have := (List.mem_filter.mp hp).2
      simp only [Bool.and_eq_true, decide_eq_true_eq] at this
      omega)
  · simp only [SMap.splice, List.mem_append] at hp
    rcases hp with (hp | hp) | hp
    · exact w1.2 p hp
    · exact w2.2 p hp
    · exact w3.2 p hp

end

end Sys2Proof
end

