-- ==== Sys2Proof/Laws/State.lean ====
section
/-! SUPPORT. What each named update leaves in each field of the state, and what the accessors read after it. -/

namespace Sys2Proof.Machine

/-! ## setCore -/
@[simp] theorem State.setCore_pending (s : State) (k : Nat) (c : Core) : (s.setCore k c).pending = s.pending := rfl
@[simp] theorem State.setCore_fresh (s : State) (k : Nat) (c : Core) : (s.setCore k c).fresh = s.fresh := rfl
@[simp] theorem State.setCore_time (s : State) (k : Nat) (c : Core) : (s.setCore k c).time = s.time := rfl
@[simp] theorem State.setCore_panel (s : State) (k : Nat) (c : Core) : (s.setCore k c).panel = s.panel := rfl
@[simp] theorem State.setCore_panelSince (s : State) (k : Nat) (c : Core) : (s.setCore k c).panelSince = s.panelSince := rfl
@[simp] theorem State.setCore_panelPrev (s : State) (k : Nat) (c : Core) : (s.setCore k c).panelPrev = s.panelPrev := rfl
@[simp] theorem State.setCore_od (s : State) (k : Nat) (c : Core) : (s.setCore k c).od = s.od := rfl
@[simp] theorem State.setCore_cores (s : State) (k : Nat) (c : Core) : (s.setCore k c).cores = SMap.put coreD s.cores k c := rfl
@[simp] theorem State.setCore_snaps (s : State) (k : Nat) (c : Core) : (s.setCore k c).snaps = s.snaps := rfl
@[simp] theorem State.setCore_spad (s : State) (k : Nat) (c : Core) : (s.setCore k c).spad = s.spad := rfl
@[simp] theorem State.setCore_imem (s : State) (k : Nat) (c : Core) : (s.setCore k c).imem = s.imem := rfl
@[simp] theorem State.setCore_hbm (s : State) (k : Nat) (c : Core) : (s.setCore k c).hbm = s.hbm := rfl
@[simp] theorem State.setCore_hbmBad (s : State) (k : Nat) (c : Core) : (s.setCore k c).hbmBad = s.hbmBad := rfl
@[simp] theorem State.setCore_stage (s : State) (k : Nat) (c : Core) : (s.setCore k c).stage = s.stage := rfl
@[simp] theorem State.setCore_fwStage (s : State) (k : Nat) (c : Core) : (s.setCore k c).fwStage = s.fwStage := rfl
@[simp] theorem State.setCore_dies (s : State) (k : Nat) (c : Core) : (s.setCore k c).dies = s.dies := rfl
@[simp] theorem State.setCore_hubs (s : State) (k : Nat) (c : Core) : (s.setCore k c).hubs = s.hubs := rfl
@[simp] theorem State.setCore_portDies (s : State) (k : Nat) (c : Core) : (s.setCore k c).portDies = s.portDies := rfl
@[simp] theorem State.setCore_hbmStacks (s : State) (k : Nat) (c : Core) : (s.setCore k c).hbmStacks = s.hbmStacks := rfl
@[simp] theorem State.setCore_prog (s : State) (k : Nat) (c : Core) : (s.setCore k c).prog = s.prog := rfl
@[simp] theorem State.setCore_loading (s : State) (k : Nat) (c : Core) : (s.setCore k c).loading = s.loading := rfl
@[simp] theorem State.setCore_slots (s : State) (k : Nat) (c : Core) : (s.setCore k c).slots = s.slots := rfl
@[simp] theorem State.setCore_checks (s : State) (k : Nat) (c : Core) : (s.setCore k c).checks = s.checks := rfl
@[simp] theorem State.setCore_larder (s : State) (k : Nat) (c : Core) : (s.setCore k c).larder = s.larder := rfl
@[simp] theorem State.setCore_net (s : State) (k : Nat) (c : Core) : (s.setCore k c).net = s.net := rfl
@[simp] theorem State.setCore_fabric (s : State) (k : Nat) (c : Core) : (s.setCore k c).fabric = s.fabric := rfl
@[simp] theorem State.setCore_power (s : State) (k : Nat) (c : Core) : (s.setCore k c).power = s.power := rfl
@[simp] theorem State.setCore_thermal (s : State) (k : Nat) (c : Core) : (s.setCore k c).thermal = s.thermal := rfl
@[simp] theorem State.setCore_recovery (s : State) (k : Nat) (c : Core) : (s.setCore k c).recovery = s.recovery := rfl
@[simp] theorem State.setCore_bringup (s : State) (k : Nat) (c : Core) : (s.setCore k c).bringup = s.bringup := rfl
@[simp] theorem State.setCore_access (s : State) (k : Nat) (c : Core) : (s.setCore k c).access = s.access := rfl
@[simp] theorem State.setCore_pins (s : State) (k : Nat) (c : Core) : (s.setCore k c).pins = s.pins := rfl
@[simp] theorem State.setCore_mesh (s : State) (k : Nat) (c : Core) : (s.setCore k c).mesh = s.mesh := rfl

/-! ## updCore -/
@[simp] theorem State.updCore_pending (s : State) (k : Nat) (f : Core → Core) : (s.updCore k f).pending = s.pending := rfl
@[simp] theorem State.updCore_fresh (s : State) (k : Nat) (f : Core → Core) : (s.updCore k f).fresh = s.fresh := rfl
@[simp] theorem State.updCore_time (s : State) (k : Nat) (f : Core → Core) : (s.updCore k f).time = s.time := rfl
@[simp] theorem State.updCore_panel (s : State) (k : Nat) (f : Core → Core) : (s.updCore k f).panel = s.panel := rfl
@[simp] theorem State.updCore_panelSince (s : State) (k : Nat) (f : Core → Core) : (s.updCore k f).panelSince = s.panelSince := rfl
@[simp] theorem State.updCore_panelPrev (s : State) (k : Nat) (f : Core → Core) : (s.updCore k f).panelPrev = s.panelPrev := rfl
@[simp] theorem State.updCore_od (s : State) (k : Nat) (f : Core → Core) : (s.updCore k f).od = s.od := rfl
@[simp] theorem State.updCore_cores (s : State) (k : Nat) (f : Core → Core) : (s.updCore k f).cores = SMap.put coreD s.cores k (f (s.core k)) := rfl
@[simp] theorem State.updCore_snaps (s : State) (k : Nat) (f : Core → Core) : (s.updCore k f).snaps = s.snaps := rfl
@[simp] theorem State.updCore_spad (s : State) (k : Nat) (f : Core → Core) : (s.updCore k f).spad = s.spad := rfl
@[simp] theorem State.updCore_imem (s : State) (k : Nat) (f : Core → Core) : (s.updCore k f).imem = s.imem := rfl
@[simp] theorem State.updCore_hbm (s : State) (k : Nat) (f : Core → Core) : (s.updCore k f).hbm = s.hbm := rfl
@[simp] theorem State.updCore_hbmBad (s : State) (k : Nat) (f : Core → Core) : (s.updCore k f).hbmBad = s.hbmBad := rfl
@[simp] theorem State.updCore_stage (s : State) (k : Nat) (f : Core → Core) : (s.updCore k f).stage = s.stage := rfl
@[simp] theorem State.updCore_fwStage (s : State) (k : Nat) (f : Core → Core) : (s.updCore k f).fwStage = s.fwStage := rfl
@[simp] theorem State.updCore_dies (s : State) (k : Nat) (f : Core → Core) : (s.updCore k f).dies = s.dies := rfl
@[simp] theorem State.updCore_hubs (s : State) (k : Nat) (f : Core → Core) : (s.updCore k f).hubs = s.hubs := rfl
@[simp] theorem State.updCore_portDies (s : State) (k : Nat) (f : Core → Core) : (s.updCore k f).portDies = s.portDies := rfl
@[simp] theorem State.updCore_hbmStacks (s : State) (k : Nat) (f : Core → Core) : (s.updCore k f).hbmStacks = s.hbmStacks := rfl
@[simp] theorem State.updCore_prog (s : State) (k : Nat) (f : Core → Core) : (s.updCore k f).prog = s.prog := rfl
@[simp] theorem State.updCore_loading (s : State) (k : Nat) (f : Core → Core) : (s.updCore k f).loading = s.loading := rfl
@[simp] theorem State.updCore_slots (s : State) (k : Nat) (f : Core → Core) : (s.updCore k f).slots = s.slots := rfl
@[simp] theorem State.updCore_checks (s : State) (k : Nat) (f : Core → Core) : (s.updCore k f).checks = s.checks := rfl
@[simp] theorem State.updCore_larder (s : State) (k : Nat) (f : Core → Core) : (s.updCore k f).larder = s.larder := rfl
@[simp] theorem State.updCore_net (s : State) (k : Nat) (f : Core → Core) : (s.updCore k f).net = s.net := rfl
@[simp] theorem State.updCore_fabric (s : State) (k : Nat) (f : Core → Core) : (s.updCore k f).fabric = s.fabric := rfl
@[simp] theorem State.updCore_power (s : State) (k : Nat) (f : Core → Core) : (s.updCore k f).power = s.power := rfl
@[simp] theorem State.updCore_thermal (s : State) (k : Nat) (f : Core → Core) : (s.updCore k f).thermal = s.thermal := rfl
@[simp] theorem State.updCore_recovery (s : State) (k : Nat) (f : Core → Core) : (s.updCore k f).recovery = s.recovery := rfl
@[simp] theorem State.updCore_bringup (s : State) (k : Nat) (f : Core → Core) : (s.updCore k f).bringup = s.bringup := rfl
@[simp] theorem State.updCore_access (s : State) (k : Nat) (f : Core → Core) : (s.updCore k f).access = s.access := rfl
@[simp] theorem State.updCore_pins (s : State) (k : Nat) (f : Core → Core) : (s.updCore k f).pins = s.pins := rfl
@[simp] theorem State.updCore_mesh (s : State) (k : Nat) (f : Core → Core) : (s.updCore k f).mesh = s.mesh := rfl

/-! ## setDie -/
@[simp] theorem State.setDie_pending (s : State) (k : Nat) (d : Die) : (s.setDie k d).pending = s.pending := rfl
@[simp] theorem State.setDie_fresh (s : State) (k : Nat) (d : Die) : (s.setDie k d).fresh = s.fresh := rfl
@[simp] theorem State.setDie_time (s : State) (k : Nat) (d : Die) : (s.setDie k d).time = s.time := rfl
@[simp] theorem State.setDie_panel (s : State) (k : Nat) (d : Die) : (s.setDie k d).panel = s.panel := rfl
@[simp] theorem State.setDie_panelSince (s : State) (k : Nat) (d : Die) : (s.setDie k d).panelSince = s.panelSince := rfl
@[simp] theorem State.setDie_panelPrev (s : State) (k : Nat) (d : Die) : (s.setDie k d).panelPrev = s.panelPrev := rfl
@[simp] theorem State.setDie_od (s : State) (k : Nat) (d : Die) : (s.setDie k d).od = s.od := rfl
@[simp] theorem State.setDie_cores (s : State) (k : Nat) (d : Die) : (s.setDie k d).cores = s.cores := rfl
@[simp] theorem State.setDie_snaps (s : State) (k : Nat) (d : Die) : (s.setDie k d).snaps = s.snaps := rfl
@[simp] theorem State.setDie_spad (s : State) (k : Nat) (d : Die) : (s.setDie k d).spad = s.spad := rfl
@[simp] theorem State.setDie_imem (s : State) (k : Nat) (d : Die) : (s.setDie k d).imem = s.imem := rfl
@[simp] theorem State.setDie_hbm (s : State) (k : Nat) (d : Die) : (s.setDie k d).hbm = s.hbm := rfl
@[simp] theorem State.setDie_hbmBad (s : State) (k : Nat) (d : Die) : (s.setDie k d).hbmBad = s.hbmBad := rfl
@[simp] theorem State.setDie_stage (s : State) (k : Nat) (d : Die) : (s.setDie k d).stage = s.stage := rfl
@[simp] theorem State.setDie_fwStage (s : State) (k : Nat) (d : Die) : (s.setDie k d).fwStage = s.fwStage := rfl
@[simp] theorem State.setDie_dies (s : State) (k : Nat) (d : Die) : (s.setDie k d).dies = SMap.put dieD s.dies k d := rfl
@[simp] theorem State.setDie_hubs (s : State) (k : Nat) (d : Die) : (s.setDie k d).hubs = s.hubs := rfl
@[simp] theorem State.setDie_portDies (s : State) (k : Nat) (d : Die) : (s.setDie k d).portDies = s.portDies := rfl
@[simp] theorem State.setDie_hbmStacks (s : State) (k : Nat) (d : Die) : (s.setDie k d).hbmStacks = s.hbmStacks := rfl
@[simp] theorem State.setDie_prog (s : State) (k : Nat) (d : Die) : (s.setDie k d).prog = s.prog := rfl
@[simp] theorem State.setDie_loading (s : State) (k : Nat) (d : Die) : (s.setDie k d).loading = s.loading := rfl
@[simp] theorem State.setDie_slots (s : State) (k : Nat) (d : Die) : (s.setDie k d).slots = s.slots := rfl
@[simp] theorem State.setDie_checks (s : State) (k : Nat) (d : Die) : (s.setDie k d).checks = s.checks := rfl
@[simp] theorem State.setDie_larder (s : State) (k : Nat) (d : Die) : (s.setDie k d).larder = s.larder := rfl
@[simp] theorem State.setDie_net (s : State) (k : Nat) (d : Die) : (s.setDie k d).net = s.net := rfl
@[simp] theorem State.setDie_fabric (s : State) (k : Nat) (d : Die) : (s.setDie k d).fabric = s.fabric := rfl
@[simp] theorem State.setDie_power (s : State) (k : Nat) (d : Die) : (s.setDie k d).power = s.power := rfl
@[simp] theorem State.setDie_thermal (s : State) (k : Nat) (d : Die) : (s.setDie k d).thermal = s.thermal := rfl
@[simp] theorem State.setDie_recovery (s : State) (k : Nat) (d : Die) : (s.setDie k d).recovery = s.recovery := rfl
@[simp] theorem State.setDie_bringup (s : State) (k : Nat) (d : Die) : (s.setDie k d).bringup = s.bringup := rfl
@[simp] theorem State.setDie_access (s : State) (k : Nat) (d : Die) : (s.setDie k d).access = s.access := rfl
@[simp] theorem State.setDie_pins (s : State) (k : Nat) (d : Die) : (s.setDie k d).pins = s.pins := rfl
@[simp] theorem State.setDie_mesh (s : State) (k : Nat) (d : Die) : (s.setDie k d).mesh = s.mesh := rfl

/-! ## updDie -/
@[simp] theorem State.updDie_pending (s : State) (k : Nat) (f : Die → Die) : (s.updDie k f).pending = s.pending := rfl
@[simp] theorem State.updDie_fresh (s : State) (k : Nat) (f : Die → Die) : (s.updDie k f).fresh = s.fresh := rfl
@[simp] theorem State.updDie_time (s : State) (k : Nat) (f : Die → Die) : (s.updDie k f).time = s.time := rfl
@[simp] theorem State.updDie_panel (s : State) (k : Nat) (f : Die → Die) : (s.updDie k f).panel = s.panel := rfl
@[simp] theorem State.updDie_panelSince (s : State) (k : Nat) (f : Die → Die) : (s.updDie k f).panelSince = s.panelSince := rfl
@[simp] theorem State.updDie_panelPrev (s : State) (k : Nat) (f : Die → Die) : (s.updDie k f).panelPrev = s.panelPrev := rfl
@[simp] theorem State.updDie_od (s : State) (k : Nat) (f : Die → Die) : (s.updDie k f).od = s.od := rfl
@[simp] theorem State.updDie_cores (s : State) (k : Nat) (f : Die → Die) : (s.updDie k f).cores = s.cores := rfl
@[simp] theorem State.updDie_snaps (s : State) (k : Nat) (f : Die → Die) : (s.updDie k f).snaps = s.snaps := rfl
@[simp] theorem State.updDie_spad (s : State) (k : Nat) (f : Die → Die) : (s.updDie k f).spad = s.spad := rfl
@[simp] theorem State.updDie_imem (s : State) (k : Nat) (f : Die → Die) : (s.updDie k f).imem = s.imem := rfl
@[simp] theorem State.updDie_hbm (s : State) (k : Nat) (f : Die → Die) : (s.updDie k f).hbm = s.hbm := rfl
@[simp] theorem State.updDie_hbmBad (s : State) (k : Nat) (f : Die → Die) : (s.updDie k f).hbmBad = s.hbmBad := rfl
@[simp] theorem State.updDie_stage (s : State) (k : Nat) (f : Die → Die) : (s.updDie k f).stage = s.stage := rfl
@[simp] theorem State.updDie_fwStage (s : State) (k : Nat) (f : Die → Die) : (s.updDie k f).fwStage = s.fwStage := rfl
@[simp] theorem State.updDie_dies (s : State) (k : Nat) (f : Die → Die) : (s.updDie k f).dies = SMap.put dieD s.dies k (f (s.die k)) := rfl
@[simp] theorem State.updDie_hubs (s : State) (k : Nat) (f : Die → Die) : (s.updDie k f).hubs = s.hubs := rfl
@[simp] theorem State.updDie_portDies (s : State) (k : Nat) (f : Die → Die) : (s.updDie k f).portDies = s.portDies := rfl
@[simp] theorem State.updDie_hbmStacks (s : State) (k : Nat) (f : Die → Die) : (s.updDie k f).hbmStacks = s.hbmStacks := rfl
@[simp] theorem State.updDie_prog (s : State) (k : Nat) (f : Die → Die) : (s.updDie k f).prog = s.prog := rfl
@[simp] theorem State.updDie_loading (s : State) (k : Nat) (f : Die → Die) : (s.updDie k f).loading = s.loading := rfl
@[simp] theorem State.updDie_slots (s : State) (k : Nat) (f : Die → Die) : (s.updDie k f).slots = s.slots := rfl
@[simp] theorem State.updDie_checks (s : State) (k : Nat) (f : Die → Die) : (s.updDie k f).checks = s.checks := rfl
@[simp] theorem State.updDie_larder (s : State) (k : Nat) (f : Die → Die) : (s.updDie k f).larder = s.larder := rfl
@[simp] theorem State.updDie_net (s : State) (k : Nat) (f : Die → Die) : (s.updDie k f).net = s.net := rfl
@[simp] theorem State.updDie_fabric (s : State) (k : Nat) (f : Die → Die) : (s.updDie k f).fabric = s.fabric := rfl
@[simp] theorem State.updDie_power (s : State) (k : Nat) (f : Die → Die) : (s.updDie k f).power = s.power := rfl
@[simp] theorem State.updDie_thermal (s : State) (k : Nat) (f : Die → Die) : (s.updDie k f).thermal = s.thermal := rfl
@[simp] theorem State.updDie_recovery (s : State) (k : Nat) (f : Die → Die) : (s.updDie k f).recovery = s.recovery := rfl
@[simp] theorem State.updDie_bringup (s : State) (k : Nat) (f : Die → Die) : (s.updDie k f).bringup = s.bringup := rfl
@[simp] theorem State.updDie_access (s : State) (k : Nat) (f : Die → Die) : (s.updDie k f).access = s.access := rfl
@[simp] theorem State.updDie_pins (s : State) (k : Nat) (f : Die → Die) : (s.updDie k f).pins = s.pins := rfl
@[simp] theorem State.updDie_mesh (s : State) (k : Nat) (f : Die → Die) : (s.updDie k f).mesh = s.mesh := rfl

/-! ## updHub -/
@[simp] theorem State.updHub_pending (s : State) (k : Nat) (f : Hub → Hub) : (s.updHub k f).pending = s.pending := rfl
@[simp] theorem State.updHub_fresh (s : State) (k : Nat) (f : Hub → Hub) : (s.updHub k f).fresh = s.fresh := rfl
@[simp] theorem State.updHub_time (s : State) (k : Nat) (f : Hub → Hub) : (s.updHub k f).time = s.time := rfl
@[simp] theorem State.updHub_panel (s : State) (k : Nat) (f : Hub → Hub) : (s.updHub k f).panel = s.panel := rfl
@[simp] theorem State.updHub_panelSince (s : State) (k : Nat) (f : Hub → Hub) : (s.updHub k f).panelSince = s.panelSince := rfl
@[simp] theorem State.updHub_panelPrev (s : State) (k : Nat) (f : Hub → Hub) : (s.updHub k f).panelPrev = s.panelPrev := rfl
@[simp] theorem State.updHub_od (s : State) (k : Nat) (f : Hub → Hub) : (s.updHub k f).od = s.od := rfl
@[simp] theorem State.updHub_cores (s : State) (k : Nat) (f : Hub → Hub) : (s.updHub k f).cores = s.cores := rfl
@[simp] theorem State.updHub_snaps (s : State) (k : Nat) (f : Hub → Hub) : (s.updHub k f).snaps = s.snaps := rfl
@[simp] theorem State.updHub_spad (s : State) (k : Nat) (f : Hub → Hub) : (s.updHub k f).spad = s.spad := rfl
@[simp] theorem State.updHub_imem (s : State) (k : Nat) (f : Hub → Hub) : (s.updHub k f).imem = s.imem := rfl
@[simp] theorem State.updHub_hbm (s : State) (k : Nat) (f : Hub → Hub) : (s.updHub k f).hbm = s.hbm := rfl
@[simp] theorem State.updHub_hbmBad (s : State) (k : Nat) (f : Hub → Hub) : (s.updHub k f).hbmBad = s.hbmBad := rfl
@[simp] theorem State.updHub_stage (s : State) (k : Nat) (f : Hub → Hub) : (s.updHub k f).stage = s.stage := rfl
@[simp] theorem State.updHub_fwStage (s : State) (k : Nat) (f : Hub → Hub) : (s.updHub k f).fwStage = s.fwStage := rfl
@[simp] theorem State.updHub_dies (s : State) (k : Nat) (f : Hub → Hub) : (s.updHub k f).dies = s.dies := rfl
@[simp] theorem State.updHub_hubs (s : State) (k : Nat) (f : Hub → Hub) : (s.updHub k f).hubs = SMap.put hubD s.hubs k (f (s.hub k)) := rfl
@[simp] theorem State.updHub_portDies (s : State) (k : Nat) (f : Hub → Hub) : (s.updHub k f).portDies = s.portDies := rfl
@[simp] theorem State.updHub_hbmStacks (s : State) (k : Nat) (f : Hub → Hub) : (s.updHub k f).hbmStacks = s.hbmStacks := rfl
@[simp] theorem State.updHub_prog (s : State) (k : Nat) (f : Hub → Hub) : (s.updHub k f).prog = s.prog := rfl
@[simp] theorem State.updHub_loading (s : State) (k : Nat) (f : Hub → Hub) : (s.updHub k f).loading = s.loading := rfl
@[simp] theorem State.updHub_slots (s : State) (k : Nat) (f : Hub → Hub) : (s.updHub k f).slots = s.slots := rfl
@[simp] theorem State.updHub_checks (s : State) (k : Nat) (f : Hub → Hub) : (s.updHub k f).checks = s.checks := rfl
@[simp] theorem State.updHub_larder (s : State) (k : Nat) (f : Hub → Hub) : (s.updHub k f).larder = s.larder := rfl
@[simp] theorem State.updHub_net (s : State) (k : Nat) (f : Hub → Hub) : (s.updHub k f).net = s.net := rfl
@[simp] theorem State.updHub_fabric (s : State) (k : Nat) (f : Hub → Hub) : (s.updHub k f).fabric = s.fabric := rfl
@[simp] theorem State.updHub_power (s : State) (k : Nat) (f : Hub → Hub) : (s.updHub k f).power = s.power := rfl
@[simp] theorem State.updHub_thermal (s : State) (k : Nat) (f : Hub → Hub) : (s.updHub k f).thermal = s.thermal := rfl
@[simp] theorem State.updHub_recovery (s : State) (k : Nat) (f : Hub → Hub) : (s.updHub k f).recovery = s.recovery := rfl
@[simp] theorem State.updHub_bringup (s : State) (k : Nat) (f : Hub → Hub) : (s.updHub k f).bringup = s.bringup := rfl
@[simp] theorem State.updHub_access (s : State) (k : Nat) (f : Hub → Hub) : (s.updHub k f).access = s.access := rfl
@[simp] theorem State.updHub_pins (s : State) (k : Nat) (f : Hub → Hub) : (s.updHub k f).pins = s.pins := rfl
@[simp] theorem State.updHub_mesh (s : State) (k : Nat) (f : Hub → Hub) : (s.updHub k f).mesh = s.mesh := rfl

/-! ## updPortDie -/
@[simp] theorem State.updPortDie_pending (s : State) (k : Nat) (f : PortDie → PortDie) : (s.updPortDie k f).pending = s.pending := rfl
@[simp] theorem State.updPortDie_fresh (s : State) (k : Nat) (f : PortDie → PortDie) : (s.updPortDie k f).fresh = s.fresh := rfl
@[simp] theorem State.updPortDie_time (s : State) (k : Nat) (f : PortDie → PortDie) : (s.updPortDie k f).time = s.time := rfl
@[simp] theorem State.updPortDie_panel (s : State) (k : Nat) (f : PortDie → PortDie) : (s.updPortDie k f).panel = s.panel := rfl
@[simp] theorem State.updPortDie_panelSince (s : State) (k : Nat) (f : PortDie → PortDie) : (s.updPortDie k f).panelSince = s.panelSince := rfl
@[simp] theorem State.updPortDie_panelPrev (s : State) (k : Nat) (f : PortDie → PortDie) : (s.updPortDie k f).panelPrev = s.panelPrev := rfl
@[simp] theorem State.updPortDie_od (s : State) (k : Nat) (f : PortDie → PortDie) : (s.updPortDie k f).od = s.od := rfl
@[simp] theorem State.updPortDie_cores (s : State) (k : Nat) (f : PortDie → PortDie) : (s.updPortDie k f).cores = s.cores := rfl
@[simp] theorem State.updPortDie_snaps (s : State) (k : Nat) (f : PortDie → PortDie) : (s.updPortDie k f).snaps = s.snaps := rfl
@[simp] theorem State.updPortDie_spad (s : State) (k : Nat) (f : PortDie → PortDie) : (s.updPortDie k f).spad = s.spad := rfl
@[simp] theorem State.updPortDie_imem (s : State) (k : Nat) (f : PortDie → PortDie) : (s.updPortDie k f).imem = s.imem := rfl
@[simp] theorem State.updPortDie_hbm (s : State) (k : Nat) (f : PortDie → PortDie) : (s.updPortDie k f).hbm = s.hbm := rfl
@[simp] theorem State.updPortDie_hbmBad (s : State) (k : Nat) (f : PortDie → PortDie) : (s.updPortDie k f).hbmBad = s.hbmBad := rfl
@[simp] theorem State.updPortDie_stage (s : State) (k : Nat) (f : PortDie → PortDie) : (s.updPortDie k f).stage = s.stage := rfl
@[simp] theorem State.updPortDie_fwStage (s : State) (k : Nat) (f : PortDie → PortDie) : (s.updPortDie k f).fwStage = s.fwStage := rfl
@[simp] theorem State.updPortDie_dies (s : State) (k : Nat) (f : PortDie → PortDie) : (s.updPortDie k f).dies = s.dies := rfl
@[simp] theorem State.updPortDie_hubs (s : State) (k : Nat) (f : PortDie → PortDie) : (s.updPortDie k f).hubs = s.hubs := rfl
@[simp] theorem State.updPortDie_portDies (s : State) (k : Nat) (f : PortDie → PortDie) : (s.updPortDie k f).portDies = SMap.put portDieD s.portDies k (f (s.portDie k)) := rfl
@[simp] theorem State.updPortDie_hbmStacks (s : State) (k : Nat) (f : PortDie → PortDie) : (s.updPortDie k f).hbmStacks = s.hbmStacks := rfl
@[simp] theorem State.updPortDie_prog (s : State) (k : Nat) (f : PortDie → PortDie) : (s.updPortDie k f).prog = s.prog := rfl
@[simp] theorem State.updPortDie_loading (s : State) (k : Nat) (f : PortDie → PortDie) : (s.updPortDie k f).loading = s.loading := rfl
@[simp] theorem State.updPortDie_slots (s : State) (k : Nat) (f : PortDie → PortDie) : (s.updPortDie k f).slots = s.slots := rfl
@[simp] theorem State.updPortDie_checks (s : State) (k : Nat) (f : PortDie → PortDie) : (s.updPortDie k f).checks = s.checks := rfl
@[simp] theorem State.updPortDie_larder (s : State) (k : Nat) (f : PortDie → PortDie) : (s.updPortDie k f).larder = s.larder := rfl
@[simp] theorem State.updPortDie_net (s : State) (k : Nat) (f : PortDie → PortDie) : (s.updPortDie k f).net = s.net := rfl
@[simp] theorem State.updPortDie_fabric (s : State) (k : Nat) (f : PortDie → PortDie) : (s.updPortDie k f).fabric = s.fabric := rfl
@[simp] theorem State.updPortDie_power (s : State) (k : Nat) (f : PortDie → PortDie) : (s.updPortDie k f).power = s.power := rfl
@[simp] theorem State.updPortDie_thermal (s : State) (k : Nat) (f : PortDie → PortDie) : (s.updPortDie k f).thermal = s.thermal := rfl
@[simp] theorem State.updPortDie_recovery (s : State) (k : Nat) (f : PortDie → PortDie) : (s.updPortDie k f).recovery = s.recovery := rfl
@[simp] theorem State.updPortDie_bringup (s : State) (k : Nat) (f : PortDie → PortDie) : (s.updPortDie k f).bringup = s.bringup := rfl
@[simp] theorem State.updPortDie_access (s : State) (k : Nat) (f : PortDie → PortDie) : (s.updPortDie k f).access = s.access := rfl
@[simp] theorem State.updPortDie_pins (s : State) (k : Nat) (f : PortDie → PortDie) : (s.updPortDie k f).pins = s.pins := rfl
@[simp] theorem State.updPortDie_mesh (s : State) (k : Nat) (f : PortDie → PortDie) : (s.updPortDie k f).mesh = s.mesh := rfl

/-! ## updStack -/
@[simp] theorem State.updStack_pending (s : State) (k : Nat) (f : Stack → Stack) : (s.updStack k f).pending = s.pending := rfl
@[simp] theorem State.updStack_fresh (s : State) (k : Nat) (f : Stack → Stack) : (s.updStack k f).fresh = s.fresh := rfl
@[simp] theorem State.updStack_time (s : State) (k : Nat) (f : Stack → Stack) : (s.updStack k f).time = s.time := rfl
@[simp] theorem State.updStack_panel (s : State) (k : Nat) (f : Stack → Stack) : (s.updStack k f).panel = s.panel := rfl
@[simp] theorem State.updStack_panelSince (s : State) (k : Nat) (f : Stack → Stack) : (s.updStack k f).panelSince = s.panelSince := rfl
@[simp] theorem State.updStack_panelPrev (s : State) (k : Nat) (f : Stack → Stack) : (s.updStack k f).panelPrev = s.panelPrev := rfl
@[simp] theorem State.updStack_od (s : State) (k : Nat) (f : Stack → Stack) : (s.updStack k f).od = s.od := rfl
@[simp] theorem State.updStack_cores (s : State) (k : Nat) (f : Stack → Stack) : (s.updStack k f).cores = s.cores := rfl
@[simp] theorem State.updStack_snaps (s : State) (k : Nat) (f : Stack → Stack) : (s.updStack k f).snaps = s.snaps := rfl
@[simp] theorem State.updStack_spad (s : State) (k : Nat) (f : Stack → Stack) : (s.updStack k f).spad = s.spad := rfl
@[simp] theorem State.updStack_imem (s : State) (k : Nat) (f : Stack → Stack) : (s.updStack k f).imem = s.imem := rfl
@[simp] theorem State.updStack_hbm (s : State) (k : Nat) (f : Stack → Stack) : (s.updStack k f).hbm = s.hbm := rfl
@[simp] theorem State.updStack_hbmBad (s : State) (k : Nat) (f : Stack → Stack) : (s.updStack k f).hbmBad = s.hbmBad := rfl
@[simp] theorem State.updStack_stage (s : State) (k : Nat) (f : Stack → Stack) : (s.updStack k f).stage = s.stage := rfl
@[simp] theorem State.updStack_fwStage (s : State) (k : Nat) (f : Stack → Stack) : (s.updStack k f).fwStage = s.fwStage := rfl
@[simp] theorem State.updStack_dies (s : State) (k : Nat) (f : Stack → Stack) : (s.updStack k f).dies = s.dies := rfl
@[simp] theorem State.updStack_hubs (s : State) (k : Nat) (f : Stack → Stack) : (s.updStack k f).hubs = s.hubs := rfl
@[simp] theorem State.updStack_portDies (s : State) (k : Nat) (f : Stack → Stack) : (s.updStack k f).portDies = s.portDies := rfl
@[simp] theorem State.updStack_hbmStacks (s : State) (k : Nat) (f : Stack → Stack) : (s.updStack k f).hbmStacks = SMap.put stackD s.hbmStacks k (f (s.stack k)) := rfl
@[simp] theorem State.updStack_prog (s : State) (k : Nat) (f : Stack → Stack) : (s.updStack k f).prog = s.prog := rfl
@[simp] theorem State.updStack_loading (s : State) (k : Nat) (f : Stack → Stack) : (s.updStack k f).loading = s.loading := rfl
@[simp] theorem State.updStack_slots (s : State) (k : Nat) (f : Stack → Stack) : (s.updStack k f).slots = s.slots := rfl
@[simp] theorem State.updStack_checks (s : State) (k : Nat) (f : Stack → Stack) : (s.updStack k f).checks = s.checks := rfl
@[simp] theorem State.updStack_larder (s : State) (k : Nat) (f : Stack → Stack) : (s.updStack k f).larder = s.larder := rfl
@[simp] theorem State.updStack_net (s : State) (k : Nat) (f : Stack → Stack) : (s.updStack k f).net = s.net := rfl
@[simp] theorem State.updStack_fabric (s : State) (k : Nat) (f : Stack → Stack) : (s.updStack k f).fabric = s.fabric := rfl
@[simp] theorem State.updStack_power (s : State) (k : Nat) (f : Stack → Stack) : (s.updStack k f).power = s.power := rfl
@[simp] theorem State.updStack_thermal (s : State) (k : Nat) (f : Stack → Stack) : (s.updStack k f).thermal = s.thermal := rfl
@[simp] theorem State.updStack_recovery (s : State) (k : Nat) (f : Stack → Stack) : (s.updStack k f).recovery = s.recovery := rfl
@[simp] theorem State.updStack_bringup (s : State) (k : Nat) (f : Stack → Stack) : (s.updStack k f).bringup = s.bringup := rfl
@[simp] theorem State.updStack_access (s : State) (k : Nat) (f : Stack → Stack) : (s.updStack k f).access = s.access := rfl
@[simp] theorem State.updStack_pins (s : State) (k : Nat) (f : Stack → Stack) : (s.updStack k f).pins = s.pins := rfl
@[simp] theorem State.updStack_mesh (s : State) (k : Nat) (f : Stack → Stack) : (s.updStack k f).mesh = s.mesh := rfl

/-! ## updPort -/
@[simp] theorem State.updPort_pending (s : State) (k : Nat) (f : Port → Port) : (s.updPort k f).pending = s.pending := rfl
@[simp] theorem State.updPort_fresh (s : State) (k : Nat) (f : Port → Port) : (s.updPort k f).fresh = s.fresh := rfl
@[simp] theorem State.updPort_time (s : State) (k : Nat) (f : Port → Port) : (s.updPort k f).time = s.time := rfl
@[simp] theorem State.updPort_panel (s : State) (k : Nat) (f : Port → Port) : (s.updPort k f).panel = s.panel := rfl
@[simp] theorem State.updPort_panelSince (s : State) (k : Nat) (f : Port → Port) : (s.updPort k f).panelSince = s.panelSince := rfl
@[simp] theorem State.updPort_panelPrev (s : State) (k : Nat) (f : Port → Port) : (s.updPort k f).panelPrev = s.panelPrev := rfl
@[simp] theorem State.updPort_od (s : State) (k : Nat) (f : Port → Port) : (s.updPort k f).od = s.od := rfl
@[simp] theorem State.updPort_cores (s : State) (k : Nat) (f : Port → Port) : (s.updPort k f).cores = s.cores := rfl
@[simp] theorem State.updPort_snaps (s : State) (k : Nat) (f : Port → Port) : (s.updPort k f).snaps = s.snaps := rfl
@[simp] theorem State.updPort_spad (s : State) (k : Nat) (f : Port → Port) : (s.updPort k f).spad = s.spad := rfl
@[simp] theorem State.updPort_imem (s : State) (k : Nat) (f : Port → Port) : (s.updPort k f).imem = s.imem := rfl
@[simp] theorem State.updPort_hbm (s : State) (k : Nat) (f : Port → Port) : (s.updPort k f).hbm = s.hbm := rfl
@[simp] theorem State.updPort_hbmBad (s : State) (k : Nat) (f : Port → Port) : (s.updPort k f).hbmBad = s.hbmBad := rfl
@[simp] theorem State.updPort_stage (s : State) (k : Nat) (f : Port → Port) : (s.updPort k f).stage = s.stage := rfl
@[simp] theorem State.updPort_fwStage (s : State) (k : Nat) (f : Port → Port) : (s.updPort k f).fwStage = s.fwStage := rfl
@[simp] theorem State.updPort_dies (s : State) (k : Nat) (f : Port → Port) : (s.updPort k f).dies = s.dies := rfl
@[simp] theorem State.updPort_hubs (s : State) (k : Nat) (f : Port → Port) : (s.updPort k f).hubs = s.hubs := rfl
@[simp] theorem State.updPort_portDies (s : State) (k : Nat) (f : Port → Port) : (s.updPort k f).portDies = s.portDies := rfl
@[simp] theorem State.updPort_hbmStacks (s : State) (k : Nat) (f : Port → Port) : (s.updPort k f).hbmStacks = s.hbmStacks := rfl
@[simp] theorem State.updPort_prog (s : State) (k : Nat) (f : Port → Port) : (s.updPort k f).prog = s.prog := rfl
@[simp] theorem State.updPort_loading (s : State) (k : Nat) (f : Port → Port) : (s.updPort k f).loading = s.loading := rfl
@[simp] theorem State.updPort_slots (s : State) (k : Nat) (f : Port → Port) : (s.updPort k f).slots = s.slots := rfl
@[simp] theorem State.updPort_checks (s : State) (k : Nat) (f : Port → Port) : (s.updPort k f).checks = s.checks := rfl
@[simp] theorem State.updPort_larder (s : State) (k : Nat) (f : Port → Port) : (s.updPort k f).larder = s.larder := rfl
@[simp] theorem State.updPort_net (s : State) (k : Nat) (f : Port → Port) : (s.updPort k f).net = s.net := rfl
@[simp] theorem State.updPort_power (s : State) (k : Nat) (f : Port → Port) : (s.updPort k f).power = s.power := rfl
@[simp] theorem State.updPort_thermal (s : State) (k : Nat) (f : Port → Port) : (s.updPort k f).thermal = s.thermal := rfl
@[simp] theorem State.updPort_recovery (s : State) (k : Nat) (f : Port → Port) : (s.updPort k f).recovery = s.recovery := rfl
@[simp] theorem State.updPort_bringup (s : State) (k : Nat) (f : Port → Port) : (s.updPort k f).bringup = s.bringup := rfl
@[simp] theorem State.updPort_access (s : State) (k : Nat) (f : Port → Port) : (s.updPort k f).access = s.access := rfl
@[simp] theorem State.updPort_pins (s : State) (k : Nat) (f : Port → Port) : (s.updPort k f).pins = s.pins := rfl
@[simp] theorem State.updPort_mesh (s : State) (k : Nat) (f : Port → Port) : (s.updPort k f).mesh = s.mesh := rfl

/-! ## updDir -/
@[simp] theorem State.updDir_pending (s : State) (k : Nat) (f : Dir → Dir) : (s.updDir k f).pending = s.pending := rfl
@[simp] theorem State.updDir_fresh (s : State) (k : Nat) (f : Dir → Dir) : (s.updDir k f).fresh = s.fresh := rfl
@[simp] theorem State.updDir_time (s : State) (k : Nat) (f : Dir → Dir) : (s.updDir k f).time = s.time := rfl
@[simp] theorem State.updDir_panel (s : State) (k : Nat) (f : Dir → Dir) : (s.updDir k f).panel = s.panel := rfl
@[simp] theorem State.updDir_panelSince (s : State) (k : Nat) (f : Dir → Dir) : (s.updDir k f).panelSince = s.panelSince := rfl
@[simp] theorem State.updDir_panelPrev (s : State) (k : Nat) (f : Dir → Dir) : (s.updDir k f).panelPrev = s.panelPrev := rfl
@[simp] theorem State.updDir_od (s : State) (k : Nat) (f : Dir → Dir) : (s.updDir k f).od = s.od := rfl
@[simp] theorem State.updDir_cores (s : State) (k : Nat) (f : Dir → Dir) : (s.updDir k f).cores = s.cores := rfl
@[simp] theorem State.updDir_snaps (s : State) (k : Nat) (f : Dir → Dir) : (s.updDir k f).snaps = s.snaps := rfl
@[simp] theorem State.updDir_spad (s : State) (k : Nat) (f : Dir → Dir) : (s.updDir k f).spad = s.spad := rfl
@[simp] theorem State.updDir_imem (s : State) (k : Nat) (f : Dir → Dir) : (s.updDir k f).imem = s.imem := rfl
@[simp] theorem State.updDir_hbm (s : State) (k : Nat) (f : Dir → Dir) : (s.updDir k f).hbm = s.hbm := rfl
@[simp] theorem State.updDir_hbmBad (s : State) (k : Nat) (f : Dir → Dir) : (s.updDir k f).hbmBad = s.hbmBad := rfl
@[simp] theorem State.updDir_stage (s : State) (k : Nat) (f : Dir → Dir) : (s.updDir k f).stage = s.stage := rfl
@[simp] theorem State.updDir_fwStage (s : State) (k : Nat) (f : Dir → Dir) : (s.updDir k f).fwStage = s.fwStage := rfl
@[simp] theorem State.updDir_dies (s : State) (k : Nat) (f : Dir → Dir) : (s.updDir k f).dies = s.dies := rfl
@[simp] theorem State.updDir_hubs (s : State) (k : Nat) (f : Dir → Dir) : (s.updDir k f).hubs = s.hubs := rfl
@[simp] theorem State.updDir_portDies (s : State) (k : Nat) (f : Dir → Dir) : (s.updDir k f).portDies = s.portDies := rfl
@[simp] theorem State.updDir_hbmStacks (s : State) (k : Nat) (f : Dir → Dir) : (s.updDir k f).hbmStacks = s.hbmStacks := rfl
@[simp] theorem State.updDir_prog (s : State) (k : Nat) (f : Dir → Dir) : (s.updDir k f).prog = s.prog := rfl
@[simp] theorem State.updDir_loading (s : State) (k : Nat) (f : Dir → Dir) : (s.updDir k f).loading = s.loading := rfl
@[simp] theorem State.updDir_slots (s : State) (k : Nat) (f : Dir → Dir) : (s.updDir k f).slots = s.slots := rfl
@[simp] theorem State.updDir_checks (s : State) (k : Nat) (f : Dir → Dir) : (s.updDir k f).checks = s.checks := rfl
@[simp] theorem State.updDir_larder (s : State) (k : Nat) (f : Dir → Dir) : (s.updDir k f).larder = s.larder := rfl
@[simp] theorem State.updDir_net (s : State) (k : Nat) (f : Dir → Dir) : (s.updDir k f).net = s.net := rfl
@[simp] theorem State.updDir_power (s : State) (k : Nat) (f : Dir → Dir) : (s.updDir k f).power = s.power := rfl
@[simp] theorem State.updDir_thermal (s : State) (k : Nat) (f : Dir → Dir) : (s.updDir k f).thermal = s.thermal := rfl
@[simp] theorem State.updDir_recovery (s : State) (k : Nat) (f : Dir → Dir) : (s.updDir k f).recovery = s.recovery := rfl
@[simp] theorem State.updDir_bringup (s : State) (k : Nat) (f : Dir → Dir) : (s.updDir k f).bringup = s.bringup := rfl
@[simp] theorem State.updDir_access (s : State) (k : Nat) (f : Dir → Dir) : (s.updDir k f).access = s.access := rfl
@[simp] theorem State.updDir_pins (s : State) (k : Nat) (f : Dir → Dir) : (s.updDir k f).pins = s.pins := rfl
@[simp] theorem State.updDir_mesh (s : State) (k : Nat) (f : Dir → Dir) : (s.updDir k f).mesh = s.mesh := rfl

/-! ## spadWrite -/
@[simp] theorem State.spadWrite_pending (s : State) (k a : Nat) (b : Bytes) : (s.spadWrite k a b).pending = s.pending := rfl
@[simp] theorem State.spadWrite_fresh (s : State) (k a : Nat) (b : Bytes) : (s.spadWrite k a b).fresh = s.fresh := rfl
@[simp] theorem State.spadWrite_time (s : State) (k a : Nat) (b : Bytes) : (s.spadWrite k a b).time = s.time := rfl
@[simp] theorem State.spadWrite_panel (s : State) (k a : Nat) (b : Bytes) : (s.spadWrite k a b).panel = s.panel := rfl
@[simp] theorem State.spadWrite_panelSince (s : State) (k a : Nat) (b : Bytes) : (s.spadWrite k a b).panelSince = s.panelSince := rfl
@[simp] theorem State.spadWrite_panelPrev (s : State) (k a : Nat) (b : Bytes) : (s.spadWrite k a b).panelPrev = s.panelPrev := rfl
@[simp] theorem State.spadWrite_od (s : State) (k a : Nat) (b : Bytes) : (s.spadWrite k a b).od = s.od := rfl
@[simp] theorem State.spadWrite_cores (s : State) (k a : Nat) (b : Bytes) : (s.spadWrite k a b).cores = s.cores := rfl
@[simp] theorem State.spadWrite_snaps (s : State) (k a : Nat) (b : Bytes) : (s.spadWrite k a b).snaps = s.snaps := rfl
@[simp] theorem State.spadWrite_spad (s : State) (k a : Nat) (b : Bytes) : (s.spadWrite k a b).spad = writeBytes s.spad (spadKey k a) b := rfl
@[simp] theorem State.spadWrite_imem (s : State) (k a : Nat) (b : Bytes) : (s.spadWrite k a b).imem = s.imem := rfl
@[simp] theorem State.spadWrite_hbm (s : State) (k a : Nat) (b : Bytes) : (s.spadWrite k a b).hbm = s.hbm := rfl
@[simp] theorem State.spadWrite_hbmBad (s : State) (k a : Nat) (b : Bytes) : (s.spadWrite k a b).hbmBad = s.hbmBad := rfl
@[simp] theorem State.spadWrite_stage (s : State) (k a : Nat) (b : Bytes) : (s.spadWrite k a b).stage = s.stage := rfl
@[simp] theorem State.spadWrite_fwStage (s : State) (k a : Nat) (b : Bytes) : (s.spadWrite k a b).fwStage = s.fwStage := rfl
@[simp] theorem State.spadWrite_dies (s : State) (k a : Nat) (b : Bytes) : (s.spadWrite k a b).dies = s.dies := rfl
@[simp] theorem State.spadWrite_hubs (s : State) (k a : Nat) (b : Bytes) : (s.spadWrite k a b).hubs = s.hubs := rfl
@[simp] theorem State.spadWrite_portDies (s : State) (k a : Nat) (b : Bytes) : (s.spadWrite k a b).portDies = s.portDies := rfl
@[simp] theorem State.spadWrite_hbmStacks (s : State) (k a : Nat) (b : Bytes) : (s.spadWrite k a b).hbmStacks = s.hbmStacks := rfl
@[simp] theorem State.spadWrite_prog (s : State) (k a : Nat) (b : Bytes) : (s.spadWrite k a b).prog = s.prog := rfl
@[simp] theorem State.spadWrite_loading (s : State) (k a : Nat) (b : Bytes) : (s.spadWrite k a b).loading = s.loading := rfl
@[simp] theorem State.spadWrite_slots (s : State) (k a : Nat) (b : Bytes) : (s.spadWrite k a b).slots = s.slots := rfl
@[simp] theorem State.spadWrite_checks (s : State) (k a : Nat) (b : Bytes) : (s.spadWrite k a b).checks = s.checks := rfl
@[simp] theorem State.spadWrite_larder (s : State) (k a : Nat) (b : Bytes) : (s.spadWrite k a b).larder = s.larder := rfl
@[simp] theorem State.spadWrite_net (s : State) (k a : Nat) (b : Bytes) : (s.spadWrite k a b).net = s.net := rfl
@[simp] theorem State.spadWrite_fabric (s : State) (k a : Nat) (b : Bytes) : (s.spadWrite k a b).fabric = s.fabric := rfl
@[simp] theorem State.spadWrite_power (s : State) (k a : Nat) (b : Bytes) : (s.spadWrite k a b).power = s.power := rfl
@[simp] theorem State.spadWrite_thermal (s : State) (k a : Nat) (b : Bytes) : (s.spadWrite k a b).thermal = s.thermal := rfl
@[simp] theorem State.spadWrite_recovery (s : State) (k a : Nat) (b : Bytes) : (s.spadWrite k a b).recovery = s.recovery := rfl
@[simp] theorem State.spadWrite_bringup (s : State) (k a : Nat) (b : Bytes) : (s.spadWrite k a b).bringup = s.bringup := rfl
@[simp] theorem State.spadWrite_access (s : State) (k a : Nat) (b : Bytes) : (s.spadWrite k a b).access = s.access := rfl
@[simp] theorem State.spadWrite_pins (s : State) (k a : Nat) (b : Bytes) : (s.spadWrite k a b).pins = s.pins := rfl
@[simp] theorem State.spadWrite_mesh (s : State) (k a : Nat) (b : Bytes) : (s.spadWrite k a b).mesh = s.mesh := rfl

/-! ## hbmWrite -/
@[simp] theorem State.hbmWrite_pending (s : State) (k a : Nat) (b : Bytes) : (s.hbmWrite k a b).pending = s.pending := rfl
@[simp] theorem State.hbmWrite_fresh (s : State) (k a : Nat) (b : Bytes) : (s.hbmWrite k a b).fresh = s.fresh := rfl
@[simp] theorem State.hbmWrite_time (s : State) (k a : Nat) (b : Bytes) : (s.hbmWrite k a b).time = s.time := rfl
@[simp] theorem State.hbmWrite_panel (s : State) (k a : Nat) (b : Bytes) : (s.hbmWrite k a b).panel = s.panel := rfl
@[simp] theorem State.hbmWrite_panelSince (s : State) (k a : Nat) (b : Bytes) : (s.hbmWrite k a b).panelSince = s.panelSince := rfl
@[simp] theorem State.hbmWrite_panelPrev (s : State) (k a : Nat) (b : Bytes) : (s.hbmWrite k a b).panelPrev = s.panelPrev := rfl
@[simp] theorem State.hbmWrite_od (s : State) (k a : Nat) (b : Bytes) : (s.hbmWrite k a b).od = s.od := rfl
@[simp] theorem State.hbmWrite_cores (s : State) (k a : Nat) (b : Bytes) : (s.hbmWrite k a b).cores = s.cores := rfl
@[simp] theorem State.hbmWrite_snaps (s : State) (k a : Nat) (b : Bytes) : (s.hbmWrite k a b).snaps = s.snaps := rfl
@[simp] theorem State.hbmWrite_spad (s : State) (k a : Nat) (b : Bytes) : (s.hbmWrite k a b).spad = s.spad := rfl
@[simp] theorem State.hbmWrite_imem (s : State) (k a : Nat) (b : Bytes) : (s.hbmWrite k a b).imem = s.imem := rfl
@[simp] theorem State.hbmWrite_hbm (s : State) (k a : Nat) (b : Bytes) : (s.hbmWrite k a b).hbm = writeBytes s.hbm (hbmKey k a) b := rfl
@[simp] theorem State.hbmWrite_hbmBad (s : State) (k a : Nat) (b : Bytes) : (s.hbmWrite k a b).hbmBad = s.hbmBad := rfl
@[simp] theorem State.hbmWrite_stage (s : State) (k a : Nat) (b : Bytes) : (s.hbmWrite k a b).stage = s.stage := rfl
@[simp] theorem State.hbmWrite_fwStage (s : State) (k a : Nat) (b : Bytes) : (s.hbmWrite k a b).fwStage = s.fwStage := rfl
@[simp] theorem State.hbmWrite_dies (s : State) (k a : Nat) (b : Bytes) : (s.hbmWrite k a b).dies = s.dies := rfl
@[simp] theorem State.hbmWrite_hubs (s : State) (k a : Nat) (b : Bytes) : (s.hbmWrite k a b).hubs = s.hubs := rfl
@[simp] theorem State.hbmWrite_portDies (s : State) (k a : Nat) (b : Bytes) : (s.hbmWrite k a b).portDies = s.portDies := rfl
@[simp] theorem State.hbmWrite_hbmStacks (s : State) (k a : Nat) (b : Bytes) : (s.hbmWrite k a b).hbmStacks = s.hbmStacks := rfl
@[simp] theorem State.hbmWrite_prog (s : State) (k a : Nat) (b : Bytes) : (s.hbmWrite k a b).prog = s.prog := rfl
@[simp] theorem State.hbmWrite_loading (s : State) (k a : Nat) (b : Bytes) : (s.hbmWrite k a b).loading = s.loading := rfl
@[simp] theorem State.hbmWrite_slots (s : State) (k a : Nat) (b : Bytes) : (s.hbmWrite k a b).slots = s.slots := rfl
@[simp] theorem State.hbmWrite_checks (s : State) (k a : Nat) (b : Bytes) : (s.hbmWrite k a b).checks = s.checks := rfl
@[simp] theorem State.hbmWrite_larder (s : State) (k a : Nat) (b : Bytes) : (s.hbmWrite k a b).larder = s.larder := rfl
@[simp] theorem State.hbmWrite_net (s : State) (k a : Nat) (b : Bytes) : (s.hbmWrite k a b).net = s.net := rfl
@[simp] theorem State.hbmWrite_fabric (s : State) (k a : Nat) (b : Bytes) : (s.hbmWrite k a b).fabric = s.fabric := rfl
@[simp] theorem State.hbmWrite_power (s : State) (k a : Nat) (b : Bytes) : (s.hbmWrite k a b).power = s.power := rfl
@[simp] theorem State.hbmWrite_thermal (s : State) (k a : Nat) (b : Bytes) : (s.hbmWrite k a b).thermal = s.thermal := rfl
@[simp] theorem State.hbmWrite_recovery (s : State) (k a : Nat) (b : Bytes) : (s.hbmWrite k a b).recovery = s.recovery := rfl
@[simp] theorem State.hbmWrite_bringup (s : State) (k a : Nat) (b : Bytes) : (s.hbmWrite k a b).bringup = s.bringup := rfl
@[simp] theorem State.hbmWrite_access (s : State) (k a : Nat) (b : Bytes) : (s.hbmWrite k a b).access = s.access := rfl
@[simp] theorem State.hbmWrite_pins (s : State) (k a : Nat) (b : Bytes) : (s.hbmWrite k a b).pins = s.pins := rfl
@[simp] theorem State.hbmWrite_mesh (s : State) (k a : Nat) (b : Bytes) : (s.hbmWrite k a b).mesh = s.mesh := rfl

/-! ## setObj -/
@[simp] theorem State.setObj_pending (s : State) (k : Nat) (v : ObjVal) : (s.setObj k v).pending = s.pending := rfl
@[simp] theorem State.setObj_fresh (s : State) (k : Nat) (v : ObjVal) : (s.setObj k v).fresh = s.fresh := rfl
@[simp] theorem State.setObj_time (s : State) (k : Nat) (v : ObjVal) : (s.setObj k v).time = s.time := rfl
@[simp] theorem State.setObj_panel (s : State) (k : Nat) (v : ObjVal) : (s.setObj k v).panel = s.panel := rfl
@[simp] theorem State.setObj_panelSince (s : State) (k : Nat) (v : ObjVal) : (s.setObj k v).panelSince = s.panelSince := rfl
@[simp] theorem State.setObj_panelPrev (s : State) (k : Nat) (v : ObjVal) : (s.setObj k v).panelPrev = s.panelPrev := rfl
@[simp] theorem State.setObj_od (s : State) (k : Nat) (v : ObjVal) : (s.setObj k v).od = SMap.put odDefault s.od k v := rfl
@[simp] theorem State.setObj_cores (s : State) (k : Nat) (v : ObjVal) : (s.setObj k v).cores = s.cores := rfl
@[simp] theorem State.setObj_snaps (s : State) (k : Nat) (v : ObjVal) : (s.setObj k v).snaps = s.snaps := rfl
@[simp] theorem State.setObj_spad (s : State) (k : Nat) (v : ObjVal) : (s.setObj k v).spad = s.spad := rfl
@[simp] theorem State.setObj_imem (s : State) (k : Nat) (v : ObjVal) : (s.setObj k v).imem = s.imem := rfl
@[simp] theorem State.setObj_hbm (s : State) (k : Nat) (v : ObjVal) : (s.setObj k v).hbm = s.hbm := rfl
@[simp] theorem State.setObj_hbmBad (s : State) (k : Nat) (v : ObjVal) : (s.setObj k v).hbmBad = s.hbmBad := rfl
@[simp] theorem State.setObj_stage (s : State) (k : Nat) (v : ObjVal) : (s.setObj k v).stage = s.stage := rfl
@[simp] theorem State.setObj_fwStage (s : State) (k : Nat) (v : ObjVal) : (s.setObj k v).fwStage = s.fwStage := rfl
@[simp] theorem State.setObj_dies (s : State) (k : Nat) (v : ObjVal) : (s.setObj k v).dies = s.dies := rfl
@[simp] theorem State.setObj_hubs (s : State) (k : Nat) (v : ObjVal) : (s.setObj k v).hubs = s.hubs := rfl
@[simp] theorem State.setObj_portDies (s : State) (k : Nat) (v : ObjVal) : (s.setObj k v).portDies = s.portDies := rfl
@[simp] theorem State.setObj_hbmStacks (s : State) (k : Nat) (v : ObjVal) : (s.setObj k v).hbmStacks = s.hbmStacks := rfl
@[simp] theorem State.setObj_prog (s : State) (k : Nat) (v : ObjVal) : (s.setObj k v).prog = s.prog := rfl
@[simp] theorem State.setObj_loading (s : State) (k : Nat) (v : ObjVal) : (s.setObj k v).loading = s.loading := rfl
@[simp] theorem State.setObj_slots (s : State) (k : Nat) (v : ObjVal) : (s.setObj k v).slots = s.slots := rfl
@[simp] theorem State.setObj_checks (s : State) (k : Nat) (v : ObjVal) : (s.setObj k v).checks = s.checks := rfl
@[simp] theorem State.setObj_larder (s : State) (k : Nat) (v : ObjVal) : (s.setObj k v).larder = s.larder := rfl
@[simp] theorem State.setObj_net (s : State) (k : Nat) (v : ObjVal) : (s.setObj k v).net = s.net := rfl
@[simp] theorem State.setObj_fabric (s : State) (k : Nat) (v : ObjVal) : (s.setObj k v).fabric = s.fabric := rfl
@[simp] theorem State.setObj_power (s : State) (k : Nat) (v : ObjVal) : (s.setObj k v).power = s.power := rfl
@[simp] theorem State.setObj_thermal (s : State) (k : Nat) (v : ObjVal) : (s.setObj k v).thermal = s.thermal := rfl
@[simp] theorem State.setObj_recovery (s : State) (k : Nat) (v : ObjVal) : (s.setObj k v).recovery = s.recovery := rfl
@[simp] theorem State.setObj_bringup (s : State) (k : Nat) (v : ObjVal) : (s.setObj k v).bringup = s.bringup := rfl
@[simp] theorem State.setObj_access (s : State) (k : Nat) (v : ObjVal) : (s.setObj k v).access = s.access := rfl
@[simp] theorem State.setObj_pins (s : State) (k : Nat) (v : ObjVal) : (s.setObj k v).pins = s.pins := rfl
@[simp] theorem State.setObj_mesh (s : State) (k : Nat) (v : ObjVal) : (s.setObj k v).mesh = s.mesh := rfl

/-! ## setNum -/
@[simp] theorem State.setNum_pending (s : State) (k n : Nat) : (s.setNum k n).pending = s.pending := rfl
@[simp] theorem State.setNum_fresh (s : State) (k n : Nat) : (s.setNum k n).fresh = s.fresh := rfl
@[simp] theorem State.setNum_time (s : State) (k n : Nat) : (s.setNum k n).time = s.time := rfl
@[simp] theorem State.setNum_panel (s : State) (k n : Nat) : (s.setNum k n).panel = s.panel := rfl
@[simp] theorem State.setNum_panelSince (s : State) (k n : Nat) : (s.setNum k n).panelSince = s.panelSince := rfl
@[simp] theorem State.setNum_panelPrev (s : State) (k n : Nat) : (s.setNum k n).panelPrev = s.panelPrev := rfl
@[simp] theorem State.setNum_od (s : State) (k n : Nat) : (s.setNum k n).od = SMap.put odDefault s.od k (.num n) := rfl
@[simp] theorem State.setNum_cores (s : State) (k n : Nat) : (s.setNum k n).cores = s.cores := rfl
@[simp] theorem State.setNum_snaps (s : State) (k n : Nat) : (s.setNum k n).snaps = s.snaps := rfl
@[simp] theorem State.setNum_spad (s : State) (k n : Nat) : (s.setNum k n).spad = s.spad := rfl
@[simp] theorem State.setNum_imem (s : State) (k n : Nat) : (s.setNum k n).imem = s.imem := rfl
@[simp] theorem State.setNum_hbm (s : State) (k n : Nat) : (s.setNum k n).hbm = s.hbm := rfl
@[simp] theorem State.setNum_hbmBad (s : State) (k n : Nat) : (s.setNum k n).hbmBad = s.hbmBad := rfl
@[simp] theorem State.setNum_stage (s : State) (k n : Nat) : (s.setNum k n).stage = s.stage := rfl
@[simp] theorem State.setNum_fwStage (s : State) (k n : Nat) : (s.setNum k n).fwStage = s.fwStage := rfl
@[simp] theorem State.setNum_dies (s : State) (k n : Nat) : (s.setNum k n).dies = s.dies := rfl
@[simp] theorem State.setNum_hubs (s : State) (k n : Nat) : (s.setNum k n).hubs = s.hubs := rfl
@[simp] theorem State.setNum_portDies (s : State) (k n : Nat) : (s.setNum k n).portDies = s.portDies := rfl
@[simp] theorem State.setNum_hbmStacks (s : State) (k n : Nat) : (s.setNum k n).hbmStacks = s.hbmStacks := rfl
@[simp] theorem State.setNum_prog (s : State) (k n : Nat) : (s.setNum k n).prog = s.prog := rfl
@[simp] theorem State.setNum_loading (s : State) (k n : Nat) : (s.setNum k n).loading = s.loading := rfl
@[simp] theorem State.setNum_slots (s : State) (k n : Nat) : (s.setNum k n).slots = s.slots := rfl
@[simp] theorem State.setNum_checks (s : State) (k n : Nat) : (s.setNum k n).checks = s.checks := rfl
@[simp] theorem State.setNum_larder (s : State) (k n : Nat) : (s.setNum k n).larder = s.larder := rfl
@[simp] theorem State.setNum_net (s : State) (k n : Nat) : (s.setNum k n).net = s.net := rfl
@[simp] theorem State.setNum_fabric (s : State) (k n : Nat) : (s.setNum k n).fabric = s.fabric := rfl
@[simp] theorem State.setNum_power (s : State) (k n : Nat) : (s.setNum k n).power = s.power := rfl
@[simp] theorem State.setNum_thermal (s : State) (k n : Nat) : (s.setNum k n).thermal = s.thermal := rfl
@[simp] theorem State.setNum_recovery (s : State) (k n : Nat) : (s.setNum k n).recovery = s.recovery := rfl
@[simp] theorem State.setNum_bringup (s : State) (k n : Nat) : (s.setNum k n).bringup = s.bringup := rfl
@[simp] theorem State.setNum_access (s : State) (k n : Nat) : (s.setNum k n).access = s.access := rfl
@[simp] theorem State.setNum_pins (s : State) (k n : Nat) : (s.setNum k n).pins = s.pins := rfl
@[simp] theorem State.setNum_mesh (s : State) (k n : Nat) : (s.setNum k n).mesh = s.mesh := rfl

/-! ## setOct -/
@[simp] theorem State.setOct_pending (s : State) (k : Nat) (b : Bytes) : (s.setOct k b).pending = s.pending := rfl
@[simp] theorem State.setOct_fresh (s : State) (k : Nat) (b : Bytes) : (s.setOct k b).fresh = s.fresh := rfl
@[simp] theorem State.setOct_time (s : State) (k : Nat) (b : Bytes) : (s.setOct k b).time = s.time := rfl
@[simp] theorem State.setOct_panel (s : State) (k : Nat) (b : Bytes) : (s.setOct k b).panel = s.panel := rfl
@[simp] theorem State.setOct_panelSince (s : State) (k : Nat) (b : Bytes) : (s.setOct k b).panelSince = s.panelSince := rfl
@[simp] theorem State.setOct_panelPrev (s : State) (k : Nat) (b : Bytes) : (s.setOct k b).panelPrev = s.panelPrev := rfl
@[simp] theorem State.setOct_od (s : State) (k : Nat) (b : Bytes) : (s.setOct k b).od = SMap.put odDefault s.od k (.oct b) := rfl
@[simp] theorem State.setOct_cores (s : State) (k : Nat) (b : Bytes) : (s.setOct k b).cores = s.cores := rfl
@[simp] theorem State.setOct_snaps (s : State) (k : Nat) (b : Bytes) : (s.setOct k b).snaps = s.snaps := rfl
@[simp] theorem State.setOct_spad (s : State) (k : Nat) (b : Bytes) : (s.setOct k b).spad = s.spad := rfl
@[simp] theorem State.setOct_imem (s : State) (k : Nat) (b : Bytes) : (s.setOct k b).imem = s.imem := rfl
@[simp] theorem State.setOct_hbm (s : State) (k : Nat) (b : Bytes) : (s.setOct k b).hbm = s.hbm := rfl
@[simp] theorem State.setOct_hbmBad (s : State) (k : Nat) (b : Bytes) : (s.setOct k b).hbmBad = s.hbmBad := rfl
@[simp] theorem State.setOct_stage (s : State) (k : Nat) (b : Bytes) : (s.setOct k b).stage = s.stage := rfl
@[simp] theorem State.setOct_fwStage (s : State) (k : Nat) (b : Bytes) : (s.setOct k b).fwStage = s.fwStage := rfl
@[simp] theorem State.setOct_dies (s : State) (k : Nat) (b : Bytes) : (s.setOct k b).dies = s.dies := rfl
@[simp] theorem State.setOct_hubs (s : State) (k : Nat) (b : Bytes) : (s.setOct k b).hubs = s.hubs := rfl
@[simp] theorem State.setOct_portDies (s : State) (k : Nat) (b : Bytes) : (s.setOct k b).portDies = s.portDies := rfl
@[simp] theorem State.setOct_hbmStacks (s : State) (k : Nat) (b : Bytes) : (s.setOct k b).hbmStacks = s.hbmStacks := rfl
@[simp] theorem State.setOct_prog (s : State) (k : Nat) (b : Bytes) : (s.setOct k b).prog = s.prog := rfl
@[simp] theorem State.setOct_loading (s : State) (k : Nat) (b : Bytes) : (s.setOct k b).loading = s.loading := rfl
@[simp] theorem State.setOct_slots (s : State) (k : Nat) (b : Bytes) : (s.setOct k b).slots = s.slots := rfl
@[simp] theorem State.setOct_checks (s : State) (k : Nat) (b : Bytes) : (s.setOct k b).checks = s.checks := rfl
@[simp] theorem State.setOct_larder (s : State) (k : Nat) (b : Bytes) : (s.setOct k b).larder = s.larder := rfl
@[simp] theorem State.setOct_net (s : State) (k : Nat) (b : Bytes) : (s.setOct k b).net = s.net := rfl
@[simp] theorem State.setOct_fabric (s : State) (k : Nat) (b : Bytes) : (s.setOct k b).fabric = s.fabric := rfl
@[simp] theorem State.setOct_power (s : State) (k : Nat) (b : Bytes) : (s.setOct k b).power = s.power := rfl
@[simp] theorem State.setOct_thermal (s : State) (k : Nat) (b : Bytes) : (s.setOct k b).thermal = s.thermal := rfl
@[simp] theorem State.setOct_recovery (s : State) (k : Nat) (b : Bytes) : (s.setOct k b).recovery = s.recovery := rfl
@[simp] theorem State.setOct_bringup (s : State) (k : Nat) (b : Bytes) : (s.setOct k b).bringup = s.bringup := rfl
@[simp] theorem State.setOct_access (s : State) (k : Nat) (b : Bytes) : (s.setOct k b).access = s.access := rfl
@[simp] theorem State.setOct_pins (s : State) (k : Nat) (b : Bytes) : (s.setOct k b).pins = s.pins := rfl
@[simp] theorem State.setOct_mesh (s : State) (k : Nat) (b : Bytes) : (s.setOct k b).mesh = s.mesh := rfl

/-! ## count -/
@[simp] theorem State.count_pending (s : State) (k n : Nat) : (s.count k n).pending = s.pending := rfl
@[simp] theorem State.count_fresh (s : State) (k n : Nat) : (s.count k n).fresh = s.fresh := rfl
@[simp] theorem State.count_time (s : State) (k n : Nat) : (s.count k n).time = s.time := rfl
@[simp] theorem State.count_panel (s : State) (k n : Nat) : (s.count k n).panel = s.panel := rfl
@[simp] theorem State.count_panelSince (s : State) (k n : Nat) : (s.count k n).panelSince = s.panelSince := rfl
@[simp] theorem State.count_panelPrev (s : State) (k n : Nat) : (s.count k n).panelPrev = s.panelPrev := rfl
@[simp] theorem State.count_od (s : State) (k n : Nat) : (s.count k n).od = SMap.put odDefault s.od k (.num (s.num k + n)) := rfl
@[simp] theorem State.count_cores (s : State) (k n : Nat) : (s.count k n).cores = s.cores := rfl
@[simp] theorem State.count_snaps (s : State) (k n : Nat) : (s.count k n).snaps = s.snaps := rfl
@[simp] theorem State.count_spad (s : State) (k n : Nat) : (s.count k n).spad = s.spad := rfl
@[simp] theorem State.count_imem (s : State) (k n : Nat) : (s.count k n).imem = s.imem := rfl
@[simp] theorem State.count_hbm (s : State) (k n : Nat) : (s.count k n).hbm = s.hbm := rfl
@[simp] theorem State.count_hbmBad (s : State) (k n : Nat) : (s.count k n).hbmBad = s.hbmBad := rfl
@[simp] theorem State.count_stage (s : State) (k n : Nat) : (s.count k n).stage = s.stage := rfl
@[simp] theorem State.count_fwStage (s : State) (k n : Nat) : (s.count k n).fwStage = s.fwStage := rfl
@[simp] theorem State.count_dies (s : State) (k n : Nat) : (s.count k n).dies = s.dies := rfl
@[simp] theorem State.count_hubs (s : State) (k n : Nat) : (s.count k n).hubs = s.hubs := rfl
@[simp] theorem State.count_portDies (s : State) (k n : Nat) : (s.count k n).portDies = s.portDies := rfl
@[simp] theorem State.count_hbmStacks (s : State) (k n : Nat) : (s.count k n).hbmStacks = s.hbmStacks := rfl
@[simp] theorem State.count_prog (s : State) (k n : Nat) : (s.count k n).prog = s.prog := rfl
@[simp] theorem State.count_loading (s : State) (k n : Nat) : (s.count k n).loading = s.loading := rfl
@[simp] theorem State.count_slots (s : State) (k n : Nat) : (s.count k n).slots = s.slots := rfl
@[simp] theorem State.count_checks (s : State) (k n : Nat) : (s.count k n).checks = s.checks := rfl
@[simp] theorem State.count_larder (s : State) (k n : Nat) : (s.count k n).larder = s.larder := rfl
@[simp] theorem State.count_net (s : State) (k n : Nat) : (s.count k n).net = s.net := rfl
@[simp] theorem State.count_fabric (s : State) (k n : Nat) : (s.count k n).fabric = s.fabric := rfl
@[simp] theorem State.count_power (s : State) (k n : Nat) : (s.count k n).power = s.power := rfl
@[simp] theorem State.count_thermal (s : State) (k n : Nat) : (s.count k n).thermal = s.thermal := rfl
@[simp] theorem State.count_recovery (s : State) (k n : Nat) : (s.count k n).recovery = s.recovery := rfl
@[simp] theorem State.count_bringup (s : State) (k n : Nat) : (s.count k n).bringup = s.bringup := rfl
@[simp] theorem State.count_access (s : State) (k n : Nat) : (s.count k n).access = s.access := rfl
@[simp] theorem State.count_pins (s : State) (k n : Nat) : (s.count k n).pins = s.pins := rfl
@[simp] theorem State.count_mesh (s : State) (k n : Nat) : (s.count k n).mesh = s.mesh := rfl

/-! ## atTime -/
@[simp] theorem State.atTime_pending (s : State) (t : Nat) : (s.atTime t).pending = s.pending := rfl
@[simp] theorem State.atTime_fresh (s : State) (t : Nat) : (s.atTime t).fresh = s.fresh := rfl
@[simp] theorem State.atTime_time (s : State) (t : Nat) : (s.atTime t).time = max s.time t := rfl
@[simp] theorem State.atTime_panel (s : State) (t : Nat) : (s.atTime t).panel = s.panel := rfl
@[simp] theorem State.atTime_panelSince (s : State) (t : Nat) : (s.atTime t).panelSince = s.panelSince := rfl
@[simp] theorem State.atTime_panelPrev (s : State) (t : Nat) : (s.atTime t).panelPrev = s.panelPrev := rfl
@[simp] theorem State.atTime_od (s : State) (t : Nat) : (s.atTime t).od = s.od := rfl
@[simp] theorem State.atTime_cores (s : State) (t : Nat) : (s.atTime t).cores = s.cores := rfl
@[simp] theorem State.atTime_snaps (s : State) (t : Nat) : (s.atTime t).snaps = s.snaps := rfl
@[simp] theorem State.atTime_spad (s : State) (t : Nat) : (s.atTime t).spad = s.spad := rfl
@[simp] theorem State.atTime_imem (s : State) (t : Nat) : (s.atTime t).imem = s.imem := rfl
@[simp] theorem State.atTime_hbm (s : State) (t : Nat) : (s.atTime t).hbm = s.hbm := rfl
@[simp] theorem State.atTime_hbmBad (s : State) (t : Nat) : (s.atTime t).hbmBad = s.hbmBad := rfl
@[simp] theorem State.atTime_stage (s : State) (t : Nat) : (s.atTime t).stage = s.stage := rfl
@[simp] theorem State.atTime_fwStage (s : State) (t : Nat) : (s.atTime t).fwStage = s.fwStage := rfl
@[simp] theorem State.atTime_dies (s : State) (t : Nat) : (s.atTime t).dies = s.dies := rfl
@[simp] theorem State.atTime_hubs (s : State) (t : Nat) : (s.atTime t).hubs = s.hubs := rfl
@[simp] theorem State.atTime_portDies (s : State) (t : Nat) : (s.atTime t).portDies = s.portDies := rfl
@[simp] theorem State.atTime_hbmStacks (s : State) (t : Nat) : (s.atTime t).hbmStacks = s.hbmStacks := rfl
@[simp] theorem State.atTime_prog (s : State) (t : Nat) : (s.atTime t).prog = s.prog := rfl
@[simp] theorem State.atTime_loading (s : State) (t : Nat) : (s.atTime t).loading = s.loading := rfl
@[simp] theorem State.atTime_slots (s : State) (t : Nat) : (s.atTime t).slots = s.slots := rfl
@[simp] theorem State.atTime_checks (s : State) (t : Nat) : (s.atTime t).checks = s.checks := rfl
@[simp] theorem State.atTime_larder (s : State) (t : Nat) : (s.atTime t).larder = s.larder := rfl
@[simp] theorem State.atTime_net (s : State) (t : Nat) : (s.atTime t).net = s.net := rfl
@[simp] theorem State.atTime_fabric (s : State) (t : Nat) : (s.atTime t).fabric = s.fabric := rfl
@[simp] theorem State.atTime_power (s : State) (t : Nat) : (s.atTime t).power = s.power := rfl
@[simp] theorem State.atTime_thermal (s : State) (t : Nat) : (s.atTime t).thermal = s.thermal := rfl
@[simp] theorem State.atTime_recovery (s : State) (t : Nat) : (s.atTime t).recovery = s.recovery := rfl
@[simp] theorem State.atTime_bringup (s : State) (t : Nat) : (s.atTime t).bringup = s.bringup := rfl
@[simp] theorem State.atTime_access (s : State) (t : Nat) : (s.atTime t).access = s.access := rfl
@[simp] theorem State.atTime_pins (s : State) (t : Nat) : (s.atTime t).pins = s.pins := rfl
@[simp] theorem State.atTime_mesh (s : State) (t : Nat) : (s.atTime t).mesh = s.mesh := rfl

/-! ## enter -/
@[simp] theorem State.enter_pending (s : State) (p : PanelSt) : (s.enter p).pending = s.pending := rfl
@[simp] theorem State.enter_fresh (s : State) (p : PanelSt) : (s.enter p).fresh = s.fresh := rfl
@[simp] theorem State.enter_time (s : State) (p : PanelSt) : (s.enter p).time = s.time := rfl
@[simp] theorem State.enter_panel (s : State) (p : PanelSt) : (s.enter p).panel = p := rfl
@[simp] theorem State.enter_panelSince (s : State) (p : PanelSt) : (s.enter p).panelSince = s.time := rfl
@[simp] theorem State.enter_panelPrev (s : State) (p : PanelSt) : (s.enter p).panelPrev = s.panel := rfl
@[simp] theorem State.enter_cores (s : State) (p : PanelSt) : (s.enter p).cores = s.cores := rfl
@[simp] theorem State.enter_snaps (s : State) (p : PanelSt) : (s.enter p).snaps = s.snaps := rfl
@[simp] theorem State.enter_spad (s : State) (p : PanelSt) : (s.enter p).spad = s.spad := rfl
@[simp] theorem State.enter_imem (s : State) (p : PanelSt) : (s.enter p).imem = s.imem := rfl
@[simp] theorem State.enter_hbm (s : State) (p : PanelSt) : (s.enter p).hbm = s.hbm := rfl
@[simp] theorem State.enter_hbmBad (s : State) (p : PanelSt) : (s.enter p).hbmBad = s.hbmBad := rfl
@[simp] theorem State.enter_stage (s : State) (p : PanelSt) : (s.enter p).stage = s.stage := rfl
@[simp] theorem State.enter_fwStage (s : State) (p : PanelSt) : (s.enter p).fwStage = s.fwStage := rfl
@[simp] theorem State.enter_dies (s : State) (p : PanelSt) : (s.enter p).dies = s.dies := rfl
@[simp] theorem State.enter_hubs (s : State) (p : PanelSt) : (s.enter p).hubs = s.hubs := rfl
@[simp] theorem State.enter_portDies (s : State) (p : PanelSt) : (s.enter p).portDies = s.portDies := rfl
@[simp] theorem State.enter_hbmStacks (s : State) (p : PanelSt) : (s.enter p).hbmStacks = s.hbmStacks := rfl
@[simp] theorem State.enter_prog (s : State) (p : PanelSt) : (s.enter p).prog = s.prog := rfl
@[simp] theorem State.enter_loading (s : State) (p : PanelSt) : (s.enter p).loading = s.loading := rfl
@[simp] theorem State.enter_slots (s : State) (p : PanelSt) : (s.enter p).slots = s.slots := rfl
@[simp] theorem State.enter_checks (s : State) (p : PanelSt) : (s.enter p).checks = s.checks := rfl
@[simp] theorem State.enter_larder (s : State) (p : PanelSt) : (s.enter p).larder = s.larder := rfl
@[simp] theorem State.enter_net (s : State) (p : PanelSt) : (s.enter p).net = s.net := rfl
@[simp] theorem State.enter_fabric (s : State) (p : PanelSt) : (s.enter p).fabric = s.fabric := rfl
@[simp] theorem State.enter_power (s : State) (p : PanelSt) : (s.enter p).power = s.power := rfl
@[simp] theorem State.enter_thermal (s : State) (p : PanelSt) : (s.enter p).thermal = s.thermal := rfl
@[simp] theorem State.enter_recovery (s : State) (p : PanelSt) : (s.enter p).recovery = s.recovery := rfl
@[simp] theorem State.enter_bringup (s : State) (p : PanelSt) : (s.enter p).bringup = s.bringup := rfl
@[simp] theorem State.enter_access (s : State) (p : PanelSt) : (s.enter p).access = s.access := rfl
@[simp] theorem State.enter_pins (s : State) (p : PanelSt) : (s.enter p).pins = s.pins := rfl
@[simp] theorem State.enter_mesh (s : State) (p : PanelSt) : (s.enter p).mesh = s.mesh := rfl

/-! ## dieEnter -/
@[simp] theorem State.dieEnter_pending (s : State) (k : Nat) (st : DieSt) : (s.dieEnter k st).pending = s.pending := rfl
@[simp] theorem State.dieEnter_fresh (s : State) (k : Nat) (st : DieSt) : (s.dieEnter k st).fresh = s.fresh := rfl
@[simp] theorem State.dieEnter_time (s : State) (k : Nat) (st : DieSt) : (s.dieEnter k st).time = s.time := rfl
@[simp] theorem State.dieEnter_panel (s : State) (k : Nat) (st : DieSt) : (s.dieEnter k st).panel = s.panel := rfl
@[simp] theorem State.dieEnter_panelSince (s : State) (k : Nat) (st : DieSt) : (s.dieEnter k st).panelSince = s.panelSince := rfl
@[simp] theorem State.dieEnter_panelPrev (s : State) (k : Nat) (st : DieSt) : (s.dieEnter k st).panelPrev = s.panelPrev := rfl
@[simp] theorem State.dieEnter_od (s : State) (k : Nat) (st : DieSt) : (s.dieEnter k st).od = s.od := rfl
@[simp] theorem State.dieEnter_cores (s : State) (k : Nat) (st : DieSt) : (s.dieEnter k st).cores = s.cores := rfl
@[simp] theorem State.dieEnter_snaps (s : State) (k : Nat) (st : DieSt) : (s.dieEnter k st).snaps = s.snaps := rfl
@[simp] theorem State.dieEnter_spad (s : State) (k : Nat) (st : DieSt) : (s.dieEnter k st).spad = s.spad := rfl
@[simp] theorem State.dieEnter_imem (s : State) (k : Nat) (st : DieSt) : (s.dieEnter k st).imem = s.imem := rfl
@[simp] theorem State.dieEnter_hbm (s : State) (k : Nat) (st : DieSt) : (s.dieEnter k st).hbm = s.hbm := rfl
@[simp] theorem State.dieEnter_hbmBad (s : State) (k : Nat) (st : DieSt) : (s.dieEnter k st).hbmBad = s.hbmBad := rfl
@[simp] theorem State.dieEnter_stage (s : State) (k : Nat) (st : DieSt) : (s.dieEnter k st).stage = s.stage := rfl
@[simp] theorem State.dieEnter_fwStage (s : State) (k : Nat) (st : DieSt) : (s.dieEnter k st).fwStage = s.fwStage := rfl
@[simp] theorem State.dieEnter_hubs (s : State) (k : Nat) (st : DieSt) : (s.dieEnter k st).hubs = s.hubs := rfl
@[simp] theorem State.dieEnter_portDies (s : State) (k : Nat) (st : DieSt) : (s.dieEnter k st).portDies = s.portDies := rfl
@[simp] theorem State.dieEnter_hbmStacks (s : State) (k : Nat) (st : DieSt) : (s.dieEnter k st).hbmStacks = s.hbmStacks := rfl
@[simp] theorem State.dieEnter_prog (s : State) (k : Nat) (st : DieSt) : (s.dieEnter k st).prog = s.prog := rfl
@[simp] theorem State.dieEnter_loading (s : State) (k : Nat) (st : DieSt) : (s.dieEnter k st).loading = s.loading := rfl
@[simp] theorem State.dieEnter_slots (s : State) (k : Nat) (st : DieSt) : (s.dieEnter k st).slots = s.slots := rfl
@[simp] theorem State.dieEnter_checks (s : State) (k : Nat) (st : DieSt) : (s.dieEnter k st).checks = s.checks := rfl
@[simp] theorem State.dieEnter_larder (s : State) (k : Nat) (st : DieSt) : (s.dieEnter k st).larder = s.larder := rfl
@[simp] theorem State.dieEnter_net (s : State) (k : Nat) (st : DieSt) : (s.dieEnter k st).net = s.net := rfl
@[simp] theorem State.dieEnter_fabric (s : State) (k : Nat) (st : DieSt) : (s.dieEnter k st).fabric = s.fabric := rfl
@[simp] theorem State.dieEnter_power (s : State) (k : Nat) (st : DieSt) : (s.dieEnter k st).power = s.power := rfl
@[simp] theorem State.dieEnter_thermal (s : State) (k : Nat) (st : DieSt) : (s.dieEnter k st).thermal = s.thermal := rfl
@[simp] theorem State.dieEnter_recovery (s : State) (k : Nat) (st : DieSt) : (s.dieEnter k st).recovery = s.recovery := rfl
@[simp] theorem State.dieEnter_bringup (s : State) (k : Nat) (st : DieSt) : (s.dieEnter k st).bringup = s.bringup := rfl
@[simp] theorem State.dieEnter_access (s : State) (k : Nat) (st : DieSt) : (s.dieEnter k st).access = s.access := rfl
@[simp] theorem State.dieEnter_pins (s : State) (k : Nat) (st : DieSt) : (s.dieEnter k st).pins = s.pins := rfl
@[simp] theorem State.dieEnter_mesh (s : State) (k : Nat) (st : DieSt) : (s.dieEnter k st).mesh = s.mesh := rfl

/-! ## report -/
@[simp] theorem State.report_pending (s : State) (det : Nat) (vd site : Option Nat) : (s.report det vd site).pending = s.pending := rfl
@[simp] theorem State.report_fresh (s : State) (det : Nat) (vd site : Option Nat) : (s.report det vd site).fresh = s.fresh := rfl
@[simp] theorem State.report_time (s : State) (det : Nat) (vd site : Option Nat) : (s.report det vd site).time = s.time := rfl
@[simp] theorem State.report_panel (s : State) (det : Nat) (vd site : Option Nat) : (s.report det vd site).panel = s.panel := rfl
@[simp] theorem State.report_panelSince (s : State) (det : Nat) (vd site : Option Nat) : (s.report det vd site).panelSince = s.panelSince := rfl
@[simp] theorem State.report_panelPrev (s : State) (det : Nat) (vd site : Option Nat) : (s.report det vd site).panelPrev = s.panelPrev := rfl
@[simp] theorem State.report_od (s : State) (det : Nat) (vd site : Option Nat) : (s.report det vd site).od = s.od := rfl
@[simp] theorem State.report_cores (s : State) (det : Nat) (vd site : Option Nat) : (s.report det vd site).cores = s.cores := rfl
@[simp] theorem State.report_snaps (s : State) (det : Nat) (vd site : Option Nat) : (s.report det vd site).snaps = s.snaps := rfl
@[simp] theorem State.report_spad (s : State) (det : Nat) (vd site : Option Nat) : (s.report det vd site).spad = s.spad := rfl
@[simp] theorem State.report_imem (s : State) (det : Nat) (vd site : Option Nat) : (s.report det vd site).imem = s.imem := rfl
@[simp] theorem State.report_hbm (s : State) (det : Nat) (vd site : Option Nat) : (s.report det vd site).hbm = s.hbm := rfl
@[simp] theorem State.report_hbmBad (s : State) (det : Nat) (vd site : Option Nat) : (s.report det vd site).hbmBad = s.hbmBad := rfl
@[simp] theorem State.report_stage (s : State) (det : Nat) (vd site : Option Nat) : (s.report det vd site).stage = s.stage := rfl
@[simp] theorem State.report_fwStage (s : State) (det : Nat) (vd site : Option Nat) : (s.report det vd site).fwStage = s.fwStage := rfl
@[simp] theorem State.report_dies (s : State) (det : Nat) (vd site : Option Nat) : (s.report det vd site).dies = s.dies := rfl
@[simp] theorem State.report_hubs (s : State) (det : Nat) (vd site : Option Nat) : (s.report det vd site).hubs = s.hubs := rfl
@[simp] theorem State.report_portDies (s : State) (det : Nat) (vd site : Option Nat) : (s.report det vd site).portDies = s.portDies := rfl
@[simp] theorem State.report_hbmStacks (s : State) (det : Nat) (vd site : Option Nat) : (s.report det vd site).hbmStacks = s.hbmStacks := rfl
@[simp] theorem State.report_prog (s : State) (det : Nat) (vd site : Option Nat) : (s.report det vd site).prog = s.prog := rfl
@[simp] theorem State.report_loading (s : State) (det : Nat) (vd site : Option Nat) : (s.report det vd site).loading = s.loading := rfl
@[simp] theorem State.report_checks (s : State) (det : Nat) (vd site : Option Nat) : (s.report det vd site).checks = s.checks := rfl
@[simp] theorem State.report_larder (s : State) (det : Nat) (vd site : Option Nat) : (s.report det vd site).larder = s.larder := rfl
@[simp] theorem State.report_net (s : State) (det : Nat) (vd site : Option Nat) : (s.report det vd site).net = s.net := rfl
@[simp] theorem State.report_fabric (s : State) (det : Nat) (vd site : Option Nat) : (s.report det vd site).fabric = s.fabric := rfl
@[simp] theorem State.report_power (s : State) (det : Nat) (vd site : Option Nat) : (s.report det vd site).power = s.power := rfl
@[simp] theorem State.report_thermal (s : State) (det : Nat) (vd site : Option Nat) : (s.report det vd site).thermal = s.thermal := rfl
@[simp] theorem State.report_recovery (s : State) (det : Nat) (vd site : Option Nat) : (s.report det vd site).recovery = s.recovery := rfl
@[simp] theorem State.report_bringup (s : State) (det : Nat) (vd site : Option Nat) : (s.report det vd site).bringup = s.bringup := rfl
@[simp] theorem State.report_access (s : State) (det : Nat) (vd site : Option Nat) : (s.report det vd site).access = s.access := rfl
@[simp] theorem State.report_pins (s : State) (det : Nat) (vd site : Option Nat) : (s.report det vd site).pins = s.pins := rfl
@[simp] theorem State.report_mesh (s : State) (det : Nat) (vd site : Option Nat) : (s.report det vd site).mesh = s.mesh := rfl

/-! ## mapWrite -/
@[simp] theorem State.mapWrite_pending (s : State) : (s.mapWrite).pending = s.pending := rfl
@[simp] theorem State.mapWrite_fresh (s : State) : (s.mapWrite).fresh = s.fresh := rfl
@[simp] theorem State.mapWrite_time (s : State) : (s.mapWrite).time = s.time := rfl
@[simp] theorem State.mapWrite_panel (s : State) : (s.mapWrite).panel = s.panel := rfl
@[simp] theorem State.mapWrite_panelSince (s : State) : (s.mapWrite).panelSince = s.panelSince := rfl
@[simp] theorem State.mapWrite_panelPrev (s : State) : (s.mapWrite).panelPrev = s.panelPrev := rfl
@[simp] theorem State.mapWrite_od (s : State) : (s.mapWrite).od = s.od := rfl
@[simp] theorem State.mapWrite_cores (s : State) : (s.mapWrite).cores = s.cores := rfl
@[simp] theorem State.mapWrite_snaps (s : State) : (s.mapWrite).snaps = s.snaps := rfl
@[simp] theorem State.mapWrite_spad (s : State) : (s.mapWrite).spad = s.spad := rfl
@[simp] theorem State.mapWrite_imem (s : State) : (s.mapWrite).imem = s.imem := rfl
@[simp] theorem State.mapWrite_hbm (s : State) : (s.mapWrite).hbm = s.hbm := rfl
@[simp] theorem State.mapWrite_hbmBad (s : State) : (s.mapWrite).hbmBad = s.hbmBad := rfl
@[simp] theorem State.mapWrite_stage (s : State) : (s.mapWrite).stage = s.stage := rfl
@[simp] theorem State.mapWrite_fwStage (s : State) : (s.mapWrite).fwStage = s.fwStage := rfl
@[simp] theorem State.mapWrite_dies (s : State) : (s.mapWrite).dies = s.dies := rfl
@[simp] theorem State.mapWrite_hubs (s : State) : (s.mapWrite).hubs = s.hubs := rfl
@[simp] theorem State.mapWrite_portDies (s : State) : (s.mapWrite).portDies = s.portDies := rfl
@[simp] theorem State.mapWrite_hbmStacks (s : State) : (s.mapWrite).hbmStacks = s.hbmStacks := rfl
@[simp] theorem State.mapWrite_prog (s : State) : (s.mapWrite).prog = s.prog := rfl
@[simp] theorem State.mapWrite_loading (s : State) : (s.mapWrite).loading = s.loading := rfl
@[simp] theorem State.mapWrite_slots (s : State) : (s.mapWrite).slots = s.slots := rfl
@[simp] theorem State.mapWrite_checks (s : State) : (s.mapWrite).checks = s.checks := rfl
@[simp] theorem State.mapWrite_larder (s : State) : (s.mapWrite).larder = s.larder := rfl
@[simp] theorem State.mapWrite_net (s : State) : (s.mapWrite).net = s.net := rfl
@[simp] theorem State.mapWrite_fabric (s : State) : (s.mapWrite).fabric = s.fabric := rfl
@[simp] theorem State.mapWrite_power (s : State) : (s.mapWrite).power = s.power := rfl
@[simp] theorem State.mapWrite_thermal (s : State) : (s.mapWrite).thermal = s.thermal := rfl
@[simp] theorem State.mapWrite_recovery (s : State) : (s.mapWrite).recovery = s.recovery := rfl
@[simp] theorem State.mapWrite_access (s : State) : (s.mapWrite).access = s.access := rfl
@[simp] theorem State.mapWrite_pins (s : State) : (s.mapWrite).pins = s.pins := rfl
@[simp] theorem State.mapWrite_mesh (s : State) : (s.mapWrite).mesh = s.mesh := rfl

/-! ## ledCreate -/
@[simp] theorem State.ledCreate_pending (s : State) (i cat v : Nat) : (s.ledCreate i cat v).pending = s.pending := rfl
@[simp] theorem State.ledCreate_fresh (s : State) (i cat v : Nat) : (s.ledCreate i cat v).fresh = s.fresh := rfl
@[simp] theorem State.ledCreate_time (s : State) (i cat v : Nat) : (s.ledCreate i cat v).time = s.time := rfl
@[simp] theorem State.ledCreate_panel (s : State) (i cat v : Nat) : (s.ledCreate i cat v).panel = s.panel := rfl
@[simp] theorem State.ledCreate_panelSince (s : State) (i cat v : Nat) : (s.ledCreate i cat v).panelSince = s.panelSince := rfl
@[simp] theorem State.ledCreate_panelPrev (s : State) (i cat v : Nat) : (s.ledCreate i cat v).panelPrev = s.panelPrev := rfl
@[simp] theorem State.ledCreate_od (s : State) (i cat v : Nat) : (s.ledCreate i cat v).od = s.od := rfl
@[simp] theorem State.ledCreate_cores (s : State) (i cat v : Nat) : (s.ledCreate i cat v).cores = s.cores := rfl
@[simp] theorem State.ledCreate_snaps (s : State) (i cat v : Nat) : (s.ledCreate i cat v).snaps = s.snaps := rfl
@[simp] theorem State.ledCreate_spad (s : State) (i cat v : Nat) : (s.ledCreate i cat v).spad = s.spad := rfl
@[simp] theorem State.ledCreate_imem (s : State) (i cat v : Nat) : (s.ledCreate i cat v).imem = s.imem := rfl
@[simp] theorem State.ledCreate_hbm (s : State) (i cat v : Nat) : (s.ledCreate i cat v).hbm = s.hbm := rfl
@[simp] theorem State.ledCreate_hbmBad (s : State) (i cat v : Nat) : (s.ledCreate i cat v).hbmBad = s.hbmBad := rfl
@[simp] theorem State.ledCreate_stage (s : State) (i cat v : Nat) : (s.ledCreate i cat v).stage = s.stage := rfl
@[simp] theorem State.ledCreate_fwStage (s : State) (i cat v : Nat) : (s.ledCreate i cat v).fwStage = s.fwStage := rfl
@[simp] theorem State.ledCreate_dies (s : State) (i cat v : Nat) : (s.ledCreate i cat v).dies = s.dies := rfl
@[simp] theorem State.ledCreate_hubs (s : State) (i cat v : Nat) : (s.ledCreate i cat v).hubs = s.hubs := rfl
@[simp] theorem State.ledCreate_portDies (s : State) (i cat v : Nat) : (s.ledCreate i cat v).portDies = s.portDies := rfl
@[simp] theorem State.ledCreate_hbmStacks (s : State) (i cat v : Nat) : (s.ledCreate i cat v).hbmStacks = s.hbmStacks := rfl
@[simp] theorem State.ledCreate_prog (s : State) (i cat v : Nat) : (s.ledCreate i cat v).prog = s.prog := rfl
@[simp] theorem State.ledCreate_loading (s : State) (i cat v : Nat) : (s.ledCreate i cat v).loading = s.loading := rfl
@[simp] theorem State.ledCreate_slots (s : State) (i cat v : Nat) : (s.ledCreate i cat v).slots = s.slots := rfl
@[simp] theorem State.ledCreate_checks (s : State) (i cat v : Nat) : (s.ledCreate i cat v).checks = s.checks := rfl
@[simp] theorem State.ledCreate_larder (s : State) (i cat v : Nat) : (s.ledCreate i cat v).larder = s.larder := rfl
@[simp] theorem State.ledCreate_fabric (s : State) (i cat v : Nat) : (s.ledCreate i cat v).fabric = s.fabric := rfl
@[simp] theorem State.ledCreate_power (s : State) (i cat v : Nat) : (s.ledCreate i cat v).power = s.power := rfl
@[simp] theorem State.ledCreate_thermal (s : State) (i cat v : Nat) : (s.ledCreate i cat v).thermal = s.thermal := rfl
@[simp] theorem State.ledCreate_recovery (s : State) (i cat v : Nat) : (s.ledCreate i cat v).recovery = s.recovery := rfl
@[simp] theorem State.ledCreate_bringup (s : State) (i cat v : Nat) : (s.ledCreate i cat v).bringup = s.bringup := rfl
@[simp] theorem State.ledCreate_access (s : State) (i cat v : Nat) : (s.ledCreate i cat v).access = s.access := rfl
@[simp] theorem State.ledCreate_pins (s : State) (i cat v : Nat) : (s.ledCreate i cat v).pins = s.pins := rfl
@[simp] theorem State.ledCreate_mesh (s : State) (i cat v : Nat) : (s.ledCreate i cat v).mesh = s.mesh := rfl

/-! ## ledDestroy -/
@[simp] theorem State.ledDestroy_pending (s : State) (i j cat v : Nat) : (s.ledDestroy i j cat v).pending = s.pending := rfl
@[simp] theorem State.ledDestroy_fresh (s : State) (i j cat v : Nat) : (s.ledDestroy i j cat v).fresh = s.fresh := rfl
@[simp] theorem State.ledDestroy_time (s : State) (i j cat v : Nat) : (s.ledDestroy i j cat v).time = s.time := rfl
@[simp] theorem State.ledDestroy_panel (s : State) (i j cat v : Nat) : (s.ledDestroy i j cat v).panel = s.panel := rfl
@[simp] theorem State.ledDestroy_panelSince (s : State) (i j cat v : Nat) : (s.ledDestroy i j cat v).panelSince = s.panelSince := rfl
@[simp] theorem State.ledDestroy_panelPrev (s : State) (i j cat v : Nat) : (s.ledDestroy i j cat v).panelPrev = s.panelPrev := rfl
@[simp] theorem State.ledDestroy_od (s : State) (i j cat v : Nat) : (s.ledDestroy i j cat v).od = s.od := rfl
@[simp] theorem State.ledDestroy_cores (s : State) (i j cat v : Nat) : (s.ledDestroy i j cat v).cores = s.cores := rfl
@[simp] theorem State.ledDestroy_snaps (s : State) (i j cat v : Nat) : (s.ledDestroy i j cat v).snaps = s.snaps := rfl
@[simp] theorem State.ledDestroy_spad (s : State) (i j cat v : Nat) : (s.ledDestroy i j cat v).spad = s.spad := rfl
@[simp] theorem State.ledDestroy_imem (s : State) (i j cat v : Nat) : (s.ledDestroy i j cat v).imem = s.imem := rfl
@[simp] theorem State.ledDestroy_hbm (s : State) (i j cat v : Nat) : (s.ledDestroy i j cat v).hbm = s.hbm := rfl
@[simp] theorem State.ledDestroy_hbmBad (s : State) (i j cat v : Nat) : (s.ledDestroy i j cat v).hbmBad = s.hbmBad := rfl
@[simp] theorem State.ledDestroy_stage (s : State) (i j cat v : Nat) : (s.ledDestroy i j cat v).stage = s.stage := rfl
@[simp] theorem State.ledDestroy_fwStage (s : State) (i j cat v : Nat) : (s.ledDestroy i j cat v).fwStage = s.fwStage := rfl
@[simp] theorem State.ledDestroy_dies (s : State) (i j cat v : Nat) : (s.ledDestroy i j cat v).dies = s.dies := rfl
@[simp] theorem State.ledDestroy_hubs (s : State) (i j cat v : Nat) : (s.ledDestroy i j cat v).hubs = s.hubs := rfl
@[simp] theorem State.ledDestroy_portDies (s : State) (i j cat v : Nat) : (s.ledDestroy i j cat v).portDies = s.portDies := rfl
@[simp] theorem State.ledDestroy_hbmStacks (s : State) (i j cat v : Nat) : (s.ledDestroy i j cat v).hbmStacks = s.hbmStacks := rfl
@[simp] theorem State.ledDestroy_prog (s : State) (i j cat v : Nat) : (s.ledDestroy i j cat v).prog = s.prog := rfl
@[simp] theorem State.ledDestroy_loading (s : State) (i j cat v : Nat) : (s.ledDestroy i j cat v).loading = s.loading := rfl
@[simp] theorem State.ledDestroy_slots (s : State) (i j cat v : Nat) : (s.ledDestroy i j cat v).slots = s.slots := rfl
@[simp] theorem State.ledDestroy_checks (s : State) (i j cat v : Nat) : (s.ledDestroy i j cat v).checks = s.checks := rfl
@[simp] theorem State.ledDestroy_larder (s : State) (i j cat v : Nat) : (s.ledDestroy i j cat v).larder = s.larder := rfl
@[simp] theorem State.ledDestroy_fabric (s : State) (i j cat v : Nat) : (s.ledDestroy i j cat v).fabric = s.fabric := rfl
@[simp] theorem State.ledDestroy_power (s : State) (i j cat v : Nat) : (s.ledDestroy i j cat v).power = s.power := rfl
@[simp] theorem State.ledDestroy_thermal (s : State) (i j cat v : Nat) : (s.ledDestroy i j cat v).thermal = s.thermal := rfl
@[simp] theorem State.ledDestroy_recovery (s : State) (i j cat v : Nat) : (s.ledDestroy i j cat v).recovery = s.recovery := rfl
@[simp] theorem State.ledDestroy_bringup (s : State) (i j cat v : Nat) : (s.ledDestroy i j cat v).bringup = s.bringup := rfl
@[simp] theorem State.ledDestroy_access (s : State) (i j cat v : Nat) : (s.ledDestroy i j cat v).access = s.access := rfl
@[simp] theorem State.ledDestroy_pins (s : State) (i j cat v : Nat) : (s.ledDestroy i j cat v).pins = s.pins := rfl
@[simp] theorem State.ledDestroy_mesh (s : State) (i j cat v : Nat) : (s.ledDestroy i j cat v).mesh = s.mesh := rfl

/-! ## ledSpurious -/
@[simp] theorem State.ledSpurious_pending (s : State) (i cat v : Nat) : (s.ledSpurious i cat v).pending = s.pending := rfl
@[simp] theorem State.ledSpurious_fresh (s : State) (i cat v : Nat) : (s.ledSpurious i cat v).fresh = s.fresh := rfl
@[simp] theorem State.ledSpurious_time (s : State) (i cat v : Nat) : (s.ledSpurious i cat v).time = s.time := rfl
@[simp] theorem State.ledSpurious_panel (s : State) (i cat v : Nat) : (s.ledSpurious i cat v).panel = s.panel := rfl
@[simp] theorem State.ledSpurious_panelSince (s : State) (i cat v : Nat) : (s.ledSpurious i cat v).panelSince = s.panelSince := rfl
@[simp] theorem State.ledSpurious_panelPrev (s : State) (i cat v : Nat) : (s.ledSpurious i cat v).panelPrev = s.panelPrev := rfl
@[simp] theorem State.ledSpurious_od (s : State) (i cat v : Nat) : (s.ledSpurious i cat v).od = s.od := rfl
@[simp] theorem State.ledSpurious_cores (s : State) (i cat v : Nat) : (s.ledSpurious i cat v).cores = s.cores := rfl
@[simp] theorem State.ledSpurious_snaps (s : State) (i cat v : Nat) : (s.ledSpurious i cat v).snaps = s.snaps := rfl
@[simp] theorem State.ledSpurious_spad (s : State) (i cat v : Nat) : (s.ledSpurious i cat v).spad = s.spad := rfl
@[simp] theorem State.ledSpurious_imem (s : State) (i cat v : Nat) : (s.ledSpurious i cat v).imem = s.imem := rfl
@[simp] theorem State.ledSpurious_hbm (s : State) (i cat v : Nat) : (s.ledSpurious i cat v).hbm = s.hbm := rfl
@[simp] theorem State.ledSpurious_hbmBad (s : State) (i cat v : Nat) : (s.ledSpurious i cat v).hbmBad = s.hbmBad := rfl
@[simp] theorem State.ledSpurious_stage (s : State) (i cat v : Nat) : (s.ledSpurious i cat v).stage = s.stage := rfl
@[simp] theorem State.ledSpurious_fwStage (s : State) (i cat v : Nat) : (s.ledSpurious i cat v).fwStage = s.fwStage := rfl
@[simp] theorem State.ledSpurious_dies (s : State) (i cat v : Nat) : (s.ledSpurious i cat v).dies = s.dies := rfl
@[simp] theorem State.ledSpurious_hubs (s : State) (i cat v : Nat) : (s.ledSpurious i cat v).hubs = s.hubs := rfl
@[simp] theorem State.ledSpurious_portDies (s : State) (i cat v : Nat) : (s.ledSpurious i cat v).portDies = s.portDies := rfl
@[simp] theorem State.ledSpurious_hbmStacks (s : State) (i cat v : Nat) : (s.ledSpurious i cat v).hbmStacks = s.hbmStacks := rfl
@[simp] theorem State.ledSpurious_prog (s : State) (i cat v : Nat) : (s.ledSpurious i cat v).prog = s.prog := rfl
@[simp] theorem State.ledSpurious_loading (s : State) (i cat v : Nat) : (s.ledSpurious i cat v).loading = s.loading := rfl
@[simp] theorem State.ledSpurious_slots (s : State) (i cat v : Nat) : (s.ledSpurious i cat v).slots = s.slots := rfl
@[simp] theorem State.ledSpurious_checks (s : State) (i cat v : Nat) : (s.ledSpurious i cat v).checks = s.checks := rfl
@[simp] theorem State.ledSpurious_larder (s : State) (i cat v : Nat) : (s.ledSpurious i cat v).larder = s.larder := rfl
@[simp] theorem State.ledSpurious_fabric (s : State) (i cat v : Nat) : (s.ledSpurious i cat v).fabric = s.fabric := rfl
@[simp] theorem State.ledSpurious_power (s : State) (i cat v : Nat) : (s.ledSpurious i cat v).power = s.power := rfl
@[simp] theorem State.ledSpurious_thermal (s : State) (i cat v : Nat) : (s.ledSpurious i cat v).thermal = s.thermal := rfl
@[simp] theorem State.ledSpurious_recovery (s : State) (i cat v : Nat) : (s.ledSpurious i cat v).recovery = s.recovery := rfl
@[simp] theorem State.ledSpurious_bringup (s : State) (i cat v : Nat) : (s.ledSpurious i cat v).bringup = s.bringup := rfl
@[simp] theorem State.ledSpurious_access (s : State) (i cat v : Nat) : (s.ledSpurious i cat v).access = s.access := rfl
@[simp] theorem State.ledSpurious_pins (s : State) (i cat v : Nat) : (s.ledSpurious i cat v).pins = s.pins := rfl
@[simp] theorem State.ledSpurious_mesh (s : State) (i cat v : Nat) : (s.ledSpurious i cat v).mesh = s.mesh := rfl

/-! ## setPins -/
@[simp] theorem State.setPins_pending (s : State) (f : Pins → Pins) : (s.setPins f).pending = s.pending := rfl
@[simp] theorem State.setPins_fresh (s : State) (f : Pins → Pins) : (s.setPins f).fresh = s.fresh := rfl
@[simp] theorem State.setPins_time (s : State) (f : Pins → Pins) : (s.setPins f).time = s.time := rfl
@[simp] theorem State.setPins_panel (s : State) (f : Pins → Pins) : (s.setPins f).panel = s.panel := rfl
@[simp] theorem State.setPins_panelSince (s : State) (f : Pins → Pins) : (s.setPins f).panelSince = s.panelSince := rfl
@[simp] theorem State.setPins_panelPrev (s : State) (f : Pins → Pins) : (s.setPins f).panelPrev = s.panelPrev := rfl
@[simp] theorem State.setPins_od (s : State) (f : Pins → Pins) : (s.setPins f).od = s.od := rfl
@[simp] theorem State.setPins_cores (s : State) (f : Pins → Pins) : (s.setPins f).cores = s.cores := rfl
@[simp] theorem State.setPins_snaps (s : State) (f : Pins → Pins) : (s.setPins f).snaps = s.snaps := rfl
@[simp] theorem State.setPins_spad (s : State) (f : Pins → Pins) : (s.setPins f).spad = s.spad := rfl
@[simp] theorem State.setPins_imem (s : State) (f : Pins → Pins) : (s.setPins f).imem = s.imem := rfl
@[simp] theorem State.setPins_hbm (s : State) (f : Pins → Pins) : (s.setPins f).hbm = s.hbm := rfl
@[simp] theorem State.setPins_hbmBad (s : State) (f : Pins → Pins) : (s.setPins f).hbmBad = s.hbmBad := rfl
@[simp] theorem State.setPins_stage (s : State) (f : Pins → Pins) : (s.setPins f).stage = s.stage := rfl
@[simp] theorem State.setPins_fwStage (s : State) (f : Pins → Pins) : (s.setPins f).fwStage = s.fwStage := rfl
@[simp] theorem State.setPins_dies (s : State) (f : Pins → Pins) : (s.setPins f).dies = s.dies := rfl
@[simp] theorem State.setPins_hubs (s : State) (f : Pins → Pins) : (s.setPins f).hubs = s.hubs := rfl
@[simp] theorem State.setPins_portDies (s : State) (f : Pins → Pins) : (s.setPins f).portDies = s.portDies := rfl
@[simp] theorem State.setPins_hbmStacks (s : State) (f : Pins → Pins) : (s.setPins f).hbmStacks = s.hbmStacks := rfl
@[simp] theorem State.setPins_prog (s : State) (f : Pins → Pins) : (s.setPins f).prog = s.prog := rfl
@[simp] theorem State.setPins_loading (s : State) (f : Pins → Pins) : (s.setPins f).loading = s.loading := rfl
@[simp] theorem State.setPins_slots (s : State) (f : Pins → Pins) : (s.setPins f).slots = s.slots := rfl
@[simp] theorem State.setPins_checks (s : State) (f : Pins → Pins) : (s.setPins f).checks = s.checks := rfl
@[simp] theorem State.setPins_larder (s : State) (f : Pins → Pins) : (s.setPins f).larder = s.larder := rfl
@[simp] theorem State.setPins_net (s : State) (f : Pins → Pins) : (s.setPins f).net = s.net := rfl
@[simp] theorem State.setPins_fabric (s : State) (f : Pins → Pins) : (s.setPins f).fabric = s.fabric := rfl
@[simp] theorem State.setPins_power (s : State) (f : Pins → Pins) : (s.setPins f).power = s.power := rfl
@[simp] theorem State.setPins_thermal (s : State) (f : Pins → Pins) : (s.setPins f).thermal = s.thermal := rfl
@[simp] theorem State.setPins_recovery (s : State) (f : Pins → Pins) : (s.setPins f).recovery = s.recovery := rfl
@[simp] theorem State.setPins_bringup (s : State) (f : Pins → Pins) : (s.setPins f).bringup = s.bringup := rfl
@[simp] theorem State.setPins_access (s : State) (f : Pins → Pins) : (s.setPins f).access = s.access := rfl
@[simp] theorem State.setPins_pins (s : State) (f : Pins → Pins) : (s.setPins f).pins = f s.pins := rfl
@[simp] theorem State.setPins_mesh (s : State) (f : Pins → Pins) : (s.setPins f).mesh = s.mesh := rfl

/-! ## Accessors after updates -/

theorem State.core_setCore (s : State) (k j : Nat) (c : Core) :
    (s.setCore k c).core j = if j = k then c else s.core j := SMap.get_put coreD s.cores k j c
@[simp] theorem State.core_setCore_same (s : State) (k : Nat) (c : Core) : (s.setCore k c).core k = c :=
  SMap.get_put_same coreD s.cores k c
@[simp] theorem State.core_setCore_other (s : State) {k j : Nat} (c : Core) (h : j ≠ k) :
    (s.setCore k c).core j = s.core j := SMap.get_put_other coreD s.cores c h
@[simp] theorem State.core_updCore_same (s : State) (k : Nat) (f : Core → Core) :
    (s.updCore k f).core k = f (s.core k) := SMap.get_put_same coreD s.cores k _
@[simp] theorem State.core_updCore_other (s : State) {k j : Nat} (f : Core → Core) (h : j ≠ k) :
    (s.updCore k f).core j = s.core j := SMap.get_put_other coreD s.cores _ h
@[simp] theorem State.die_updDie_same (s : State) (k : Nat) (f : Die → Die) :
    (s.updDie k f).die k = f (s.die k) := SMap.get_put_same dieD s.dies k _
@[simp] theorem State.die_updDie_other (s : State) {k j : Nat} (f : Die → Die) (h : j ≠ k) :
    (s.updDie k f).die j = s.die j := SMap.get_put_other dieD s.dies _ h
@[simp] theorem State.hub_updHub_same (s : State) (k : Nat) (f : Hub → Hub) :
    (s.updHub k f).hub k = f (s.hub k) := SMap.get_put_same hubD s.hubs k _
@[simp] theorem State.hub_updHub_other (s : State) {k j : Nat} (f : Hub → Hub) (h : j ≠ k) :
    (s.updHub k f).hub j = s.hub j := SMap.get_put_other hubD s.hubs _ h
@[simp] theorem State.portDie_updPortDie_same (s : State) (k : Nat) (f : PortDie → PortDie) :
    (s.updPortDie k f).portDie k = f (s.portDie k) := SMap.get_put_same portDieD s.portDies k _
@[simp] theorem State.stack_updStack_same (s : State) (k : Nat) (f : Stack → Stack) :
    (s.updStack k f).stack k = f (s.stack k) := SMap.get_put_same stackD s.hbmStacks k _
@[simp] theorem State.port_updPort_same (s : State) (k : Nat) (f : Port → Port) :
    (s.updPort k f).port k = f (s.port k) := SMap.get_put_same portD s.fabric.ports k _
@[simp] theorem State.port_updPort_other (s : State) {k j : Nat} (f : Port → Port) (h : j ≠ k) :
    (s.updPort k f).port j = s.port j := SMap.get_put_other portD s.fabric.ports _ h
@[simp] theorem State.dir_updDir_same (s : State) (k : Nat) (f : Dir → Dir) :
    (s.updDir k f).dir k = f (s.dir k) := SMap.get_put_same dirD s.fabric.dirs k _
@[simp] theorem State.obj_setObj_same (s : State) (k : Nat) (v : ObjVal) : (s.setObj k v).obj k = v :=
  SMap.get_put_same odDefault s.od k v
@[simp] theorem State.obj_setObj_other (s : State) {k j : Nat} (v : ObjVal) (h : j ≠ k) :
    (s.setObj k v).obj j = s.obj j := SMap.get_put_other odDefault s.od v h
@[simp] theorem State.num_setNum_same (s : State) (k n : Nat) : (s.setNum k n).num k = n := by
  simp [State.num, State.setNum]
@[simp] theorem State.num_setNum_other (s : State) {k j : Nat} (n : Nat) (h : j ≠ k) :
    (s.setNum k n).num j = s.num j := by simp [State.num, State.setNum, h]
@[simp] theorem State.num_count_same (s : State) (k n : Nat) : (s.count k n).num k = s.num k + n := by
  simp [State.count]
@[simp] theorem State.num_count_other (s : State) {k j : Nat} (n : Nat) (h : j ≠ k) :
    (s.count k n).num j = s.num j := by simp [State.count, h]

/-! ## Registers of a core -/

@[simp] theorem Core.sreg_zero (c : Core) : c.sreg 0 = 0 := rfl
@[simp] theorem Core.predOf_zero (c : Core) : c.predOf 0 = BitVec.allOnes 64 := rfl
theorem Core.sreg_setSreg (c : Core) (r q : Nat) (v : BitVec 64) :
    (c.setSreg r v).sreg q = if q = 0 then 0 else if q = r then v else c.sreg q := by
  unfold Core.setSreg Core.sreg
  by_cases hq : q = 0
  · simp [hq]
  · by_cases hr : r = 0
    · subst hr; simp [hq]
    · simp [hq, hr, SMap.get_put]
theorem Core.predOf_setPred (c : Core) (r q : Nat) (v : BitVec 64) :
    (c.setPred r v).predOf q = if q = 0 then BitVec.allOnes 64 else if q = r then v else c.predOf q := by
  unfold Core.setPred Core.predOf
  by_cases hq : q = 0
  · simp [hq]
  · by_cases hr : r = 0
    · subst hr; simp [hq]
    · simp [hq, hr, SMap.get_put]
@[simp] theorem Core.ac_setAc_same (c : Core) (i : Nat) (v : BitVec 32) : (c.setAc i v).ac i = v :=
  SMap.get_put_same _ c.acs i v
@[simp] theorem Core.ac_setAc_other (c : Core) {i j : Nat} (v : BitVec 32) (h : j ≠ i) :
    (c.setAc i v).ac j = c.ac j := SMap.get_put_other _ c.acs v h
@[simp] theorem Core.tile_setTile_same (c : Core) (i : Nat) (v : Tile) : (c.setTile i v).tile i = v :=
  SMap.get_put_same _ c.tiles i v
@[simp] theorem Core.queue_setQueue_same (c : Core) (i : Nat) (l : List QEnt) : (c.setQueue i l).queue i = l :=
  SMap.get_put_same _ c.queues i l
@[simp] theorem Core.ladle_setLadle_same (c : Core) (i : Nat) (l : Ladle) : (c.setLadle i l).ladle i = l :=
  SMap.get_put_same _ c.ladles i l
@[simp] theorem Core.ring_setRing_same (c : Core) (i : Nat) (l : Ring) : (c.setRing i l).ring i = l :=
  SMap.get_put_same _ c.rings i l

/-! ## Memories -/

theorem Memory.wf_writeBytes (m : SMap Byte) (a : Nat) (b : Bytes) (h : Memory.wf m = true) :
    Memory.wf (writeBytes m a b) = true := by
  induction b generalizing m a with
  | nil => exact h
  | cons x t ih => exact ih _ _ (SMap.wf_put zByte m a x h)

theorem get_writeBytes (m : SMap Byte) (a j : Nat) (b : Bytes) :
    SMap.get zByte (writeBytes m a b) j =
      if a ≤ j ∧ j < a + b.length then (b[j - a]?).getD 0 else SMap.get zByte m j := by
  induction b generalizing m a with
  | nil => simp [writeBytes]
  | cons x t ih =>
    rw [writeBytes, ih, SMap.get_put]
    by_cases h1 : a + 1 ≤ j ∧ j < a + 1 + t.length
    · have h2 : a ≤ j ∧ j < a + (x :: t).length := by simp; omega
      obtain ⟨d, rfl⟩ : ∃ d, j = a + 1 + d := ⟨j - a - 1, by omega⟩
      rw [if_pos h1, if_pos h2]
      simp [show a + 1 + d - (a + 1) = d by omega, show a + 1 + d - a = d + 1 by omega]
    · rw [if_neg h1]
      by_cases h3 : j = a
      · subst h3; simp
      · have h2 : ¬ (a ≤ j ∧ j < a + (x :: t).length) := by simp; omega
        rw [if_neg h3, if_neg h2]

/-- A read of the bytes just written gives them back. -/
theorem readBytes_writeBytes (m : SMap Byte) (a : Nat) (b : Bytes) :
    readBytes (writeBytes m a b) a b.length = b := by
  apply List.ext_getElem
  · simp [readBytes]
  · intro i h1 h2
    simp only [readBytes, List.getElem_map, List.getElem_range, get_writeBytes]
    have : a ≤ a + i ∧ a + i < a + b.length := by omega
    rw [if_pos this]
    simp [h2]

theorem State.memWf_spadWrite (s : State) (k a : Nat) (b : Bytes) (h : s.memWf = true) :
    (s.spadWrite k a b).memWf = true := by
  simp only [State.memWf, Bool.and_eq_true, State.spadWrite] at h ⊢
  exact ⟨⟨⟨⟨Memory.wf_writeBytes _ _ _ h.1.1.1.1, h.1.1.1.2⟩, h.1.1.2⟩, h.1.2⟩, h.2⟩

theorem State.memWf_hbmWrite (s : State) (k a : Nat) (b : Bytes) (h : s.memWf = true) :
    (s.hbmWrite k a b).memWf = true := by
  simp only [State.memWf, Bool.and_eq_true, State.hbmWrite] at h ⊢
  exact ⟨⟨⟨⟨h.1.1.1.1, Memory.wf_writeBytes _ _ _ h.1.1.1.2⟩, h.1.1.2⟩, h.1.2⟩, h.2⟩

/-- The memories of the state after reset. -/
theorem State.memWf_reset : State.reset.memWf = true := rfl

end Sys2Proof.Machine
end

