-- ==== Sys2Proof/Tests/Slice0.lean ====
section
/-! SUPPORT. Tests: an ill-formed term for each check of WellFormed, witnesses that the hypotheses of the statements are met, and
results worked out by hand from the manual. -/

open Sys2Proof Sys2Proof.Machine Sys2Proof.Claims

namespace Sys2Proof.Tests

-- Elaborated one after another: each test waits for the kernel.
set_option Elab.async false

/-- The windows of virtual core 0: FSR, FSW, WORK, RING, WINDOW, LADLE and CONST, and two HBM windows. -/
def wins : List Win :=
  [⟨0x0000, 0x4000, 2, 0, 0⟩, ⟨0x4000, 0x4000, 3, 0, 0⟩, ⟨0x8000, 0x10000, 4, 0, 0⟩, ⟨0x18000, 0x1000, 5, 0, 0⟩,
   ⟨0x19000, 0x1000, 6, 0, 0⟩, ⟨0x20000, 0x10000, 7, 0, 0⟩, ⟨0x1A000, 0x1000, 1, 0, 0⟩,
   ⟨0, 0x10000, 0, 1, 0⟩, ⟨0, 0x10000, 0, 3, 1⟩]

/-- A program of one virtual die. Virtual core 0 sends on channels 0 (to a window of core 1), 1 (a shared window of core 1) and
2 (to a ring of core 1), and receives on 0 (operand port), 1 (ring) and 2 (window). -/
def prog : Prog :=
  { v := 1, w := 1
    windows := [(0, wins), (1, wins)]
    regions := [⟨0, 0x10000, 0, 0, 0⟩, ⟨0x10000, 0x10000, 0, 2, 0⟩]
    bindings := [(0, [{ ch := 16, kind := 4, peer := 1, peerCh := 2 }, { ch := 17, kind := 7, peer := 1, size := 0x1000 },
      { ch := 18, kind := 4, peer := 1, peerCh := 1 },
      { ch := 0, kind := 1, peer := 1, peerCh := 0 }, { ch := 1, kind := 2, base := 0x18000, size := 0x1000, counter := 3 },
      { ch := 2, kind := 3, base := 0x19000, size := 0x1000, counter := 4 }]),
      (1, [{ ch := 1, kind := 2, base := 0x18000, size := 0x1000, counter := 3 },
      { ch := 2, kind := 3, base := 0x19000, size := 0x1000, counter := 4 }])] }

/-- RUNNING in the first slot of frame 0, on site 0. -/
def run0 : State :=
  { time := 1000000, panel := .running, prog := some prog
    dies := [(0, { st := .active, vd := some 0, powered := true, op := 4, safe := 11, mon := 11, allow := 16000 })]
    slots := { slot := 4, kind := .program, att := some { frame := 0, no := 1, slot := 4, start := 1000000 } }
    net := { a := { dieMap := [(0, 0)] } } }

def io0 : Issue := { core := 0 }

/-- The operation issues. -/
def goes (s : State) (c : Instr) : Bool :=
  match slotOf c with | some (io, info, _) => s.issues io info | none => false

/-! ## Slot operations issue -/

def vF : VecF := ⟨2, false, 0, 1, 2, 3, 0, 0, 0, 0⟩
/-- Without the B operand. -/
def vU : VecF := ⟨2, false, 0, 1, 2, 0, 0, 0, 0, 0⟩
def mF : MovF := ⟨1, 0, 0, 0, 0, 0, 0x8000⟩
def mmaF : MmaF := ⟨1, 0, 0, false, 0, 0, 0x200, 0, 0x240⟩
/-- B from the operand port. -/
def mmaP : MmaF := ⟨1, 0, 0, true, 0, 0, 0x200, 0, 0⟩
def mmaS : MmaF := ⟨1, 4, 4, false, 0, 0, 0x200, 0, 0x240⟩
def img : ImgF := ⟨0, 0x200⟩

/-- With core 0 holding what the waits need: a queue entry done, a ring message, a ladle entry COMPLETE, a full B buffer. -/
def run1 : State :=
  run0.setCore 0 { queues := [(0, [{ num := 0, write := false, lines := 1, spad := 0, haddr := 0, issueTime := 0, done := true }])]
                   rings := [(1, { u := 128, recs := [⟨0, 128, false, true⟩] })]
                   ladles := [(2, { st := .complete })]
                   landing := [(0, [1, 2])]
                   bbufs := [⟨0, List.replicate 17 3, 0⟩] }
/-- With HBM addresses and offsets in scalar registers. -/
def run2 : State := run0.setCore 0 { sregs := [(4, 0x10000), (5, 0x20000), (6, 0x40)] }

theorem wit_sync : ([.nop io0 .ctl, .waitAc io0 3 true false 0, .acSet io0 3 false 5, .acAdd io0 3 false 0xFFFF,
    .mark io0 true 0, .pwrHint io0 16 100] : List Instr).all (goes run0) = true := by decide +kernel
theorem wit_waits : ([.waitQ io0 0 true 1, .waitQ io0 0 false 0, .waitCh io0 1 1, .waitCh io0 0 2, .waitLd io0 2] : List Instr).all
    (goes run1) = true := by decide +kernel
theorem wit_mat : ([.tclr io0 1 2 0x3C0, .mma io0 mmaF, .mmaSp io0 mmaS, .tcvt io0 1 8 false img, .txf io0 1 31 0 img, .tadd io0 1 img,
    .tstat io0 1 7] : List Instr).all (goes run0) = true := by decide +kernel
theorem wit_mma_port : goes run1 (.mma io0 mmaP) = true ∧ goes run1 (.mmaSp io0 { mmaP with fa := 4, fb := 4 }) = true := by decide +kernel
theorem wit_vec_two : ([.iadd io0 vF, .isub io0 vF, .imul io0 vF, .iand io0 vF, .ior io0 vF, .ixor io0 vF, .ishl io0 vF, .ishr io0 vF, .isra io0 vF, .imin io0 vF, .imax io0 vF, .iadds io0 vF, .vshuf io0 vF, .fadd io0 vF, .fsub io0 vF, .fmul io0 vF, .fmin io0 vF, .fmax io0 vF] : List Instr).all (goes run0) = true := by decide +kernel
theorem wit_vec_more : ([.icmp io0 { vF with fn := 5 }, .fcmp io0 { vF with fn := 3 }, .sel io0 { vF with vc := 7 },
    .ffma io0 { vF with vc := 31 }, .vmov io0 { vF with va := 0 }, .vrng io0 { vF with fn := 2 }] : List Instr).all (goes run0) = true := by
  decide +kernel
theorem wit_vec_one : ([.fabs io0 vU, .fneg io0 vU, .frsum io0 vU, .irsum io0 vU, .cvt io0 { vU with fn := 17, imm24 := 1 },
    .exp2 io0 vU, .log2 io0 vU, .rcp io0 vU, .rsqrt io0 vU, .sinpi io0 vU, .cospi io0 vU] : List Instr).all (goes run0) = true := by decide +kernel
theorem wit_mov : ([.lds io0 mF, .sts io0 mF, .ldv io0 { mF with n := 3 }, .stv io0 { mF with roff := 3 }, .fill io0 { mF with x := 0 },
    .copy io0 { mF with x := 0 }, .send io0 { mF with x := 0 }, .send io0 { mF with x := 2 }, .sendv io0 { mF with x := 0, off := 0 },
    .shrd io0 { mF with x := 1, off := 0x19000 }] : List Instr).all (goes run0) = true := by decide +kernel
theorem wit_ch_rel : goes run1 (.chRel io0 { mF with x := 1, off := 0 }) = true := by decide +kernel
theorem wit_queue : ([.qRd io0 { mF with x := 0, rb := 4 }, .qWr io0 { mF with x := 3, rb := 4 }, .qGath io0 { mF with x := 1, n := 63 }] :
    List Instr).all (goes run2) = true := by decide +kernel
theorem wit_ld_arm : goes run2 (.ldArm io0 ⟨31, 5, 0, 1, 0, 31, 63⟩) = true ∧ goes run2 (.ldArm io0 ⟨0, 5, 0, 2, 0, 0, 0⟩) = true := by
  decide +kernel

def cR : CtlF := ⟨1, 2, 3, 0⟩
def cI : CtlF := ⟨1, 2, 0, 63⟩
def cB : CtlF := ⟨0, 2, 3, 2047⟩
theorem wit_ctl : ([.addS io0 cR, .subS io0 cR, .andS io0 cR, .orS io0 cR, .xor io0 cR, .shl io0 cR, .shr io0 cR, .sra io0 cR, .slt io0 cR,
    .sltu io0 cR, .mul io0 cR, .addi io0 { cI with imm := 0x7FFFF }, .andi io0 cI, .shli io0 cI, .shri io0 cI, .srai io0 cI, .shin io0 cI,
    .pmov io0 ⟨7, 2, 0, 0⟩, .smov io0 ⟨1, 7, 0, 0⟩] : List Instr).all (goes run0) = true := by decide +kernel
theorem wit_branches : ([.beq io0 cB, .bne io0 cB, .blt io0 cB, .bge io0 cB, .bltu io0 cB, .bgeu io0 cB, .j io0 ⟨0, 0, 0, 2047⟩,
    .loop io0 ⟨0, 2, 0, 2047⟩] : List Instr).all (goes run0) = true := by decide +kernel

/-! ## Ill-formed terms, one for each check -/

theorem test_wf_core : (Instr.nop ⟨39168, false, false, false, .clean⟩ .ctl).wf = false ∧ (Instr.nop ⟨39167, false, false, false, .clean⟩ .ctl).wf = true := by decide
theorem test_wf_event_core : (Instr.fillCopyEnd 39168).wf = false := by decide
theorem test_wf_channel : (Instr.flitInject 0 16).wf = false ∧ (Instr.ringRecordPlace 0 16).wf = false ∧ (Instr.flitInject 0 15).wf = true := by decide
theorem test_wf_site : (Instr.clockLoss 144).wf = false ∧ (Instr.clockLoss 143).wf = true := by decide
theorem test_wf_pair : (Instr.controlCoreLockstepMismatch 0 4 none).wf = false := by decide
theorem test_wf_hub : (Instr.vinSample 16 48000).wf = false := by decide
theorem test_wf_port : (Instr.portDown 128).wf = false := by decide
theorem test_wf_port_die : (Instr.lowRateLaneFallback 8).wf = false := by decide
theorem test_wf_direction : (Instr.timeProbeSend 4).wf = false := by decide
theorem test_wf_half : (Instr.seHalfFail 2).wf = false := by decide
theorem test_wf_phase : (Instr.ivrPhaseFault 0 4 0).wf = false ∧ (Instr.ivrPhaseFault 0 0 12).wf = false := by decide
theorem test_wf_point : (Instr.irDropSample 0 64 0 0).wf = false := by decide
theorem test_wf_stack : (Instr.stackTempReadout 48 0).wf = false := by decide
theorem test_wf_part : (Instr.sensorSample (.die 144) []).wf = false ∧ (Instr.sensorSample (.hub 16) []).wf = false ∧ (Instr.sensorSample (.port 8) []).wf = false := by decide
theorem test_wf_sync_link : (Instr.syncLinkDown ⟨.dieHub 144, []⟩).wf = false ∧ (Instr.syncLinkDown ⟨.hubHub 16 0, []⟩).wf = false ∧ (Instr.syncLinkDown ⟨.hubHub 0 16, []⟩).wf = false ∧ (Instr.syncLinkDown ⟨.portHub 8 false, []⟩).wf = false := by decide
theorem test_wf_retry_link : (Instr.linkRetry (.dieToHub 144) 0).wf = false ∧ (Instr.linkRetry (.portToHub 8 false) 0).wf = false ∧ (Instr.linkRetry (.hubMesh 0 16) 0).wf = false := by decide
theorem test_wf_load_fault : (Instr.loadComplete (some 144)).wf = false ∧ (Instr.loadComplete none).wf = true := by decide
theorem test_wf_mgmt : (Instr.sessionHandshake 2 []).wf = false ∧ (Instr.mgmtPhyResetRelease 2).wf = false := by decide
theorem test_ill_formed_stops : exec (.clockLoss 144) State.reset = .fault .noSuchPart := by rfl

/-! ## Holds, freezes, stops -/

/-- What the hypotheses of the statements on holds and violations ask of a command. -/
def considered (s : State) (c : Instr) : Bool :=
  match slotOf c with
  | some (io, info, _) => s.canRun io.core io.join && okCore io.core &&
      (!io.join || (s.core io.core).joinable (info (s.atIssue io)).slot) && (before s io).frozen.isNone
  | none => false
def viol (s : State) (c : Instr) : Option Nat :=
  match slotOf c with | some (io, info, _) => staticViol (before s io) io (info (s.atIssue io)) | none => none
def heldBy (s : State) (c : Instr) : Option (Nat × Nat) :=
  match slotOf c with
  | some (io, info, _) => if (before s io).held then none else minHold ((s.atIssue io).unmet io.core (info (s.atIssue io)))
  | none => none

/-- The state after a command. -/
def after (s : State) (c : Instr) : State := match exec c s with | .next t => t | _ => s

theorem wit_violation : considered run0 (.tclr io0 0 3 0) = true ∧ viol run0 (.tclr io0 0 3 0) = some 1 ∧
    considered run0 (.chRel io0 mF) = true ∧ viol run0 (.chRel io0 { mF with x := 5, off := 0 }) = some 2 := by decide +kernel
theorem wit_violation_joined : considered (after run0 (.addi io0 cI)) (.nop { core := 0, join := true } .ctl) = false ∧
    considered (after run0 (.iadd io0 vF)) (.addi { core := 0, join := true, rsvd := true } cI) = true ∧
    viol (after run0 (.iadd io0 vF)) (.addi { core := 0, join := true, rsvd := true } cI) = some 1 := by decide +kernel
theorem wit_ill : considered run0 (.ill ⟨io0, .sync, 31⟩) = true := by decide +kernel
theorem wit_hold : considered run0 (.waitAc io0 3 true false 1) = true ∧ viol run0 (.waitAc io0 3 true false 1) = none ∧
    heldBy run0 (.waitAc io0 3 true false 1) = some (5, 3) := by decide +kernel
theorem wit_hold_result : heldBy (after run0 (.mul io0 cR)) (.addS io0 { cR with ra := 1 }) = some (1, 0) := by decide +kernel
theorem wit_idle : run0.canRun 16 false = false ∧ State.reset.canRun 0 false = false ∧ okCore 16 = true ∧
    (run0.setCore 0 { lastMark := true }).canRun 0 false = false := by decide +kernel
theorem wit_wait_uncovered : goes run0 (.waitLd io0 2) = false ∧ goes run0 (.waitQ io0 0 true 1) = false := by decide +kernel

/-! ## Ends of operations, arrivals -/

/-- The violation that an operation shows which is well formed, is not held and stands in a bundle without one. -/
def dynViol (s : State) (c : Instr) : Option Nat :=
  match slotOf c with
  | some (io, info, _) =>
    if considered s c && viol s c == none && heldBy s c == none && !(before s io).held && (before s io).viol == none
    then (s.atIssue io).violates io.core (info (s.atIssue io)) else none
  | none => none
/-- The offset 0x70000 of a store lies outside every window of the core. -/
def badSts : Instr := .sts io0 { mF with off := 0x70000 }
theorem wit_violation_dynamic : dynViol run0 badSts = some 3 ∧ ((after run0 badSts).core 0).viol.isSome = true := by decide +kernel
theorem wit_violation_bundle : ((((after run0 badSts).flush 0).core 0).frozen.map (fun f => (f.pc, f.slot, f.violation))) =
    some (0, .mov, 3) := by decide +kernel

/-- A core with one thing under way. -/
def busy (d : Dest) : State := run0.setCore 0 { firstTime := some 1000000, pend := [⟨d, 0, 3⟩] }
def job : MmaJob := { tile := 1, sparse := false, fa := 0, fb := 0, a := [], b := [], issue := 0, k := 32, done := 38 }
def mmaS1 : State := run0.setCore 0 { mmas := [job] }
def xfS (kind : XferKind) : State := run0.setCore 0 { xfer := some { kind := kind, tile := 1, vaddr := 0x8000, addr := 0x8000, rows := 1, done := 40 } }
def fcS (fill : Bool) : State := run0.setCore 0 { mem := [⟨fill, 0xA000, 0x8000, 64, 5, 20, 1⟩] }
theorem wit_result_due : okCore 0 = true ∧ nextDue ((busy (.sreg 1 7)).core 0) = some 3 ∧
    ((busy (.sreg 1 7)).core 0).pend.filter (fun q => decide (q.ready ≤ 3)) = [⟨.sreg 1 7, 0, 3⟩] ∧
    ((busy (.pred 7 7)).core 0).pend.filter (fun q => decide (q.ready ≤ 3)) = [⟨.pred 7 7, 0, 3⟩] ∧
    ((busy (.vreg 31 [(2047, 7)])).core 0).pend.filter (fun q => decide (q.ready ≤ 3)) = [⟨.vreg 31 [(2047, 7)], 0, 3⟩] ∧
    (run0.core 0).pend = [] := by decide +kernel
theorem wit_mma_end : (mmaS1.core 0).mmas.head? = some job ∧ (mmaS1.core 0).mmas = [job] ∧ (mmaS1.core 0).pend = [] ∧
    (mmaS1.core 0).xfer = none := by decide +kernel
theorem wit_transfer_end : (∀ x ∈ [XferKind.tcvt, .txf, .tadd], (((xfS x).core 0).xfer.map (fun j => (j.kind, j.hdrAt))) = some (x, 0) ∧
    ((xfS x).core 0).pend = [] ∧ ((xfS x).core 0).mmas = [] ∧ ((xfS x).core 0).mem = []) ∧
    (((xfS .tadd).core 0).xfer.map ((xfS .tadd).taddOk 0)) = some true := by decide +kernel
theorem wit_fill_copy_end : (∀ x ∈ [true, false], (((fcS x).core 0).mem.head?.map (fun j => j.fill)) = some x ∧ ((fcS x).core 0).mem.length = 1 ∧
    ((fcS x).core 0).pend = [] ∧ ((fcS x).core 0).mmas = [] ∧ ((fcS x).core 0).xfer = none) := by decide +kernel

/-- A packet with a right HDR.HCRC. -/
def pkt (h : Hdr) (l : List Flit) : Packet := { hdr := h.flit, payload := l }
/-- The state of the statements on arrivals; `quiet` holds of a panel whose cores have nothing open. -/
theorem wit_closed (s : State) : closed s s.flushAll := Or.inl rfl
theorem wit_quiet : closed run0 run0 := Or.inr ⟨by unfold quiet; decide +kernel, rfl⟩
def isOver (s : State) (p : Packet) (n : Nat) : Bool := match s.arriveAt p n with | .over _ => true | .at _ _ => false

def msgP : Packet := pkt { type := 1, len := 2, dst := 0, src := 1, dch := 0 } [1, 2]
def ringP : Packet := pkt { type := 1, len := 1, dst := 0, src := 1, dch := 1 } [1]
def winP : Packet := pkt { type := 2, len := 1, dst := 0, src := 1, dch := 2, arg := 63 } [3]
def mcP : Packet := pkt { type := 3, len := 1, dst := 0, src := 1, dch := 0, arg := 0 } [3]
theorem wit_discard : isOver run0 { hdr := 0, payload := [] } 1 = true ∧ isOver run0 (pkt { type := 1, att := 1 } []) 1 = true ∧
    isOver run0 (pkt { type := 1, dst := 0xFFFF } []) 1 = true := by decide +kernel
theorem wit_msg : arrives run0 msgP 1 0 ∧ seqOk (run0.core 0) (pktH msgP) = true ∧ run0.inKind 0 (pktH msgP).dch = 1 := by
  unfold arrives; decide +kernel
/-- Another packet waits at the ring. -/
def ringS : State := run0.setCore 0 { rings := [(1, { waiting := [ringP] })] }
theorem wit_msg_ring : arrives run0 ringP 1 0 ∧ seqOk (run0.core 0) (pktH ringP) = true ∧ run0.inKind 0 (pktH ringP).dch = 2 ∧
    ((ringS.core 0).ring (pktH ringP).dch).waiting ≠ [] ∧ ((run0.core 0).ring (pktH ringP).dch).waiting = [] ∧
    (run0.core 0).arrOf (arrKey (pktH ringP)) = {} ∧
    (((run0.core 0).ring (pktH ringP).dch).place 0x1000 (64 * ((pktH ringP).len + 1))).isSome = true ∧
    ((run0.bindIn 0 (pktH ringP).dch).map (fun b => (b.kind, b.size))) = some (2, 0x1000) := by unfold arrives; decide +kernel
theorem wit_msg_ring_waits : arrives ringS ringP 1 0 ∧ seqOk (ringS.core 0) (pktH ringP) = true ∧ ringS.inKind 0 (pktH ringP).dch = 2 := by
  unfold arrives; decide +kernel
theorem wit_win : arrives run0 winP 2 0 ∧ seqOk (run0.core 0) (pktH winP) = true ∧
    ((run0.bindIn 0 (pktH winP).dch).map (fun b => b.kind)) = some 3 := by unfold arrives; decide +kernel
theorem wit_mcast : arrives run0 mcP 3 0 ∧ run0.mcastCores (pktH mcP) = [0] ∧ seqOk (run0.core 0) (pktH mcP) = true ∧
    (run0.mcastCores (pktH mcP)).count 0 = 1 ∧ run0.inKind 0 (pktH mcP).dch = 1 := by unfold arrives; decide +kernel
def mcS : State := run0.setCore 0 { seqIn := [(1, 1)] }
theorem wit_mcast_refused : arrives mcS mcP 3 0 ∧ mcS.mcastCores (pktH mcP) = [0] ∧ seqOk (mcS.core 0) (pktH mcP) = false := by
  unfold arrives; decide +kernel

/-- A flit waits to be sent on channel 0; all credits of channel 2 are taken; flits wait for an MMA. -/
def outS : State :=
  run0.setCore 0 { sendq := [(0, [{ data := 9, idx := 0, total := 1, off := 0, tag := 0 }])], taken := [(131073, 16)]
                   landing := [(0, [1, 2])] }
theorem wit_flit : closed outS outS ∧ (outS.bindOut 0 0).isSome = true ∧ ((outS.core 0).sq 0).length = 1 ∧
    ((outS.core 0).sq 0).all (fun f => f.src.isNone && f.idx == 0) = true ∧ ((outS.bindOut 0 0).map (outS.roomFor 0 0)) = some true ∧
    outS.sinks 0 0 = [1] :=
  ⟨Or.inr ⟨by unfold quiet; decide +kernel, rfl⟩, by decide +kernel⟩
theorem wit_flit_no_credit : 1 ∈ outS.sinks 0 2 ∧ 16 ≤ (outS.core 0).takenOf 2 1 := by decide +kernel
/-- The ring is full: the packet that waits has no room. -/
def fullS : State := run0.setCore 0 { rings := [(1, { u := 0x1000, recs := [⟨0, 0x1000, false, true⟩], waiting := [ringP] })] }
theorem wit_ring_drain : ((ringS.core 0).ring 1).waiting = [ringP] ∧ (((ringS.core 0).ring 1).place 0x1000 (64 * ((pktH ringP).len + 1))).isSome = true ∧
    ((fullS.core 0).ring 1).waiting = [ringP] ∧ ((fullS.core 0).arrOf (arrKey (pktH ringP))).base = none ∧
    ((fullS.core 0).ring 1).place 0x1000 (64 * ((pktH ringP).len + 1)) = none ∧ ((run0.core 0).ring 15).waiting = [] ∧
    ((run0.setCore 0 { rings := [(1, { waiting := [ringP] })], arr := [(arrKey (pktH ringP), { base := some 64 })] }).core 0 |>.arrOf
      (arrKey (pktH ringP))).base.isSome = true := by decide +kernel
theorem wit_b_buffer : fillable (outS.core 0) 0 17 = some none ∧
    ((outS.bindIn 0 0).map (fun b => b.kind)) = some 1 ∧
    fillable ((outS.setCore 0 { landing := [(0, [1, 2])], bbufs := [⟨0, [3], 0⟩] }).core 0) 0 17 = some (some ⟨0, [3], 0⟩) := by decide +kernel

def ldP : Packet := pkt { type := 4, len := 17, dst := 0, src := 1, arg := 128 } [7]
theorem wit_ladle_waits : arrives run0 ldP 4 0 ∧ seqOk (run0.core 0) (pktH ldP) = true ∧ bits (pktH ldP).arg 10 6 = 2 ∧
    ((run0.core 0).ladle 2).waiting = [] ∧ ((run0.core 0).ladle 2).st ≠ .armed := by unfold arrives; decide +kernel
/-- Entry 2 armed for one contributor in exact mode, and in ordered mode; the same with all that it waits for. -/
def ldX : Ladle := { st := .armed, n := 1, base := 0x20000, len := 1088, rows := 1 }
def ldO : Ladle := { st := .armed, ordered := true, n := 1, base := 0x20000, len := 128 }
def ldS (l : Ladle) : State := run0.setCore 0 { ladles := [(2, l)] }
def xP : Packet := pkt { type := 4, len := 17, dst := 0, src := 1, arg := 128 } (toFlits 17 (fit 1088 [1, 0, 0, 0, 1]))
def oP : Packet := pkt { type := 4, len := 1, dst := 0, src := 1, arg := 128 } [5]
theorem wit_ladle_taken : arrives (ldS ldX) xP 4 0 ∧ seqOk ((ldS ldX).core 0) (pktH xP) = true ∧ ((ldS ldX).core 0).ladle 2 = ldX ∧
    atRest ((ldS ldX).core 0) ∧ (pktH xP).len ≤ xP.payload.length ∧ ldX.refuses 0 (xP.payload.flatMap flitBytes) = false ∧
    ((ldS ldX).core 0).arrOf (arrKey (pktH xP)) = {} := by unfold arrives atRest; decide +kernel
theorem wit_ladle_taken_ordered : arrives (ldS ldO) oP 4 0 ∧ seqOk ((ldS ldO).core 0) (pktH oP) = true ∧ ((ldS ldO).core 0).ladle 2 = ldO ∧
    atRest ((ldS ldO).core 0) ∧ (pktH oP).len ≤ oP.payload.length ∧ ldO.refuses 0 (oP.payload.flatMap flitBytes) = false := by
  unfold arrives atRest; decide +kernel
theorem wit_ladle_ready : (((ldS { ldX with next := [(0, 1)] }).core 0).ladle 2).ready = true ∧
    (((ldS { ldO with next := [(0, 128)] }).core 0).ladle 2).ready = true := by decide +kernel
theorem wit_ladle_exact : (xHdr (fit 1088 [1, 0, 0, 0, 1])).row0 = ldX.r0 ∧ 0 < 32 * (xHdr (fit 1088 [1, 0, 0, 0, 1])).rows := by decide +kernel
theorem wit_ladle_refused : atRest ((ldS ldX).core 0) ∧ (((ldS ldX).core 0).ladle (bits 128 10 6)).hdrAt = 0 ∧
    (((ldS ldX).core 0).ladle (bits 128 10 6)).refuses (bits 128 5 0) [0] = true ∧ (ldS ldX).coreOf false 1 = some 1 := by
  unfold atRest; decide +kernel

/-- Core 1 asks core 0 for the two lines at offset 0 of its shared window. -/
def shP : Packet := pkt { type := 5, dst := 0, src := 1, sch := 1, arg := 0x2000 } []
def shR : Packet := pkt { type := 6, len := 1, dst := 0, src := 1, dch := 1, arg := 0x640 } [5]
def shProg : Prog := { prog with bindings := [(1, [{ ch := 17, kind := 7, peer := 0, base := 0x19000, size := 0x1000 }])] }
def shS (m : List MergeEnt) : State := { run0.setCore 0 { merge := m } with prog := some shProg }
theorem wit_shrd : arrives (shS []) shP 5 0 ∧ (((shS []).bindingsOf 1).find? (fun b => b.ch == 16 + (pktH shP).sch)).map (fun b => b.base) = some 0x19000 ∧
    ((shS []).core 0).merge = [] ∧ ((shS [⟨0x19000, 2, [⟨1, 0x640, 0⟩]⟩]).core 0).merge = [⟨0x19000, 2, [⟨1, 0x640, 0⟩]⟩] ∧
    bits (pktH shP).arg 12 0 = 0 ∧ bits (pktH shP).arg 18 13 + 1 = 2 := by unfold arrives; decide +kernel
theorem wit_shrd_reply : arrives run0 shR 6 0 ∧ (((shS [⟨0x19000, 1, [⟨1, 0x640, 0⟩]⟩]).core 0).merge[0]?).isSome = true := by
  unfold arrives; decide +kernel

def rdP : Packet := pkt { type := 7, dkind := 1, src := 0, vc := 1 } []
def wrP : Packet := pkt { type := 7, dkind := 1, src := 0, len := 1, arg := 2 ^ 63 + 64 } [1]
def qOk (s : State) (p : Packet) : Bool :=
  arrivesOk p && (pktH p).type == 7 && (pktH p).dkind == 1 && s.inOrder p && !s.qBefore p && (pktH p).att == s.slots.tag.toNat
theorem wit_q_req : qOk run0 rdP = true ∧ bits (pktH rdP).arg 63 63 = 0 ∧
    (∀ i, i < bits (pktH rdP).arg 62 51 + 1 → run0.inputAt (bits (pktH rdP).arg 42 0 + 64 * i) = none) ∧
    qOk run0 wrP = true ∧ bits (pktH wrP).arg 63 63 = 1 ∧ wrP.payload.length = bits (pktH wrP).arg 62 51 + 1 := by decide +kernel
def cmP : Packet := pkt { type := 8, len := 1, dkind := 0, skind := 5, arg := 2 ^ 52 } [1]
def qS (w : Bool) : State := run0.setCore 0 { queues := [(0, [{ num := 0, write := w, lines := 1, spad := 0x8000, haddr := 0, issueTime := 0, sent := true, out := 1 }])] }
theorem wit_q_cmp : (∀ w ∈ [true, false], arrives (qS w) cmP 8 0) ∧ bits (pktH cmP).arg 50 49 = 0 ∧
    (match slotEnt ((qS false).core 0) 0 (bits (pktH cmP).arg 48 43) with | some e => !e.write && !olderRead ((qS false).core 0) e 0 | none => false) = true ∧
    (match slotEnt ((qS true).core 0) 0 (bits (pktH cmP).arg 48 43) with | some e => e.write | none => false) = true := by
  unfold arrives; decide +kernel

def crP : Packet := pkt { type := 9, vc := 1, dst := 0, src := 1, arg := 0x102 } []
def crH : Packet := pkt { type := 9, vc := 1, dst := 0, src := 0, skind := 3, arg := 0x10100 } []
theorem wit_credit : arrives run0 crP 9 0 ∧ bits (pktH crP).arg 16 16 = 0 ∧ bits (pktH crH).arg 16 16 = 1 ∧ arrivesOk crH = true ∧
    (pktH crH).type = 9 ∧ run0.coreOf (pktH crH).epoch (pktH crH).dst = some 0 ∧ run0.inOrder crH = true ∧
    (run0.die 0).isolated = false := by unfold arrives; decide +kernel
/-- Control core 0 of site 0 writes and reads core 0; a grant covers its first two lines. -/
def ccW : Packet := pkt { type := 10, len := 1, skind := 2, dst := 0, arg := 2 ^ 44 + 64 } [9]
def ccP : Packet := pkt { type := 10, skind := 2, dst := 0, arg := 64 } []
def ccS : State := { run0 with net := { run0.net with ccWins := [⟨0, false, 0, 0, 128, true⟩] } }
/-- The hypotheses common to control cores' packets. -/
def ccOk (s : State) (p : Packet) (ty : Nat) : Bool :=
  !s.withheld (pktH p) && arrivesOk p && (pktH p).type == ty && s.inOrder p && !s.toIsolated p
theorem wit_cc : ccOk ccS ccW 10 = true ∧ ccOk ccS ccP 10 = true ∧ bits (pktH ccW).arg 43 43 = 0 ∧ (pktH ccW).dkind = 0 ∧
    ccS.coreOf (pktH ccW).epoch (pktH ccW).dst = some 0 ∧ bits (pktH ccW).arg 44 44 = 1 ∧ bits (pktH ccP).arg 44 44 = 0 ∧
    ccS.ccMay (pktH ccW) false true 0 64 64 = true ∧ ccS.ccMay (pktH ccP) false false 0 64 64 = true ∧
    ccS.ccMay (pktH ccP) false false 0 128 64 = false ∧ run0.ccMay (pktH ccP) false false 0 64 64 = false ∧
    (run0.updDie 0 (fun d => { d with haltedPairs := [0] })).withheld (pktH ccP) = true := by decide +kernel
def ccR : Packet := pkt { type := 11, dst := 1 } []
def adP : Packet := pkt { type := 12, dkind := 3 } []
def cpP : Packet := pkt { type := 13, len := 1, dst := 0, arg := 2 ^ 43 + 0x5FFC0 } [1]
theorem wit_admin_copy : ccOk run0 ccR 11 = true ∧ ccOk run0 adP 12 = true ∧ run0.routeFree = true ∧ ccOk run0 cpP 13 = true ∧
    bits (pktH cpP).arg 43 43 = 1 ∧ (pktH cpP).dkind = 0 ∧ run0.coreOf (pktH cpP).epoch (pktH cpP).dst = some 0 := by decide +kernel

/-! ## Streams, slots, larder -/

/-- Stream 0 with one entry of 17 lines from core 0 to core 1. -/
def strm : Stream := { list := [⟨0, 0x8000, 17, 1, 0x8000, 3, 2, 4, 5⟩] }
def stS (x : Stream) (s : State := run0) : State := s.setStream 0 x
/-- The hypotheses common to the three commands of the sending engine. -/
def strOk (s : State) : Bool :=
  match (s.flushAll.stream 0).cur with
  | some e => match s.flushAll.endCore e.srcCore with
    | some k => s.flushAll.streamRuns (s.flushAll.stream 0) e k
    | none => false
  | none => false
def trig : State := run0.setCore 0 { acs := [(3, 2)] }
theorem wit_stream_start : strOk (stS strm trig) = true ∧ ((stS strm trig).flushAll.stream 0).started = false ∧
    2 ≤ (((stS strm trig).flushAll.core 0).ac 3).toNat := by decide +kernel
theorem wit_stream_send : strOk (stS { strm with started := true, line := 16, credits := 1 }) = true := by decide +kernel
theorem wit_stream_done : strOk (stS { strm with started := true, line := 17 }) = true := by decide +kernel
theorem wit_stream_receive : ((stS { strm with flight := [(0, [1])] }).flushAll.stream 0).flight = [(0, [1])] ∧
    ((stS { strm with flight := [(0, [1])] }).flushAll.stream 0).list.length = 1 ∧ run0.flushAll.endCore 1 = some 1 ∧
    0 < ((stS { strm with owed := 1 }).stream 0).owed ∧ (run0.die (1 / 272)).isolated = false ∧
    ((run0.updDie 0 (fun d => { d with isolated := true })).die (1 / 272)).isolated = true ∧
    (run0.updDie 0 (fun d => { d with isolated := true })).endCore 1 = some 1 := by decide +kernel

def att0 : Attempt := { frame := 0, no := 1, slot := 4, start := 1000000 }
def runA (a : Option Attempt) : State := { run0 with slots := { run0.slots with att := a } }
theorem wit_slots : run0.panel ≠ .cold ∧ (runA (some { att0 with restartWait := true })).slots.att = some { att0 with restartWait := true } ∧
    run0.slots.posted.length ≤ 1 ∧ State.reset.prog = none ∧ run0.panel = .running ∧ run0.thermal.quench = none ∧ run0.recovery.reqs = [] ∧
    run0.recovery.waitFrame = none ∧ run0.slots.pResume = false ∧ run0.collLanded run0.postFrame = true ∧
    ({ run0 with prog := some { prog with colls := [⟨1, 0, 0, 0, 64, 0⟩] } } : State).collLanded run0.postFrame = false := by decide +kernel

/-- The same end of a slot, 240 ns before the next and later. -/
def inSlot (t : Nat) : State := { run0 with time := t }
theorem wit_refresh : (inSlot 1000000).tickOf 4 + 240 * (((inSlot 1000000).time - (inSlot 1000000).tickOf 4) / 240 + 1) < (inSlot 1000000).tickOf 5 ∧
    (inSlot 1249999).tickOf 5 ≤ (inSlot 1249999).tickOf 4 + 240 * (((inSlot 1249999).time - (inSlot 1249999).tickOf 4) / 240 + 1) ∧
    run0.recovery.roll = none ∧ run0.slots.rollFrom = none := by decide +kernel

def sealS : State := { run0 with slots := { run0.slots with posted := [{ kind := .program, frame := 1 }] } }
theorem wit_seal : sealS.sealFrame = some 1 ∧ sealS.larder.sealed = none ∧
    ({ sealS with larder := { sealed := some 1 } } : State).sealFrame = some 1 := by decide +kernel
/-- A checkpoint whose buffers `w` are still to be copied, beside a committed one. -/
def ckS (w : List CkBuf) (wr : Bool := false) (p : Prog := prog) : State :=
  { run0 with prog := some p, larder := { copying := [{ resume := 3, wait := w, written := wr }], committed := some { resume := 2 } }
              slots := { run0.slots with passed := some 3 }
              recovery := { roll := some { vds := [0], moves := [(0, 9)], resume := 2, failed := none } } }
/-- A service region of 4 KiB and no LARDER area: no share of the one stripe can be read. -/
def lostProg : Prog := { prog with windows := [], regions := [⟨0, 0x1000, 0, 20, 0⟩] }
theorem wit_checkpoint : (ckS [.spad 0]).larder.copying = [] ++ { resume := 3, wait := [.spad 0] } :: [] ∧ CkBuf.spad 0 ∈ [CkBuf.spad 0] ∧
    (∃ b ∈ [CkBuf.spad 0, .hfs 1], b ≠ .spad 0) ∧ (ckS []).slots.passed = some 3 ∧ (ckS []).larder.copying = { resume := 3 } :: [] ∧
    (ckS [] true).larder.copying = { resume := 3, written := true } :: [] ∧ (ckS [.spad 0]).prog = some prog ∧
    (∀ c ∈ (ckS [.spad 0]).larder.copying, c.wait ≠ []) := by decide +kernel
theorem wit_restore : (ckS []).larder.committed = some { resume := 2 } ∧ (ckS []).thermal.quench = none ∧ (ckS []).panel = .running ∧
    (ckS []).recovery.roll = some { vds := [0], moves := [(0, 9)], resume := 2, failed := none } ∧ (∀ v ∈ [0], ∃ m ∈ [(0, 9)], m.1 = v) ∧
    (ckS [] false { prog with windows := [], regions := [] }).readStripes { prog with windows := [], regions := [] } 16 0
      (stripesOf ({ prog with windows := [], regions := [] } : Prog).ckLen) ([] ++ []) = some [] ∧
    (ckS [] false lostProg).readStripes lostProg 16 (lostProg.ckSlot { resume := 2 }) (stripesOf lostProg.ckLen) ([] ++ []) = none := by decide +kernel
theorem wit_spad_mode : run0.mustWheel 0 = true ∧ run0.mustWheel 143 = false ∧ ({ run0 with panel := .bringup } : State).mustWheel 0 = false ∧
    (run0.updDie 143 (fun d => { d with st := .test })).mustWheel 143 = false ∧
    ((run0.updDie 143 (fun d => { d with st := .test })).die 143).st = .test ∧ (run0.die 143).st ≠ .test ∧ (run0.die 143).st ≠ .frozen ∧
    (run0.die 143).quarantined = false := by decide +kernel

/-! ## From audit to notice -/

def ended (l : List Report) (a : Option Bool) : Ended := { att := att0, boundary := 1250000, reports := l, audit := a }
def snap0 : Snap := { boundary := 1250000, summary := [] }
def vS (l : List Report) (a : Option Bool) : State := { run0 with slots := { run0.slots with ended := some (ended l a), snap := some snap0 } }
theorem wit_verdict : (vS [] (some true)).slots.ended = some (ended [] (some true)) ∧ (vS [] (some true)).panel = .running ∧
    (vS [] (some true)).slots.snap = some snap0 ∧ (ended [] (some true)).att.rollback = false ∧
    (vS [{ det := 1 }] (some false)).slots.ended = some (ended [{ det := 1 }] (some false)) ∧ (ended [] none).boundary = snap0.boundary := by decide +kernel
def doneS : State :=
  { run0 with checks := { done := [{ att := att0, boundary := 1250000, summary := [], ledger := [] }], release := [{ att := att0, boundary := 1250000, summary := [], ledger := [] }]
                          certDue := [(0, true)] }
              fabric := { notices := [(0, 0, []), (1, 0, []), (2, 0, [])] } }
theorem wit_release : doneS.checks.done.length = 1 ∧ doneS.checks.release.length = 1 ∧ doneS.panel ≠ .safe ∧ doneS.recovery.roll = none ∧
    ({ doneS with panel := .safe } : State).panel = .safe ∧ doneS.checks.certDue = [(0, true)] ∧ doneS.access.halves ≠ 0 ∧
    ({ doneS with access := { halves := 0 } } : State).access.halves = 0 := by decide +kernel
theorem wit_notices : doneS.fabric.notices.find? (fun n => n.1 == 0) = some (0, 0, []) ∧
    doneS.fabric.notices.find? (fun n => n.1 == 1) = some (1, 0, []) ∧ doneS.fabric.notices.find? (fun n => n.1 == 2) = some (2, 0, []) ∧
    run0.fabric.notices.find? (fun n => n.1 == 2) = none := by decide +kernel

/-! ## Points, references, TIME, governor -/

def opS : State := { run0 with slots := { run0.slots with opDue := true, opNew := [(0, 7)] } }
def meshS (m : Mesh) : State := { run0 with time := 20000000000, mesh := m }
theorem wit_points : opS.slots.opDue = true ∧ run0.slots.opDue = false ∧ opS.slots.opNew = [] ++ (0, 7) :: [] ∧ run0.slots.att ≠ none ∧
    (run0.die 0).st = .active := by decide +kernel
theorem wit_mesh : (meshS { src := 1, okA := true }).mesh.ok .a = true ∧ (meshS { src := 3 }).mesh.ok .a = false ∧
    (meshS { src := 2, okA := true, okB := true }).mesh.ok (meshS { src := 2, okA := true, okB := true }).preferred = true ∧
    (meshS { src := 2, okA := true, okB := true }).mesh.src = refCode (refOther (meshS { src := 2, okA := true, okB := true }).preferred) ∧
    (meshS {}).mesh.since (meshS {}).preferred + 10000000000 ≤ (meshS {}).nextTick ∧
    (meshS { sinceA := 20000000000 }).nextTick < 20000000000 + 10000000000 := by decide +kernel
theorem wit_phase : (run0.hub 15).lost = false ∧ (∃ p ∈ [(1000 : Int), 1001], p.natAbs ≤ 1000) ∧ (∀ p ∈ [(1001 : Int), -1001], 1000 < p.natAbs) ∧
    15 ≤ ((run0.updHub 15 (fun h => { h with phaseRun := 15 })).hub 15).phaseRun := by decide +kernel

/-- Two panels in a row; the time master is the other one; port 32 is up. -/
def grpS : State :=
  { run0 with od := [(Obj.TIME_DISCIPLINE, .num 1)]
              fabric := { eff := [(Obj.GROUP_DIMS, .num 0x0102), (Obj.TIME_MASTER, .num 1)], ports := [(32, { up := true, base := 2, peerProgram := fit 48 [] }), (0, { up := true })]
                          dirs := [(0, { probe := some 5 })] } }
/-- This panel is the master; port 0 is in host mode. -/
def mstS : State :=
  { grpS with od := [(Obj.TIME_DISCIPLINE, .num 1), (Obj.PORT_ROLE, .oct [1])]
              fabric := { grpS.fabric with eff := [(Obj.GROUP_DIMS, .num 0x0102)], ptp := some 5 } }
theorem wit_time : run0.panel ≠ .cold ∧ grpS.linkMode 0 ≠ 0 ∧ grpS.dirUp 0 = [32] ∧ (grpS.dir 0).probe = some 5 ∧ grpS.isMaster = false ∧
    grpS.parentDir = some 0 ∧ mstS.isMaster = true ∧ (mstS.port 0).up = true ∧ mstS.portRole 0 = 1 ∧ mstS.num Obj.TIME_DISCIPLINE = 1 ∧
    mstS.num Obj.PTP_DOMAIN = mstS.num Obj.PTP_DOMAIN ∧ mstS.fabric.ptp = some 5 := by decide +kernel

def hintS (stp : Nat) : State := run0.setCore 0 { hints := [(1000100, 12, stp)] }
theorem wit_hint : (hintS 1002100).cores.filter (fun x => x.1 / 272 == 0 && !x.2.hints.isEmpty) = [(0, (hintS 1002100).core 0)] ∧
    ((hintS 1002100).core 0).hints = (1000100, 12, 1002100) :: [] ∧ 1000100 + 2000 ≤ 1002100 ∧
    ((hintS 1002099).core 0).hints = (1000100, 12, 1002099) :: [] ∧ 1002099 < 1000100 + 2000 := by decide +kernel
theorem wit_governor : run0.thermal.quench = none ∧ run0.thermal.release = false ∧ (run0.die 0).steps = [] ∧
    ((run0.updDie 0 (fun d => { d with steps := [(1, 2)] })).die 0).steps.filter (fun y => decide (y.1 ≤ 1000000)) = [] ++ [(1, 2)] := by decide +kernel

/-! ## Replays, tests, flips, migrations -/

/-- Site 9 is a WARM-SPARE; a replay of virtual die 0 waits. -/
def spS : State :=
  (run0.updDie 9 (fun d => { d with st := .warmSpare, powered := true, vd := none })).setNum Obj.TEST_ENABLE 1
def repS (since : Nat) : State := { spS with checks := { reps := [{ site := 9, vd := 0, since := since }], waitReplay := [0] } }
theorem wit_replay : run0.mayReplay 0 = false ∧ spS.mayReplay 9 = true ∧ spS.thermal.quench = none ∧ spS.checks.again = [] ∧
    0 ∈ ({ spS with checks := { waitReplay := [0] } } : State).checks.waitReplay ∧
    (repS 3).checks.reps.find? (fun r => r.site == 9) = some { site := 9, vd := 0, since := 3 } ∧ (repS 3).slots.slot < 3 + 2 ∧
    2 + 2 ≤ (repS 2).slots.slot := by decide +kernel
theorem wit_test_refused : run0.admitsTest 0 = false := by decide +kernel
def tqS : State := { spS with bringup := { testQ := [9] } }
/-- A WARM-SPARE die at the head of the test queue is admitted when the estimate, which the power model gives, fits. -/
theorem wit_test_admitted (h : tqS.fits (tqS.estimate (fun i => (tqS.die i).op) + (tqS.die 9).testAdds * 1055 / 1000) = true) :
    tqS.admitsTest 9 = true := by
  have h2 : tqS.testing = true ∧ tqS.num Obj.TEST_ENABLE = 1 ∧ tqS.num Obj.FW_UPDATE_STATE ≠ 1 ∧ tqS.testHead = some 9 ∧
    9 ∉ tqS.reserved ∧ allSites.filter (fun i => i != 9 && (tqS.die i).inTest) = [] ∧ 0 < tqS.num Obj.TEST_MAX_CONCURRENT := by decide +kernel
  unfold State.admitsTest
  simp [h, h2]
def tsS (c : Nat) : State := run0.updDie 9 (fun d => { d with st := .test, powered := true, corner := c })
theorem wit_corner : ((tsS 1).die 9).st = .test ∧ ((tsS 1).die 9).corner ≠ 0 ∧ ((tsS 1).die 9).corner < 4 ∧ 4 ≤ ((tsS 4).die 9).corner ∧
    ((tsS 4).die 9).corner = 4 ∧ ((tsS 4).die 9).field = [] ∧ ((tsS 1).die 9).hashing = false ∧
    (((tsS 1).updDie 9 (fun d => { d with connTest := true })).die 9).connTest = true ∧ spS.testing = true ∧ (spS.die 9).st = .warmSpare ∧ (spS.die 9).quarantined = false := by decide +kernel

def migS : State :=
  { spS with net := { spS.net with invState := 1, flipDue := true }, slots := { run0.slots with kind := .blank, att := none }
             recovery := { migs := [{ vd := 0, src := 0, dst := 9, prio := 1 }] } }
theorem wit_flip : 0 < run0.period ∧ migS.net.invState = 1 ∧ migS.thermal.quench = none ∧ run0.net.invState ≠ 1 ∧ migS.net.flipDue = true ∧
    run0.net.flipDue = false ∧ migS.hubsAgree = true ∧ run0.net.invState = 0 ∧ ({ migS with net := { migS.net with invState := 2 } } : State).net.invState = 2 ∧
    ({ migS with net := { migS.net with writes := [(0, .dieMap 0 1)] } } : State).hubsAgree = false := by decide +kernel
theorem wit_flip_count : migS.recovery.roll = none ∧ 0 < migS.period ∧ migS.time + 2 * migS.period ≤ migS.time + 500000 ∧
    migS.time + 499999 < migS.time + 2 * migS.period ∧ (ckS []).recovery.roll ≠ none ∧ migS.thermal.quench = none := by decide +kernel
theorem wit_migration : migS.recovery.migs.find? (fun m => m.vd == 0) = some { vd := 0, src := 0, dst := 9, prio := 1 } ∧ migS.slots.kind = .blank ∧
    0 ∉ migS.net.undrained ∧ (migS.die 9).field.length < 4 ∧
    ({ migS with recovery := { migs := [{ vd := 0, src := 0, dst := 9, prio := 1, tries := 1 }] } } : State).recovery.migs.find?
      (fun m => m.vd == 0) = some { vd := 0, src := 0, dst := 9, prio := 1, tries := 1 } := by decide +kernel

/-! ## Faults, lost dies -/

theorem wit_fault_word : State.reset.slots.att = none ∧ run0.slots.att = some att0 ∧ att0.restartWait = false ∧ 5 ∈ hubNeighbours 1 := by decide +kernel
/-- Whatever the CRC of the sync words is, a word carries it and another does not. -/
def syncWord (d : BitVec 16) : BitVec 96 := (Config.crc16 0 + d) ++ (0 : BitVec 80)
theorem wit_sync_words : syncTake (syncWord 0, 0) ≠ none ∧ syncTake (syncWord 1, syncWord 1) = none := by
  have e0 : ∀ d i, (syncWord d).getLsbD i = if i < 80 then false else (Config.crc16 0 + d).getLsbD (i - 80) := by
    intro d i
    refine (BitVec.getLsbD_append (x := Config.crc16 0 + d) (y := (0 : BitVec 80))).trans ?_
    simp
  have e1 : ∀ d, (syncWord d).extractLsb' 0 80 = 0 := by
    intro d; apply BitVec.eq_of_getLsbD_eq; intro i hi; simp [e0, hi]
  have e2 : ∀ d, (syncWord d).extractLsb' 80 16 = Config.crc16 0 + d := by
    intro d; apply BitVec.eq_of_getLsbD_eq; intro i hi; simp [e0, hi]
  have h : ∀ d, syncOk (syncWord d) = decide (d = 0) := by
    intro d; unfold syncOk; rw [e1, e2, Bool.eq_iff_iff]
    simp only [beq_iff_eq, decide_eq_true_eq]
    constructor
    · intro h; bv_omega
    · rintro rfl; simp
  constructor
  · unfold syncTake; simp [h]
  · unfold syncTake; simp [h]
theorem wit_sync_down : (State.syncWords run0 (syncKey (.dieHub 0)) (List.replicate 4 (syncWord 1, syncWord 1))).2 = true := by
  have h := wit_sync_words.2
  simp only [State.syncWords, List.replicate, List.foldl_cons, List.foldl_nil, h]
  decide +kernel
theorem wit_lockstep : (run0.die 0).powered = true ∧ 3 ∉ (run0.die 0).haltedPairs ∧ (run0.die 0).vd.isSome = true := by decide +kernel
def lnkS (g : Bool) : State := run0.updPort 127 (fun p => { p with up := true, linked := true, gotAudit := g })
theorem wit_audit_count : ((lnkS true).port 127).linked = true ∧ ((lnkS true).port 127).gotAudit = true ∧
    ((lnkS false).port 127).linked = true ∧ ((lnkS false).port 127).gotAudit = false := by decide +kernel
theorem wit_lost_panel : ({ run0 with fabric := { emptySince := some 5, lostPanels := [1] } } : State).fabric.emptySince = some 5 ∧
    ({ run0 with fabric := { emptySince := some 5, lostPanels := [1] } } : State).fabric.lostPanels ≠ [] := by decide +kernel
theorem wit_die_lost : (run0.die 0).powered = true ∧ (run0.die 0).st ≠ .dark ∧ (run0.die 0).st ≠ .lost ∧ (run0.die 0).st ≠ .coldSpare ∧
    (run0.die 0).efuseBefore = false ∧ (spS.die 9).vd = none ∧ (spS.die 9).st = .warmSpare ∧ run0.recovery.migs = [] := by decide +kernel

/-! ## Ports, host, collectives -/

def prS : State := (run0.updPort 0 (fun p => { p with up := true, retryAt := 9 })).setObj Obj.PORT_ROLE (.oct [0, 1, 2])
theorem wit_ports : (run0.port 0).up = false ∧ (prS.port 0).up = true ∧ prS.mayUp 2 = false ∧ prS.mayUp 1 = true ∧ (prS.port 1).up = false ∧
    prS.portRole 0 = 0 ∧ (prS.port 0).wait = [] ∧ (prS.port 0).retryAt ≠ 0 ∧ (mstS.port 0).up = true ∧ mstS.portRole 0 = 1 := by decide +kernel
theorem wit_lane : ({ run0 with panel := .simmer } : State).panel = .simmer ∧ (run0.portDie 7).laneDown = false ∧ (run0.portDie 7).off = false := by decide +kernel
/-- A frame with a right LCRC, and with a wrong one, from a frozen panel. -/
def frm : GlpFrame := { hdr := 0, payload := [], pcrc := 0, lcrc := 0 }
theorem wit_frame : ({ frm with lcrc := BitVec.ofNat 32 frm.lcrcOf } : GlpFrame).lcrc.toNat = ({ frm with lcrc := BitVec.ofNat 32 frm.lcrcOf } : GlpFrame).lcrcOf ∧
    ({ frm with lcrc := BitVec.ofNat 32 frm.lcrcOf } : GlpFrame).cls ≠ 15 ∧ ({ frm with lcrc := BitVec.ofNat 32 frm.lcrcOf } : GlpFrame).cls ≠ 4 ∧
    ({ frm with lcrc := BitVec.ofNat 32 frm.lcrcOf } : GlpFrame).lseq = (prS.port 0).rxSeq ∧
    (prS.setNum Obj.FROZEN_PANELS 1).panelFrozen ({ frm with lcrc := BitVec.ofNat 32 frm.lcrcOf } : GlpFrame).srcp = true ∧
    ({ frm with lcrc := BitVec.ofNat 32 frm.lcrcOf + 1 } : GlpFrame).lcrc.toNat ≠ ({ frm with lcrc := BitVec.ofNat 32 frm.lcrcOf + 1 } : GlpFrame).lcrcOf := by decide +kernel

/-- Session 256 is open on a panel that is not the bridge. -/
def inS (role : Nat) (path : Nat := 2) (num : Nat := 256) : Session := { num := num, role := role, path := path, cred := [], credKey := true }
def hostS (p : PanelSt) (l : List Session) : State :=
  { run0 with panel := p, fabric := { eff := [(Obj.GROUP_DIMS, .num 0x0102), (Obj.GROUP_BRIDGE, .num 1)] }, access := { sessions := l } }
/-- The session of a request, found. -/
def inOk (s : State) (n : Nat) (q : State → Session → Bool) : Bool :=
  match s.inband n with
  | some u => match u.session n with | some x => !u.sessFrozen x && q u x | none => false
  | none => false
theorem wit_submit : inOk (hostS .running [inS 0]) 256 (fun u _ => u.fabric.partials.isEmpty && u.fabric.held.isEmpty) = true ∧
    (hostS .running [inS 0]).inband 255 = none ∧ inOk (hostS .running []) 0x1FF (fun _ x => x.role == 0) = true := by decide +kernel
def heldS : State := { hostS .running [inS 0] with fabric := { (hostS .running []).fabric with held := [{ id := 1, sess := 256, tag := 2, data := [], last := 0, ring := true }] } }
theorem wit_held : inOk heldS 256 (fun u _ => u.fabric.held.any (fun h => h.id == field [1] 0 8)) = true ∧ field [1] 0 8 ≠ 0 := by decide +kernel
/-- A request for this panel: the record of 64 bytes. -/
def rqb : Bytes := fit 64 [1, 0, 0, 0, 0, 0, 0, 0, 0, 0, 0, 0, 0, 0, 0, 0, 0xFF, 0, 1, 0]
/-- The bridge takes the request, once the host's address is one that it admits. -/
def brS : State := { run0 with access := { sessions := [inS 0] }, prog := some { prog with services := { capacity := 1 } }, fabric := { eff := [(Obj.GROUP_DIMS, .num 0x0101)] } }
theorem wit_request_taken : brS.effNum Obj.GROUP_BRIDGE = brS.panelIndex ∧ field rqb 16 1 = 0xFF ∧ brS.fabric.held = [] ∧
    brS.requestOk { id := field rqb 0 8, sess := 256, tag := 0, data := rqb, last := brS.time, panel := 255 } = true ∧
    brS.prog = some { prog with services := { capacity := 1 } } := by decide +kernel
theorem wit_request_session (h : brS.hostOk 256 = true) : brS.inband 256 = some (brS.touch 256) := by
  have h1 : brS.session 256 = some (inS 0) := by decide +kernel
  have h2 : brS.panel ≠ .cold ∧ brS.panel ≠ .aux := by decide +kernel
  simp [State.inband, h, h1, h2]
def rsS : State :=
  { run0 with fabric := { partials := [{ id := 1, sess := 256, tag := 2, data := [], last := 0 }], objOut := [(256, [1])], acks := [(256, 0, 0)]
                          responses := [{ sess := 256, tag := 2, id := 1, status := 1, flags := 0, frame := 0, entry := 0, body := [], sent := 63 }] } }
theorem wit_response : (rsS.fabric.partials.find? (fun r => r.sess == 256 && r.tag == 2)).isSome = true ∧ (rsS.fabric.objOut.find? (fun x => x.1 == 256)).isSome = true ∧
    (match rsS.fabric.responses.find? (fun r => r.sess == 256 && r.tag == 2) with
      | some r => decide (r.sent + 1 = (rsS.rspBytes r).length) && slice (rsS.rspBytes r) r.sent 1 == [0] && decide (1 ≤ rsS.rspMax) | none => false) = true ∧
    (256, 0, 0) ∈ rsS.fabric.acks := by decide +kernel
theorem wit_bulk : inOk (hostS .ready [inS 1]) 256 (fun u x => u.panel == .ready && decide (1 ≤ x.role)) = true := by decide +kernel
def colS : State :=
  { run0 with prog := some { prog with input := 128, colls := [⟨1, 0, 1, 0, 64, 0⟩] }, checks := { lastReleased := some 0 }
              fabric := { collSent := [{ entry := 0, frame := 0, time := 5, acked := 0 }] } }
theorem wit_coll : colS.isFinal (SMap.get zeroD colS.fabric.collNext 0) = true ∧
    ({ colS with checks := {} } : State).isFinal (SMap.get zeroD colS.fabric.collNext 0) = false ∧
    (colS.fabric.collSent.find? (fun e => e.entry == 0 && e.frame == 0)).isSome = true := by decide +kernel

/-! ## Supplies, heat, bring-up -/

def vinS : State := { run0 with pins := { run0.pins with vinPgood := true } }
theorem wit_supplies : vinS.panel = .running ∧ vinS.pins.vinPgood = true ∧ ((vinS.updHub 15 (fun h => { h with vinBadRun := 1 })).hub 15).vinBadRun = 1 ∧
    State.reset.panel = .aux ∧ State.reset.pins.auxPgood = true ∧ ({ run0 with panel := .cold } : State).panel = .cold := by decide +kernel
def pwS : State := { run0 with panel := .ready, power := { queue := [9] } }
theorem wit_phase_fault : (run0.die 0).powered = true ∧ (3, 11) ∉ (run0.die 0).phaseOff ∧
    (3, 11) ∈ ((run0.updDie 0 (fun d => { d with phaseOff := [(3, 11)] })).die 0).phaseOff := by decide +kernel
theorem wit_power_on : pwS.power.queue = 9 :: [] ∧ pwS.panel = .ready ∧ pwS.power.soft = none ∧ pwS.power.lastOn = none ∧ pwS.thermal.quench = none ∧
    pwS.peakNear 9 = false ∧ pwS.power.deferred = false ∧ (run0.die 9).st = .coldSpare ∧ (run0.die 9).vd = none ∧
    ({ run0 with power := { soft := some (9, 5) } } : State).power.soft = some (9, 5) := by decide +kernel
def pw0 : State := { pwS with dies := [] }
theorem wit_power_fits : pw0.peakNear 9 = false ∧ ({ pw0 with power := { pw0.power with soft := some (9, pw0.time) } } : State).fits
    (({ pw0 with power := { pw0.power with soft := some (9, pw0.time) } } : State).estimate (fun i => (pw0.die i).op)) = true := by decide +kernel
/-- The neighbour of site 10, site 9, is ACTIVE and its profile is at level 12 now. -/
def pkS : State :=
  { pwS with power := { queue := [10] }, dies := [(9, { st := .active, vd := some 0, powered := true, op := 4 })]
             prog := some { prog with power := [(0, (16, [(0, 12)]))] } }
theorem wit_power_peak : pkS.peakNear 10 = true := by decide +kernel
theorem wit_sense_known : (run0.die 0).allowAt + 10000 ≤ (run0.nextSample (SMap.get zeroD (run0.die 0).senseAt 63) 10000).time ∧
    ((run0.updDie 0 (fun d => { d with allowAt := 1000000 })).nextSample 0 10000).time < 1000000 + 10000 := by decide +kernel
theorem wit_sense : SMap.get zeroD (run0.die 0).excessRun 63 < 999 ∧
    SMap.get zeroD ((run0.updDie 0 (fun d => { d with excessRun := [(63, 999)] })).die 0).excessRun 63 = 999 := by decide +kernel
theorem wit_takeover : (run0.hub (if run0.num Obj.TRIVET_PRIMARY = 0 then 15 else 0)).lost = false ∧
    (run0.hub (if run0.num Obj.TRIVET_PRIMARY = 0 then 15 else 0)).restarting = false ∧
    ((run0.updHub 15 (fun h => { h with lost := true })).hub 15).lost = true := by decide +kernel
theorem wit_quench : run0.thermal.quench = none ∧ run0.prog = some prog := by decide +kernel
theorem wit_hub_heat : (run0.hub 15).lost = false ∧ ([10999, 0, 0, 0, 0, 0, 0, 0] : List Int).length = 8 ∧
    (∃ x ∈ ([11000] : List Int), 11000 ≤ x) ∧ ((run0.updHub 15 (fun h => { h with tripRun := 1 })).hub 15).tripRun = 1 ∧
    (run0.portDie 7).off = false ∧ ((run0.updPortDie 7 (fun d => { d with tripRun := 1 })).portDie 7).tripRun = 1 ∧
    ((run0.updStack 47 (fun d => { d with tripRun := 1 })).stack 47).tripRun = 1 ∧ run0.thermal.stale = false ∧ (run0.die 9).powered = false := by decide +kernel
def quS (st : Nat) : State := { run0 with thermal := { quench := some { cause := 1, time := 5, slot := 0, stage := st } } }
theorem wit_quench_ends : (∀ h ∈ List.range 16, ((quS 2).hub h).tripRun < 2) ∧ (quS 1).cool = true ∧
    ((quS 1).updHub 3 (fun h => { h with tripRun := 2 })).thermal.quench.isSome = true ∧
    2 ≤ (((quS 1).updHub 3 (fun h => { h with tripRun := 2 })).hub 3).tripRun ∧
    ((quS 1).updStack 0 (fun x => { x with temp := 7001 })).cool = false := by decide +kernel
def bupS (n : Nat) : State := { State.reset with panel := .bringup, bringup := { stage := some n } }
theorem wit_bringup : ((bupS 10).atTime ((bupS 10).bringup.stageAt + 0)).haltCode 10 {} = 0 ∧
    ((bupS 5).atTime ((bupS 5).bringup.stageAt + 0)).haltCode 5 {} = 0 := by decide +kernel
theorem wit_bringup_halts : (((bupS 7).setNum Obj.FW_FLASH_VALID 0).atTime 0).haltCode 7 {} = 0x702 := by decide +kernel
def ldgS : State :=
  { spS with panel := .ready, prog := none, loading := some { prog := prog, place := [9] } }
theorem wit_loading : ldgS.loading = some { prog := prog, place := [9] } ∧ ldgS.lostPlace { prog := prog, place := [9] } = none ∧
    ldgS.allPowered { prog := prog, place := [9] } = true ∧ ldgS.preloadChanged { prog := prog, place := [9] } = false ∧ ldgS.pins.coolOk = true := by decide +kernel
theorem wit_update : run0.bringup.fwStep = 0 ∧ ({ ldgS with bringup := { fwStep := 2 } } : State).bringup.fwStep = 2 ∧
    ({ ldgS with bringup := { fwStep := 4 } } : State).bringup.fwStep = 4 ∧ ldgS.recovery.roll = none ∧ ldgS.thermal.quench = none := by decide +kernel

/-! ## Sessions and requests -/

theorem wit_sessions : (hostS .running [inS 0 1 5]).session 5 = some (inS 0 1 5) ∧ (inS 0 1 5).path < 2 ∧
    (hostS .running [inS 0]).session 256 = some (inS 0) ∧ (inS 0).path = 2 ∧
    run0.panel ≠ .cold ∧ run0.freeNum 1 32 = some 1 ∧ ({ run0 with panel := .cold } : State).panel = .cold := by decide +kernel
/-- A certificate that the vendor signed has a role; so has one signed by an entry of the key table. -/
theorem wit_cert_role (cert : Bytes) (h : Config.certByVendor cert = true) : run0.certRole cert = some (3, none) := by
  simp [State.certRole, h]
theorem wit_segment : (match (hostS .running [{ inS 0 1 5 with parts := [{ obj := 0x101001, total := 2, data := [1], time := 0 }] }]).session 5 with
    | some x => x.parts.length == 1 | none => false) = true := by decide +kernel

/-- The hypotheses of `asks`, of the session that is found, and what else is asked of them. -/
def asksOk (s : State) (r : ReqHead) (q : State → Session → Bool) : Bool :=
  s.panel != .cold && match s.sessionOf r.sess with
  | some u => match u.session r.sess with
    | some x => !u.sessFrozen x && (x.seqs.find? (fun e => e.1 == r.seq.toNat)).isNone &&
        (match x.highest with | some h => decide (h ≤ r.seq.toNat + 64) | none => true) && !x.done.contains r.seq.toNat &&
        x.parts == [] && q u x
    | none => false
  | none => false
theorem asksOk_asks {s : State} {r : ReqHead} {q : State → Session → Bool} (h : asksOk s r q = true) :
    ∃ u x, asks s u x r ∧ q u x = true := by
  unfold asksOk at h
  simp only [Bool.and_eq_true] at h
  obtain ⟨hp, h⟩ := h
  split at h
  · rename_i u hu
    split at h
    · rename_i x hx
      simp only [Bool.and_eq_true] at h
      obtain ⟨⟨⟨⟨⟨h1, h2⟩, h3⟩, h4⟩, h5⟩, h6⟩ := h
      refine ⟨u, x, ⟨by simpa using hp, hu, hx, by simpa using h1, ⟨by simpa using h2, ?_, by simpa using h4⟩, by simpa using h5⟩, h6⟩
      intro k hk
      rw [hk] at h3
      simpa using h3
    · simp at h
  · simp at h

def mgS (p : PanelSt) (role : Nat) : State := { run0 with panel := p, access := { sessions := [inS role 0 5] } }
def rq (t : BitVec 8) : ReqHead := ⟨5, 7, t⟩
def anyQ : State → Session → Bool := fun _ _ => true
def rowIs (o : Nat) (q : ObjRow → Bool) : Bool := !(subsOf (o / 256)).isEmpty && match rowOf o with | some r => q r | none => false

theorem wit_repeat : (match ({ mgS .ready 2 with access := { sessions := [{ inS 2 0 5 with seqs := [(7, { abort := 0 })] }] } } : State).sessionOf 5 with
    | some u => match u.session 5 with | some x => (x.seqs.find? (fun e => e.1 == 7)).isSome | none => false
    | none => false) = true := by decide +kernel
theorem wit_frozen_session : (match ({ mgS .ready 1 with access := { sessions := [{ inS 1 0 5 with frozenFirst := true }] } } : State).sessionOf 5 with
    | some u => match u.session 5 with | some x => u.sessFrozen x && x.seqs.isEmpty && x.highest.isNone && x.done.isEmpty | none => false
    | none => false) = true := by decide +kernel
theorem wit_no_object : asksOk (mgS .ready 2) (rq 2) anyQ = true ∧ (subsOf (0x9FFF01 / 256)).isEmpty = true ∧
    (subsOf (0x1010FF / 256)).isEmpty = false ∧ rowOf 0x1010FF = none := by decide +kernel
theorem wit_denied : asksOk (mgS .ready 0) (rq 2) (fun u x => x.role == 0 && decide (u.access.frozen.length < 256)) = true ∧
    rowIs 0x101001 (fun r => r.acc != .ro && r.wr == some 1) = true ∧ rowIs 0x100001 (fun r => r.acc == .ro) = true := by decide +kernel
theorem wit_type : rowIs 0x101002 (fun r => r.acc != .ro && r.wr == some 1 && r.ty.code == 2) = true ∧ (rq 3).typ.toNat ≠ 2 := by decide +kernel
theorem wit_range : asksOk (mgS .ready 2) (rq 2) (fun u x => !u.rangeOk x 0x101002 .u8 (bytesLE 1 255)) = true ∧
    rowIs 0x101002 (fun r => r.ty == .u8 && r.ty.size == some 1) = true := by decide +kernel
theorem wit_state : asksOk (mgS .running 2) (rq 2) (fun u x => u.rangeOk x Obj.LOAD_COMMAND .u8 (bytesLE 1 1) && match rowOf Obj.LOAD_COMMAND with
    | some r => !u.writeLegal x r 1 | none => false) = true ∧ rowIs Obj.LOAD_COMMAND (fun r => r.ty == .u8 && r.acc == .wo && r.wr == some 1) = true := by decide +kernel
theorem wit_read : asksOk (mgS .running 0) (rq 0) (fun u x => (match u.readVal x 0x201001 with | .ok _ => true | .error _ => false) && u.served 0x201001 false) = true ∧
    rowIs 0x201001 (fun r => r.acc == .ro && r.mayRead 0) = true := by decide +kernel

/-- An in-band read of object 2010.01, and a write of STAGE_OFFSET's index. -/
def rdM : Bytes := fit 32 [1, 0, 1, 0, 7, 0, 0, 0, 0x10, 0x20, 1, 0]
def wrM : Bytes := fit 33 [1, 0, 2, 0, 7, 0, 0, 0, 0x10, 0x10, 1, 2, 1]
def msgOk (m : Bytes) (op : Nat) : Bool :=
  decide (32 ≤ m.length) && field m 0 2 == 1 && field m 3 1 == 0 && field m 14 2 == 0 && field m 24 8 == 0 && decide (field m 12 2 ≤ 1024) &&
    decide (32 + field m 12 2 ≤ m.length) && field m 2 1 == op
theorem wit_messages : msgOk rdM 1 = true ∧ field rdM 12 2 = 0 ∧ field rdM 20 4 = 0 ∧ msgOk wrM 2 = true ∧ ([1, 0] : Bytes).length < 32 := by decide +kernel
def hostReq : ReqHead := ⟨256, 7, 0⟩
theorem wit_open : asksOk (hostS .running [inS 0]) hostReq (fun _ x => x.path == 2 && x.challenge.isNone) = true ∧
    asksOk (hostS .running [{ inS 0 with challenge := some (fit 32 []), cert := [1] }]) hostReq
      (fun _ x => x.path == 2 && x.challenge == some (fit 32 []) && x.cert == [1]) = true := by decide +kernel
theorem wit_close : asksOk (mgS .ready 0) (rq 0) anyQ = true := by decide +kernel

/-! ## Commands by object -/

/-- The panel with a session of a role, a grant's hypotheses and one more condition. -/
def may (p : PanelSt) (role typ : Nat) (q : State → Session → Bool) (s : State := mgS p role) : Bool :=
  asksOk s (rq (BitVec.ofNat 8 typ)) (fun u x => decide (role ≤ x.role) && u.panel == p && q u x)

theorem wit_load_commands :
    may .ready 1 2 (fun u _ => decide (u.coolingState < 2) && u.loading.isNone) = true ∧
    may .loaded 1 2 (fun u _ => decide (u.coolingState < 2) && !u.slots.pUnload) = true ∧
    may .loaded 1 2 (fun u _ => !u.slots.pStart && !u.slots.pResume) = true ∧ may .hold 1 2 (fun u _ => !u.slots.pStart && !u.slots.pResume) = true ∧
    may .running 1 2 anyQ = true ∧ may .hold 1 2 (fun u _ => !u.resumeLocked && !u.slots.pUnload) = true := by decide +kernel
theorem wit_staging :
    may .ready 1 10 (fun u _ => decide (u.num Obj.STAGE_OFFSET + 1024 ≤ 12 * 2 ^ 30) && u.bringup.fwStep == 0) = true ∧
    may .ready 1 1 anyQ = true ∧
    may .ready 2 10 (fun u _ => decide (u.num Obj.FW_STAGE_OFFSET + 1024 ≤ 2 ^ 30) && u.bringup.fwStep == 0) = true := by decide +kernel
theorem wit_panel_changes : may .simmer 2 2 anyQ = true ∧ may .ready 2 2 (fun u _ => u.loading.isNone && u.bringup.fwStep == 0) = true ∧
    may .safe 2 2 (fun u _ => u.num Obj.SAFE_CAUSE == 4 && u.recovery.restart == []) ((mgS .safe 2).setNum Obj.SAFE_CAUSE 4) = true ∧
    may .safe 2 2 anyQ = true ∧ may .ready 2 1 anyQ = true ∧ (mgS .ready 2).num Obj.SIMMER_HBM ≠ ((mgS .ready 2).setNum Obj.SIMMER_HBM
      (1 - (mgS .ready 2).num Obj.SIMMER_HBM)).num Obj.SIMMER_HBM := by decide +kernel
theorem wit_updates : may .ready 2 2 (fun u _ => fwFault u.fwStaged != 0 && u.bringup.fwStep == 0) = true := by decide +kernel
theorem wit_unfreeze :
    may .hold 2 3 (fun u _ => decide (vdOf u.gridW 0 < u.gridV) && decide (0 % 256 / 16 < u.gridW) && u.coreOf u.net.epochB 0 == some 0) = true ∧
    may .ready 2 2 anyQ = true ∧
    may .ready 2 3 (fun u _ => decide (0 < u.access.frozen.length))
      { mgS .ready 2 with access := { sessions := [inS 2 0 5], frozen := [(false, 0, [])] } } = true := by decide +kernel
theorem wit_test_queue :
    may .ready 2 3 (fun u _ => (u.die 143).quarantined && (u.die 143).st == .coldSpare)
      ((mgS .ready 2).updDie 143 (fun d => { d with quarantined := true })) = true ∧
    may .ready 1 3 (fun u _ => !(u.die 9).quarantined && (u.die 9).st == .warmSpare)
      ((mgS .ready 1).updDie 9 (fun d => { d with st := .warmSpare, powered := true })) = true ∧ may .ready 1 2 anyQ = true := by decide +kernel
theorem wit_keys :
    may .ready 2 10 (fun u _ => u.freeRole == some 1) = true ∧ (fit 104 [2]).length = 104 ∧ field (fit 104 [2]) 0 1 ≤ 2 ∧
    (slice (fit 104 [2]) 1 6).all (fun y => y == 0) = true ∧
    may .ready 2 2 (fun u _ => (u.roleKey 1).1 == 2)
      { mgS .ready 2 with access := { sessions := [inS 2 0 5], roleKeys := [(0, (2, [])), (1, (2, []))] } } = true ∧
    field (fit 104 [7]) 0 2 ≤ 7 ∧ (slice (fit 104 [7]) 2 5).all (fun y => y == 0) = true ∧ may .ready 2 3 anyQ = true := by decide +kernel
/-- A calibration set passes when its signature, its panel's serial and its body do. -/
theorem wit_cal_set (b : Bytes) (h : ((mgS .ready 2).touch 5).calOk 144 b = true) :
    b.length = 1024 ∧ asksOk { mgS .ready 2 with access := { sessions := [{ inS 2 0 5 with sel := [(Obj.CAL_SELECT, 144)] }] } } (rq 10)
      (fun u x => x.selOf Obj.CAL_SELECT == 144 && u.panel == .ready) = true := by
  refine ⟨?_, by decide +kernel⟩
  simp only [State.calOk, Bool.and_eq_true, beq_iff_eq] at h
  exact h.1.1.1.1.1.1.1.1.1.1.1
theorem wit_quote : asksOk { mgS .ready 0 with access := { sessions := [{ inS 0 0 5 with nonce := some (fit 32 [1]) }] } } (rq 0)
      (fun u x => u.panel == .ready && x.nonce == some (fit 32 [1]) && u.access.halves != 0) = true ∧ (rq 10).typ.toNat = 10 := by decide +kernel
theorem wit_load_refused : asksOk (mgS .hold 1) (rq 2) (fun _ x => decide (1 ≤ x.role)) = true ∧
    asksOk (mgS .loaded 1) (rq 2) (fun _ x => decide (1 ≤ x.role)) = true ∧ asksOk (mgS .running 1) (rq 2) (fun _ x => decide (1 ≤ x.role)) = true := by decide +kernel
theorem wit_alerts : (((quS 1).setNum Obj.HOLD_CAUSE 4).thermal.quench).isSome = true ∧
    ({ ((quS 1).setNum Obj.HOLD_CAUSE 4) with panel := .hold } : State).num Obj.HOLD_CAUSE = 4 := by decide +kernel

/-! ## The rest -/

theorem wit_reset_memory : State.reset.memWf = true := by decide +kernel
theorem wit_step : step { State.reset with pending := [.auxPgoodFall] } = exec .auxPgoodFall State.reset := by rfl
theorem wit_wellformed : (Instr.nop io0 .ctl).wf = true := by decide
theorem wit_work : coreWork (.nop io0 .ctl) = true ∧ exec (.nop io0 .ctl) State.reset = .next State.reset ∧ (slotOf (.nop io0 .ctl)).isSome = true := by
  refine ⟨by decide, by rfl, by decide⟩
theorem wit_result : (∀ x ∈ ([] : List (Nat × BitVec 32)), x.1 ≠ 64 * 0 + 63) ∧ spadKey 0 0 < spadKey 0 1 ∧ (64 : Nat) % 8 = 0 := by decide
/-- A part whose calibration set is not in use reads as its sensor does. -/
theorem wit_temp_offset : (∀ i, run0.tempOffset (144 + 15) 64 i = 0) ∧ (∀ i, run0.tempOffset (160 + 7) 64 i = 0) :=
  ⟨fun _ => rfl, fun _ => rfl⟩

/-! ## The manual's worked examples -/

/-- 01: W = 15, x = 37, y = 50 is row 2, column 5 of virtual die 47. -/
theorem test_virtual_core : vdOf 15 (256 * 50 + 37) = 47 ∧ vcoreId 15 47 2 5 = 256 * 50 + 37 := by decide
/-- 01: cells 2 and 9 with two dies LOST and cell 5 with one leave G126. -/
theorem test_grade : (({ dies := [(18, { st := .lost }), (19, { st := .lost }), (81, { st := .lost }), (82, { st := .lost }), (45, { st := .lost })] } :
    State)).grade = 126 := by decide +kernel
/-- 04: the products 6 × 1.25 and -0.625 × 4, scaled by 2^-1, are 15 × 2^31 and -5 × 2^31 units of 2^-33. -/
theorem test_mma_products : mmaSum (-33) [(opElem 0 0x7C 0x4C, opElem 0 0x81 0x3A), (opElem 0 0x7C 0xB2, opElem 0 0x81 0x48)] =
    (10 * 2 ^ 31, false, false) := by decide +kernel
/-- 04: halfway elements convert to BF16 by round to nearest even; 2.5 converts to FP32 exactly. -/
theorem test_convert : convElem 6 false 0 (.fin false 257 (-8)) = (0x3F80, false) ∧ convElem 6 false 0 (.fin false 259 (-8)) = (0x3F82, false) ∧
    convElem 8 false 0 (.fin false (10 * 2 ^ 31) (-33)) = (0x40200000, false) := by decide +kernel
/-- 05: the MAT slot of the worked example is the MMA of its fields, and the fill bundle is illegal in its SYNC slot. -/
theorem test_decode_mma : decodeMat io0 0x0908020040A00000 = .mma io0 ⟨2, 0, 4, false, 0, 4, 16, 5, 0⟩ := by decide +kernel
theorem test_decode_fill : bundleOps 0 (0x1F#256 <<< 251) = [.ill ⟨{ core := 0 }, .sync, 0x1F⟩, .nop { core := 0, join := true } .mat,
    .nop { core := 0, join := true } .vec, .nop { core := 0, join := true } .mov, .nop { core := 0, join := true } .ctl] := by decide +kernel
/-- 05 R142: ADD s9, s9, s10 is COP 0x01 at bit 34, RD at 29, RA at 24, RB at 19. -/
theorem test_decode_ctl : decodeCtl io0 (BitVec.ofNat 40 (2 ^ 34 + 9 * 2 ^ 29 + 9 * 2 ^ 24 + 10 * 2 ^ 19)) = .addS io0 ⟨9, 9, 10, 0⟩ := by decide +kernel
/-- 08 R224: g^8 is 0x1D under the polynomial 0x11D; Q of the pieces 5, 3 and 0x80 is 5 + 2·3 + 4·0x80; an inverse. -/
theorem test_coder : gfMul 0x80 2 = 0x1D ∧ gfPow 2 8 = 0x1D ∧ gfMul 0x53 (gfInv 0x53) = 1 ∧
    sumQ [(0, [5]), (1, [3]), (2, [0x80])] = [0x39] := by decide +kernel
/-- 04: EXP2 of 0.5. -/
theorem test_exp2 : exp2F (f32 0x3F000000) = 0x3FB504F3 := by decide +kernel
/-- 05: the last SHIN of the constant 0x0123_4567_89AB_CDEF. -/
theorem test_shin : (((after (run0.setCore 0 { sregs := [(7, 0x2468ACF135)] }) (.shin io0 ⟨7, 7, 0, 0x3CDEF⟩)).core 0).pend) =
    [⟨.sreg 7 0x0123456789ABCDEF, 0, 1⟩] := by decide +kernel
/-- 06: a ring of 1,024 bytes: the third message at 640, the fourth at 0 behind a skip record at 960, the fifth waits. -/
theorem test_ring : (match Ring.place { recs := [⟨256, 384, false, false⟩], h := 256, t := 640, u := 384 } 1024 320 with
    | some (r, 640, none) => (match r.place 1024 192 with
      | some (r, 0, some 960) => r.t == 192 && r.u == 960 && (r.place 1024 128).isNone
      | _ => false)
    | _ => false) = true := by decide +kernel
/-- 07: ordered addition of 1.0, 2^24 and -2^24 gives +0. -/
theorem test_ordered_sum : faddF (faddF (faddF 0 0x3F800000) 0x4B800000) 0xCB800000 = 0 := by decide +kernel
/-- 12: from panel 49 to panel 22 of an 8 × 8 group: -X on channels 0, 1, 1, then +Y on 0, 1, 1, 1. -/
theorem test_group_route : glpRoute 8 8 16 49 22 none 0 =
    [(49, 1, 0), (48, 1, 1), (55, 1, 1), (54, 2, 0), (62, 2, 1), (6, 2, 1), (14, 2, 1)] := by decide +kernel
/-- 17: the first 24 bytes of the request that writes object 6010.01 with SEQ 41, type U8 and one byte. -/
def exM : Bytes := [0x01, 0, 2, 0, 0x29, 0, 0, 0, 0x10, 0x60, 1, 2, 1, 0, 0, 0, 0, 0, 0, 0, 1, 0, 0, 0]
theorem test_message : field exM 0 2 = 1 ∧ field exM 2 1 = 2 ∧ field exM 4 4 = 41 ∧ 256 * field exM 8 2 + field exM 10 1 = 0x601001 ∧
    field exM 11 1 = 2 ∧ field exM 12 2 = 1 ∧ field exM 20 4 = 1 := by decide +kernel
/-- 05 R124: s0 reads as zero after a write. -/
theorem test_sreg_zero : ((run0.setCore 0 { sregs := [(5, 9)] }).landDest 0 (.sreg 0 7) |>.core 0).sreg 0 = 0 := by decide +kernel

end Sys2Proof.Tests
end

section
/-! PROOFS. Panel organisation: what a part's index must satisfy for a command to answer (01 R12), usable dies and the grade
(01 R22, R23), and a request that the object server refuses without an effect (11 R295, 17 R476). -/

open Sys2Proof Sys2Proof.Machine Sys2Proof.Claims

namespace Sys2Proof.Proofs

/-! ## Commands on parts that exist (01 R12) -/

theorem onPart_next {ok : Bool} (h : ok = true) (t : State) : onPart ok t = .next t := by
  rw [onPart, if_pos h]

/-- The table of slot operations is what the dispatch does: each is presented to its core. -/
theorem exec_of_slotOf {c : Instr} {io : Issue} {info : State → Op} {eff : State → State}
    (h : slotOf c = some (io, info, eff)) (s : State) : exec c s = slotOp s io info eff := by
  cases c <;> cases h <;> rfl

theorem okCore_of_slotOf {c : Instr} {io : Issue} {info : State → Op} {eff : State → State}
    (h : slotOf c = some (io, info, eff)) (hw : c.wf = true) : okCore io.core = true := by
  cases c <;> cases h
  case ill q => exact (Bool.and_eq_true_iff.mp hw).1
  all_goals exact hw

theorem slotOp_next {io : Issue} (h : okCore io.core = true) (s : State) (info : State → Op) (eff : State → State) :
    slotOp s io info eff = .next (present s io info eff) := onPart_next h _

theorem syncReal_of_wf {l : SyncLink} (h : l.wf = true) : syncReal l = true := by
  cases l <;> exact h

theorem execSensorSample_next {part : Part} (h : part.wf = true) (temps : List Int) (s : State) :
    ∃ t, execSensorSample part temps s = .next t := by
  cases part <;> exact ⟨_, onPart_next h _⟩

theorem execLinkRetry_next {link : RetryLink} (h : link.wf = true) (ns : Nat) (s : State) :
    ∃ t, execLinkRetry link ns s = .next t := by
  cases link <;> exact ⟨_, onPart_next h _⟩

theorem execLoadComplete_next {faultSite : Option Nat} (h : (Instr.loadComplete faultSite).wf = true) (s : State) :
    ∃ t, execLoadComplete faultSite s = .next t := by
  cases faultSite <;> exact ⟨_, onPart_next h _⟩

/-- A well-formed command that no slot issues answers: it names parts that the panel has, or no part by its index. -/
theorem event_next {c : Instr} (hc : slotOf c = none) (hw : c.wf = true) (s : State) : ∃ t, exec c s = .next t := by
  cases c <;> cases hc
  case sensorSample part temps => exact execSensorSample_next hw temps s
  case linkRetry link ns => exact execLinkRetry_next hw ns s
  case loadComplete faultSite => exact execLoadComplete_next hw s
  case syncLinkDown q => exact ⟨_, onPart_next (syncReal_of_wf hw) _⟩
  case testCornerEnd site pass e =>
    obtain ⟨hsite, -⟩ := Bool.and_eq_true_iff.mp (Bool.and_eq_true_iff.mp hw).1
    exact ⟨_, onPart_next hsite _⟩
  case mmaComplete | tileTransferComplete | fillCopyEnd | resultWriteback | flitInject | ringRecordPlace | bBufferFill
      | ladleComplete | shrdMergeRead => exact ⟨_, onPart_next hw _⟩
  case hintArrival | governorTick | replayDieStart | replayCompare | clockStretch | safePointChange | clockLoss
      | spadModeChange | drainedWord | controlCoreLockstepMismatch | ivrPhaseFault | lossOfRegulation | efuseOpen
      | softStartEnd | irDropSample | testStart | fieldTestDue => exact ⟨_, onPart_next hw _⟩
  case meshPhaseCompare | vinSample | stackTempReadout => exact ⟨_, onPart_next hw _⟩
  case auditCountTimeout | portDown | portUp | timeProbeSend | timeProbe | timeReply | auditCount | concord | nak | idle
      | glpFrameReceive | neighborSolicitation | echoRequest | lowRateLaneFallback | ptpMessage | concordRetry =>
    exact ⟨_, onPart_next hw _⟩
  case seHalfFail | seHalfRecover | sessionHandshake | mgmtPhyResetRelease => exact ⟨_, onPart_next hw _⟩
  -- Every other command answers `.next` whatever it names.
  all_goals exact ⟨_, rfl⟩

/-- Settles O6: a slot operation answers because its core exists, every other command by the parts that it names. -/
theorem wellformedNeverStops : Obligations.wellformed_never_stops := by
  intro s c hw
  cases hc : slotOf c with
  | none => exact event_next hc hw s
  | some p =>
    obtain ⟨io, info, eff⟩ := p
    exact ⟨_, (exec_of_slotOf hc s).trans (slotOp_next (okCore_of_slotOf hc hw) s info eff)⟩

/-! ## Usable dies and the grade (01 R22, R23) -/

theorem usable_iff (d : Die) : d.usable = true ↔
    (d.st = .active ∨ d.st = .warmSpare ∨ d.st = .coldSpare ∨ d.st = .test) ∧ d.quarantined = false := by
  cases hs : d.st <;> simp [Die.usable, hs]

/-- Of numbers dealt out `m` to a group, those of group `c` are the `m` from `m * c` on. -/
theorem length_filter_group {m : Nat} (hm : 0 < m) (c r : Nat) (p : Nat → Bool) :
    ((List.range (m * c + (m + r))).filter (fun i => decide (i / m = c) && p i)).length =
      ((List.range m).filter (fun i => p (m * c + i))).length := by
  have before : (List.range (m * c)).countP (fun i => decide (i / m = c) && p i) = 0 := by
    refine List.countP_eq_zero.mpr fun i hi => ?_
    have : i / m < c := Nat.div_lt_of_lt_mul (List.mem_range.mp hi)
    simp [this.ne]
  have within : (List.range m).countP ((fun i => decide (i / m = c) && p i) ∘ (m * c + ·)) =
      (List.range m).countP (fun i => p (m * c + i)) := by
    refine List.countP_congr fun i hi => ?_
    have : (m * c + i) / m = c := by
      rw [Nat.mul_add_div hm, Nat.div_eq_of_lt (List.mem_range.mp hi), Nat.add_zero]
    simp [this]
  have after : (List.range r).countP ((fun i => decide (i / m = c) && p i) ∘ (m * c + ·) ∘ (m + ·)) = 0 := by
    refine List.countP_eq_zero.mpr fun i _ => ?_
    have : (m * c + m + i) / m ≠ c := by
      rw [Nat.add_assoc, Nat.mul_add_div hm, Nat.add_div_left i hm]
      exact (Nat.lt_add_of_pos_right (Nat.succ_pos _)).ne'
    simp [this]
  simp only [← List.countP_eq_length_filter, List.range_add, List.countP_append, List.countP_map, List.map_append,
    List.map_map, before, within, after, Nat.zero_add, Nat.add_zero]

theorem grade_eq_sum_cells (s : State) : s.grade = ((List.range 16).map (fun c =>
    min 8 (((List.range 144).filter (fun i => decide (i / 9 = c) && (s.die i).usable)).length))).sum := by
  unfold State.grade
  congr 1
  refine List.map_congr_left fun c hc => ?_
  have hsites : 144 = 9 * c + (9 + (135 - 9 * c)) := by
    have := List.mem_range.mp hc
    omega
  rw [hsites, length_filter_group (by decide) c _ (fun i => (s.die i).usable)]

theorem grade_le (s : State) : s.grade ≤ 128 := by
  unfold State.grade
  refine (List.sum_le_card_nsmul _ 8 fun n hn => ?_).trans (by simp)
  obtain ⟨c, _, rfl⟩ := List.mem_map.mp hn
  exact Nat.min_le_left ..

/-! ## Requests that change nothing (17 R473, R476) -/

theorem inband_eq {s u : State} {n : Nat} (h : s.inband n = some u) : ∃ a, u = { s with access := a } := by
  unfold State.inband at h
  split at h
  · cases h
  · split at h
    · cases h
    · split at h <;> cases h <;> exact ⟨_, rfl⟩

theorem sessionOf_eq {s u : State} {n : Nat} (h : s.sessionOf n = some u) : ∃ a, u = { s with access := a } := by
  unfold State.sessionOf at h
  split at h
  · split at h <;> cases h
    exact ⟨_, rfl⟩
  · exact inband_eq h

/-- The sign of life of a session that asks is in the sessions' records only. -/
theorem eq_of_asks {s u : State} {x : Session} {r : ReqHead} (h : asks s u x r) : ∃ a, u = { s with access := a } := by
  obtain ⟨-, hu, -⟩ := h
  exact sessionOf_eq hu

theorem respond_eq (s : State) (q : UReq) (a : Resp) : ∃ c f, s.respond q a = { s with access := c, fabric := f } := by
  unfold State.respond
  split <;> exact ⟨_, _, rfl⟩

theorem got_respond (s : State) (q : UReq) (a : Resp) : got (s.respond q a) q.r a := by
  unfold State.respond
  split <;> rfl

/-- A fresh request is executed, remembered under its SEQ and answered. -/
theorem serve_of_asks {s u : State} {x : Session} {q : UReq} (h : asks s u x q.r) :
    s.serve q = ((u.execute x q).1.updSession x.num (fun y => y.remember q.r.seq.toNat (u.execute x q).2)).respond q
      (u.execute x q).2 := by
  obtain ⟨hp, hu, hx, -, ⟨hnew, hnear, hdone⟩, -⟩ := h
  cases hh : x.highest with
  | none => simp [State.serve, hp, hu, hx, hnew, hh, hdone]
  | some k => simp [State.serve, hp, hu, hx, hnew, hh, hdone, (hnear k hh).not_gt]

theorem serve_of_refuse {s u : State} {x : Session} {q : UReq} {e : Nat} (h : asks s u x q.r)
    (he : u.execute x q = refuse u e) :
    got (s.serve q) q.r { abort := e } ∧ ∃ a f, s.serve q = { s with access := a, fabric := f } := by
  obtain ⟨a, rfl⟩ := eq_of_asks h
  rw [serve_of_asks h, he]
  exact ⟨got_respond .., respond_eq ..⟩

/-- A write that brings a whole value in one segment, from a session with its role, with no fault of form (17 R472, R476). -/
structure WholeWrite (x : Session) (q : UReq) (row : ObjRow) : Prop where
  isWrite : q.op = 2
  index : (subsOf (q.key / 256)).isEmpty = false
  listed : rowOf q.key = some row
  writable : row.acc ≠ .ro
  role : ∃ w, row.wr = some w ∧ w ≤ x.role
  header : q.bad = false
  typed : q.r.typ.toNat = row.ty.code
  short : q.total ≤ 1024
  fits : lengthOk q.key row.ty q.total = true
  first : q.off = 0
  whole : q.data.length = q.total
  nonempty : q.data ≠ []
  alone : x.parts = []

theorem joinPart_whole {q : UReq} (hoff : q.off = 0) (hlen : q.data.length = q.total) (hne : q.data ≠ []) :
    joinPart none q = some q.data := by
  simp [joinPart, hoff, hlen, hne]

/-- In its range but in a state in which it is not legal, such a write is refused with STATE. -/
theorem WholeWrite.execute_illegal {x : Session} {q : UReq} {row : ObjRow} (h : WholeWrite x q row) {s : State}
    (hs : s.sessFrozen x = false) (hr : s.rangeOk x q.key row.ty q.data = true)
    (hl : s.writeLegal x row (natLE q.data) = false) : s.execute x q = refuse s 6 := by
  obtain ⟨w, hw, hrole⟩ := h.role
  have hpart : s.partOf x q.key = none := by simp [State.partOf, h.alone]
  have hjoin := joinPart_whole h.first h.whole h.nonempty
  simp [State.execute, hs, h.isWrite, State.doWrite, h.index, h.listed, hw, h.writable, hrole, h.header, h.typed,
    h.short.not_gt, h.fits, h.whole, hpart, hjoin, hr, hl]

/-! ## The load command (11 R295) -/

def loadRow : ObjRow := ⟨Obj.LOAD_COMMAND, .u8, .wo, none, some 1, .num 0⟩

theorem rowOf_loadCommand : rowOf Obj.LOAD_COMMAND = some loadRow := by decide +kernel

theorem subsOf_loadCommand : (subsOf (Obj.LOAD_COMMAND / 256)).isEmpty = false := by decide +kernel

/-- The request that LOAD makes: LOAD_COMMAND written with 1. -/
def loadReq (r : ReqHead) : UReq := { r := r, op := 2, key := Obj.LOAD_COMMAND, total := 1, data := bytesLE 1 1 }

theorem exec_load (r : ReqHead) (s : State) : exec (.load r) s = .next (s.serve (loadReq r)) := rfl

theorem loadReq_whole {r : ReqHead} {x : Session} (hrole : 1 ≤ x.role) (htyp : r.typ.toNat = 2) (hparts : x.parts = []) :
    WholeWrite x (loadReq r) loadRow where
  isWrite := rfl
  index := subsOf_loadCommand
  listed := rowOf_loadCommand
  writable := by decide
  role := ⟨1, rfl, hrole⟩
  header := rfl
  typed := htyp
  short := by simp [loadReq]
  fits := rfl
  first := rfl
  whole := rfl
  nonempty := List.cons_ne_nil _ _
  alone := hparts

theorem rangeOk_one_loadCommand (s : State) (x : Session) :
    s.rangeOk x Obj.LOAD_COMMAND .u8 (bytesLE 1 1) = true := rfl

/-- A load is legal in READY only. -/
theorem writeLegal_loadRow {s : State} (h : s.panel ≠ .ready) (x : Session) : s.writeLegal x loadRow 1 = false := by
  simp [State.writeLegal, loadRow, h]

theorem load_refused {s u : State} {x : Session} {r : ReqHead} (h : asks s u x r) (hrole : 1 ≤ x.role)
    (htyp : r.typ.toNat = 2) (hp : s.panel ≠ .ready) :
    got (s.serve (loadReq r)) r { abort := 6 } ∧ ∃ a f, s.serve (loadReq r) = { s with access := a, fabric := f } := by
  have ⟨_, _, _, hfrozen, _, hparts⟩ := h
  have hu : u.panel ≠ .ready := by
    obtain ⟨a, rfl⟩ := eq_of_asks h
    exact hp
  exact serve_of_refuse (q := loadReq r) h
    ((loadReq_whole hrole htyp hparts).execute_illegal hfrozen (rangeOk_one_loadCommand u x) (writeLegal_loadRow hu x))

/-- Settles O58: the grade's cells are the sites with the same quotient by 9; a load outside READY is refused before it has an
effect. -/
theorem gradeAndLoad : Obligations.grade_and_load := by
  refine ⟨usable_iff, fun s => ⟨grade_eq_sum_cells s, grade_le s⟩, fun r s u x h hrole htyp hpanel => ?_⟩
  have hp : s.panel ≠ .ready := by
    rcases hpanel with hp | hp | hp <;> simp [hp]
  obtain ⟨hgot, a, f, heq⟩ := load_refused h hrole htyp hp
  refine ⟨_, exec_load r s, hgot, ?_⟩
  rw [heq]
  exact ⟨rfl, rfl, rfl, ⟨rfl, rfl, rfl⟩, rfl⟩

end Sys2Proof.Proofs
end

section
/-! PROOFS. What every function on the state leaves of it: the queue of commands, the slot number (02 R40) and TIME. One lemma for
each function, in the order of the model; as a `simp` rule each one reads off the three components of its result. -/

open Sys2Proof Sys2Proof.Machine Sys2Proof.Claims

namespace Sys2Proof.Proofs

/-! ## The frame -/

/-- The queue, the slot number and TIME of `t` are those of `s`. -/
@[simp] abbrev Keeps (s t : State) : Prop := t.pending = s.pending ∧ t.slots.slot = s.slots.slot ∧ t.time = s.time

/-- The queue and the slot number of `t` are those of `s`; TIME may have been carried on. -/
@[simp] abbrev KeepsQueue (s t : State) : Prop := t.pending = s.pending ∧ t.slots.slot = s.slots.slot

theorem Keeps.trans {s t u : State} (h : Keeps s t) (h' : Keeps t u) : Keeps s u := by
  simp [h, h']

@[simp] theorem foldl_keeps {α : Type} {f : State → α → State} (h : ∀ s x, Keeps s (f s x)) (l : List α) (s : State) :
    Keeps s (l.foldl f s) :=
  List.foldlRecOn l f (motive := Keeps s) ⟨rfl, rfl, rfl⟩ fun t ht x _ => ht.trans (h t x)

@[simp] theorem foldl_fst_keeps {α β : Type} {f : State × β → α → State × β} (h : ∀ r x, Keeps r.1 (f r x).1)
    (l : List α) (r : State × β) : Keeps r.1 (l.foldl f r).1 :=
  List.foldlRecOn l f (motive := fun q => Keeps r.1 q.1) ⟨rfl, rfl, rfl⟩ fun q hq x _ => hq.trans (h q x)

@[simp] theorem foldl_keepsQueue {α : Type} {f : State → α → State} (h : ∀ s x, KeepsQueue s (f s x)) (l : List α)
    (s : State) : KeepsQueue s (l.foldl f s) :=
  List.foldlRecOn l f (motive := KeepsQueue s) ⟨rfl, rfl⟩ fun t ht x _ => by simp [ht, h t x]

@[simp] theorem pending_ite (c : Prop) [Decidable c] (s t : State) :
    (if c then s else t).pending = if c then s.pending else t.pending := apply_ite ..

@[simp] theorem slot_ite (c : Prop) [Decidable c] (s t : State) :
    (if c then s else t).slots.slot = if c then s.slots.slot else t.slots.slot := apply_ite (fun s : State => s.slots.slot) ..

@[simp] theorem time_ite (c : Prop) [Decidable c] (s t : State) :
    (if c then s else t).time = if c then s.time else t.time := apply_ite ..

/-! ## Parts, registers, memories, reports, ledgers, addresses, packets -/

@[simp] theorem State.nextSample_keeps (s : State) (last every : Nat) : KeepsQueue s (s.nextSample last every) := ⟨rfl, rfl⟩
@[simp] theorem State.draw_keeps (s : State) : Keeps s s.draw.2 := ⟨rfl, rfl, rfl⟩
@[simp] theorem State.drawBytes_keeps (s : State) : Keeps s s.drawBytes.2 := ⟨rfl, rfl, rfl⟩
@[simp] theorem State.clearSpads_keeps (s : State) (site : Nat) : Keeps s (s.clearSpads site) := ⟨rfl, rfl, rfl⟩

@[simp] theorem State.setHashing_keeps (s : State) (site : Nat) (h : Bool) : Keeps s (s.setHashing site h) := by
  simp [State.setHashing]

@[simp] theorem State.report_keeps (s : State) (det : Nat) (vd site : Option Nat) (core : Option Nat) :
    Keeps s (s.report det vd site core) := ⟨rfl, rfl, rfl⟩

@[simp] theorem State.fsr_keeps (s : State) (r : FsrIn) : Keeps s (s.fsr r) := by
  simp [State.fsr]

@[simp] theorem State.dieFault_keeps (s : State) (site det unit : Nat) :
    Keeps s (s.dieFault site det unit) := ⟨rfl, rfl, rfl⟩

@[simp] theorem State.coreFault_keeps (s : State) (k op det unit : Nat) : Keeps s (s.coreFault k op det unit) := by
  simp [State.coreFault]

@[simp] theorem State.reqMig_keeps (s : State) (site prio : Nat) : Keeps s (s.reqMig site prio) := by
  simp [State.reqMig]

@[simp] theorem State.quarantine_keeps (s : State) (site : Nat) (det : Nat) : Keeps s (s.quarantine site det) := by
  simp only [State.quarantine]
  (repeat' split) <;> simp

@[simp] theorem State.joinTest_keeps (s : State) (site : Nat) : Keeps s (s.joinTest site) := by
  simp [State.joinTest]

@[simp] theorem State.lastingFault_keeps (s : State) (site det unit : Nat) (core : Option Nat) :
    Keeps s (s.lastingFault site det unit core) := by
  simp [State.lastingFault]

@[simp] theorem State.writeRoute_keeps (s : State) (f : Route → Route) : Keeps s (s.writeRoute f) := by
  simp [State.writeRoute]

@[simp] theorem State.injectAt_keeps (s : State) (t : Nat) (p : Packet) : Keeps s (s.injectAt t p) := ⟨rfl, rfl, rfl⟩
@[simp] theorem State.inject_keeps (s : State) (p : Packet) : Keeps s (s.inject p) := ⟨rfl, rfl, rfl⟩

@[simp] theorem State.injectFlit_keeps (s : State) (t : Nat) (p : Packet) (f : Flit) (first : Bool) :
    Keeps s (s.injectFlit t p f first) := by
  simp [State.injectFlit]

@[simp] theorem State.cross_keeps (s : State) (i : Nat) (h : Hdr) (n : Nat) : Keeps s (s.cross i h n) := by
  simp [State.cross]

@[simp] theorem State.unflight_keeps (s : State) (i : Nat) (p : Packet) : Keeps s (s.unflight i p) := by
  unfold State.unflight
  split <;> simp

@[simp] theorem State.eject_keeps (s : State) (p : Packet) : Keeps s (s.eject p) := by
  unfold State.eject
  split <;> simp

@[simp] theorem State.firmware_keeps (s : State) (p : Packet) : Keeps s (s.firmware p) := by
  simp [State.firmware]

@[simp] theorem State.discardAt_keeps (s : State) (i : Nat) (p : Packet) : Keeps s (s.discardAt i p) := by
  simp [State.discardAt]

@[simp] theorem State.headerFault_keeps (s : State) (p : Packet) : Keeps s (s.headerFault p) := by
  simp only [State.headerFault]
  split <;> simp

@[simp] theorem State.lateDiscard_keeps (s : State) (p : Packet) : Keeps s (s.lateDiscard p) := by
  simp only [State.lateDiscard]
  (repeat' split) <;> simp

@[simp] theorem State.noteCapture_keeps (s : State) (k : Nat) (b : Bytes) : Keeps s (s.noteCapture k b) := by
  simp [State.noteCapture]

@[simp] theorem State.isolatedDiscard_keeps (s : State) (p : Packet) : Keeps s (s.isolatedDiscard p) := by
  simp [State.isolatedDiscard]

@[simp] theorem State.markLine_keeps (s : State) (stack off v : Nat) : Keeps s (s.markLine stack off v) := ⟨rfl, rfl, rfl⟩
@[simp] theorem State.markOwn_keeps (s : State) (stack g v : Nat) : Keeps s (s.markOwn stack g v) := ⟨rfl, rfl, rfl⟩

@[simp] theorem State.putLines_keeps (s : State) (stack off : Nat) (d : Nat → Nat) (b : Bytes) (n : Nat) :
    Keeps s (s.putLines stack off d b n) := by
  simp [State.putLines]

@[simp] theorem State.hubChecks_keeps (s : State) (stack l n : Nat) : Keeps s (s.hubChecks stack l n).1 := by
  simp only [State.hubChecks]
  refine foldl_fst_keeps (fun r g => ?_) _ (s, false)
  split
  · simp [foldl_keeps (f := fun s x => if s.lineDiff stack (64 * x) = 0 then s.markLine stack (64 * x) 1 else s)
      (fun s x => by split <;> simp)]
  · simp

@[simp] theorem State.writeLines_keeps (s : State) (stack off : Nat) (b : Bytes) (n : Nat) :
    Keeps s (s.writeLines stack off b n) := by
  simp [State.writeLines]

@[simp] theorem State.writeStripe_keeps (s : State) (p : Prog) (kind slot total n : Nat) (b : Bytes) :
    Keeps s (s.writeStripe p kind slot total n b) :=
  foldl_keeps (fun s j => by split <;> simp) _ s

@[simp] theorem State.writeStripes_keeps (s : State) (p : Prog) (kind slot : Nat) (b : Bytes) :
    Keeps s (s.writeStripes p kind slot b) := by
  simp [State.writeStripes]

@[simp] theorem State.retainWrite_keeps (s : State) (p : Prog) (slot : Nat) (b : Bytes) :
    Keeps s (s.retainWrite p slot b) := by
  simp [State.retainWrite]

/-! ## How a core issues -/

@[simp] theorem State.dupFault_keeps (s : State) (k op unit : Nat) : Keeps s (s.dupFault k op unit) := by
  simp [State.dupFault]

@[simp] theorem State.corrected_keeps (s : State) (site : Nat) : Keeps s (s.corrected site) := by
  simp [State.corrected]

@[simp] theorem State.spadEcc_keeps (s : State) (k op : Nat) (e : Ecc) : Keeps s (s.spadEcc k op e) := by
  simp only [State.spadEcc]
  split <;> simp

@[simp] theorem State.imemEcc_keeps (s : State) (k : Nat) (e : Ecc) : Keeps s (s.imemEcc k e) := by
  simp only [State.imemEcc]
  split <;> simp

@[simp] theorem State.tell_keeps (s : State) (k : Nat) (x : Seen × Nat) : Keeps s (s.tell k x) := by
  unfold State.tell
  split <;> simp

@[simp] theorem State.overflowTrap_keeps (s : State) (k : Nat) (old new : Tile) : Keeps s (s.overflowTrap k old new) := by
  simp [State.overflowTrap]

@[simp] theorem State.freezeAt_keeps (s : State) (k pc : Nat) (slot : Slot) (opc viol operation : Nat) (related : Nat) :
    Keeps s (s.freezeAt k pc slot opc viol operation related) := by
  simp [State.freezeAt]

@[simp] theorem State.freezeBundle_keeps (s : State) (k : Nat) (slot : Slot) (opc viol : Nat) :
    Keeps s (s.freezeBundle k slot opc viol) := by
  simp [State.freezeBundle]

@[simp] theorem State.countHeld_keeps (s : State) (k code n : Nat) : Keeps s (s.countHeld k code n) := by
  simp [State.countHeld]

@[simp] theorem State.holdBundle_keeps (s : State) (k code what : Nat) (names : List (Nat × Nat)) :
    Keeps s (s.holdBundle k code what names) := by
  simp [State.holdBundle]

@[simp] theorem State.landTclr_keeps (s : State) (k t : Nat) (e : BitVec 10) (cl : BitVec 2) :
    Keeps s (s.landTclr k t e cl) := by
  simp [State.landTclr]

@[simp] theorem State.landDest_keeps (s : State) (k : Nat) (d : Dest) : Keeps s (s.landDest k d) := by
  unfold State.landDest
  split <;> simp

@[simp] theorem State.landDue_keeps (s : State) (k t : Nat) : Keeps s (s.landDue k t) := by
  simp [State.landDue]

@[simp] theorem State.fillSend_keeps (s : State) (k ch : Nat) : Keeps s (s.fillSend k ch) := by
  simp [State.fillSend]

@[simp] theorem State.fillSends_keeps (s : State) (k : Nat) : Keeps s (s.fillSends k) := by
  simp [State.fillSends]

@[simp] theorem State.endRange_keeps (s : State) (k tag : Nat) : Keeps s (s.endRange k tag) := by
  simp [State.endRange]

@[simp] theorem State.mmaEnd_keeps (s : State) (k : Nat) (j : MmaJob) : Keeps s (s.mmaEnd k j) := by
  simp [State.mmaEnd]

@[simp] theorem State.sieveErr_keeps (s : State) (k t e : Nat) : Keeps s (s.sieveErr k t e) := ⟨rfl, rfl, rfl⟩

@[simp] theorem State.mmaDup_keeps (s : State) (k : Nat) (j : MmaJob) (dup : Bool) : Keeps s (s.mmaDup k j dup) := by
  simp [State.mmaDup]

@[simp] theorem State.closeTile_keeps (s : State) (k t : Nat) : Keeps s (s.closeTile k t) := by
  simp [State.closeTile]

@[simp] theorem State.xferWrite_keeps (s : State) (k : Nat) (j : XferJob) : Keeps s (s.xferWrite k j) := by
  simp [State.xferWrite]

@[simp] theorem State.taddHeader_keeps (s : State) (k : Nat) (j : XferJob) : Keeps s (s.taddHeader k j) := by
  simp [State.taddHeader]

@[simp] theorem State.xferRead_keeps (s : State) (k : Nat) (j : XferJob) : Keeps s (s.xferRead k j) := by
  simp [State.xferRead]

@[simp] theorem State.xferEnd_keeps (s : State) (k : Nat) (j : XferJob) (dup : Bool) (e : Ecc) (off : Nat) :
    Keeps s (s.xferEnd k j dup e off) := by
  simp [State.xferEnd]

@[simp] theorem State.memEnd_keeps (s : State) (k : Nat) (j : MemJob) : Keeps s (s.memEnd k j) := by
  simp [State.memEnd]

@[simp] theorem State.ladleHeaders_keeps (s : State) (k t : Nat) : Keeps s (s.ladleHeaders k t) := by
  simp [State.ladleHeaders]

@[simp] theorem State.settle_keeps (s : State) (k t : Nat) : Keeps s (s.settle k t) := by
  simp only [State.settle]
  (repeat' split) <;> simp

@[simp] theorem State.heldUntil_keeps (s : State) (k t : Nat) : Keeps s (s.heldUntil k t) := by
  simp only [State.heldUntil]
  split <;> simp

@[simp] theorem State.advance_keeps (s : State) (k t : Nat) : Keeps s (s.advance k t) := by
  simp [State.advance]

@[simp] theorem State.settleAll_keeps (s : State) (t : Nat) : Keeps s (s.settleAll t) := by
  simp [State.settleAll]

@[simp] theorem State.noteTable_keeps (s : State) (k a : Nat) : Keeps s (s.noteTable k a) := by
  unfold State.noteTable
  split <;> simp

theorem State.sendReq_keeps {s : State} {k q : Nat} {e : QEnt} {r : State × QEnt} (h : s.sendReq k q e = some r) :
    Keeps s r.1 := by
  unfold State.sendReq at h
  extract_lets at h
  split at h
  · cases h
  · cases h
    exact ⟨rfl, rfl, rfl⟩

@[simp] theorem State.sendReqs_keeps (k q n : Nat) (s : State) (e : QEnt) : Keeps s (State.sendReqs k q n s e).1 := by
  induction n generalizing s e with
  | zero => simp [State.sendReqs]
  | succ n ih =>
    rw [State.sendReqs]
    split
    · simp
    · split
      next r h => simp [ih, State.sendReq_keeps h]
      · simp

@[simp] theorem State.descFault_keeps (s : State) (k : Nat) (e : QEnt) : Keeps s (s.descFault k e) := by
  simp [State.descFault]

@[simp] theorem State.pumpGo_keeps (k q : Nat) (l : List QEnt) (s : State) : Keeps s (State.pumpGo k q l s).1 := by
  induction l generalizing s with
  | nil => simp [State.pumpGo]
  | cons e l ih =>
    simp only [State.pumpGo]
    (repeat' split) <;> simp [ih]

@[simp] theorem State.pump_keeps (s : State) (k q : Nat) : Keeps s (s.pump k q) := by
  simp [State.pump]

@[simp] theorem State.handPackets_keeps (l : List Packet) (s : State) : Keeps s (State.handPackets l s).1 := by
  induction l generalizing s with
  | nil => simp [State.handPackets]
  | cons p l ih =>
    rw [State.handPackets]
    split <;> simp [ih]

@[simp] theorem State.handOver_keeps (s : State) (k : Nat) : Keeps s (s.handOver k) := by
  simp only [State.handOver]
  (repeat' split) <;> simp

@[simp] theorem State.flush_keeps (s : State) (k : Nat) : Keeps s (s.flush k) := by
  simp only [State.flush]
  (repeat' split) <;> simp

@[simp] theorem State.flushAll_keeps (s : State) : Keeps s s.flushAll := by
  simp [State.flushAll]

@[simp] theorem State.openBundle_keeps (s : State) (k : Nat) : KeepsQueue s (s.openBundle k) := by
  simp [State.openBundle]

@[simp] theorem State.issued_keeps (s : State) (io : Issue) (o : Op) : Keeps s (s.issued io o) := by
  simp [State.issued]

@[simp] theorem State.atIssue_keeps (s : State) (io : Issue) : KeepsQueue s (s.atIssue io) := by
  unfold State.atIssue
  split <;> simp

@[simp] theorem State.nameOp_keeps (s : State) (k : Nat) (o : Op) : Keeps s (s.nameOp k o) := ⟨rfl, rfl, rfl⟩
@[simp] theorem State.noteViol_keeps (s : State) (k : Nat) (o : Op) (v : Nat) : Keeps s (s.noteViol k o v) := ⟨rfl, rfl, rfl⟩

/-- What an operation does before and besides its own effect leaves the queue. -/
theorem present_keeps {eff : State → State} (h : ∀ s, KeepsQueue s (eff s)) (s : State) (io : Issue) (info : State → Op) :
    KeepsQueue s (present s io info eff) := by
  simp only [present]
  (repeat' split) <;> simp [h]

@[simp] theorem State.xferBy_keeps (s : State) (k : Nat) (e : Eng) (a n : Nat) : KeepsQueue s (s.xferBy k e a n) := by
  simp only [State.xferBy]
  (repeat' split) <;> simp

@[simp] theorem State.runTo_keeps (s : State) (k t : Nat) : KeepsQueue s (s.runTo k t) := by
  simp [State.runTo]

@[simp] theorem State.evCore_keeps (s : State) (k : Nat) (f : Core → Core) : Keeps s (s.evCore k f) := ⟨rfl, rfl, rfl⟩

/-! ## The MAT, SYNC and MOV slots, the data mesh -/

@[simp] theorem State.flitOut_keeps (s : State) (k ch : Nat) (b : Bnd) (f : SFlit) : Keeps s (s.flitOut k ch b f) := by
  simp [State.flitOut]

@[simp] theorem State.sendCredit_keeps (s : State) (k src ch n : Nat) : Keeps s (s.sendCredit k src ch n) := by
  simp [State.sendCredit]

theorem State.ringTake_keeps {s t : State} {k ch : Nat} {p : Packet} (h : s.ringTake k ch p = some t) : KeepsQueue s t := by
  simp only [State.ringTake] at h
  split at h
  · cases h
  · split at h
    · cases h
    next hp =>
      cases h
      split at hp
      · cases hp
        split <;> simp
      · split at hp
        · cases hp
          (repeat' split) <;> simp
        · cases hp

@[simp] theorem State.ringDrain_keeps (k ch n : Nat) (s : State) : KeepsQueue s (State.ringDrain k ch n s) := by
  induction n generalizing s with
  | zero => simp [State.ringDrain]
  | succ n ih =>
    simp only [State.ringDrain]
    split
    · simp
    · split
      next h => simp [ih, State.ringTake_keeps h]
      · split <;> simp

@[simp] theorem State.ringArrive_keeps (s : State) (k ch : Nat) (p : Packet) : KeepsQueue s (s.ringArrive k ch p) := by
  simp only [State.ringArrive]
  split
  · simp
  · split
    next h => exact State.ringTake_keeps h
    · simp

@[simp] theorem State.winArrive_keeps (s : State) (k ch lineOff : Nat) (p : Packet) :
    KeepsQueue s (s.winArrive k ch lineOff p) := by
  simp only [State.winArrive]
  (repeat' split) <;> simp

@[simp] theorem State.portArrive_keeps (s : State) (k ch : Nat) (p : Packet) :
    Keeps s (s.portArrive k ch p) := ⟨rfl, rfl, rfl⟩

@[simp] theorem State.deliver_keeps (s : State) (k ch lineOff : Nat) (p : Packet) :
    KeepsQueue s (s.deliver k ch lineOff p) := by
  simp only [State.deliver]
  split <;> simp

@[simp] theorem State.waitRefresh_keeps (s : State) (stack l n : Nat) : KeepsQueue s (s.waitRefresh stack l n) := by
  unfold State.waitRefresh
  split <;> simp

@[simp] theorem State.readCmps_keeps (s : State) (h : Hdr) (stack lo n : Nat) : Keeps s (s.readCmps h stack lo n) := by
  simp [State.readCmps]

@[simp] theorem State.e2eFault_keeps (s : State) (k haddr lines : Nat) : Keeps s (s.e2eFault k haddr lines) := by
  simp [State.e2eFault]

@[simp] theorem State.noteDone_keeps (s : State) (k : Nat) (e : QEnt) : Keeps s (s.noteDone k e) := by
  simp [State.noteDone]

@[simp] theorem State.setStream_keeps (s : State) (i : Nat) (x : Stream) : Keeps s (s.setStream i x) := ⟨rfl, rfl, rfl⟩

@[simp] theorem State.takeSettings_keeps (s : State) : Keeps s s.takeSettings := by
  simp [State.takeSettings]

@[simp] theorem State.portPump_keeps (s : State) (port : Nat) : Keeps s (s.portPump port) := by
  simp [State.portPump]

@[simp] theorem State.queueFrame_keeps (s : State) (port : Nat) (f : GlpFrame) : Keeps s (s.queueFrame port f) := by
  simp [State.queueFrame]

@[simp] theorem State.glpDiscard_keeps (s : State) (n : Nat) : Keeps s (s.glpDiscard n) := ⟨rfl, rfl, rfl⟩

@[simp] theorem State.forward_keeps (s : State) (f : GlpFrame) (came : Option Nat) : Keeps s (s.forward f came) := by
  simp only [State.forward]
  (repeat' split) <;> simp

@[simp] theorem State.glpSend_keeps (s : State) (g : GlpSpec) : Keeps s (s.glpSend g) := by
  simp [State.glpSend]

@[simp] theorem State.toHost_keeps (s : State) (op arg sess tag : Nat) (payload : Bytes) :
    Keeps s (s.toHost op arg sess tag payload) := by
  unfold State.toHost
  (repeat' split) <;> simp

@[simp] theorem State.sendConcordOn_keeps (s : State) (port : Nat) : Keeps s (s.sendConcordOn port) := by
  simp [State.sendConcordOn]

@[simp] theorem State.sendConcord_keeps (s : State) (d : Nat) : Keeps s (s.sendConcord d) := by
  simp [State.sendConcord]

@[simp] theorem State.reConcord_keeps (s : State) : Keeps s s.reConcord := by
  simp [State.reConcord]

/-! ## What the commands of the panel share -/

@[simp] theorem State.classify_keeps (s : State) (f retry kind action : Nat) : Keeps s (s.classify f retry kind action) := by
  simp [State.classify]

@[simp] theorem State.abandonRep_keeps (s : State) (site : Nat) : Keeps s (s.abandonRep site) := ⟨rfl, rfl, rfl⟩

@[simp] theorem State.wantPower_keeps (s : State) (site : Nat) : Keeps s (s.wantPower site) := by
  simp [State.wantPower]

@[simp] theorem State.displace_keeps (s : State) (ds : List Desc) : Keeps s (s.displace ds) := ⟨rfl, rfl, rfl⟩

@[simp] theorem State.unswap_keeps (s : State) (src : Nat) : Keeps s (s.unswap src) := by
  unfold State.unswap
  split <;> simp

@[simp] theorem State.discard_keeps (s : State) : Keeps s s.discard := by
  simp [State.discard]

@[simp] theorem State.stopAttempt_keeps (s : State) : Keeps s s.stopAttempt := by
  unfold State.stopAttempt
  split <;> simp

@[simp] theorem State.dropCmd_keeps (s : State) (p : Bool) : Keeps s (s.dropCmd p) := by
  simp [State.dropCmd]

@[simp] theorem State.holdNext_keeps (s : State) (cause : Nat) : Keeps s (s.holdNext cause) := by
  simp [State.holdNext]

@[simp] theorem State.toHold_keeps (s : State) (cause : Nat) : Keeps s (s.toHold cause) := by
  simp [State.toHold]

@[simp] theorem State.endHeld_keeps (s : State) : Keeps s s.endHeld := by
  simp [State.endHeld]

@[simp] theorem State.cancelFlips_keeps (s : State) : Keeps s s.cancelFlips := by
  simp [State.cancelFlips]

@[simp] theorem State.toSafe_keeps (s : State) (cause : Nat) : Keeps s (s.toSafe cause) := by
  simp [State.toSafe]

@[simp] theorem State.writeCode_keeps (s : State) (p : Prog) (site vd : Nat) : Keeps s (s.writeCode p site vd) := by
  simp [State.writeCode]

@[simp] theorem State.writeLoadCopy_keeps (s : State) (p : Prog) (site vd : Nat) : Keeps s (s.writeLoadCopy p site vd) := by
  simp [State.writeLoadCopy]

@[simp] theorem State.enterDie_keeps (s : State) (site vd : Nat) (fromLoad : Bool) :
    Keeps s (s.enterDie site vd fromLoad) := by
  unfold State.enterDie
  split <;> simp

@[simp] theorem State.clearCores_keeps (s : State) (site : Nat) : Keeps s (s.clearCores site) := ⟨rfl, rfl, rfl⟩

@[simp] theorem State.leave_keeps (s : State) (site : Nat) : Keeps s (s.leave site) := by
  simp [State.leave]

@[simp] theorem State.clearProgram_keeps (s : State) : Keeps s s.clearProgram := by
  simp [State.clearProgram]

@[simp] theorem State.unloadNow_keeps (s : State) : Keeps s s.unloadNow := by
  simp [State.unloadNow]

@[simp] theorem State.isolateDie_keeps (s : State) (site cause : Nat) : Keeps s (s.isolateDie site cause) := by
  simp [State.isolateDie]

@[simp] theorem State.startRoll_keeps (s : State) (vd : Nat) (att : Option Nat) : Keeps s (s.startRoll vd att) := by
  simp [State.startRoll]

@[simp] theorem State.writeMoves_keeps (s : State) (mv : List (Nat × Nat)) : Keeps s (s.writeMoves mv) := by
  simp [State.writeMoves]

@[simp] theorem State.rollTargets_keeps (s : State) : Keeps s s.rollTargets := by
  unfold State.rollTargets
  split
  · simp
  · extract_lets u
    have hu : Keeps s u := foldl_keeps (fun s v => by simp only; (repeat' split) <;> simp) _ s
    clear_value u
    (repeat' split) <;> simp [hu]

@[simp] theorem State.rollSlots_keeps (s : State) : Keeps s s.rollSlots := by
  unfold State.rollSlots
  split <;> simp

@[simp] theorem State.restartServices_keeps (s : State) (site pair : Nat) : Keeps s (s.restartServices site pair) := by
  unfold State.restartServices
  split <;> simp

@[simp] theorem State.dieLoss_keeps (s : State) (site det unit : Nat) : Keeps s (s.dieLoss site det unit) := by
  unfold State.dieLoss
  extract_lets d
  split
  · simp
  · next vd fr s1 s2 mine late asDst s3 s4 s5 s6 s7 _ _ s8 _ _ _ _ s9 _ =>
    have h8 : Keeps s s8 := by simp [s8, s7, s6, s5, s4, s3, s2, s1]
    have h9 : Keeps s8 s9 := by
      clear_value asDst s8
      cases asDst <;> simp +zetaDelta
    refine (h8.trans h9).trans ?_
    clear_value s9 vd mine fr
    cases vd <;> cases mine <;> simp

@[simp] theorem State.hubLoss_keeps (s : State) (hub det : Nat) : Keeps s (s.hubLoss hub det) := by
  simp [State.hubLoss]

@[simp] theorem State.revoke_keeps (s : State) (reason first last sample vd site r1 r2 : Nat) :
    Keeps s (s.revoke reason first last sample vd site r1 r2) := ⟨rfl, rfl, rfl⟩

@[simp] theorem State.sendQuench_keeps (s : State) (q : Quench) : Keeps s (s.sendQuench q) := ⟨rfl, rfl, rfl⟩

@[simp] theorem State.quench_keeps (s : State) (cause : Nat) : Keeps s (s.quench cause) := by
  simp [State.quench]

/-! ## Slots, ticks, attempts, audits and operating points -/

@[simp] theorem State.takeSnap_keeps (s : State) (slot : Nat) : Keeps s (s.takeSnap slot) := by
  unfold State.takeSnap
  extract_lets bad snap _ s1 s2
  have h2 : Keeps s1 s2 := foldl_keeps (fun s x => by simp only; split <;> simp) _ _
  simpa +zetaDelta using h2

@[simp] theorem State.foldEpoch_keeps (s : State) : Keeps s s.foldEpoch := by
  simp [State.foldEpoch]

@[simp] theorem State.noteStall_keeps (s : State) : Keeps s s.noteStall := by
  simp [State.noteStall]

@[simp] theorem State.rehearse_keeps (s : State) (frame : Nat) (missed : List Nat) : Keeps s (s.rehearse frame missed) := by
  unfold State.rehearse
  refine foldl_keeps (fun s i => ?_) _ s
  simp only
  (repeat' split) <;> simp

@[simp] theorem State.fault_keeps (s : State) (frame cause retry : Nat) : Keeps s (s.fault frame cause retry) := by
  simp [State.fault]

@[simp] theorem State.postReplay_keeps (s : State) (frame : Nat) (late : Bool) :
    Keeps s (s.postReplay frame late) := ⟨rfl, rfl, rfl⟩

@[simp] theorem State.swapOut_keeps (s : State) (frame site det : Nat) : Keeps s (s.swapOut frame site det) := by
  simp [State.swapOut]

@[simp] theorem State.failAttempt_keeps (s : State) (a : Attempt) (sig : Sig) (inexactOnly late : Bool) :
    Keeps s (s.failAttempt a sig inexactOnly late) := by
  unfold State.failAttempt
  extract_lets _ s1
  split
  · simp +zetaDelta
  · next n first s2 _ =>
    have h2 : Keeps s s2 := by simp +zetaDelta
    clear_value s2 first
    (repeat' split) <;> simp [h2]

@[simp] theorem State.deadlockRecords_keeps (s : State) (l : List Nat) : Keeps s (s.deadlockRecords l) := by
  simp [State.deadlockRecords]

@[simp] theorem State.finishAttempt_keeps (s : State) (a : Attempt) (missed : List Nat) :
    Keeps s (s.finishAttempt a missed) := by
  simp [State.finishAttempt]

@[simp] theorem State.giveCredits_keeps (s : State) : Keeps s s.giveCredits := by
  simp [State.giveCredits]

@[simp] theorem State.startCopy_keeps (s : State) (frame : Nat) : Keeps s (s.startCopy frame) := by
  unfold State.startCopy
  split <;> simp

@[simp] theorem State.startCores_keeps (s : State) : Keeps s s.startCores := by
  simp [State.startCores]

@[simp] theorem State.tableCounts_keeps (s : State) : Keeps s s.tableCounts := by
  unfold State.tableCounts
  split
  · simp
  · exact foldl_keeps (fun s t => by split <;> simp) _ s

@[simp] theorem State.startAttempt_keeps (s : State) (a : Attempt) (kind : SlotKind) : Keeps s (s.startAttempt a kind) := by
  simp [State.startAttempt]

@[simp] theorem State.capsDue_keeps (s : State) : Keeps s s.capsDue := by
  simp [State.capsDue]

@[simp] theorem State.thermalBudget_keeps (s : State) : Keeps s s.thermalBudget := by
  simp [State.thermalBudget]

@[simp] theorem State.vinSlot_keeps (s : State) : Keeps s s.vinSlot := ⟨rfl, rfl, rfl⟩
theorem Keeps.setNum {s t : State} (h : Keeps s t) (k n : Nat) : Keeps s (t.setNum k n) := h

@[simp] theorem State.notePower_keeps (s : State) : Keeps s s.notePower := by
  unfold State.notePower
  split
  · simp
  · exact (((foldl_keeps (fun s i => by simp) _ s).setNum _ _).setNum _ _).setNum _ _

@[simp] theorem State.budget_keeps (s : State) : Keeps s s.budget := by
  simp [State.budget]

@[simp] theorem State.rotate_keeps (s : State) : Keeps s s.rotate := by
  unfold State.rotate
  refine foldl_keeps (fun s c => ?_) _ s
  simp only
  split <;> simp

@[simp] theorem State.stragglers_keeps (s : State) : Keeps s s.stragglers := by
  simp [State.stragglers]

@[simp] theorem State.keepNew_keeps (s : State) : Keeps s s.keepNew := by
  simp [State.keepNew]

@[simp] theorem State.stopTest_keeps (s : State) (r : MigReq) : Keeps s (s.stopTest r) := by
  unfold State.stopTest
  (repeat' split) <;> simp

@[simp] theorem State.stopTests_keeps (s : State) : Keeps s s.stopTests := by
  simp [State.stopTests]

@[simp] theorem State.takeReq_keeps (s : State) (r : MigReq) : Keeps s (s.takeReq r) := by
  simp only [State.takeReq]
  (repeat' split) <;> simp

@[simp] theorem State.chooseMigs_keeps (s : State) : Keeps s s.chooseMigs := by
  simp [State.chooseMigs]

@[simp] theorem State.cancelMigs_keeps (s : State) : Keeps s s.cancelMigs := by
  simp [State.cancelMigs]

@[simp] theorem State.endBlank_keeps (s : State) : Keeps s s.endBlank := by
  simp [State.endBlank]

@[simp] theorem State.dueNow_keeps (s : State) : Keeps s s.dueNow := by
  simp [State.dueNow]

@[simp] theorem State.pendingCmds_keeps (s : State) : Keeps s s.pendingCmds := by
  simp [State.pendingCmds]

@[simp] theorem State.portCounts_keeps (s : State) (slot : Nat) : Keeps s (s.portCounts slot) := by
  simp [State.portCounts]

@[simp] theorem State.boundary_keeps (s : State) (slot : Nat) (missed : List Nat) : Keeps s (s.boundary slot missed) := by
  simp only [State.boundary]
  (repeat' split) <;> simp

@[simp] theorem State.openKind_keeps (s : State) (kind : SlotKind) : Keeps s (s.openKind kind) := ⟨rfl, rfl, rfl⟩
@[simp] theorem State.popDesc_keeps (s : State) : Keeps s s.popDesc := ⟨rfl, rfl, rfl⟩

@[simp] theorem State.openRoll_keeps (s : State) (r : Rollback) : Keeps s (s.openRoll r) := by
  simp [State.openRoll]

@[simp] theorem State.endRoll_keeps (s : State) (r : Rollback) : Keeps s (s.endRoll r) := by
  unfold State.endRoll
  split <;> simp

@[simp] theorem State.announceStretch_keeps (s : State) : Keeps s s.announceStretch := by
  simp [State.announceStretch]

@[simp] theorem State.belowFloor_keeps (s : State) (site : Nat) : Keeps s (s.belowFloor site) := by
  unfold State.belowFloor
  split <;> simp

@[simp] theorem State.floorsHeld_keeps (s : State) : Keeps s s.floorsHeld := by
  simp [State.floorsHeld]

@[simp] theorem State.openPosted_keeps (s : State) (slot : Nat) : Keeps s (s.openPosted slot) := by
  simp only [State.openPosted]
  split <;> simp

@[simp] theorem State.openSlot_keeps (s : State) (slot : Nat) : Keeps s (s.openSlot slot) := by
  unfold State.openSlot
  split <;> simp

@[simp] theorem State.openWindow_keeps (s : State) (j : Nat) : Keeps s (s.openWindow j) := by
  simp [State.openWindow]

@[simp] theorem State.putDescs_keeps (s : State) (ds : List Desc) : Keeps s (s.putDescs ds) := ⟨rfl, rfl, rfl⟩

@[simp] theorem State.endStretch_keeps (s : State) : Keeps s s.endStretch := by
  simp [State.endStretch]

@[simp] theorem State.postProgram_keeps (s : State) : Keeps s s.postProgram := by
  simp [State.postProgram]

@[simp] theorem State.postRoll_keeps (s : State) (r : Rollback) : Keeps s (s.postRoll r) := by
  unfold State.postRoll
  (repeat' split) <;> simp

@[simp] theorem State.postNext_keeps (s : State) : Keeps s s.postNext := by
  simp only [State.postNext]
  (repeat' split) <;> simp

@[simp] theorem State.passFrame_keeps (s : State) (e : Ended) : Keeps s (s.passFrame e) := by
  unfold State.passFrame
  (repeat' split) <;> simp

@[simp] theorem State.reSafe_keeps (s : State) (site : Nat) : Keeps s (s.reSafe site) := by
  simp [State.reSafe]

@[simp] theorem State.setSafe_keeps (s : State) (site point : Nat) : Keeps s (s.setSafe site point) := by
  simp [State.setSafe]

/-! ## Calibration, the digest chain, replays, references and TIME, checkpoints -/

@[simp] theorem State.calLoad_keeps (s : State) (i : Nat) : Keeps s (s.calLoad i) := by
  simp [State.calLoad]

@[simp] theorem State.advanceFinal_keeps (s : State) (f : Nat) : Keeps s (s.advanceFinal f) := by
  simp [State.advanceFinal]

@[simp] theorem State.signCert_keeps (s : State) (last : Nat) (demand : Bool) : Keeps s (s.signCert last demand) := by
  simp [State.signCert]

@[simp] theorem State.writeReadBuf_keeps (s : State) (site vd : Nat) : Keeps s (s.writeReadBuf site vd) := by
  simp [State.writeReadBuf]

@[simp] theorem State.samplePassed_keeps (s : State) (vd : Nat) : Keeps s (s.samplePassed vd) := by
  unfold State.samplePassed
  split <;> simp

@[simp] theorem State.recoverReplay_keeps (s : State) (vd first : Nat) : Keeps s (s.recoverReplay vd first) := by
  simp [State.recoverReplay]

@[simp] theorem State.secondReplay_keeps (s : State) (r : Rep) (digest orig : Bytes) :
    Keeps s (s.secondReplay r digest orig) := by
  simp only [State.secondReplay]
  (repeat' split) <;> simp

@[simp] theorem State.switchTo_keeps (s : State) (i : RefIn) : Keeps s (s.switchTo i) := ⟨rfl, rfl, rfl⟩

@[simp] theorem State.stepTime_keeps (s : State) (d : Int) : KeepsQueue s (s.stepTime d) := by
  simp [State.stepTime]

@[simp] theorem State.slew_keeps (s : State) (d : Int) : Keeps s (s.slew d) := ⟨rfl, rfl, rfl⟩

@[simp] theorem State.follow_keeps (s : State) (d : Int) : KeepsQueue s (s.follow d) := by
  simp [State.follow]

@[simp] theorem State.discipline_keeps (s : State) (d : Int) : KeepsQueue s (s.discipline d) := by
  simp [State.discipline]

@[simp] theorem State.pageWrite_keeps (s : State) (p : Prog) (w : PageWrite) : Keeps s (s.pageWrite p w) := by
  simp only [State.pageWrite]
  (repeat' split) <;> simp

@[simp] theorem State.writeCk_keeps (s : State) (p : Prog) (c : Ck) : Keeps s (s.writeCk p c) := by
  simp [State.writeCk]

@[simp] theorem State.commit_keeps (s : State) (c : Ck) : Keeps s (s.commit c) := ⟨rfl, rfl, rfl⟩

@[simp] theorem State.putBuf_keeps (s : State) (p : Prog) (odd epoch : Bool) (b : CkBuf) (d : Bytes) :
    Keeps s (s.putBuf p odd epoch b d) := by
  simp only [State.putBuf]
  (repeat' split) <;> simp

@[simp] theorem State.putData_keeps (s : State) (p : Prog) (resume : Nat) (epoch : Bool) (data : Bytes) :
    Keeps s (s.putData p resume epoch data) := by
  simp [State.putData]

@[simp] theorem State.putTables_keeps (s : State) (epoch : Bool) (t : SMap (BitVec 32)) : Keeps s (s.putTables epoch t) :=
  foldl_keeps (fun s key => by split <;> simp) _ s

@[simp] theorem State.restore_keeps (s : State) (p : Prog) (c : Ck) (epoch : Bool) (data : Bytes) :
    Keeps s (s.restore p c epoch data) := by
  simp [State.restore]

@[simp] theorem State.countMig_keeps (s : State) (prio : Nat) : Keeps s (s.countMig prio) := by
  simp [State.countMig]

@[simp] theorem State.moveVd_keeps (s : State) (m : Nat × Nat × Nat) : Keeps s (s.moveVd m) := by
  simp [State.moveVd]

@[simp] theorem State.syncWords_keeps (s : State) (key : Nat) (words : List (BitVec 96 × BitVec 96)) :
    Keeps s (s.syncWords key words).1 :=
  foldl_fst_keeps (fun r w => by simp only; split <;> simp) words (s, false)

@[simp] theorem State.syncDown_keeps (s : State) (link : SyncLink) : Keeps s (s.syncDown link) := by
  unfold State.syncDown
  split <;> simp

@[simp] theorem State.copySpads_keeps (s : State) (src dst vd : Nat) : Keeps s (s.copySpads src dst vd) := by
  simp [State.copySpads]

@[simp] theorem State.losePanel_keeps (s : State) (nb : Nat) : Keeps s (s.losePanel nb) := by
  simp [State.losePanel]

@[simp] theorem State.freezePair_keeps (s : State) (site pair : Nat) : Keeps s (s.freezePair site pair) := by
  simp [State.freezePair]

@[simp] theorem State.ccReply_keeps (s : State) (h : Hdr) (refused : Bool) (data : Bytes) :
    Keeps s (s.ccReply h refused data) := by
  simp [State.ccReply]

@[simp] theorem State.ccRefuse_keeps (s : State) (h : Hdr) : Keeps s (s.ccRefuse h) := by
  unfold State.ccRefuse
  split <;> simp

@[simp] theorem State.adminRoute_keeps (s : State) (h : Hdr) (e : RouteEnt) : Keeps s (s.adminRoute h e) := by
  simp [State.adminRoute]

/-! ## Resets, power, sessions and ports -/

@[simp] theorem State.vinOff_keeps (s : State) : Keeps s s.vinOff := ⟨rfl, rfl, rfl⟩

@[simp] theorem State.panelReset_keeps (s : State) (cause : Nat) (cold : Bool) : Keeps s (s.panelReset cause cold) := by
  simp [State.panelReset]

@[simp] theorem State.resetInto_keeps (s : State) (p : PanelSt) (old : PanelSt) :
    Keeps s (s.resetInto p old) := ⟨rfl, rfl, rfl⟩

@[simp] theorem State.meshLock_keeps (s : State) : Keeps s s.meshLock := by
  simp [State.meshLock]

@[simp] theorem State.simmerStacks_keeps (s : State) : Keeps s s.simmerStacks := by
  simp [State.simmerStacks]

@[simp] theorem State.stageStart_keeps (s : State) (n : Nat) : Keeps s (s.stageStart n) := ⟨rfl, rfl, rfl⟩

@[simp] theorem State.stageHalt_keeps (s : State) (n code : Nat) : Keeps s (s.stageHalt n code) := by
  simp [State.stageHalt]

@[simp] theorem State.startBringup_keeps (s : State) (fast : Bool) : Keeps s (s.startBringup fast) := by
  simp [State.startBringup]

@[simp] theorem State.toSimmer_keeps (s : State) (auto : Bool) : Keeps s (s.toSimmer auto) := by
  simp only [State.toSimmer]
  split <;> simp

@[simp] theorem State.unqueue_keeps (s : State) (site : Nat) : Keeps s (s.unqueue site) := ⟨rfl, rfl, rfl⟩

@[simp] theorem State.loseSite_keeps (s : State) (site : Nat) : Keeps s (s.loseSite site) := by
  simp [State.loseSite]

@[simp] theorem State.excludeSite_keeps (s : State) (n : Nat) (x : Nat × Nat) : Keeps s (s.excludeSite n x) := by
  simp [State.excludeSite]

@[simp] theorem State.vinDown_keeps (s : State) : Keeps s s.vinDown := by
  simp [State.vinDown]

@[simp] theorem State.retire_keeps (s : State) (site prio : Nat) : Keeps s (s.retire site prio) := by
  unfold State.retire
  split <;> simp

@[simp] theorem State.restarted_keeps (s : State) : Keeps s s.restarted := by
  simp [State.restarted]

@[simp] theorem State.connWarning_keeps (s : State) (site point : Nat) : Keeps s (s.connWarning site point) := by
  simp [State.connWarning]

@[simp] theorem State.updSession_keeps (s : State) (n : Nat) (f : Session → Session) : Keeps s (s.updSession n f) := by
  simp [State.updSession]

@[simp] theorem State.closeSession_keeps (s : State) (n : Nat) : Keeps s (s.closeSession n) := ⟨rfl, rfl, rfl⟩
@[simp] theorem State.touch_keeps (s : State) (n : Nat) : Keeps s (s.touch n) := ⟨rfl, rfl, rfl⟩

@[simp] theorem State.freezeSession_keeps (s : State) (n : Nat) : Keeps s (s.freezeSession n) := by
  unfold State.freezeSession
  split <;> simp

@[simp] theorem State.deny_keeps (s : State) (n : Nat) : Keeps s (s.deny n) := by
  simp [State.deny]

@[simp] theorem State.addSession_keeps (s : State) (x : Session) : Keeps s (s.addSession x) := ⟨rfl, rfl, rfl⟩

theorem State.inband_keeps {s t : State} {n : Nat} (h : s.inband n = some t) : Keeps s t := by
  obtain ⟨a, rfl⟩ := inband_eq h
  exact ⟨rfl, rfl, rfl⟩

@[simp] theorem State.dropPort_keeps (s : State) (port : Nat) : Keeps s (s.dropPort port) := by
  unfold State.dropPort
  extract_lets p n s1
  exact Keeps.trans (by simp [s1]) (foldl_keeps (fun s f => by split <;> simp) _ s1)

@[simp] theorem State.linkCtl_keeps (s : State) (port op : Nat) : Keeps s (s.linkCtl port op) := by
  simp [State.linkCtl]

@[simp] theorem State.glpHeaderFault_keeps (s : State) (port n : Nat) : Keeps s (s.glpHeaderFault port n) := ⟨rfl, rfl, rfl⟩

@[simp] theorem State.expDelivery_keeps (s : State) (t : Nat) : Keeps s (s.expDelivery t) := by
  simp [State.expDelivery]

@[simp] theorem State.groupDrift_keeps (s : State) : Keeps s s.groupDrift := by
  simp [State.groupDrift]

@[simp] theorem State.hostPacket_keeps (s : State) (sess : Nat) : Keeps s (s.hostPacket sess).1 := by
  unfold State.hostPacket
  split
  · simp
  next h =>
    split <;> exact State.inband_keeps h

@[simp] theorem State.answer_keeps (s : State) (r : Request) (status flags : Nat) : Keeps s (s.answer r status flags) := by
  simp [State.answer]

@[simp] theorem State.passOn_keeps (s : State) (r : Request) (target : Nat) : Keeps s (s.passOn r target) := by
  simp [State.passOn]

@[simp] theorem State.complete_keeps (s : State) (r : Request) : Keeps s (s.complete r) := by
  unfold State.complete
  split <;> simp

@[simp] theorem State.sendNotice_keeps (s : State) (kind op : Nat) : Keeps s (s.sendNotice kind op) := by
  unfold State.sendNotice
  split <;> simp

@[simp] theorem State.sendColl_keeps (s : State) (c : Coll) (entry frame : Nat) (b : Bytes) :
    Keeps s (s.sendColl c entry frame b) := by
  simp [State.sendColl]

/-! ## Cooling, field test, bring-up and update, ladles -/

@[simp] theorem State.coolCheck_keeps (s : State) : Keeps s s.coolCheck := by
  simp [State.coolCheck]

@[simp] theorem State.quenchTrack_keeps (s : State) : Keeps s s.quenchTrack := by
  unfold State.quenchTrack
  split <;> simp

@[simp] theorem State.shutdown_keeps (s : State) : Keeps s s.shutdown := by
  simp [State.shutdown]

@[simp] theorem State.throttle_keeps (s : State) (site : Nat) : Keeps s (s.throttle site) := by
  simp only [State.throttle]
  (repeat' split) <;> simp

@[simp] theorem State.sampleDie_keeps (s : State) (site : Nat) (temps : List Int) :
    KeepsQueue s (s.sampleDie site temps) := by
  simp [State.sampleDie]

@[simp] theorem State.sampleHub_keeps (s : State) (hub : Nat) (temps : List Int) : KeepsQueue s (s.sampleHub hub temps) := by
  simp [State.sampleHub]

@[simp] theorem State.samplePort_keeps (s : State) (d : Nat) (temps : List Int) : KeepsQueue s (s.samplePort d temps) := by
  simp [State.samplePort]

@[simp] theorem State.railsOff_keeps (s : State) (q : Quench) : Keeps s (s.railsOff q) := by
  simp [State.railsOff]

@[simp] theorem State.testPass_keeps (s : State) (site : Nat) : Keeps s (s.testPass site) := by
  unfold State.testPass
  split <;> simp

@[simp] theorem State.excludeOther_keeps (s : State) (x : Nat × Nat) : Keeps s (s.excludeOther x) := by
  simp [State.excludeOther]

@[simp] theorem State.stage2_keeps (s : State) (found : List Nat) : Keeps s (s.stage2 found) := by
  simp [State.stage2]

@[simp] theorem State.stage4_keeps (s : State) : Keeps s s.stage4 := by
  unfold State.stage4
  extract_lets s1 s2 _
  have h1 : Keeps s s1 := by simp [s1]
  have h2 : Keeps s1 s2 := by
    clear_value s1
    exact foldl_keeps (fun s i => by split <;> simp) _ _
  have h : Keeps s s2 := h1.trans h2
  clear_value s2
  simp [h]

@[simp] theorem State.stage5_keeps (s : State) : Keeps s s.stage5 := by
  simp [State.stage5]

@[simp] theorem State.stage6_keeps (s : State) (note : Nat) : Keeps s (s.stage6 note) := by
  simp [State.stage6]

@[simp] theorem State.stage8_keeps (s : State) : Keeps s s.stage8 := by
  simp [State.stage8]

@[simp] theorem State.stage10_keeps (s : State) : Keeps s s.stage10 := by
  simp [State.stage10]

@[simp] theorem State.stageWork_keeps (s : State) (n : Nat) (out : StageOutcome) : Keeps s (s.stageWork n out) := by
  unfold State.stageWork
  split <;> simp

@[simp] theorem State.updateCert_keeps (s : State) : Keeps s s.updateCert := by
  simp [State.updateCert]

@[simp] theorem State.fwNext_keeps (s : State) (n : Nat) : Keeps s (s.fwNext n) := ⟨rfl, rfl, rfl⟩

@[simp] theorem State.updateSpares_keeps (s : State) : Keeps s s.updateSpares := by
  simp [State.updateSpares]

@[simp] theorem State.updateActive_keeps (s : State) : Keeps s s.updateActive := by
  simp [State.updateActive]

@[simp] theorem State.updateHubs_keeps (s : State) : Keeps s s.updateHubs := by
  unfold State.updateHubs
  (repeat' split) <;> simp

@[simp] theorem State.updateTrivets_keeps (s : State) : Keeps s s.updateTrivets := by
  simp [State.updateTrivets]

@[simp] theorem State.updateDone_keeps (s : State) : Keeps s s.updateDone := by
  simp [State.updateDone]

@[simp] theorem State.ladleRefuse_keeps (s : State) (h : Hdr) (entry : Nat) (flits : Nat) :
    Keeps s (s.ladleRefuse h entry flits) := by
  simp only [State.ladleRefuse]
  split <;> simp

@[simp] theorem State.ladleTake_keeps (s : State) (k : Nat) (h : Hdr) (b : Bytes) : Keeps s (s.ladleTake k h b) := by
  simp [State.ladleTake]

@[simp] theorem State.ladleFlits_keeps (s : State) (k : Nat) (p : Packet) : Keeps s (s.ladleFlits k p) := by
  simp [State.ladleFlits]

/-! ## The loader and the commands on objects -/

@[simp] theorem State.loadResult_keeps (s : State) (code detail sec : Nat) :
    Keeps s (s.loadResult code detail sec) := ⟨rfl, rfl, rfl⟩

/-- The next state of a command on an object, where it answers one, has the queue, the slot number and TIME of `s`. -/
def OkKeeps (s : State) (r : Except Nat State) : Prop := ∀ t, r = .ok t → Keeps s t

@[simp] theorem okKeeps_ok (s t : State) : OkKeeps s (.ok t) ↔ Keeps s t := by
  simp [OkKeeps]

@[simp] theorem okKeeps_error (s : State) (e : Nat) : OkKeeps s (.error e) := by
  simp [OkKeeps]

@[simp] theorem okKeeps_ite (s : State) (c : Prop) [Decidable c] (a b : Except Nat State) :
    OkKeeps s (if c then a else b) ↔ (c → OkKeeps s a) ∧ (¬ c → OkKeeps s b) := by
  split <;> simp [*]

@[simp] theorem State.cmdLoad_keeps (s : State) : OkKeeps s s.cmdLoad := by
  unfold State.cmdLoad
  (repeat' split) <;> simp

@[simp] theorem State.stopForLoad_keeps (s : State) (site : Nat) : Keeps s (s.stopForLoad site) := by
  simp [State.stopForLoad]

@[simp] theorem State.placeDie_keeps (s : State) (p : Prog) (site vd : Nat) : Keeps s (s.placeDie p site vd) := by
  simp [State.placeDie]

@[simp] theorem State.writeContent_keeps (s : State) (l : List (Nat × Bytes)) : Keeps s (s.writeContent l) := by
  simp [State.writeContent]

@[simp] theorem State.startServices_keeps (s : State) (p : Prog) : Keeps s (s.startServices p) := by
  unfold State.startServices
  split <;> simp

@[simp] theorem State.firstCheckpoint_keeps (s : State) (p : Prog) : Keeps s (s.firstCheckpoint p) := by
  simp [State.firstCheckpoint]

@[simp] theorem State.finishLoad_keeps (s : State) (l : Loading) : Keeps s (s.finishLoad l) := by
  simp [State.finishLoad]

@[simp] theorem State.returnDie_keeps (s : State) (p : Prog) (image : Bool) (site vd : Nat) :
    Keeps s (s.returnDie p image site vd) := by
  simp [State.returnDie]

@[simp] theorem State.spoil_keeps (s : State) (l : List (Nat × Bytes)) : Keeps s (s.spoil l) := by
  simp [State.spoil]

@[simp] theorem State.failLoad_keeps (s : State) (l : Loading) (detail : Nat) : Keeps s (s.failLoad l detail) := by
  simp [State.failLoad]

@[simp] theorem State.cmdStart_keeps (s : State) : OkKeeps s s.cmdStart := by
  simp [State.cmdStart]

@[simp] theorem State.cmdUnload_keeps (s : State) : OkKeeps s s.cmdUnload := by
  simp [State.cmdUnload]

@[simp] theorem State.cmdStage_keeps (s : State) (b : Bytes) : OkKeeps s (s.cmdStage b) := by
  simp [State.cmdStage]

@[simp] theorem State.clearStage_keeps (s : State) : Keeps s s.clearStage := ⟨rfl, rfl, rfl⟩

@[simp] theorem State.cmdFwStage_keeps (s : State) (b : Bytes) : OkKeeps s (s.cmdFwStage b) := by
  simp [State.cmdFwStage]

@[simp] theorem State.cmdHold_keeps (s : State) : OkKeeps s s.cmdHold := by
  simp [State.cmdHold]

@[simp] theorem State.cmdResume_keeps (s : State) : OkKeeps s s.cmdResume := by
  simp [State.cmdResume]

@[simp] theorem State.cmdBringup_keeps (s : State) : Keeps s s.cmdBringup := by
  simp [State.cmdBringup]

@[simp] theorem State.cmdWarmReset_keeps (s : State) : Keeps s s.cmdWarmReset := by
  simp [State.cmdWarmReset]

@[simp] theorem State.cmdSimmer_keeps (s : State) : OkKeeps s s.cmdSimmer := by
  simp [State.cmdSimmer]

@[simp] theorem State.cmdBringupCommand_keeps (s : State) (v : Nat) : OkKeeps s (s.cmdBringupCommand v) := by
  simp [State.cmdBringupCommand]

@[simp] theorem State.cmdRestart_keeps (s : State) : OkKeeps s s.cmdRestart := by
  simp [State.cmdRestart]

@[simp] theorem State.cmdDiscard_keeps (s : State) : OkKeeps s s.cmdDiscard := by
  simp [State.cmdDiscard]

@[simp] theorem State.cmdLiveUpdate_keeps (s : State) : OkKeeps s s.cmdLiveUpdate := by
  simp [State.cmdLiveUpdate]

@[simp] theorem State.cmdWriteOnly_keeps (s : State) (ok : Bool) : OkKeeps s (s.cmdWriteOnly ok) := by
  simp only [State.cmdWriteOnly]
  (repeat' split) <;> simp

@[simp] theorem State.thaw_keeps (s : State) (k : Nat) : Keeps s (s.thaw k) := by
  unfold State.thaw
  split <;> simp

@[simp] theorem State.cmdUnfreezeCore_keeps (s : State) (v : Nat) : Keeps s (s.cmdUnfreezeCore v) := by
  unfold State.cmdUnfreezeCore
  (repeat' split) <;> simp

@[simp] theorem State.cmdUnfreezePanel_keeps (s : State) (p : Nat) : Keeps s (s.cmdUnfreezePanel p) := by
  simp [State.cmdUnfreezePanel]

@[simp] theorem State.cmdUnfreezeCredential_keeps (s : State) (v : Nat) : Keeps s (s.cmdUnfreezeCredential v) := by
  simp [State.cmdUnfreezeCredential]

@[simp] theorem State.headTest_keeps (s : State) (site : Nat) : Keeps s (s.headTest site) := ⟨rfl, rfl, rfl⟩

@[simp] theorem State.cmdRelease_keeps (s : State) (site : Nat) : OkKeeps s (s.cmdRelease site) := by
  simp [State.cmdRelease]

@[simp] theorem State.cmdTestNow_keeps (s : State) (site : Nat) : OkKeeps s (s.cmdTestNow site) := by
  simp [State.cmdTestNow]

@[simp] theorem State.cmdLinkBringup_keeps (s : State) (d : Nat) : Keeps s (s.cmdLinkBringup d) := by
  simp [State.cmdLinkBringup]

@[simp] theorem State.cmdRoleInstall_keeps (s : State) (b : Bytes) : Keeps s (s.cmdRoleInstall b) := by
  unfold State.cmdRoleInstall
  split <;> simp

@[simp] theorem State.cmdRoleRemove_keeps (s : State) (e : Nat) : OkKeeps s (s.cmdRoleRemove e) := by
  simp [State.cmdRoleRemove]

@[simp] theorem State.cmdOwnerInstall_keeps (s : State) (b : Bytes) : Keeps s (s.cmdOwnerInstall b) := ⟨rfl, rfl, rfl⟩
@[simp] theorem State.cmdOwnerRemove_keeps (s : State) (i : Nat) : Keeps s (s.cmdOwnerRemove i) := ⟨rfl, rfl, rfl⟩

@[simp] theorem State.cmdCalSet_keeps (s : State) (i : Nat) (b : Bytes) : OkKeeps s (s.cmdCalSet i b) := by
  simp [State.cmdCalSet]

@[simp] theorem State.cmdCap_keeps (s : State) (amps : Bool) (k v : Nat) : OkKeeps s (s.cmdCap amps k v) := by
  simp [State.cmdCap]

@[simp] theorem State.cmdCoolant_keeps (s : State) (k v : Nat) : Keeps s (s.cmdCoolant k v) := by
  simp [State.cmdCoolant]

/-- A write that has passed its checks leaves the queue. -/
@[simp] theorem State.effect_keeps (s : State) (x : Session) (k : Nat) (ty : ObjTy) (b : Bytes) (ok : Bool) :
    OkKeeps s (s.effect x k ty b ok) := by
  simp [State.effect]

/-! ## The object-dictionary server and the VEC slot -/

@[simp] theorem State.readEffect_keeps (s : State) (x : Session) (k off : Nat) : Keeps s (s.readEffect x k off) := by
  simp [State.readEffect]

@[simp] theorem State.dropPart_keeps (s : State) (n k : Nat) : Keeps s (s.dropPart n k) := ⟨rfl, rfl, rfl⟩
@[simp] theorem State.keepPart_keeps (s : State) (n : Nat) (p : PartVal) : Keeps s (s.keepPart n p) := ⟨rfl, rfl, rfl⟩

@[simp] theorem State.respond_keeps (s : State) (q : UReq) (a : Resp) : Keeps s (s.respond q a) := by
  simp [State.respond]

theorem State.sessionOf_keeps {s t : State} {n : Nat} (h : s.sessionOf n = some t) : Keeps s t := by
  obtain ⟨a, rfl⟩ := sessionOf_eq h
  exact ⟨rfl, rfl, rfl⟩

@[simp] theorem refuse_keeps (s : State) (e : Nat) : Keeps s (refuse s e).1 := ⟨rfl, rfl, rfl⟩
@[simp] theorem grant_keeps (s : State) : Keeps s (grant s).1 := ⟨rfl, rfl, rfl⟩

@[simp] theorem State.denied_keeps (s : State) (n : Nat) : Keeps s (s.denied n).1 := by
  simp [State.denied]

@[simp] theorem State.doRead_keeps (s : State) (x : Session) (q : UReq) : Keeps s (s.doRead x q).1 := by
  simp only [State.doRead]
  (repeat' split) <;> simp

@[simp] theorem State.doWrite_keeps (s : State) (x : Session) (q : UReq) : Keeps s (s.doWrite x q).1 := by
  unfold State.doWrite
  split
  · simp
  split
  · simp
  extract_lets
  split
  · simp
  split
  · simp
  split
  · simp
  split
  · split <;> simp
  split
  · simp
  split
  · simp
  split
  · simp
  next h => simpa using State.effect_keeps _ _ _ _ _ _ _ h

@[simp] theorem State.doOpen_keeps (s : State) (x : Session) (q : UReq) : Keeps s (s.doOpen x q).1 := by
  simp only [State.doOpen]
  (repeat' split) <;> simp

@[simp] theorem State.doProve_keeps (s : State) (x : Session) (q : UReq) : Keeps s (s.doProve x q).1 := by
  simp only [State.doProve]
  (repeat' split) <;> simp

@[simp] theorem State.execute_keeps (s : State) (x : Session) (q : UReq) : Keeps s (s.execute x q).1 := by
  unfold State.execute
  (repeat' split) <;> simp

@[simp] theorem State.serve_keeps (s : State) (q : UReq) : Keeps s (s.serve q) := by
  unfold State.serve
  split
  · simp
  split
  · simp
  next h =>
  have ht := State.sessionOf_keeps h
  split
  · exact ht
  extract_lets seq
  split
  · simp [ht]
  split
  · exact ht
  · simp +zetaDelta [ht]

@[simp] theorem State.serveNum_keeps (s : State) (r : ReqHead) (k n v : Nat) : Keeps s (s.serveNum r k n v) := by
  simp [State.serveNum]

@[simp] theorem State.serveOct_keeps (s : State) (r : ReqHead) (k : Nat) (b : Bytes) : Keeps s (s.serveOct r k b) := by
  simp [State.serveOct]

end Sys2Proof.Proofs
end

section
/-! PROOFS. The queue (log 9, log 11): a step runs its front, and no command touches what waits behind it. -/

open Sys2Proof Sys2Proof.Machine Sys2Proof.Claims

namespace Sys2Proof.Proofs

/-- The command leaves what waits behind it. -/
def Kept (s : State) (o : Host.Outcome State Fault Refusal) : Prop := ∀ t, o = .next t → t.pending = s.pending

@[simp] theorem kept_next (s t : State) : Kept s (.next t) ↔ t.pending = s.pending := by
  simp [Kept]

@[simp] theorem kept_onPart (s t : State) (ok : Bool) : Kept s (onPart ok t) ↔ (ok = true → t.pending = s.pending) := by
  cases ok <;> simp [Kept, onPart]

/-- The effect of a slot operation is on its core. -/
theorem eff_keeps {c : Instr} {io : Issue} {info : State → Op} {eff : State → State} (h : slotOf c = some (io, info, eff))
    (s : State) : KeepsQueue s (eff s) := by
  cases c <;> cases h
  case waitAc => simp [effWaitAc]
  case waitQ => simp [effWaitQ]
  case sts => simp [effSts]
  case send => simp [effSend]
  case shrd =>
    simp only [effShrd]
    split <;> simp
  all_goals exact ⟨rfl, rfl⟩

theorem slotOp_kept {c : Instr} {io : Issue} {info : State → Op} {eff : State → State} (h : slotOf c = some (io, info, eff))
    (s : State) : Kept s (exec c s) := by
  rw [exec_of_slotOf h, slotOp, kept_onPart]
  exact fun _ => (present_keeps (eff_keeps h) s io info).1

/-! ## The commands that are no slot operations -/

/-- The state that an interface leaves a packet in. -/
def arrivalState : Arrival → State
  | .over s => s
  | .at s _ => s

theorem arriveAt_keeps (s : State) (p : Packet) (ty : Nat) : Keeps s (arrivalState (s.arriveAt p ty)) := by
  unfold State.arriveAt
  extract_lets u h
  have hu : Keeps s u := State.flushAll_keeps s
  clear_value u
  split
  · split <;> simp [arrivalState, hu]
  · (repeat' split) <;> simp [arrivalState, hu]

theorem State.arriveAt_over {s t : State} {p : Packet} {ty : Nat} (h : s.arriveAt p ty = .over t) : Keeps s t := by
  simpa [h, arrivalState] using arriveAt_keeps s p ty

theorem State.arriveAt_at {s t : State} {p : Packet} {ty k : Nat} (h : s.arriveAt p ty = .at t k) : Keeps s t := by
  simpa [h, arrivalState] using arriveAt_keeps s p ty

theorem execMmaComplete_kept (core : Nat) (e : TileEnd) (s : State) : Kept s (execMmaComplete core e s) := by
  simp only [execMmaComplete]
  (repeat' split) <;> simp

theorem execTileTransferComplete_kept (core : Nat) (e : TileEnd) (ecc : Ecc) (s : State) :
    Kept s (execTileTransferComplete core e ecc s) := by
  simp only [execTileTransferComplete]
  (repeat' split) <;> simp

theorem execFillCopyEnd_kept (core : Nat) (s : State) : Kept s (execFillCopyEnd core s) := by
  simp only [execFillCopyEnd]
  (repeat' split) <;> simp

theorem execResultWriteback_kept (core : Nat) (ecc : Ecc) (s : State) : Kept s (execResultWriteback core ecc s) := by
  simp only [execResultWriteback]
  (repeat' split) <;> simp

theorem execFlitInject_kept (core ch : Nat) (s : State) : Kept s (execFlitInject core ch s) := by
  simp only [execFlitInject]
  (repeat' split) <;> simp

theorem execMsg_kept (p : Packet) (s : State) : Kept s (execMsg p s) := by
  rw [execMsg, kept_next]
  split
  next h => exact (State.arriveAt_over h).1
  next h => simp [State.arriveAt_at h]

theorem execWin_kept (p : Packet) (s : State) : Kept s (execWin p s) := by
  rw [execWin, kept_next]
  split
  next h => exact (State.arriveAt_over h).1
  next h => simp [State.arriveAt_at h]

theorem execMcast_kept (p : Packet) (s : State) : Kept s (execMcast p s) := by
  rw [execMcast, kept_next]
  split
  next h => exact (State.arriveAt_over h).1
  next h =>
    simp only
    (repeat' split) <;> simp [State.arriveAt_at h]

theorem execBBufferFill_kept (q : BFill) (s : State) : Kept s (execBBufferFill q s) := by
  simp only [execBBufferFill]
  (repeat' split) <;> simp

theorem execLadle_kept (p : Packet) (dup : Bool) (s : State) : Kept s (execLadle p dup s) := by
  rw [execLadle, kept_next]
  extract_lets h entry go waiting
  clear_value waiting
  split
  · simp +zetaDelta
  split
  next h => exact (State.arriveAt_over h).1
  next h => simp +zetaDelta [State.arriveAt_at h]

theorem execShrdReq_kept (p : Packet) (s : State) : Kept s (execShrdReq p s) := by
  rw [execShrdReq, kept_next]
  split
  next h => exact (State.arriveAt_over h).1
  next h =>
    simp only
    (repeat' split) <;> simp [State.arriveAt_at h]

theorem execShrdMergeRead_kept (core : Nat) (q : MergeRead) (s : State) : Kept s (execShrdMergeRead core q s) := by
  simp only [execShrdMergeRead]
  (repeat' split) <;> simp

theorem execShrdRep_kept (p : Packet) (s : State) : Kept s (execShrdRep p s) := by
  rw [execShrdRep, kept_next]
  split
  next h => exact (State.arriveAt_over h).1
  next h => simp [State.arriveAt_at h]

theorem execQCmp_kept (p : Packet) (err : List (BitVec 32)) (s : State) : Kept s (execQCmp p err s) := by
  rw [execQCmp, kept_next]
  split
  next h => exact (State.arriveAt_over h).1
  next h =>
    simp only
    split <;> simp [State.arriveAt_at h]

theorem execCredit_kept (p : Packet) (s : State) : Kept s (execCredit p s) := by
  rw [execCredit, kept_next]
  extract_lets h n
  split
  · split <;> simp +zetaDelta
  split
  next h => exact (State.arriveAt_over h).1
  next h => simp [State.arriveAt_at h]

theorem execCcReq_kept (q : CcIn) (s : State) : Kept s (execCcReq q s) := by
  unfold execCcReq
  extract_lets p h u
  have hu : u.pending = s.pending := (State.flushAll_keeps s).1
  clear_value u
  rw [kept_next]
  split
  · exact hu
  split
  · simp +zetaDelta [hu]
  split
  · simp +zetaDelta [hu]
  split
  · simp +zetaDelta [hu]
  split
  · split <;> simp +zetaDelta [hu]
  · simp +zetaDelta [hu]

theorem execAdmin_kept (p : Packet) (body : AdminBody) (s : State) : Kept s (execAdmin p body s) := by
  simp only [execAdmin]
  (repeat' split) <;> simp

theorem execCopyPacket_kept (p : Packet) (s : State) : Kept s (execCopyPacket p s) := by
  simp only [execCopyPacket]
  (repeat' split) <;> simp

theorem execStreamEntryStart_kept (st : Nat) (s : State) : Kept s (execStreamEntryStart st s) := by
  simp only [execStreamEntryStart]
  (repeat' split) <;> simp

theorem execStreamSegmentSend_kept (q : StreamRead) (s : State) : Kept s (execStreamSegmentSend q s) := by
  simp only [execStreamSegmentSend]
  (repeat' split) <;> simp

theorem execStreamSegmentReceive_kept (st : Nat) (s : State) : Kept s (execStreamSegmentReceive st s) := by
  simp only [execStreamSegmentReceive]
  (repeat' split) <;> simp

theorem execStreamEntryReadDone_kept (st : Nat) (s : State) : Kept s (execStreamEntryReadDone st s) := by
  simp only [execStreamEntryReadDone]
  (repeat' split) <;> simp

theorem execHintArrival_kept (site : Nat) (s : State) : Kept s (execHintArrival site s) := by
  simp only [execHintArrival]
  (repeat' split) <;> simp

theorem execReplayRestart_kept (s : State) : Kept s (execReplayRestart s) := by
  simp only [execReplayRestart]
  (repeat' split) <;> simp

theorem execAudit_kept (err : RootErr) (s : State) : Kept s (execAudit err s) := by
  simp only [execAudit]
  (repeat' split) <;> simp

theorem execVerdict_kept (s : State) : Kept s (execVerdict s) := by
  simp only [execVerdict]
  (repeat' split) <;> simp

theorem execChainAppend_kept (s : State) : Kept s (execChainAppend s) := by
  simp only [execChainAppend]
  (repeat' split) <;> simp

theorem execOutputRelease_kept (s : State) : Kept s (execOutputRelease s) := by
  simp only [execOutputRelease]
  (repeat' split) <;> simp

theorem execCertificateSign_kept (s : State) : Kept s (execCertificateSign s) := by
  simp only [execCertificateSign]
  (repeat' split) <;> simp

theorem execReplayDieStart_kept (site vd : Nat) (s : State) : Kept s (execReplayDieStart site vd s) := by
  simp only [execReplayDieStart]
  (repeat' split) <;> simp

theorem execReplayCompare_kept (site : Nat) (digest : Bytes) (s : State) : Kept s (execReplayCompare site digest s) := by
  simp only [execReplayCompare]
  (repeat' split) <;> simp

theorem execTimepulseInEdge_kept (s : State) : Kept s (execTimepulseInEdge s) := by
  unfold execTimepulseInEdge
  extract_lets near off u
  rw [kept_next, pending_ite, (State.discipline_keeps u _).1, ite_self]
  exact State.setNum_pending ..

theorem execBatchSeal_kept (inputs : Bytes) (admitted : List Nat) (table : List PageWrite) (freed : Nat) (s : State) :
    Kept s (execBatchSeal inputs admitted table freed s) := by
  simp only [execBatchSeal]
  (repeat' split) <;> simp

theorem execCheckpointCopyComplete_kept (buf : CkBuf) (s : State) : Kept s (execCheckpointCopyComplete buf s) := by
  simp only [execCheckpointCopyComplete]
  (repeat' split) <;> simp

theorem execCheckpointCommit_kept (s : State) : Kept s (execCheckpointCommit s) := by
  simp only [execCheckpointCommit]
  (repeat' split) <;> simp

theorem execRouteFlip_kept (s : State) : Kept s (execRouteFlip s) := by
  rw [execRouteFlip, kept_next]
  split
  · simp
  extract_lets
  split
  · rw [(foldl_keeps (fun s t => by (repeat' split) <;> simp) _ _).1]
    simp +zetaDelta
  · simp +zetaDelta

theorem execFaultWord_kept (kind : FaultKind) (s : State) : Kept s (execFaultWord kind s) := by
  simp only [execFaultWord]
  (repeat' split) <;> simp

theorem execControlCoreLockstepMismatch_kept (site pair : Nat) (step : Option Nat) (s : State) :
    Kept s (execControlCoreLockstepMismatch site pair step s) := by
  rw [execControlCoreLockstepMismatch, kept_onPart]
  intro _
  extract_lets d
  split
  · rfl
  next vd again s1 s2 s3 rep _ s4 s5 s6 _ =>
  have h3 : s3.pending = s.pending := by simp [s3, s2, s1]
  have h4 : s4.pending = s3.pending := by
    simp only [s4]
    split <;> simp +zetaDelta
  have h5 : s5.pending = s4.pending := by
    simp only [s5]
    split <;> simp
  simp [s6, h5, h4, h3]

theorem execMigrationCopy_kept (vd : Nat) (same : Bool) (s : State) : Kept s (execMigrationCopy vd same s) := by
  simp only [execMigrationCopy]
  (repeat' split) <;> simp

theorem execMigrationCancel_kept (vd : Nat) (s : State) : Kept s (execMigrationCancel vd s) := by
  simp only [execMigrationCancel]
  (repeat' split) <;> simp

theorem execRecoveryRestoreDone_kept (unavailable failing : List (Nat × Nat)) (s : State) :
    Kept s (execRecoveryRestoreDone unavailable failing s) := by
  simp only [execRecoveryRestoreDone]
  (repeat' split) <;> simp

theorem execLostPanelHold_kept (s : State) : Kept s (execLostPanelHold s) := by
  simp only [execLostPanelHold]
  (repeat' split) <;> simp

theorem execPortUp_kept (port flightNs : Nat) (s : State) : Kept s (execPortUp port flightNs s) := by
  simp only [execPortUp]
  (repeat' split) <;> simp

theorem execResponse_kept (sess tag off : Nat) (last : Bool) (data : Bytes) (s : State) :
    Kept s (execResponse sess tag off last data s) := by
  simp only [execResponse]
  (repeat' split) <;> simp

theorem execObjRsp_kept (sess : Nat) (s : State) : Kept s (execObjRsp sess s) := by
  simp only [execObjRsp]
  (repeat' split) <;> simp

theorem execBulkWrite_kept (sess addr : Nat) (data : Bytes) (s : State) : Kept s (execBulkWrite sess addr data s) := by
  rw [execBulkWrite, kept_next]
  split
  · simp
  next h => simp [State.inband_keeps h]

theorem execCollSend_kept (entry : Nat) (s : State) : Kept s (execCollSend entry s) := by
  simp only [execCollSend]
  (repeat' split) <;> simp

theorem execCollData_kept (entry frame off : Nat) (data : Bytes) (s : State) :
    Kept s (execCollData entry frame off data s) := by
  simp only [execCollData]
  (repeat' split) <;> simp

theorem execCollResend_kept (entry frame : Nat) (s : State) : Kept s (execCollResend entry frame s) := by
  simp only [execCollResend]
  (repeat' split) <;> simp

theorem execTimeProbeSend_kept (dir : Nat) (s : State) : Kept s (execTimeProbeSend dir s) := by
  simp only [execTimeProbeSend]
  (repeat' split) <;> simp

theorem execTimeProbe_kept (dir t1 : Nat) (s : State) : Kept s (execTimeProbe dir t1 s) := by
  simp only [execTimeProbe]
  (repeat' split) <;> simp

theorem execHostSessionIdleClose_kept (sess : Nat) (s : State) : Kept s (execHostSessionIdleClose sess s) := by
  simp only [execHostSessionIdleClose]
  (repeat' split) <;> simp

theorem execRequestTimeout_kept (sess tag : Nat) (s : State) : Kept s (execRequestTimeout sess tag s) := by
  simp only [execRequestTimeout]
  (repeat' split) <;> simp

theorem execPanelResetN_kept (lowNs : Nat) (s : State) : Kept s (execPanelResetN lowNs s) := by
  unfold execPanelResetN
  rw [kept_next]
  split
  · rfl
  extract_lets old u
  have hu : u.pending = s.pending := (State.panelReset_keeps s 1 true).1
  split
  · rw [(State.resetInto_keeps u _ _).1, hu]
  next v _ =>
  have hv : v.pending = u.pending := by simp [v]
  rw [pending_ite, (State.startBringup_keeps _ _).1, State.enter_pending, ite_self, hv, hu]

theorem execPowerOnAdmit_kept (s : State) : Kept s (execPowerOnAdmit s) := by
  simp only [execPowerOnAdmit]
  (repeat' split) <;> simp

theorem execSoftStartEnd_kept (site : Nat) (s : State) : Kept s (execSoftStartEnd site s) := by
  simp only [execSoftStartEnd]
  (repeat' split) <;> simp

theorem execSensorSample_kept (part : Part) (temps : List Int) (s : State) : Kept s (execSensorSample part temps s) := by
  simp only [execSensorSample]
  (repeat' split) <;> simp

theorem execStackTempReadout_kept (stack : Nat) (temp : Int) (s : State) :
    Kept s (execStackTempReadout stack temp s) := by
  rw [execStackTempReadout, kept_onPart]
  intro _
  split
  · rfl
  extract_lets s1 x cool want run s2 c hot last s3
  have h3 : s3.pending = s.pending := by simp +zetaDelta
  clear_value s3
  split
  · split
    · split <;> simp +zetaDelta [h3]
    · simp +zetaDelta [h3]
  · simp [h3]

theorem execCoolOkLow_kept (s : State) : Kept s (execCoolOkLow s) := by
  simp only [execCoolOkLow]
  (repeat' split) <;> simp

theorem execQuenchEscalation_kept (s : State) : Kept s (execQuenchEscalation s) := by
  simp only [execQuenchEscalation]
  (repeat' split) <;> simp

theorem execQuenchEnd_kept (s : State) : Kept s (execQuenchEnd s) := by
  simp only [execQuenchEnd]
  (repeat' split) <;> simp

theorem execTestStart_kept (site : Nat) (s : State) : Kept s (execTestStart site s) := by
  simp only [execTestStart]
  (repeat' split) <;> simp

theorem execTestCornerEnd_kept (site : Nat) (pass : Bool) (e : CornerEnd) (s : State) :
    Kept s (execTestCornerEnd site pass e s) := by
  simp only [execTestCornerEnd]
  (repeat' split) <;> simp

theorem execBringupStageEnd_kept (out : StageOutcome) (s : State) : Kept s (execBringupStageEnd out s) := by
  unfold execBringupStageEnd
  (repeat' split) <;> simp

theorem execLoadComplete_kept (faultSite : Option Nat) (s : State) : Kept s (execLoadComplete faultSite s) := by
  simp only [execLoadComplete]
  (repeat' split) <;> simp

theorem execLiveUpdateStep_kept (ok : Bool) (s : State) : Kept s (execLiveUpdateStep ok s) := by
  simp only [execLiveUpdateStep]
  (repeat' split) <;> simp

theorem execSegmentTimeout_kept (sess : Nat) (s : State) : Kept s (execSegmentTimeout sess s) := by
  simp only [execSegmentTimeout]
  (repeat' split) <;> simp

theorem execSessionHandshake_kept (path : Nat) (cert : Bytes) (s : State) : Kept s (execSessionHandshake path cert s) := by
  simp only [execSessionHandshake]
  (repeat' split) <;> simp

theorem execMgmtSessionIdleClose_kept (sess : Nat) (s : State) : Kept s (execMgmtSessionIdleClose sess s) := by
  simp only [execMgmtSessionIdleClose]
  (repeat' split) <;> simp

theorem execPtpMessage_kept (port : Nat) (kind : PtpKind) (domain : Nat) (offset : Int) (s : State) :
    Kept s (execPtpMessage port kind domain offset s) := by
  simp only [execPtpMessage]
  (repeat' split) <;> simp

theorem execConcordRetry_kept (port : Nat) (s : State) : Kept s (execConcordRetry port s) := by
  simp only [execConcordRetry]
  (repeat' split) <;> simp

theorem execLinkRetry_kept (link : RetryLink) (ns : Nat) (s : State) : Kept s (execLinkRetry link ns s) := by
  simp only [execLinkRetry]
  (repeat' split) <;> simp

/-- A command that is no slot operation leaves what waits behind it. -/
theorem event_kept {c : Instr} (hc : slotOf c = none) (s : State) : Kept s (exec c s) := by
  cases c <;> cases hc
  case mmaComplete core e => exact execMmaComplete_kept core e s
  case tileTransferComplete core e ecc => exact execTileTransferComplete_kept core e ecc s
  case fillCopyEnd core => exact execFillCopyEnd_kept core s
  case resultWriteback core ecc => exact execResultWriteback_kept core ecc s
  case flitInject core ch => exact execFlitInject_kept core ch s
  case msg p => exact execMsg_kept p s
  case win p => exact execWin_kept p s
  case mcast p => exact execMcast_kept p s
  case bBufferFill q => exact execBBufferFill_kept q s
  case ladle p dup => exact execLadle_kept p dup s
  case shrdReq p => exact execShrdReq_kept p s
  case shrdMergeRead core q => exact execShrdMergeRead_kept core q s
  case shrdRep p => exact execShrdRep_kept p s
  case qCmp p err => exact execQCmp_kept p err s
  case credit p => exact execCredit_kept p s
  case ccReq q => exact execCcReq_kept q s
  case admin p body => exact execAdmin_kept p body s
  case copyPacket p => exact execCopyPacket_kept p s
  case streamEntryStart st => exact execStreamEntryStart_kept st s
  case streamSegmentSend q => exact execStreamSegmentSend_kept q s
  case streamSegmentReceive st => exact execStreamSegmentReceive_kept st s
  case streamEntryReadDone st => exact execStreamEntryReadDone_kept st s
  case hintArrival site => exact execHintArrival_kept site s
  case replayRestart => exact execReplayRestart_kept s
  case audit err => exact execAudit_kept err s
  case verdict => exact execVerdict_kept s
  case chainAppend => exact execChainAppend_kept s
  case outputRelease => exact execOutputRelease_kept s
  case certificateSign => exact execCertificateSign_kept s
  case replayDieStart site vd => exact execReplayDieStart_kept site vd s
  case replayCompare site digest => exact execReplayCompare_kept site digest s
  case timepulseInEdge => exact execTimepulseInEdge_kept s
  case batchSeal inputs admitted table freed => exact execBatchSeal_kept inputs admitted table freed s
  case checkpointCopyComplete buf => exact execCheckpointCopyComplete_kept buf s
  case checkpointCommit => exact execCheckpointCommit_kept s
  case routeFlip => exact execRouteFlip_kept s
  case faultWord kind => exact execFaultWord_kept kind s
  case controlCoreLockstepMismatch site pair step => exact execControlCoreLockstepMismatch_kept site pair step s
  case migrationCopy vd same => exact execMigrationCopy_kept vd same s
  case migrationCancel vd => exact execMigrationCancel_kept vd s
  case recoveryRestoreDone unavailable failing => exact execRecoveryRestoreDone_kept unavailable failing s
  case lostPanelHold => exact execLostPanelHold_kept s
  case portUp port flightNs => exact execPortUp_kept port flightNs s
  case response sess tag off last data => exact execResponse_kept sess tag off last data s
  case objRsp sess => exact execObjRsp_kept sess s
  case bulkWrite sess addr data => exact execBulkWrite_kept sess addr data s
  case collSend entry => exact execCollSend_kept entry s
  case collData entry frame off data => exact execCollData_kept entry frame off data s
  case collResend entry frame => exact execCollResend_kept entry frame s
  case timeProbeSend dir => exact execTimeProbeSend_kept dir s
  case timeProbe dir t1 => exact execTimeProbe_kept dir t1 s
  case hostSessionIdleClose sess => exact execHostSessionIdleClose_kept sess s
  case requestTimeout sess tag => exact execRequestTimeout_kept sess tag s
  case panelResetN lowNs => exact execPanelResetN_kept lowNs s
  case powerOnAdmit => exact execPowerOnAdmit_kept s
  case softStartEnd site => exact execSoftStartEnd_kept site s
  case sensorSample part temps => exact execSensorSample_kept part temps s
  case stackTempReadout stack temp => exact execStackTempReadout_kept stack temp s
  case coolOkLow => exact execCoolOkLow_kept s
  case quenchEscalation => exact execQuenchEscalation_kept s
  case quenchEnd => exact execQuenchEnd_kept s
  case testStart site => exact execTestStart_kept site s
  case testCornerEnd site pass e => exact execTestCornerEnd_kept site pass e s
  case bringupStageEnd out => exact execBringupStageEnd_kept out s
  case loadComplete faultSite => exact execLoadComplete_kept faultSite s
  case liveUpdateStep ok => exact execLiveUpdateStep_kept ok s
  case segmentTimeout sess => exact execSegmentTimeout_kept sess s
  case sessionHandshake path cert => exact execSessionHandshake_kept path cert s
  case mgmtSessionIdleClose sess => exact execMgmtSessionIdleClose_kept sess s
  case ptpMessage port kind domain offset => exact execPtpMessage_kept port kind domain offset s
  case concordRetry port => exact execConcordRetry_kept port s
  case linkRetry link ns => exact execLinkRetry_kept link ns s
  all_goals
    simp [exec, execRingRecordPlace, execLadleComplete, execQReq, execCcRep, execStreamCreditReturn, execGovernorTick,
      execRefreshWindow, execSlotTick, execSlotDescriptorPost, execOpSwitch, execClockStretch, execSafePointChange,
      execRefclkLoss, execRefclkReturn, execMeshPhaseCompare, execClockLoss, execTimepulseOut, execSpadModeChange,
      execRouteFlipAnnounce, execDrainedWord, execSyncLinkDown, execAuditCountTimeout, execPortDown, execSubmit,
      execNoticeFinal, execNoticeRevoke, execNoticeCert, execObjReq, execBulkAck, execCollAck, execTimeReply,
      execAuditCount, execFaultFlag, execConcord, execNak, execIdle, execGlpFrameReceive, execNeighborSolicitation,
      execEchoRequest, execLowRateLaneFallback, execVinSample, execVinLoss, execVinPgoodRise, execAuxPgoodRise,
      execAuxPgoodFall, execIvrPhaseFault, execLossOfRegulation, execEfuseOpen, execIrDropSample, execTrivetTakeover,
      execCoolantStale, execSeHalfFail, execLoad, execStart, execUnload, execStageData, execStageClear, execHold,
      execResume, execBringupStart, execWarmReset, execEnterSimmer, execRecoveryRestart, execRecoveryDiscard,
      execFwStageData, execLiveUpdate, execFwWriteOnly, execCertOnDemand, execUnfreezeCore, execUnfreezePanel,
      execUnfreezeCredential, execQuarantineRelease, execTestNow, execSettingsClear, execLinkBringup,
      execRoleKeyInstall, execRoleKeyRemove, execOwnerKeyInstall, execOwnerKeyRemove, execCalSetWrite,
      execCalSetExport, execQuoteNonce, execQuote, execObjectWrite, execOpenS, execProve, execClose,
      execRefclkInputGood, execFieldTestDue, execSeHalfRecover, execObjectRead, execMgmtPhyResetRelease]

theorem exec_kept (c : Instr) (s : State) : Kept s (exec c s) := by
  cases h : slotOf c with
  | none => exact event_kept h s
  | some r => exact slotOp_kept h s

/-- Settles O2: one frame lemma for each function that changes the state, one case for each command. -/
theorem queueFifo : Obligations.queue_fifo := by
  unfold Obligations.queue_fifo
  intro s t h
  cases hp : s.pending with
  | nil =>
    rw [step, hp] at h
    cases h
    rfl
  | cons c rest =>
    rw [step, hp] at h
    exact exec_kept c { s with pending := rest } t h

/-- Settles O1, by the definition of a step. -/
theorem stepRunsFront : Obligations.step_runs_front := by
  unfold Obligations.step_runs_front
  exact ⟨fun _ _ _ => rfl, fun s h => by rw [step, h]⟩

end Sys2Proof.Proofs
end

section
/-! PROOFS. Slots turn at their ticks, descriptors are posted, refresh windows open (02 R40 to R43, R49, 08 R207, R208). -/

open Sys2Proof Sys2Proof.Machine Sys2Proof.Claims

namespace Sys2Proof.Proofs

theorem slotTick_turns (s : State) (missed : List Nat) (h : s.panel ≠ .cold) : answers (.slotTick missed) s (fun t =>
    t.slots.slot = s.nextSlot ∧ s.tickOf s.nextSlot ≤ t.time ∧ s.time ≤ t.time) := by
  refine ⟨_, rfl, ?_⟩
  rw [if_neg h]
  extract_lets n inner kind u _ v
  have hu : u.time = max s.time (s.tickOf n) := by simp [u]
  have hv : v.slots.slot = n ∧ v.time = u.time := ⟨rfl, rfl⟩
  have key (t : State) (ht : Keeps v t) : t.slots.slot = n ∧ s.tickOf n ≤ t.time ∧ s.time ≤ t.time := by
    obtain ⟨-, hslot, htime⟩ := ht
    rw [hslot, htime, hv.1, hv.2, hu]
    exact ⟨rfl, le_max_right .., le_max_left ..⟩
  apply key
  split
  · exact (State.popDesc_keeps v).trans (State.openKind_keeps _ _)
  · exact (State.boundary_keeps v n missed).trans (State.openSlot_keeps _ n)

theorem replayRestart_starts (s : State) (a : Attempt) (hatt : s.slots.att = some a) (hwait : a.restartWait = true) :
    answers .replayRestart s (fun t => t.slots.att = some { a with restartWait := false } ∧ t.time = max s.time a.start ∧
      sameMem s t ∧ t.cores = s.cores) := by
  refine ⟨{ s with slots := { s.slots with att := some { a with restartWait := false } } }.atTime a.start, ?_,
    rfl, rfl, ⟨rfl, rfl, rfl⟩, rfl⟩
  simp [exec, execReplayRestart, hatt, hwait]

/-- The posted descriptors once an EMPTY slot stands for a next slot that has none (02 R43). -/
def postedFilled (s : State) : List Desc := if s.slots.posted = [] then [({} : Desc)] else s.slots.posted

/-- The state in which the descriptor of the slot after the next is chosen. -/
def atPost (s : State) : State :=
  let u := s.atTime (s.tickOf s.slots.slot + s.period / 2)
  { u with slots := { u.slots with posted := postedFilled s } }

theorem exec_slotDescriptorPost {s : State} (h : s.slots.posted.length ≤ 1) :
    exec .slotDescriptorPost s = .next (atPost s).postNext := by
  simp [exec, execSlotDescriptorPost, h, atPost, postedFilled]

theorem postNext_of_no_prog {s : State} (h : s.prog = none) : s.postNext = s.putDescs [{}] := by
  simp [State.postNext, h]

/-- Nothing is chosen to migrate where nothing is requested. -/
theorem chooseMigs_of_no_reqs {s : State} (h : s.recovery.reqs = []) : s.chooseMigs = s := by
  simp [State.chooseMigs, h]

theorem postNext_of_running {s : State} {p : Prog} (hprog : s.prog = some p) (hpanel : s.panel = .running)
    (hquench : s.thermal.quench = none) (hreqs : s.recovery.reqs = []) (hwait : s.recovery.waitFrame = none)
    (hresume : s.slots.pResume = false) (hroll : s.recovery.roll = none) : s.postNext = s.postProgram := by
  simp [State.postNext, hprog, hpanel, hquench, hroll, chooseMigs_of_no_reqs hreqs, hwait, hresume, State.postsFrames]

theorem postedFilled_length {s : State} (h : s.slots.posted.length ≤ 1) : (postedFilled s).length = 1 := by
  match hp : s.slots.posted, h with
  | [], _ => simp [postedFilled, hp]
  | [d], _ => simp [postedFilled, hp]

theorem postedFilled_frames (s : State) : ((postedFilled s).filter (fun d => d.kind == .program || d.roll)).length =
    (s.slots.posted.filter (fun d => d.kind == .program || d.roll)).length := by
  cases hp : s.slots.posted <;> simp [postedFilled, hp]

theorem atPost_postFrame (s : State) : (atPost s).postFrame = s.postFrame := by
  simp only [State.postFrame]
  exact congrArg _ (postedFilled_frames s)

theorem atPost_postSlot {s : State} (h : s.slots.posted.length ≤ 1) : (atPost s).postSlot = s.slots.slot + 2 := by
  change s.slots.slot + 1 + (postedFilled s).length = s.slots.slot + 2
  rw [postedFilled_length h]

/-- Outside a rollback a frame's slot is PROGRAM once its collective inputs have landed (12 R351). -/
theorem postProgram_posted {s : State} (h : s.slots.rollFrom = none) : s.postProgram.slots.posted = s.slots.posted ++
    (if s.collLanded s.postFrame then framePair { kind := .program, two := s.stretchedAt s.postSlot } else [{}]) := by
  have hroll : s.inRoll s.postFrame = false := by simp [State.inRoll, h]
  cases hc : s.collLanded s.postFrame <;> simp [State.postProgram, hroll, hc, State.putDescs]

theorem postProgram_frame (s : State) : sameMem s s.postProgram ∧ s.postProgram.cores = s.cores := by
  simp only [State.postProgram]
  (repeat' split) <;> exact ⟨⟨rfl, rfl, rfl⟩, rfl⟩

theorem post_without_program (s : State) (h : s.slots.posted.length ≤ 1) (hprog : s.prog = none) :
    answers .slotDescriptorPost s (fun t => t.slots.posted = postedFilled s ++ [({} : Desc)] ∧
      t.time = max s.time (s.tickOf s.slots.slot + s.period / 2)) := by
  refine ⟨_, exec_slotDescriptorPost h, ?_⟩
  rw [postNext_of_no_prog (s := atPost s) hprog]
  exact ⟨rfl, rfl⟩

theorem post_of_running (s : State) (p : Prog) (h : s.slots.posted.length ≤ 1) (hprog : s.prog = some p)
    (hpanel : s.panel = .running) (hquench : s.thermal.quench = none) (hreqs : s.recovery.reqs = [])
    (hwait : s.recovery.waitFrame = none) (hresume : s.slots.pResume = false) (hroll : s.recovery.roll = none)
    (hfrom : s.slots.rollFrom = none) : answers .slotDescriptorPost s (fun t =>
      t.slots.posted = postedFilled s ++
        (if s.collLanded s.postFrame then framePair { kind := .program, two := s.stretchedAt (s.slots.slot + 2) }
          else [({} : Desc)]) ∧ sameMem s t ∧ t.cores = s.cores) := by
  refine ⟨_, exec_slotDescriptorPost h, ?_⟩
  rw [postNext_of_running (s := atPost s) hprog hpanel hquench hreqs hwait hresume hroll]
  refine ⟨?_, postProgram_frame (atPost s)⟩
  rw [postProgram_posted (s := atPost s) hfrom, atPost_postFrame, atPost_postSlot h]
  rfl

theorem refreshWindow_cut {s : State} {j : Nat} (hj : j = (s.time - s.tickOf s.slots.slot) / 240 + 1)
    (h : s.tickOf (s.slots.slot + 1) ≤ s.tickOf s.slots.slot + 240 * j) : exec .refreshWindow s = .next s := by
  subst hj
  simp [exec, execRefreshWindow, h]

theorem refreshWindow_opens {s : State} {j : Nat} (hj : j = (s.time - s.tickOf s.slots.slot) / 240 + 1)
    (h : s.tickOf s.slots.slot + 240 * j < s.tickOf (s.slots.slot + 1)) :
    exec .refreshWindow s = .next ((s.atTime (s.tickOf s.slots.slot + 240 * j)).openWindow j) := by
  subst hj
  simp [exec, execRefreshWindow, h]

/-- Settles O35: one lemma for each clause; a slot opened at its tick keeps its number and TIME through the whole boundary,
by the frame lemmas. -/
theorem slotsTurn : Obligations.slots_turn := by
  unfold Obligations.slots_turn
  refine ⟨slotTick_turns, replayRestart_starts, post_without_program, post_of_running,
    fun s j hj => ⟨refreshWindow_cut hj, fun h => ?_⟩⟩
  exact ⟨_, refreshWindow_opens hj h, rfl, rfl, ⟨rfl, rfl, rfl⟩, rfl⟩

end Sys2Proof.Proofs
end

section
/-! PROOFS. Operating points (02 R53 to R55), the reference inputs and the mesh (02 R33 to R35). -/

open Sys2Proof Sys2Proof.Machine Sys2Proof.Claims

namespace Sys2Proof.Proofs

/-! ## Operating points (02 R52 to R56) -/

/-- The dies of a list take their new operating points, each no higher than its safe point. -/
def switchDies (s : State) (l : List (Nat × Nat)) : State :=
  l.foldl (fun t x => t.updDie x.1 (fun d => { d with op := min x.2 d.safe })) s

theorem switchDies_other {l : List (Nat × Nat)} {i : Nat} (h : ∀ x ∈ l, x.1 ≠ i) (s : State) :
    (switchDies s l).die i = s.die i := by
  induction l generalizing s with
  | nil => rfl
  | cons x l ih =>
    rw [switchDies, List.foldl_cons]
    exact (ih (fun y hy => h y (List.mem_cons_of_mem _ hy)) _).trans
      (State.die_updDie_other _ _ (h x List.mem_cons_self).symm)

theorem switchDies_safe (l : List (Nat × Nat)) (s : State) (i : Nat) : ((switchDies s l).die i).safe = (s.die i).safe := by
  induction l generalizing s with
  | nil => rfl
  | cons x l ih =>
    rw [switchDies, List.foldl_cons]
    refine (ih _).trans ?_
    by_cases h : i = x.1
    · subst h
      rw [State.die_updDie_same]
    · rw [State.die_updDie_other _ _ h]

/-- The last entry of a die counts. -/
theorem switchDies_op {l r : List (Nat × Nat)} {i p : Nat} (h : ∀ x ∈ r, x.1 ≠ i) (s : State) :
    ((switchDies s (l ++ (i, p) :: r)).die i).op = min p (s.die i).safe := by
  have hsplit : switchDies s (l ++ (i, p) :: r) =
      switchDies ((switchDies s l).updDie i (fun d => { d with op := min p d.safe })) r := by
    simp [switchDies]
  rw [hsplit, switchDies_other h, State.die_updDie_same, switchDies_safe]

theorem switchDies_frame (l : List (Nat × Nat)) (s : State) :
    sameMem s (switchDies s l) ∧ (switchDies s l).cores = s.cores := by
  induction l generalizing s with
  | nil => exact ⟨⟨rfl, rfl, rfl⟩, rfl⟩
  | cons x l ih => exact ih (s.updDie x.1 (fun d => { d with op := min x.2 d.safe }))

theorem opSwitch_idle (s : State) (h : s.slots.opDue = false) : exec .opSwitch s = .next s := by
  simp [exec, execOpSwitch, h]

theorem opSwitch_due (s : State) (h : s.slots.opDue = true) : answers .opSwitch s (fun t =>
    t.slots.opDue = false ∧ t.slots.opNew = [] ∧
    (∀ l i p r, s.slots.opNew = l ++ (i, p) :: r → (∀ x ∈ r, x.1 ≠ i) → (t.die i).op = min p (s.die i).safe) ∧
    (∀ i, (∀ x ∈ s.slots.opNew, x.1 ≠ i) → t.die i = s.die i) ∧ sameMem s t ∧ t.cores = s.cores) := by
  have hexec : exec .opSwitch s = .next { switchDies s s.slots.opNew with
      slots := { (switchDies s s.slots.opNew).slots with opAt := 0, opNew := [], opDue := false } } := by
    simp only [exec, execOpSwitch, if_pos h]
    rfl
  refine ⟨_, hexec, rfl, rfl, fun l i p r hl hr => ?_, fun i hi => switchDies_other hi s, switchDies_frame _ s⟩
  rw [hl]
  exact switchDies_op hr s

/-! ## Safe points and stretched cycles (02 R53, R55) -/

/-- The dies, memories and cores of `t` are those of `s`. -/
@[simp] abbrev KeepsDies (s t : State) : Prop :=
  t.dies = s.dies ∧ t.spad = s.spad ∧ t.hbm = s.hbm ∧ t.imem = s.imem ∧ t.cores = s.cores

@[simp] theorem State.reqMig_keepsDies (s : State) (site prio : Nat) : KeepsDies s (s.reqMig site prio) := by
  unfold State.reqMig
  split <;> simp

@[simp] theorem State.announceStretch_keepsDies (s : State) : KeepsDies s s.announceStretch := by
  unfold State.announceStretch
  split <;> simp

@[simp] theorem State.holdNext_keepsDies (s : State) (cause : Nat) : KeepsDies s (s.holdNext cause) := by
  unfold State.holdNext
  split <;> simp

/-- What the trivet does about a die below the floor changes no die. -/
@[simp] theorem State.belowFloor_keepsDies (s : State) (site : Nat) : KeepsDies s (s.belowFloor site) := by
  simp only [State.belowFloor]
  (repeat' split) <;> simp

/-- A die once its monitors allow `point` at most: the lowest of the four limits is its safe point (02 R52, R55). -/
def resafe (point : Nat) (d : Die) : Die :=
  { d with mon := min point 11, safe := min (min point 11) (min d.heatCap (min d.ivrCap (if d.calDef then 2 else 11))) }

theorem resafe_safe_le (point : Nat) (d : Die) : (resafe point d).safe ≤ min point 11 := min_le_left ..

@[simp] theorem State.belowFloor_die (s : State) (site j : Nat) : (s.belowFloor site).die j = s.die j := by
  rw [State.die, (State.belowFloor_keepsDies s site).1, State.die]

theorem State.setSafe_die_same (s : State) (site point : Nat) :
    (s.setSafe site point).die site = resafe point (s.die site) := by
  simp [State.setSafe, State.reSafe, resafe]

theorem State.setSafe_die_other (s : State) {site j : Nat} (h : j ≠ site) (point : Nat) :
    (s.setSafe site point).die j = s.die j := by
  simp [State.setSafe, State.reSafe, h]

theorem State.setSafe_frame (s : State) (site point : Nat) :
    sameMem s (s.setSafe site point) ∧ (s.setSafe site point).cores = s.cores := by
  simp [State.setSafe, State.reSafe, sameMem]

theorem safePointChange_sets (s : State) (site p : Nat) (h : site < 144) : answers (.safePointChange site p) s (fun t =>
    (t.die site).mon = min p 11 ∧ (t.die site).safe ≤ min p 11 ∧ (t.die site).op = (s.die site).op ∧
    (∀ j, j ≠ site → t.die j = s.die j) ∧ sameMem s t ∧ t.cores = s.cores) := by
  refine ⟨_, onPart_next (by simpa using h) (s.setSafe site p), ?_⟩
  beta_reduce
  rw [State.setSafe_die_same]
  exact ⟨rfl, resafe_safe_le .., rfl, fun j hj => State.setSafe_die_other s hj p, State.setSafe_frame s site p⟩

theorem clockStretch_counts (s : State) (site ns p : Nat) (h : site < 144) (hatt : s.slots.att ≠ none)
    (hst : (s.die site).st = .active) : answers (.clockStretch site ns p) s (fun t =>
      (t.die site).stallNs = (s.die site).stallNs + ns ∧ (t.die site).safe ≤ p ∧
      (∀ j, j ≠ site → t.die j = s.die j) ∧ sameMem s t ∧ t.cores = s.cores) := by
  let u := s.updDie site (fun d => { d with stallNs := d.stallNs + ns })
  have hexec : exec (.clockStretch site ns p) s = .next (u.setSafe site (min p (s.die site).safe)) := by
    simp [exec, execClockStretch, onPart_next, h, Option.isSome_iff_ne_none.mpr hatt, hst, u]
  refine ⟨_, hexec, ?_, ?_, fun j hj => ?_, State.setSafe_frame u site _⟩
  · rw [State.setSafe_die_same, State.die_updDie_same]
    rfl
  · rw [State.setSafe_die_same]
    exact (resafe_safe_le ..).trans (by omega)
  · rw [State.setSafe_die_other u hj, State.die_updDie_other _ _ hj]

/-! ## The reference inputs (02 R33, R34) -/

@[simp] theorem Mesh.ok_setOk_same (m : Mesh) (i : RefIn) (ok : Bool) (t : Nat) : (m.setOk i ok t).ok i = ok := by
  cases i <;> rfl

@[simp] theorem Mesh.ok_setOk_other (m : Mesh) (i : RefIn) (ok : Bool) (t : Nat) :
    (m.setOk i ok t).ok (refOther i) = m.ok (refOther i) := by
  cases i <;> rfl

@[simp] theorem Mesh.src_setOk (m : Mesh) (i : RefIn) (ok : Bool) (t : Nat) : (m.setOk i ok t).src = m.src := by
  cases i <;> rfl

@[simp] theorem Mesh.ok_with_log (m : Mesh) (i : RefIn) (src : Nat) (log : List (Nat × Nat)) :
    { m with src := src, log := log }.ok i = m.ok i := by
  cases i <;> rfl

@[simp] theorem State.switchTo_mesh (s : State) (i : RefIn) : (s.switchTo i).mesh =
    { s.mesh with src := refCode i, log := s.mesh.log ++ [(s.time, refCode i)] } := by
  simp [State.switchTo]

@[simp] theorem State.switchTo_frame (s : State) (i : RefIn) : (s.switchTo i).time = s.time ∧
    (s.switchTo i).spad = s.spad ∧ (s.switchTo i).hbm = s.hbm ∧ (s.switchTo i).imem = s.imem ∧
    (s.switchTo i).cores = s.cores := by
  simp [State.switchTo]

theorem refclkLoss_leaves (s : State) (i : RefIn) (h : s.mesh.ok i = true) : answers (.refclkLoss i) s (fun t =>
    t.mesh.ok i = false ∧ t.time = s.time ∧ t.mesh.ok (refOther i) = s.mesh.ok (refOther i) ∧
    t.mesh.src =
      (if s.mesh.src = refCode i then (if s.mesh.ok (refOther i) then refCode (refOther i) else 3) else s.mesh.src) ∧
    sameMem s t ∧ t.cores = s.cores) := by
  refine ⟨_, rfl, ?_⟩
  by_cases hsrc : s.mesh.src = refCode i
  · cases hok : s.mesh.ok (refOther i)
    · simp [h, hsrc, hok, sameMem]
    · simp [h, hsrc, hok, sameMem]
  · simp [h, hsrc, sameMem]

/-- Log 107: a mesh in holdover locks to the first input that comes back. -/
theorem refclkInputGood_locks (s : State) (i : RefIn) (h : s.mesh.ok i = false) : answers (.refclkInputGood i) s (fun t =>
    t.mesh.ok i = true ∧ t.time = s.time ∧ (s.mesh.src = 3 → t.mesh.src = refCode i) ∧
    (s.mesh.src = 1 ∨ s.mesh.src = 2 → t.mesh.src = s.mesh.src) ∧ sameMem s t ∧ t.cores = s.cores) := by
  refine ⟨_, rfl, ?_⟩
  rw [h, if_neg Bool.false_ne_true]
  extract_lets m
  refine ⟨?_, rfl, fun h3 => ?_, fun h12 => ?_, ⟨rfl, rfl, rfl⟩, rfl⟩
  · dsimp only
    split <;> simp [m]
  · simp [m, h3]
  · have h3 : s.mesh.src ≠ 3 := by omega
    have h0 : s.mesh.src ≠ 0 := by omega
    simp [m, h3, h0]

theorem refclkReturn_returns (s : State) (hok : s.mesh.ok s.preferred = true)
    (hsrc : s.mesh.src = refCode (refOther s.preferred)) (hdue : s.mesh.since s.preferred + 10000000000 ≤ s.nextTick) :
    answers .refclkReturn s (fun t => t.mesh.src = refCode s.preferred ∧ t.time = max s.time s.nextTick ∧ sameMem s t ∧
      t.cores = s.cores) := by
  have hexec : exec .refclkReturn s = .next ((s.atTime s.nextTick).switchTo s.preferred) := by
    simp [exec, execRefclkReturn, hok, hsrc, hdue]
  exact ⟨_, hexec, by simp [sameMem]⟩

theorem refclkReturn_early {s : State} (h : s.nextTick < s.mesh.since s.preferred + 10000000000) :
    exec .refclkReturn s = .next s := by
  simp [exec, execRefclkReturn, h]

/-! ## The loss of a die leaves the hubs and the panel state (15 R420 to R424) -/

/-- The hubs and the panel state of `t` are those of `s`. -/
@[simp] abbrev KeepsHubs (s t : State) : Prop := t.hubs = s.hubs ∧ t.panel = s.panel

theorem KeepsHubs.trans {s t u : State} (h : KeepsHubs s t) (h' : KeepsHubs t u) : KeepsHubs s u := by
  simp [h, h']

@[simp] theorem foldl_keepsHubs {α : Type} {f : State → α → State} (h : ∀ s x, KeepsHubs s (f s x)) (l : List α)
    (s : State) : KeepsHubs s (l.foldl f s) :=
  List.foldlRecOn l f (motive := KeepsHubs s) ⟨rfl, rfl⟩ fun t ht x _ => ht.trans (h t x)

@[simp] theorem hubs_ite (c : Prop) [Decidable c] (s t : State) :
    (if c then s else t).hubs = if c then s.hubs else t.hubs := apply_ite ..

@[simp] theorem panel_ite (c : Prop) [Decidable c] (s t : State) :
    (if c then s else t).panel = if c then s.panel else t.panel := apply_ite ..

@[simp] theorem State.fsr_keepsHubs (s : State) (r : FsrIn) : KeepsHubs s (s.fsr r) := by
  simp [State.fsr]

@[simp] theorem State.reqMig_keepsHubs (s : State) (site prio : Nat) : KeepsHubs s (s.reqMig site prio) := by
  simp [State.reqMig]

@[simp] theorem State.quarantine_keepsHubs (s : State) (site det : Nat) : KeepsHubs s (s.quarantine site det) := by
  simp only [State.quarantine]
  (repeat' split) <;> simp

@[simp] theorem State.joinTest_keepsHubs (s : State) (site : Nat) : KeepsHubs s (s.joinTest site) := by
  simp [State.joinTest]

@[simp] theorem State.lastingFault_keepsHubs (s : State) (site det unit : Nat) (core : Option Nat) :
    KeepsHubs s (s.lastingFault site det unit core) := by
  simp [State.lastingFault]

@[simp] theorem State.clearSpads_keepsHubs (s : State) (site : Nat) : KeepsHubs s (s.clearSpads site) := ⟨rfl, rfl⟩

@[simp] theorem State.setHashing_keepsHubs (s : State) (site : Nat) (h : Bool) : KeepsHubs s (s.setHashing site h) := by
  simp [State.setHashing]

@[simp] theorem State.abandonRep_keepsHubs (s : State) (site : Nat) : KeepsHubs s (s.abandonRep site) := ⟨rfl, rfl⟩

@[simp] theorem State.wantPower_keepsHubs (s : State) (site : Nat) : KeepsHubs s (s.wantPower site) := by
  simp [State.wantPower]

@[simp] theorem State.unswap_keepsHubs (s : State) (src : Nat) : KeepsHubs s (s.unswap src) := by
  unfold State.unswap
  split <;> simp

@[simp] theorem State.discard_keepsHubs (s : State) : KeepsHubs s s.discard := by
  simp [State.discard]

@[simp] theorem State.stopAttempt_keepsHubs (s : State) : KeepsHubs s s.stopAttempt := by
  unfold State.stopAttempt
  split <;> simp

@[simp] theorem State.holdNext_keepsHubs (s : State) (cause : Nat) : KeepsHubs s (s.holdNext cause) := by
  simp [State.holdNext]

@[simp] theorem State.writeCode_keepsHubs (s : State) (p : Prog) (site vd : Nat) : KeepsHubs s (s.writeCode p site vd) := by
  simp [State.writeCode]

@[simp] theorem State.writeLoadCopy_keepsHubs (s : State) (p : Prog) (site vd : Nat) :
    KeepsHubs s (s.writeLoadCopy p site vd) := by
  simp [State.writeLoadCopy]

@[simp] theorem State.enterDie_keepsHubs (s : State) (site vd : Nat) (fromLoad : Bool) :
    KeepsHubs s (s.enterDie site vd fromLoad) := by
  unfold State.enterDie
  split <;> simp

@[simp] theorem State.clearCores_keepsHubs (s : State) (site : Nat) : KeepsHubs s (s.clearCores site) := ⟨rfl, rfl⟩

@[simp] theorem State.isolateDie_keepsHubs (s : State) (site cause : Nat) : KeepsHubs s (s.isolateDie site cause) := by
  simp [State.isolateDie]

@[simp] theorem State.startRoll_keepsHubs (s : State) (vd : Nat) (att : Option Nat) : KeepsHubs s (s.startRoll vd att) := by
  simp [State.startRoll]

@[simp] theorem State.writeMoves_keepsHubs (s : State) (mv : List (Nat × Nat)) : KeepsHubs s (s.writeMoves mv) := by
  simp [State.writeMoves, State.writeRoute]

@[simp] theorem State.rollTargets_keepsHubs (s : State) : KeepsHubs s s.rollTargets := by
  unfold State.rollTargets
  split
  · simp
  · extract_lets u
    have hu : KeepsHubs s u := foldl_keepsHubs (fun s v => by simp only; (repeat' split) <;> simp) _ s
    clear_value u
    (repeat' split) <;> simp [hu]

@[simp] theorem State.rollSlots_keepsHubs (s : State) : KeepsHubs s s.rollSlots := by
  unfold State.rollSlots
  split <;> simp

@[simp] theorem State.restartServices_keepsHubs (s : State) (site pair : Nat) :
    KeepsHubs s (s.restartServices site pair) := by
  unfold State.restartServices
  split <;> simp

@[simp] theorem State.dieLoss_keepsHubs (s : State) (site det unit : Nat) : KeepsHubs s (s.dieLoss site det unit) := by
  unfold State.dieLoss
  extract_lets d
  split
  · simp
  · next vd fr s1 s2 mine late asDst s3 s4 s5 s6 s7 _ _ s8 _ _ _ _ s9 _ =>
    have h8 : KeepsHubs s s8 := by simp [s8, s7, s6, s5, s4, s3, s2, s1]
    have h9 : KeepsHubs s8 s9 := by
      clear_value asDst s8
      cases asDst <;> simp +zetaDelta
    refine (h8.trans h9).trans ?_
    clear_value s9 vd mine fr
    cases vd <;> cases mine <;> simp

@[simp] theorem State.dropCmd_keepsHubs (s : State) (p : Bool) : KeepsHubs s (s.dropCmd p) := by
  simp [State.dropCmd]

@[simp] theorem State.cancelFlips_keepsHubs (s : State) : KeepsHubs s s.cancelFlips := by
  simp [State.cancelFlips]

@[simp] theorem State.endHeld_keepsHubs (s : State) : KeepsHubs s s.endHeld := by
  simp [State.endHeld]

theorem State.toSafe_hubs (s : State) (cause : Nat) : (s.toSafe cause).hubs = s.hubs := by
  simp [State.toSafe]

theorem State.toSafe_of_running {s : State} (h : s.panel = .running) (cause : Nat) : (s.toSafe cause).panel = .safe := by
  simp [State.toSafe, h]

theorem State.hubLoss_lost (s : State) (hub det : Nat) : ((s.hubLoss hub det).hub hub).lost = true := by
  rw [State.hub, State.hubLoss, State.toSafe_hubs, ← State.hub]
  simp [State.hub]

theorem State.hubLoss_of_running {s : State} (h : s.panel = .running) (hub det : Nat) :
    (s.hubLoss hub det).panel = .safe :=
  State.toSafe_of_running (by simp [h]) 2

/-! ## The hub's place in the mesh (02 R35) -/

/-- The hub's node is beyond 1 ns from every neighbour. -/
def beyond (phases : List Int) : Bool := !phases.isEmpty && phases.all (fun p => decide (1000 < p.natAbs))

theorem beyond_eq_true {l : List Int} (hl : l ≠ []) (h : ∀ p ∈ l, 1000 < p.natAbs) : beyond l = true := by
  simpa [beyond, hl] using h

theorem beyond_eq_false {l : List Int} (h : ∃ p ∈ l, p.natAbs ≤ 1000) : beyond l = false := by
  obtain ⟨p, hpl, hp⟩ := h
  simp only [beyond, Bool.and_eq_false_iff, List.all_eq_false]
  exact .inr ⟨p, hpl, by simpa using hp⟩

/-- The comparisons in a row beyond 1 ns, this one among them. -/
def compareRun (s : State) (hub : Nat) (phases : List Int) : Nat := if beyond phases then (s.hub hub).phaseRun + 1 else 0

/-- The state after a comparison, before its consequence. -/
def compared (s : State) (hub : Nat) (phases : List Int) : State :=
  let u := s.nextSample (s.hub hub).phaseAt 1000
  (u.updHub hub (fun h => { h with phaseAt := u.time })).updHub hub
    (fun h => { h with phase := phases, phaseRun := compareRun s hub phases })

/-- A hub and the nine dies of its cell lost for want of their clock. -/
def decoupled (s : State) (hub : Nat) : State :=
  (List.range 9).foldl (fun s i => s.dieLoss (9 * hub + i) 0x0E 0x0D) (s.hubLoss hub 0x19)

@[simp] theorem State.nextSample_hub (s : State) (last every k : Nat) : (s.nextSample last every).hub k = s.hub k := rfl

theorem exec_meshPhaseCompare {s : State} {h : Nat} (hh : h < 16) (hlost : (s.hub h).lost = false) (l : List Int) :
    exec (.meshPhaseCompare h l) s =
      .next (if compareRun s h l < 16 then compared s h l else decoupled (compared s h l) h) := by
  simp [exec, execMeshPhaseCompare, onPart_next, hh, hlost, compareRun, beyond, compared, decoupled]

theorem compared_hub (s : State) (h : Nat) (l : List Int) : (compared s h l).hub h =
    { s.hub h with phaseAt := (s.nextSample (s.hub h).phaseAt 1000).time, phase := l, phaseRun := compareRun s h l } := by
  simp [compared]

theorem compared_frame (s : State) (h : Nat) (l : List Int) :
    sameMem s (compared s h l) ∧ (compared s h l).cores = s.cores ∧ (compared s h l).panel = s.panel :=
  ⟨⟨rfl, rfl, rfl⟩, rfl, rfl⟩

theorem decoupled_hub_panel (s : State) (h : Nat) :
    (decoupled s h).hub h = (s.hubLoss h 0x19).hub h ∧ (decoupled s h).panel = (s.hubLoss h 0x19).panel := by
  simp [decoupled, State.hub]

/-- A comparison with some neighbour within 1 ns. -/
theorem meshPhaseCompare_within (s : State) (h : Nat) (l : List Int) (hh : h < 16) (hlost : (s.hub h).lost = false)
    (hp : ∃ p ∈ l, p.natAbs ≤ 1000) : answers (.meshPhaseCompare h l) s (fun t => (t.hub h).phaseRun = 0 ∧
      (t.hub h).lost = false ∧ (t.hub h).phase = l ∧ sameMem s t ∧ t.cores = s.cores) := by
  have hrun : compareRun s h l = 0 := by simp [compareRun, beyond_eq_false hp]
  obtain ⟨hmem, hcores, -⟩ := compared_frame s h l
  refine ⟨compared s h l, by simp [exec_meshPhaseCompare hh hlost, hrun], ?_⟩
  beta_reduce
  rw [compared_hub]
  exact ⟨hrun, hlost, rfl, hmem, hcores⟩

/-- The sixteenth comparison in a row beyond 1 ns. -/
theorem meshPhaseCompare_beyond (s : State) (h : Nat) (l : List Int) (hh : h < 16) (hlost : (s.hub h).lost = false)
    (hl : l ≠ []) (hp : ∀ p ∈ l, 1000 < p.natAbs) (hfifteen : 15 ≤ (s.hub h).phaseRun) :
    answers (.meshPhaseCompare h l) s (fun t => (t.hub h).lost = true ∧ (s.panel = .running → t.panel = .safe)) := by
  have hrun : ¬ compareRun s h l < 16 := by
    rw [compareRun, beyond_eq_true hl hp, if_pos rfl]
    omega
  obtain ⟨-, -, hpanel⟩ := compared_frame s h l
  obtain ⟨hhub, hsafe⟩ := decoupled_hub_panel (compared s h l) h
  refine ⟨decoupled (compared s h l) h, by rw [exec_meshPhaseCompare hh hlost, if_neg hrun], ?_, fun hr => ?_⟩
  · rw [hhub, State.hubLoss_lost]
  · rw [hsafe, State.hubLoss_of_running (hpanel.trans hr)]

/-- Settles O38: one lemma for each clause; that a lost hub stays lost while its dies are lost is the frame of a die's loss. -/
theorem pointsReferences : Obligations.points_references := by
  unfold Obligations.points_references
  refine ⟨⟨opSwitch_idle, opSwitch_due, safePointChange_sets, clockStretch_counts⟩,
    refclkLoss_leaves, refclkInputGood_locks,
    fun s hok hsrc => ⟨refclkReturn_returns s hok hsrc, refclkReturn_early⟩,
    fun s h l hh hlost => ⟨meshPhaseCompare_within s h l hh hlost, meshPhaseCompare_beyond s h l hh hlost⟩⟩

end Sys2Proof.Proofs
end

section
/-! PROOFS. What a core's work leaves alone (03 R60, R71): the instruction memories, HBM, the panel state, the program and the
sessions. One lemma for each function of the core, in the order of the model; as a `simp` rule each one reads off the fields of
its result. -/

open Sys2Proof Sys2Proof.Machine Sys2Proof.Claims

namespace Sys2Proof.Proofs

/-! ## The frames -/

/-- Instruction memories, HBM, panel state, program and sessions of `t` are those of `s`. -/
@[simp] abbrev KeepsWork (s t : State) : Prop :=
  t.imem = s.imem ∧ t.hbm = s.hbm ∧ t.panel = s.panel ∧ t.prog = s.prog ∧ t.access = s.access

/-- The scratchpads, the cores and their states before the open bundles of `t` are those of `s` as well. -/
@[simp] abbrev Aside (s t : State) : Prop :=
  (t.cores = s.cores ∧ (∀ k, t.core k = s.core k) ∧ t.snaps = s.snaps ∧ t.spad = s.spad) ∧ KeepsWork s t

theorem aside_of {s t : State} (h : (t.cores = s.cores ∧ t.snaps = s.snaps ∧ t.spad = s.spad) ∧ KeepsWork s t) :
    Aside s t := by
  obtain ⟨⟨hcores, hrest⟩, hwork⟩ := h
  exact ⟨⟨hcores, fun k => congrArg (fun m => SMap.get coreD m k) hcores, hrest⟩, hwork⟩

theorem KeepsWork.trans {s t u : State} (h : KeepsWork s t) (h' : KeepsWork t u) : KeepsWork s u := by
  simp [h, h']

theorem Aside.trans {s t u : State} (h : Aside s t) (h' : Aside t u) : Aside s u := by
  simp [h, h']

@[simp] theorem foldl_keepsWork {α : Type} {f : State → α → State} (h : ∀ s x, KeepsWork s (f s x)) (l : List α)
    (s : State) : KeepsWork s (l.foldl f s) :=
  List.foldlRecOn l f (motive := KeepsWork s) ⟨rfl, rfl, rfl, rfl, rfl⟩ fun t ht x _ => ht.trans (h t x)

@[simp] theorem foldl_aside {α : Type} {f : State → α → State} (h : ∀ s x, Aside s (f s x)) (l : List α)
    (s : State) : Aside s (l.foldl f s) :=
  List.foldlRecOn l f (motive := Aside s) (aside_of ⟨⟨rfl, rfl, rfl⟩, rfl, rfl, rfl, rfl, rfl⟩) fun t ht x _ => ht.trans (h t x)

@[simp] theorem imem_ite (c : Prop) [Decidable c] (s t : State) :
    (if c then s else t).imem = if c then s.imem else t.imem := apply_ite ..

@[simp] theorem hbm_ite (c : Prop) [Decidable c] (s t : State) :
    (if c then s else t).hbm = if c then s.hbm else t.hbm := apply_ite ..

@[simp] theorem prog_ite (c : Prop) [Decidable c] (s t : State) :
    (if c then s else t).prog = if c then s.prog else t.prog := apply_ite ..

@[simp] theorem access_ite (c : Prop) [Decidable c] (s t : State) :
    (if c then s else t).access = if c then s.access else t.access := apply_ite ..

@[simp] theorem cores_ite (c : Prop) [Decidable c] (s t : State) :
    (if c then s else t).cores = if c then s.cores else t.cores := apply_ite ..

@[simp] theorem snaps_ite (c : Prop) [Decidable c] (s t : State) :
    (if c then s else t).snaps = if c then s.snaps else t.snaps := apply_ite ..

@[simp] theorem spad_ite (c : Prop) [Decidable c] (s t : State) :
    (if c then s else t).spad = if c then s.spad else t.spad := apply_ite ..

/-! ## Reports, records, ledgers, packets: no core, no memory -/

@[simp] theorem State.report_aside (s : State) (det : Nat) (vd site core : Option Nat) :
    Aside s (s.report det vd site core) :=
  aside_of ⟨⟨rfl, rfl, rfl⟩, rfl, rfl, rfl, rfl, rfl⟩

@[simp] theorem State.fsr_aside (s : State) (r : FsrIn) : Aside s (s.fsr r) :=
  aside_of (by simp [State.fsr])

@[simp] theorem State.dieFault_aside (s : State) (site det unit : Nat) : Aside s (s.dieFault site det unit) :=
  aside_of (by simp [State.dieFault])

@[simp] theorem State.coreFault_aside (s : State) (k op det unit : Nat) : Aside s (s.coreFault k op det unit) :=
  aside_of (by simp [State.coreFault])

@[simp] theorem State.reqMig_aside (s : State) (site prio : Nat) : Aside s (s.reqMig site prio) :=
  aside_of (by simp [State.reqMig])

@[simp] theorem State.quarantine_aside (s : State) (site det : Nat) : Aside s (s.quarantine site det) := by
  refine aside_of ?_
  simp only [State.quarantine]
  (repeat' split) <;> simp

@[simp] theorem State.joinTest_aside (s : State) (site : Nat) : Aside s (s.joinTest site) :=
  aside_of (by simp [State.joinTest])

@[simp] theorem State.lastingFault_aside (s : State) (site det unit : Nat) (core : Option Nat) :
    Aside s (s.lastingFault site det unit core) :=
  aside_of (by simp [State.lastingFault])

@[simp] theorem State.dupFault_aside (s : State) (k op unit : Nat) : Aside s (s.dupFault k op unit) :=
  aside_of (by simp [State.dupFault])

@[simp] theorem State.corrected_aside (s : State) (site : Nat) : Aside s (s.corrected site) :=
  aside_of (by simp [State.corrected])

@[simp] theorem State.spadEcc_aside (s : State) (k op : Nat) (e : Ecc) : Aside s (s.spadEcc k op e) := by
  refine aside_of ?_
  simp only [State.spadEcc]
  split <;> simp

@[simp] theorem State.tell_aside (s : State) (k : Nat) (x : Seen × Nat) : Aside s (s.tell k x) := by
  unfold State.tell
  split <;> simp

@[simp] theorem State.overflowTrap_aside (s : State) (k : Nat) (old new : Tile) : Aside s (s.overflowTrap k old new) :=
  aside_of (by simp [State.overflowTrap])

@[simp] theorem State.countHeld_aside (s : State) (k code n : Nat) : Aside s (s.countHeld k code n) :=
  aside_of (by simp [State.countHeld])

@[simp] theorem State.noteTable_aside (s : State) (k a : Nat) : Aside s (s.noteTable k a) := by
  refine aside_of ?_
  unfold State.noteTable
  split <;> simp

@[simp] theorem State.injectAt_aside (s : State) (t : Nat) (p : Packet) : Aside s (s.injectAt t p) :=
  aside_of ⟨⟨rfl, rfl, rfl⟩, rfl, rfl, rfl, rfl, rfl⟩

@[simp] theorem State.inject_aside (s : State) (p : Packet) : Aside s (s.inject p) := State.injectAt_aside ..

@[simp] theorem State.handPackets_aside (l : List Packet) (s : State) : Aside s (State.handPackets l s).1 := by
  induction l generalizing s with
  | nil => simp [State.handPackets]
  | cons p l ih =>
    rw [State.handPackets]
    split
    · simp
    · exact (State.inject_aside s p).trans (ih _)

/-! ## How a core issues -/

@[simp] theorem State.imemEcc_keepsWork (s : State) (k : Nat) (e : Ecc) : KeepsWork s (s.imemEcc k e) := by
  simp only [State.imemEcc]
  split <;> simp

@[simp] theorem State.freezeAt_keepsWork (s : State) (k pc : Nat) (slot : Slot) (opc viol operation related : Nat) :
    KeepsWork s (s.freezeAt k pc slot opc viol operation related) := by
  simp [State.freezeAt]

@[simp] theorem State.freezeBundle_keepsWork (s : State) (k : Nat) (slot : Slot) (opc viol : Nat) :
    KeepsWork s (s.freezeBundle k slot opc viol) := by
  simp [State.freezeBundle]

@[simp] theorem State.holdBundle_keepsWork (s : State) (k code what : Nat) (names : List (Nat × Nat)) :
    KeepsWork s (s.holdBundle k code what names) := by
  simp [State.holdBundle]

@[simp] theorem State.landTclr_keepsWork (s : State) (k t : Nat) (e : BitVec 10) (cl : BitVec 2) :
    KeepsWork s (s.landTclr k t e cl) := by
  simp [State.landTclr]

@[simp] theorem State.landDest_keepsWork (s : State) (k : Nat) (d : Dest) : KeepsWork s (s.landDest k d) := by
  cases d <;> simp [State.landDest]

@[simp] theorem State.landDue_keepsWork (s : State) (k t : Nat) : KeepsWork s (s.landDue k t) := by
  simp [State.landDue]

@[simp] theorem State.fillSend_keepsWork (s : State) (k ch : Nat) : KeepsWork s (s.fillSend k ch) := by
  simp [State.fillSend]

@[simp] theorem State.fillSends_keepsWork (s : State) (k : Nat) : KeepsWork s (s.fillSends k) := by
  simp [State.fillSends]

@[simp] theorem State.endRange_keepsWork (s : State) (k tag : Nat) : KeepsWork s (s.endRange k tag) := by
  simp [State.endRange]

@[simp] theorem State.mmaEnd_keepsWork (s : State) (k : Nat) (j : MmaJob) : KeepsWork s (s.mmaEnd k j) := by
  simp [State.mmaEnd]

@[simp] theorem State.sieveErr_keepsWork (s : State) (k t e : Nat) : KeepsWork s (s.sieveErr k t e) := by
  simp [State.sieveErr]

@[simp] theorem State.mmaDup_aside (s : State) (k : Nat) (j : MmaJob) (dup : Bool) : Aside s (s.mmaDup k j dup) :=
  aside_of (by simp [State.mmaDup])

@[simp] theorem State.closeTile_keepsWork (s : State) (k t : Nat) : KeepsWork s (s.closeTile k t) := by
  simp [State.closeTile]

@[simp] theorem State.xferWrite_keepsWork (s : State) (k : Nat) (j : XferJob) : KeepsWork s (s.xferWrite k j) := by
  simp [State.xferWrite]

@[simp] theorem State.taddHeader_keepsWork (s : State) (k : Nat) (j : XferJob) : KeepsWork s (s.taddHeader k j) := by
  simp [State.taddHeader]

@[simp] theorem State.xferRead_keepsWork (s : State) (k : Nat) (j : XferJob) : KeepsWork s (s.xferRead k j) := by
  simp [State.xferRead]

@[simp] theorem State.xferEnd_keepsWork (s : State) (k : Nat) (j : XferJob) (dup : Bool) (e : Ecc) (off : Nat) :
    KeepsWork s (s.xferEnd k j dup e off) := by
  simp [State.xferEnd]

@[simp] theorem State.memEnd_keepsWork (s : State) (k : Nat) (j : MemJob) : KeepsWork s (s.memEnd k j) := by
  simp [State.memEnd]

@[simp] theorem State.ladleHeaders_keepsWork (s : State) (k t : Nat) : KeepsWork s (s.ladleHeaders k t) := by
  simp [State.ladleHeaders]

@[simp] theorem State.settle_keepsWork (s : State) (k t : Nat) : KeepsWork s (s.settle k t) := by
  simp only [State.settle]
  (repeat' split) <;> simp

@[simp] theorem State.heldUntil_keepsWork (s : State) (k t : Nat) : KeepsWork s (s.heldUntil k t) := by
  simp only [State.heldUntil]
  split <;> simp

@[simp] theorem State.advance_keepsWork (s : State) (k t : Nat) : KeepsWork s (s.advance k t) := by
  simp [State.advance]

theorem State.sendReq_keepsWork {s : State} {k q : Nat} {e : QEnt} {r : State × QEnt} (h : s.sendReq k q e = some r) :
    KeepsWork s r.1 := by
  unfold State.sendReq at h
  extract_lets at h
  split at h
  · cases h
  · cases h
    exact ⟨rfl, rfl, rfl, rfl, rfl⟩

@[simp] theorem State.sendReqs_keepsWork (k q n : Nat) (s : State) (e : QEnt) :
    KeepsWork s (State.sendReqs k q n s e).1 := by
  induction n generalizing s e with
  | zero => simp [State.sendReqs]
  | succ n ih =>
    rw [State.sendReqs]
    split
    · simp
    · split
      next r h => exact (State.sendReq_keepsWork h).trans (ih ..)
      · simp

@[simp] theorem State.descFault_keepsWork (s : State) (k : Nat) (e : QEnt) : KeepsWork s (s.descFault k e) := by
  simp [State.descFault]

@[simp] theorem State.pumpGo_keepsWork (k q : Nat) (l : List QEnt) (s : State) :
    KeepsWork s (State.pumpGo k q l s).1 := by
  induction l generalizing s with
  | nil => simp [State.pumpGo]
  | cons e l ih =>
    simp only [State.pumpGo]
    (repeat' split) <;> simp [ih]

@[simp] theorem State.pump_keepsWork (s : State) (k q : Nat) : KeepsWork s (s.pump k q) := by
  simp [State.pump]

@[simp] theorem State.handOver_keepsWork (s : State) (k : Nat) : KeepsWork s (s.handOver k) := by
  simp only [State.handOver]
  (repeat' split) <;> simp

@[simp] theorem State.flush_keepsWork (s : State) (k : Nat) : KeepsWork s (s.flush k) := by
  simp only [State.flush]
  (repeat' split) <;> simp

@[simp] theorem State.flushAll_keepsWork (s : State) : KeepsWork s s.flushAll := by
  simp [State.flushAll]

@[simp] theorem State.openBundle_keepsWork (s : State) (k : Nat) : KeepsWork s (s.openBundle k) := by
  simp [State.openBundle]

@[simp] theorem State.issued_keepsWork (s : State) (io : Issue) (o : Op) : KeepsWork s (s.issued io o) := by
  simp [State.issued]

@[simp] theorem State.atIssue_keepsWork (s : State) (io : Issue) : KeepsWork s (s.atIssue io) := by
  simp [State.atIssue]

@[simp] theorem State.nameOp_keepsWork (s : State) (k : Nat) (o : Op) : KeepsWork s (s.nameOp k o) := by
  simp [State.nameOp]

@[simp] theorem State.noteViol_keepsWork (s : State) (k : Nat) (o : Op) (v : Nat) : KeepsWork s (s.noteViol k o v) := by
  simp [State.noteViol]

/-- What an operation does before and besides its own effect keeps what its effect keeps. -/
theorem present_keepsWork {eff : State → State} (h : ∀ s, KeepsWork s (eff s)) (s : State) (io : Issue)
    (info : State → Op) : KeepsWork s (present s io info eff) := by
  simp only [present]
  (repeat' split) <;> simp [h]

@[simp] theorem State.xferBy_keepsWork (s : State) (k : Nat) (e : Eng) (a n : Nat) : KeepsWork s (s.xferBy k e a n) := by
  simp only [State.xferBy]
  (repeat' split) <;> simp

@[simp] theorem State.runTo_keepsWork (s : State) (k t : Nat) : KeepsWork s (s.runTo k t) := by
  simp [State.runTo]

@[simp] theorem State.evCore_keepsWork (s : State) (k : Nat) (f : Core → Core) : KeepsWork s (s.evCore k f) := by
  simp [State.evCore]

end Sys2Proof.Proofs
end

section
/-! PROOFS. How a core issues (03 R61 to R66, R72, 05 R145 to R149): what an issue does and leaves alone, violations, holds. -/

open Sys2Proof Sys2Proof.Machine Sys2Proof.Claims

namespace Sys2Proof.Proofs

/-! ## What an effect at issue reaches (03 R62) -/

/-- Only cores change from `s` to `t`: core `k`, and nothing of its registers. -/
def OnCore (k : Nat) (s t : State) : Prop :=
  (∃ m, t = { s with cores := m }) ∧ sameRegs (s.core k) (t.core k) ∧ sameOthers k s t

theorem OnCore.refl (k : Nat) (s : State) : OnCore k s s := ⟨⟨_, rfl⟩, ⟨rfl, rfl, rfl, rfl⟩, fun _ _ => rfl⟩

theorem OnCore.trans {k : Nat} {s t u : State} (h : OnCore k s t) (h' : OnCore k t u) : OnCore k s u := by
  obtain ⟨⟨m, rfl⟩, ⟨hs, hv, hp, ht⟩, ho⟩ := h
  obtain ⟨⟨n, rfl⟩, ⟨hs', hv', hp', ht'⟩, ho'⟩ := h'
  exact ⟨⟨n, rfl⟩, ⟨hs'.trans hs, hv'.trans hv, hp'.trans hp, ht'.trans ht⟩, fun j hj => (ho' j hj).trans (ho j hj)⟩

theorem OnCore.sameMem {k : Nat} {s t : State} (h : OnCore k s t) : sameMem s t := by
  obtain ⟨⟨m, rfl⟩, -, -⟩ := h
  exact ⟨rfl, rfl, rfl⟩

theorem OnCore.keepsWork {k : Nat} {s t : State} (h : OnCore k s t) : KeepsWork s t := by
  obtain ⟨⟨m, rfl⟩, -, -⟩ := h
  exact ⟨rfl, rfl, rfl, rfl, rfl⟩

theorem onCore_setCore {s : State} {k : Nat} {c : Core} (h : sameRegs (s.core k) c) : OnCore k s (s.setCore k c) :=
  ⟨⟨_, rfl⟩, by rwa [State.core_setCore_same], fun _ hj => State.core_setCore_other s c hj⟩

theorem onCore_updCore {s : State} {k : Nat} {f : Core → Core} (h : sameRegs (s.core k) (f (s.core k))) :
    OnCore k s (s.updCore k f) := onCore_setCore h

/-! ## A core through the steps of an effect -/

/-- The registers that R124 gives core `d` are those of `c`, other than the arrival counters. -/
@[simp] abbrev KeepsRegs (c d : Core) : Prop :=
  d.sregs = c.sregs ∧ d.vregs = c.vregs ∧ d.preds = c.preds ∧ d.tiles = c.tiles

/-- So are the results and long operations in flight, the clock and the freeze. -/
@[simp] abbrev KeepsFlight (c d : Core) : Prop :=
  KeepsRegs c d ∧ d.pend = c.pend ∧ d.mmas = c.mmas ∧ d.xfer = c.xfer ∧ d.mem = c.mem ∧ d.cycle = c.cycle ∧
  d.frozen = c.frozen

@[simp] theorem Core.newTag_keeps (c : Core) : KeepsFlight c c.newTag :=
  ⟨⟨rfl, rfl, rfl, rfl⟩, rfl, rfl, rfl, rfl, rfl, rfl⟩

@[simp] theorem Core.track_keeps (c : Core) (lo n : Nat) (wr : Bool) (release run : Option Nat) :
    KeepsFlight c (c.track lo n wr release run) := ⟨⟨rfl, rfl, rfl, rfl⟩, rfl, rfl, rfl, rfl, rfl, rfl⟩

@[simp] theorem trackUntil_keeps (c : Core) (lo n : Nat) (wr : Bool) (till first : Nat) :
    KeepsFlight c (trackUntil c lo n wr till first) := by simp [trackUntil]

@[simp] theorem Core.useEng_keeps (c : Core) (e : Eng) (r : Run) : KeepsFlight c (c.useEng e r) :=
  ⟨⟨rfl, rfl, rfl, rfl⟩, rfl, rfl, rfl, rfl, rfl, rfl⟩

@[simp] theorem Core.noteClass_keeps (c : Core) (cls : Nat) : KeepsFlight c (c.noteClass cls) :=
  ⟨⟨rfl, rfl, rfl, rfl⟩, rfl, rfl, rfl, rfl, rfl, rfl⟩

@[simp] theorem Core.noteTile_keeps (c : Core) (t : Nat) : KeepsFlight c (c.noteTile t) :=
  ⟨⟨rfl, rfl, rfl, rfl⟩, rfl, rfl, rfl, rfl, rfl, rfl⟩

@[simp] theorem Core.path_keeps (c : Core) (p : Nat) (b : Bytes) : KeepsFlight c (c.path p b) :=
  ⟨⟨rfl, rfl, rfl, rfl⟩, rfl, rfl, rfl, rfl, rfl, rfl⟩

@[simp] theorem Core.countStall_keeps (c : Core) (code n : Nat) : KeepsFlight c (c.countStall code n) :=
  ⟨⟨rfl, rfl, rfl, rfl⟩, rfl, rfl, rfl, rfl, rfl, rfl⟩

@[simp] theorem Core.setAc_keeps (c : Core) (i : Nat) (v : BitVec 32) : KeepsFlight c (c.setAc i v) :=
  ⟨⟨rfl, rfl, rfl, rfl⟩, rfl, rfl, rfl, rfl, rfl, rfl⟩

@[simp] theorem Core.setQueue_keeps (c : Core) (q : Nat) (l : List QEnt) : KeepsFlight c (c.setQueue q l) :=
  ⟨⟨rfl, rfl, rfl, rfl⟩, rfl, rfl, rfl, rfl, rfl, rfl⟩

@[simp] theorem Core.setSq_keeps (c : Core) (ch : Nat) (l : List SFlit) : KeepsFlight c (c.setSq ch l) :=
  ⟨⟨rfl, rfl, rfl, rfl⟩, rfl, rfl, rfl, rfl, rfl, rfl⟩

@[simp] theorem Core.setRing_keeps (c : Core) (ch : Nat) (r : Ring) : KeepsFlight c (c.setRing ch r) :=
  ⟨⟨rfl, rfl, rfl, rfl⟩, rfl, rfl, rfl, rfl, rfl, rfl⟩

@[simp] theorem Core.setLadle_keeps (c : Core) (e : Nat) (l : Ladle) : KeepsFlight c (c.setLadle e l) :=
  ⟨⟨rfl, rfl, rfl, rfl⟩, rfl, rfl, rfl, rfl, rfl, rfl⟩

@[simp] theorem queueMsg_keeps (c : Core) (ch : Nat) (l : List (Flit × Option Nat)) (off tag after : Nat) :
    KeepsFlight c (queueMsg c ch l off tag after) := Core.setSq_keeps ..

@[simp] theorem alloc_keeps (c : Core) (q : Nat) (e : QEnt) : KeepsFlight c (alloc c q e) := by
  simp [alloc]

@[simp] theorem takeBuf_keeps (c : Core) (ch n till : Nat) : KeepsFlight c (takeBuf c ch n till) := by
  unfold takeBuf
  split <;> simp

@[simp] theorem State.noteStore_keepsFlight (s : State) (k a : Nat) (b : Bytes) (c : Core) :
    KeepsFlight c (s.noteStore k a b c) := by
  unfold State.noteStore
  split <;> simp

@[simp] theorem State.notePath_keepsFlight (s : State) (p : Nat) (b : Bytes) (c : Core) :
    KeepsFlight c (s.notePath p b c) := by
  unfold State.notePath
  split <;> simp

@[simp] theorem branchTo_keeps (c : Core) (f : CtlF) (taken : Bool) : KeepsFlight c (branchTo c f taken) := by
  cases taken <;> simp [branchTo]

@[simp] theorem Core.send_keepsRegs (c : Core) (d : Dest) (lat : Nat) : KeepsRegs c (c.send d lat) :=
  ⟨rfl, rfl, rfl, rfl⟩

@[simp] theorem startXfer_keepsRegs (c : Core) (j : XferJob) (fix n : Nat) : KeepsRegs c (startXfer c j fix n) := by
  simp [startXfer]

@[simp] theorem vecDone_keepsRegs (v : VSpec) (f : VecF) (c : Core) (d : Dest) : KeepsRegs c (vecDone v f c d) := by
  simp [vecDone]

theorem foldl_keepsRegs {α : Type} {f : Core → α → Core} (h : ∀ c x, KeepsRegs c (f c x)) (l : List α) (c : Core) :
    KeepsRegs c (l.foldl f c) :=
  List.foldlRecOn l f (motive := KeepsRegs c) ⟨rfl, rfl, rfl, rfl⟩ fun d hd x _ => by simp [hd, h d x]

/-! ## The effects of the slots -/

theorem fillSend_onCore (s : State) (k ch : Nat) : OnCore k s (s.fillSend k ch) := by
  refine onCore_setCore ?_
  dsimp only
  split <;> simp [sameRegs]

theorem effMma_onCore (k : Nat) (sparse : Bool) (f : MmaF) (s : State) : OnCore k s (effMma k sparse f s) := by
  refine onCore_setCore ?_
  split <;> simp [sameRegs]

theorem effSts_onCore (k : Nat) (f : MovF) (ecc : Ecc) (s : State) : OnCore k s (effSts k f ecc s) := by
  simp only [effSts]
  split
  · exact onCore_setCore (by simp [sameRegs])
  · exact onCore_setCore (by simp [sameRegs])

theorem effShrd_onCore (k : Nat) (f : MovF) (s : State) : OnCore k s (effShrd k f s) := by
  simp only [effShrd]
  split
  · exact onCore_setCore ⟨rfl, rfl, rfl, rfl⟩
  · exact OnCore.refl ..

theorem effQGath_onCore (k : Nat) (f : MovF) (s : State) : OnCore k s (effQGath k f s) :=
  onCore_setCore (foldl_keepsRegs (fun _ _ => (alloc_keeps ..).1) _ _)

@[simp] theorem laneIo_core (io : Issue) (f : VecF) : (laneIo io f).core = io.core := rfl

/-- R62: the effect of a slot operation at its issue is on its core, and writes none of its registers. -/
theorem eff_onCore {c : Instr} {io : Issue} {info : State → Op} {eff : State → State} (h : slotOf c = some (io, info, eff))
    (s : State) : OnCore io.core s (eff s) := by
  cases c <;> cases h
  case nop | ill | waitCh | waitLd => exact OnCore.refl ..
  case waitAc =>
    unfold effWaitAc
    split
    · exact onCore_updCore (Core.setAc_keeps ..).1
    · exact OnCore.refl ..
  case waitQ =>
    unfold effWaitQ
    split
    · exact onCore_updCore (Core.setQueue_keeps ..).1
    · exact OnCore.refl ..
  case mma | mmaSp => exact effMma_onCore ..
  case sts => exact effSts_onCore ..
  case shrd => exact effShrd_onCore ..
  case qGath => exact effQGath_onCore ..
  case send => exact (onCore_setCore (by simp [sameRegs])).trans (fillSend_onCore ..)
  all_goals exact onCore_setCore (by simp [sameRegs])

theorem issued_onCore (s : State) (io : Issue) (o : Op) : OnCore io.core s (s.issued io o) := by
  unfold State.issued
  exact onCore_updCore ⟨rfl, rfl, rfl, rfl⟩

/-! ## Presenting an operation -/

/-- What `State.issues` asks for, part by part. -/
theorem issues_iff (s : State) (io : Issue) (info : State → Op) : s.issues io info = true ↔
    s.canRun io.core io.join = true ∧ okCore io.core = true ∧
    (io.join = true → (s.core io.core).joinable (info (s.atIssue io)).slot = true) ∧ (before s io).frozen = none ∧
    staticViol (before s io) io (info (s.atIssue io)) = none ∧ (before s io).held = false ∧ (before s io).viol = none ∧
    minHold ((s.atIssue io).unmet io.core (info (s.atIssue io))) = none ∧
    (s.atIssue io).violates io.core (info (s.atIssue io)) = none := by
  simp only [State.issues, before, okCore, Bool.and_eq_true, Bool.or_eq_true, Bool.not_eq_true', Option.isNone_iff_eq_none,
    and_assoc]
  cases io.join <;> simp

/-- R61: a core that may run and is not frozen judges the operation presented to it: its state after that. -/
theorem present_judged {s : State} {io : Issue} (info : State → Op) (eff : State → State)
    (hrun : s.canRun io.core io.join = true) (hcore : okCore io.core = true)
    (hjoin : io.join = true → (s.core io.core).joinable (info (s.atIssue io)).slot = true)
    (hfrozen : (before s io).frozen = none) : present s io info eff =
      match staticViol (before s io) io (info (s.atIssue io)) with
      | some v => (s.atIssue io).freezeBundle io.core (info (s.atIssue io)).slot (info (s.atIssue io)).opc v
      | none =>
        if (before s io).held then (s.atIssue io).nameOp io.core (info (s.atIssue io))
        else match minHold ((s.atIssue io).unmet io.core (info (s.atIssue io))) with
          | some h => (s.atIssue io).holdBundle io.core h.1 h.2 (info (s.atIssue io)).names
          | none =>
            if (before s io).viol.isSome then (s.atIssue io).nameOp io.core (info (s.atIssue io))
            else match (s.atIssue io).violates io.core (info (s.atIssue io)) with
              | some v => (s.atIssue io).noteViol io.core (info (s.atIssue io)) v
              | none => (eff (s.atIssue io)).issued io (info (s.atIssue io)) := by
  have hk : decide (io.core < 39168) = true := hcore
  have hj : (io.join && !(s.core io.core).joinable (info (s.atIssue io)).slot) = false := by
    cases h : io.join
    · rfl
    · simp [hjoin h]
  have hf : ((s.atIssue io).core io.core).frozen.isSome = false := by
    rw [show ((s.atIssue io).core io.core).frozen = none from hfrozen]
    rfl
  simp only [present, hrun, hk, hj, hf, before]
  rfl

/-- Settles O7, by the order in which an operation is judged (05 R149). -/
theorem slotOpIssues : Obligations.slot_op_issues := by
  unfold Obligations.slot_op_issues
  intro c io info eff hc s hi
  obtain ⟨hrun, hcore, hjoin, hfrozen, hstatic, hheld, hviol, hhold, hdyn⟩ := (issues_iff s io info).mp hi
  rw [exec_of_slotOf hc, slotOp_next hcore, present_judged info eff hrun hcore hjoin hfrozen]
  simp only [hstatic, hheld, hhold, hviol, hdyn]
  rfl

theorem present_of_not_canRun {s : State} {io : Issue} (info : State → Op) (eff : State → State)
    (h : s.canRun io.core io.join = false) : present s io info eff = s := by
  simp [present, h]

/-- What an operation that issues reaches is its core. -/
theorem issues_onCore {c : Instr} {io : Issue} {info : State → Op} {eff : State → State} (hc : slotOf c = some (io, info, eff))
    {s : State} (hi : s.issues io info = true) : answers c s (OnCore io.core (s.atIssue io)) :=
  ⟨_, slotOpIssues c io info eff hc s hi, (eff_onCore hc _).trans (issued_onCore ..)⟩

/-- Settles O10: a core that may not run is not touched; an issue reaches nothing but its core. -/
theorem issueFrame : Obligations.issue_frame := by
  unfold Obligations.issue_frame
  refine ⟨fun c io info eff hc s hrun hcore => ?_, fun c io info eff hc s hi => ?_⟩
  · rw [exec_of_slotOf hc, slotOp_next hcore, present_of_not_canRun info eff hrun]
  · obtain ⟨t, ht, hon⟩ := issues_onCore hc hi
    obtain ⟨-, -, -, hprog, haccess⟩ := State.atIssue_keepsWork s io
    refine ⟨t, ht, hon.2.1, hon.sameMem, hon.2.2, ?_⟩
    obtain ⟨⟨m, rfl⟩, -, -⟩ := hon
    exact ⟨rfl, hprog, haccess⟩

end Sys2Proof.Proofs
end

section
/-! PROOFS. Violations and holds of a bundle (03 R64, R66, R72, 05 R148, R149), results written (03 R62), the start of an MMA (03
R68, 05 R133, 07 R180). -/

open Sys2Proof Sys2Proof.Machine Sys2Proof.Claims

namespace Sys2Proof.Proofs

/-! ## A violation judged at once (03 R72, 05 R149) -/

/-- A core as its freeze leaves it. -/
def frozenAs (c : Core) (pc : Nat) (slot : Slot) (viol : Nat) : Core :=
  { c with frozen := some { pc := pc, slot := slot, violation := viol }, hold := none, openSlot := none }

theorem freezeAt_core (s : State) (k pc : Nat) (slot : Slot) (opc viol operation related : Nat) :
    (s.freezeAt k pc slot opc viol operation related).core k = frozenAs (s.core k) pc slot viol := by
  simp [State.freezeAt, frozenAs]

theorem freezeAt_others (s : State) (k pc : Nat) (slot : Slot) (opc viol operation related : Nat) :
    sameOthers k s (s.freezeAt k pc slot opc viol operation related) := by
  intro j hj
  simp [State.freezeAt, hj]

@[simp] theorem freezeAt_spad (s : State) (k pc : Nat) (slot : Slot) (opc viol operation related : Nat) :
    (s.freezeAt k pc slot opc viol operation related).spad = s.spad := by
  simp [State.freezeAt]

theorem freezeBundle_core (s : State) (k : Nat) (slot : Slot) (opc viol : Nat) :
    (s.freezeBundle k slot opc viol).core k = frozenAs (s.snap k) (s.snap k).pc slot viol := by
  rw [State.freezeBundle, freezeAt_core, State.core_setCore_same]

theorem freezeBundle_others (s : State) (k : Nat) (slot : Slot) (opc viol : Nat) :
    sameOthers k s (s.freezeBundle k slot opc viol) := by
  intro j hj
  rw [State.freezeBundle, freezeAt_others _ _ _ _ _ _ _ _ j hj, State.core_setCore_other _ _ hj]
  split <;> rfl

theorem freezeBundle_sameMem (s : State) (k : Nat) (slot : Slot) (opc viol : Nat) :
    sameMem s (s.freezeBundle k slot opc viol) := by
  simp [State.freezeBundle, sameMem]

/-- R72: a static violation freezes the core as it was before the bundle. -/
theorem staticViol_freezes {c : Instr} {io : Issue} {info : State → Op} {eff : State → State}
    (hc : slotOf c = some (io, info, eff)) {s : State} (hrun : s.canRun io.core io.join = true)
    (hcore : okCore io.core = true)
    (hjoin : io.join = true → (s.core io.core).joinable (info (s.atIssue io)).slot = true)
    (hfrozen : (before s io).frozen = none) {v : Nat} (hv : staticViol (before s io) io (info (s.atIssue io)) = some v) :
    answers c s (fun t =>
      t.core io.core = frozenAs ((s.atIssue io).snap io.core) ((s.atIssue io).snap io.core).pc
        (info (s.atIssue io)).slot v ∧
      sameMem (s.atIssue io) t ∧ sameOthers io.core (s.atIssue io) t) := by
  refine ⟨(s.atIssue io).freezeBundle io.core (info (s.atIssue io)).slot (info (s.atIssue io)).opc v, ?_,
    freezeBundle_core .., freezeBundle_sameMem .., freezeBundle_others _ _ _ _ _⟩
  rw [exec_of_slotOf hc, slotOp_next hcore, present_judged info eff hrun hcore hjoin hfrozen, hv]

/-- R149: a dynamic violation is kept until the bundle is complete. -/
theorem dynViol_noted {c : Instr} {io : Issue} {info : State → Op} {eff : State → State}
    (hc : slotOf c = some (io, info, eff)) {s : State} (hrun : s.canRun io.core io.join = true)
    (hcore : okCore io.core = true)
    (hjoin : io.join = true → (s.core io.core).joinable (info (s.atIssue io)).slot = true)
    (hfrozen : (before s io).frozen = none) (hstatic : staticViol (before s io) io (info (s.atIssue io)) = none)
    (hheld : (before s io).held = false) (hhold : minHold ((s.atIssue io).unmet io.core (info (s.atIssue io))) = none)
    (hviol : (before s io).viol = none) {v : Nat}
    (hv : (s.atIssue io).violates io.core (info (s.atIssue io)) = some v) :
    answers c s (fun t =>
      (t.core io.core).viol = some ((info (s.atIssue io)).slot, (info (s.atIssue io)).opc, v) ∧
      (t.core io.core).pend = (before s io).pend ∧ sameRegs (before s io) (t.core io.core) ∧
      sameMem (s.atIssue io) t ∧ sameOthers io.core (s.atIssue io) t) := by
  refine ⟨(s.atIssue io).noteViol io.core (info (s.atIssue io)) v, ?_, ?_⟩
  · rw [exec_of_slotOf hc, slotOp_next hcore, present_judged info eff hrun hcore hjoin hfrozen]
    simp only [hstatic, hheld, hhold, hviol, hv]
    rfl
  · refine ⟨?_, ?_, ?_, ⟨rfl, rfl, rfl⟩, fun j hj => ?_⟩
    · simp [State.noteViol]
    · simp [State.noteViol, State.nameOp, before]
    · simp [State.noteViol, State.nameOp, before, sameRegs]
    · simp [State.noteViol, State.nameOp, hj]

/-! ## A violation of a complete bundle: what is handed over leaves the freeze (05 R149) -/

/-- What a freeze record names, other than a frozen queue engine. -/
def Freeze.key (f : Freeze) : Nat × Slot × Nat := (f.pc, f.slot, f.violation)

/-- From `s` to `t` memories, the registers of core `k` and the cause of its freeze stay. -/
def HandsOver (k : Nat) (s t : State) : Prop :=
  sameMem s t ∧ sameRegs (s.core k) (t.core k) ∧
  ((s.core k).frozen.isSome = true → (t.core k).frozen.map Freeze.key = (s.core k).frozen.map Freeze.key)

theorem HandsOver.refl (k : Nat) (s : State) : HandsOver k s s := ⟨⟨rfl, rfl, rfl⟩, ⟨rfl, rfl, rfl, rfl⟩, fun _ => rfl⟩

theorem HandsOver.trans {k : Nat} {s t u : State} (h : HandsOver k s t) (h' : HandsOver k t u) : HandsOver k s u := by
  obtain ⟨⟨hspad, hhbm, himem⟩, ⟨hs, hv, hp, ht⟩, hf⟩ := h
  obtain ⟨⟨hspad', hhbm', himem'⟩, ⟨hs', hv', hp', ht'⟩, hf'⟩ := h'
  refine ⟨⟨hspad'.trans hspad, hhbm'.trans hhbm, himem'.trans himem⟩,
    ⟨hs'.trans hs, hv'.trans hv, hp'.trans hp, ht'.trans ht⟩, fun h => ?_⟩
  have ht : (t.core k).frozen.isSome = true := by
    rw [← Option.isSome_map (f := Freeze.key), hf h, Option.isSome_map, h]
  exact (hf' ht).trans (hf h)

theorem Aside.handsOver {s t : State} (h : Aside s t) (k : Nat) : HandsOver k s t := by
  obtain ⟨⟨-, hcore, -, hspad⟩, himem, hhbm, -⟩ := h
  exact ⟨⟨hspad, hhbm, himem⟩, by simp [hcore, sameRegs], fun _ => by rw [hcore]⟩

theorem handsOver_updCore {s : State} {k : Nat} {f : Core → Core} (hregs : KeepsRegs (s.core k) (f (s.core k)))
    (hfrozen : (f (s.core k)).frozen = (s.core k).frozen) : HandsOver k s (s.updCore k f) := by
  refine ⟨⟨rfl, rfl, rfl⟩, ?_, fun _ => ?_⟩
  · rw [State.core_updCore_same]
    exact hregs
  · rw [State.core_updCore_same, hfrozen]

theorem foldl_handsOver {α : Type} {k : Nat} {f : State → α → State} (h : ∀ s x, HandsOver k s (f s x)) (l : List α)
    (s : State) : HandsOver k s (l.foldl f s) :=
  List.foldlRecOn l f (motive := HandsOver k s) (HandsOver.refl k s) fun t ht x _ => ht.trans (h t x)

theorem sendReq_handsOver {s : State} {k q : Nat} {e : QEnt} {r : State × QEnt} (h : s.sendReq k q e = some r) :
    HandsOver k s r.1 := by
  unfold State.sendReq at h
  extract_lets n c0 t key used usedL run t' data at' arg hdr m1 m2 nt s1 s2 e' at h
  split at h
  · cases h
  · cases h
    have h1 : HandsOver k s s1 := Aside.handsOver (aside_of ⟨⟨rfl, rfl, rfl⟩, rfl, rfl, rfl, rfl, rfl⟩) k
    have h2 : HandsOver k s1 s2 := by
      refine handsOver_updCore ?_ ?_
      · split <;> simp
      · split <;> simp
    exact (h1.trans h2).trans ((State.injectAt_aside ..).handsOver k)

theorem sendReqs_handsOver (k q n : Nat) (s : State) (e : QEnt) : HandsOver k s (State.sendReqs k q n s e).1 := by
  induction n generalizing s e with
  | zero => exact HandsOver.refl ..
  | succ n ih =>
    rw [State.sendReqs]
    split
    · exact HandsOver.refl ..
    · split
      next r h => exact (sendReq_handsOver h).trans (ih ..)
      · exact HandsOver.refl ..

theorem descFault_handsOver (s : State) (k : Nat) (e : QEnt) : HandsOver k s (s.descFault k e) := by
  unfold State.descFault
  extract_lets s1 s2
  have h1 : HandsOver k s s1 := ⟨⟨rfl, rfl, rfl⟩, ⟨rfl, rfl, rfl, rfl⟩, fun _ => rfl⟩
  have h2 : HandsOver k s1 s2 := by
    unfold s2
    split
    · exact HandsOver.refl ..
    next hf =>
      exact ⟨by simp [sameMem], by rw [freezeAt_core]; exact ⟨rfl, rfl, rfl, rfl⟩, fun h => absurd h hf⟩
  refine (h1.trans h2).trans ⟨⟨rfl, rfl, rfl⟩, ?_, fun _ => ?_⟩
  · rw [State.core_updCore_same]
    exact ⟨rfl, rfl, rfl, rfl⟩
  · rw [State.core_updCore_same, Option.map_map]
    rfl

theorem pumpGo_handsOver (k q : Nat) (l : List QEnt) (s : State) : HandsOver k s (State.pumpGo k q l s).1 := by
  induction l generalizing s with
  | nil => exact HandsOver.refl ..
  | cons e l ih =>
    have hrest (x : State × QEnt) : HandsOver k x.1
        (if x.2.sent then ((State.pumpGo k q l x.1).1, x.2 :: (State.pumpGo k q l x.1).2) else (x.1, x.2 :: l)).1 := by
      split
      · exact ih x.1
      · exact HandsOver.refl ..
    have hsend (u : State) (x : QEnt) := (sendReqs_handsOver k q 64 u x).trans (hrest (State.sendReqs k q 64 u x))
    unfold State.pumpGo
    split
    · exact ih s
    split
    · exact HandsOver.refl ..
    split
    · split
      · exact descFault_handsOver ..
      · extract_lets u
        have hu : HandsOver k s u := ((State.noteTable_aside ..).handsOver k).trans (handsOver_updCore (by simp) (by simp))
        split
        · exact hu
        · exact hu.trans (hsend u _)
    · exact hsend s e

theorem pump_handsOver (s : State) (k q : Nat) : HandsOver k s (s.pump k q) :=
  (pumpGo_handsOver ..).trans (handsOver_updCore (Core.setQueue_keeps ..).1 rfl)

theorem handOver_handsOver (s : State) (k : Nat) : HandsOver k s (s.handOver k) := by
  unfold State.handOver
  split
  · exact handsOver_updCore ⟨rfl, rfl, rfl, rfl⟩ rfl
  · extract_lets c r s1 led net s2 s3
    have h1 : HandsOver k s s1 := (State.handPackets_aside ..).handsOver k
    have h2 : HandsOver k s1 s2 := by
      unfold s2
      split
      · exact HandsOver.refl ..
      · exact Aside.handsOver (aside_of ⟨⟨rfl, rfl, rfl⟩, rfl, rfl, rfl, rfl, rfl⟩) k
    have h3 : HandsOver k s2 s3 := handsOver_updCore ⟨rfl, rfl, rfl, rfl⟩ rfl
    exact ((h1.trans h2).trans h3).trans (foldl_handsOver (fun s q => pump_handsOver s k q) _ _)

theorem flush_of_viol {s : State} {k : Nat} {x : Slot × Nat × Nat} (h : (s.core k).viol = some x) :
    s.flush k = (s.freezeBundle k x.1 x.2.1 x.2.2).handOver k := by
  simp [State.flush, Core.loaded, h]

/-- R149: once the bundle is complete a dynamic violation freezes the core as it was before it. -/
theorem flush_freezes {s : State} {k opc v : Nat} {sl : Slot} (h : (s.core k).viol = some (sl, opc, v)) :
    (((s.flush k).core k).frozen.map (fun f => (f.pc, f.slot, f.violation))) = some ((s.snap k).pc, sl, v) ∧
    sameRegs (s.snap k) ((s.flush k).core k) ∧ sameMem s (s.flush k) := by
  obtain ⟨⟨hspad, hhbm, himem⟩, hregs, hf⟩ := handOver_handsOver (s.freezeBundle k sl opc v) k
  obtain ⟨hspad', hhbm', himem'⟩ := freezeBundle_sameMem s k sl opc v
  rw [freezeBundle_core] at hregs hf
  rw [flush_of_viol h]
  exact ⟨hf rfl, hregs, hspad.trans hspad', hhbm.trans hhbm', himem.trans himem'⟩

/-- Settles O8: a violation restores the core to before its bundle and freezes it, at once or when the bundle is complete; an
unlisted opcode is a static violation. -/
theorem violationFreezes : Obligations.violation_freezes := by
  unfold Obligations.violation_freezes
  refine ⟨fun c io info eff hc s hrun hcore hjoin hfrozen v hv => staticViol_freezes hc hrun hcore hjoin hfrozen hv,
    fun c io info eff hc s hrun hcore hjoin hfrozen hstatic hheld hhold hviol v hv =>
      dynViol_noted hc hrun hcore hjoin hfrozen hstatic hheld hhold hviol hv,
    fun s k opc v sl h => flush_freezes h, fun io sl opc s hrun hcore hjoin hfrozen => ?_⟩
  have hv : staticViol (before s io) io (infoIll sl opc (s.atIssue io)) = some 1 := by
    simp [staticViol, infoIll]
  obtain ⟨t, ht, hcoreAt, hmem, -⟩ :=
    staticViol_freezes (c := .ill ⟨io, sl, opc⟩) (io := io) (eff := id) rfl hrun hcore hjoin hfrozen hv
  refine ⟨t, ht, ?_⟩
  beta_reduce
  rw [hcoreAt]
  exact ⟨rfl, ⟨rfl, rfl, rfl, rfl⟩, rfl, hmem⟩

/-! ## A held bundle (03 R64, R66; log 50) -/

theorem minHold_none {l : List (Nat × Nat)} (h : minHold l = none) : l = [] := by
  cases l with
  | nil => rfl
  | cons x t =>
    rw [minHold] at h
    split at h <;> cases h

/-- No code of the list is lower than the one that is counted. -/
theorem minHold_le {l : List (Nat × Nat)} {h : Nat × Nat} (hl : minHold l = some h) : ∀ x ∈ l, h.1 ≤ x.1 := by
  induction l generalizing h with
  | nil => simp
  | cons y t ih =>
    rw [minHold] at hl
    cases hm : minHold t with
    | none =>
      rw [hm] at hl
      cases hl
      simp [minHold_none hm]
    | some z =>
      have hz := ih hm
      rw [hm] at hl
      cases hl
      intro x hx
      rcases List.mem_cons.mp hx with rfl | hx
      · split <;> omega
      · have := hz x hx
        split <;> omega

theorem holdBundle_core (s : State) (k code what : Nat) (names : List (Nat × Nat)) :
    (s.holdBundle k code what names).core k =
      { (s.snap k).countStall code 1 with
        held := true, hold := some (code, what), openSlot := some .sync, named := (s.core k).named ++ names } := by
  simp [State.holdBundle]

theorem holdBundle_others (s : State) (k code what : Nat) (names : List (Nat × Nat)) :
    sameOthers k s (s.holdBundle k code what names) := by
  intro j hj
  simp [State.holdBundle, hj]

theorem holdBundle_sameMem (s : State) (k code what : Nat) (names : List (Nat × Nat)) :
    sameMem s (s.holdBundle k code what names) := by
  simp [State.holdBundle, sameMem]

/-- Settles O9: a hold puts the core back to before its bundle, with the cycle counted under the lowest code. -/
theorem holdCounts : Obligations.hold_counts := by
  unfold Obligations.hold_counts
  intro c io info eff hc s hrun hcore hjoin hfrozen hstatic hheld code what hhold
  refine ⟨minHold_le hhold, (s.atIssue io).holdBundle io.core code what (info (s.atIssue io)).names, ?_, ?_⟩
  · rw [exec_of_slotOf hc, slotOp_next hcore, present_judged info eff hrun hcore hjoin hfrozen]
    simp only [hstatic, hheld, hhold]
    rfl
  · beta_reduce
    rw [holdBundle_core]
    exact ⟨rfl, rfl, rfl, rfl, ⟨rfl, rfl, rfl, rfl⟩, holdBundle_sameMem .., holdBundle_others _ _ _ _ _⟩

/-! ## Results written (03 R62, 05 R124) -/

theorem putAll_append {α : Type} [DecidableEq α] (d : Nat → α) (l r : List (Nat × α)) (m : SMap α) :
    SMap.putAll d m (l ++ r) = SMap.putAll d (SMap.putAll d m l) r := by
  induction l generalizing m with
  | nil => rfl
  | cons p l ih => exact ih _

theorem landDest_sreg (s : State) (k r q : Nat) (v : BitVec 64) : ((s.landDest k (.sreg r v)).core k).sreg q =
    if q = 0 then 0 else if q = r then v else (s.core k).sreg q := by
  rw [State.landDest, State.core_updCore_same, Core.sreg_setSreg]

theorem landDest_pred (s : State) (k p q : Nat) (v : BitVec 64) : ((s.landDest k (.pred p v)).core k).predOf q =
    if q = 0 then BitVec.allOnes 64 else if q = p then v else (s.core k).predOf q := by
  rw [State.landDest, State.core_updCore_same, Core.predOf_setPred]

theorem landDest_vregs (s : State) (k r : Nat) (l : List (Nat × BitVec 32)) :
    ((s.landDest k (.vreg r l)).core k).vregs = SMap.putAll (fun _ => 0) (s.core k).vregs l := by
  rw [State.landDest, State.core_updCore_same]

theorem spadRead_landDest_store_same (s : State) (k a : Nat) (b : Bytes) :
    (s.landDest k (.store a b)).spadRead k a b.length = b := readBytes_writeBytes ..

theorem spadRead_landDest_store_other (s : State) (k a j n : Nat) (b : Bytes)
    (h : spadKey j n < spadKey k a ∨ spadKey k a + b.length ≤ spadKey j n) :
    (s.landDest k (.store a b)).spadRead j n 1 = s.spadRead j n 1 := by
  have hout : ¬ (spadKey k a ≤ spadKey j n ∧ spadKey j n < spadKey k a + b.length) := by omega
  simp [State.landDest, State.spadRead, readBytes, get_writeBytes, hout]

/-- Settles O11, destination by destination. -/
theorem resultWritten : Obligations.result_written := by
  unfold Obligations.result_written
  refine ⟨landDest_sreg, landDest_pred, fun s k r q i l hl => ?_, fun s k r q i v l => ?_,
    fun s k a j n b => spadRead_landDest_store_other s k a j n b, spadRead_landDest_store_same⟩
  · rw [Core.lane, landDest_vregs, SMap.get_putAll_other _ _ _ _ hl, Core.lane]
  · rw [Core.lane, landDest_vregs, putAll_append]
    exact SMap.get_put_same ..

/-! ## The start of an MMA (03 R68, 05 R133, 07 R180) -/

/-- The MMA and MMA.SP operations as slot operations. -/
theorem slotOf_mma {c : Instr} {sp : Bool} {io : Issue} {f : MmaF}
    (h : (c = Instr.mma io f ∧ sp = false) ∨ (c = Instr.mmaSp io f ∧ sp = true)) :
    slotOf c = some (io, infoMma io.core sp f, effMma io.core sp f) := by
  rcases h with ⟨rfl, rfl⟩ | ⟨rfl, rfl⟩ <;> rfl

/-- The B image of an MMA as its operand source gives it at issue (05 R132, 07 R180). -/
def mmaImageB (s : State) (k : Nat) (sp : Bool) (f : MmaF) : Bytes :=
  let n := imageLen f.fb.toNat sp true
  if f.bsrc then
    match readyBuf (s.core k) f.chb.toNat (n / 64) with | some x => (x.flits.take (n / 64)).flatMap flitBytes | none => []
  else s.spadRead k (s.phys k (imgEa (s.core k) f.rb f.offB)) n

/-- The job that an MMA starts. -/
def mmaJob (s : State) (k : Nat) (sp : Bool) (f : MmaF) : MmaJob :=
  let c := s.core k
  let kc := kCycles sp f.fa.toNat f.fb.toNat (c.tile f.acc.toNat).cls
  { tile := f.acc.toNat, sparse := sp, fa := f.fa, fb := f.fb
    a := s.spadRead k (s.phys k (imgEa c f.ra f.offA)) (imageLen f.fa.toNat sp false)
    b := mmaImageB s k sp f, pc := (s.snap k).pc, issue := c.cycle, k := kc, done := c.cycle + kc + 6 }

theorem effMma_mmas (s : State) (k : Nat) (sp : Bool) (f : MmaF) :
    ((effMma k sp f s).core k).mmas = (s.core k).mmas ++ [mmaJob s k sp f] := by
  simp only [effMma, State.core_setCore_same]
  cases h : f.bsrc
  · simp [mmaJob, mmaImageB, h]
  · cases hr : readyBuf (s.core k) f.chb.toNat (imageLen f.fb.toNat sp true / 64) <;> simp [mmaJob, mmaImageB, h, hr]

theorem issued_mmas (s : State) (io : Issue) (o : Op) : ((s.issued io o).core io.core).mmas = (s.core io.core).mmas := by
  simp [State.issued]

/-- R68: an MMA that issues starts its job on the images as they stand. -/
theorem mma_issues {c : Instr} {sp : Bool} {io : Issue} {f : MmaF}
    (h : (c = Instr.mma io f ∧ sp = false) ∨ (c = Instr.mmaSp io f ∧ sp = true)) {s : State}
    (hi : s.issues io (infoMma io.core sp f) = true) : answers c s (fun t =>
      (t.core io.core).mmas = (before s io).mmas ++ [mmaJob (s.atIssue io) io.core sp f] ∧
      sameRegs (before s io) (t.core io.core) ∧ sameMem (s.atIssue io) t) := by
  have hon := (effMma_onCore io.core sp f (s.atIssue io)).trans (issued_onCore _ io (infoMma io.core sp f (s.atIssue io)))
  refine ⟨_, slotOpIssues c io _ _ (slotOf_mma h) s hi, ?_, hon.2.1, hon.sameMem⟩
  rw [issued_mmas, effMma_mmas, before]

/-- R180: an MMA with B from an operand port issues only on a full B buffer. -/
theorem readyBuf_of_issues {sp : Bool} {io : Issue} {f : MmaF} (hb : f.bsrc = true) {s : State}
    (hi : s.issues io (infoMma io.core sp f) = true) :
    ∃ x, readyBuf (before s io) f.chb.toNat (imageLen f.fb.toNat sp true / 64) = some x := by
  obtain ⟨-, -, -, -, -, -, -, hhold, -⟩ := (issues_iff s io _).mp hi
  cases hr : readyBuf (before s io) f.chb.toNat (imageLen f.fb.toNat sp true / 64) with
  | some x => exact ⟨x, rfl⟩
  | none =>
    have hwait : (5, 128 + f.chb.toNat) ∈ (s.atIssue io).unmet io.core (infoMma io.core sp f (s.atIssue io)) := by
      have : readyBuf ((s.atIssue io).core io.core) f.chb.toNat (bLines sp f) = none := hr
      simp [State.unmet, infoMma, hb, this]
    rw [minHold_none hhold] at hwait
    cases hwait

/-- Settles O18: the job that an MMA starts, and the hold on its B buffer. -/
theorem mmaStarts : Obligations.mma_starts := by
  unfold Obligations.mma_starts
  refine ⟨fun c sp io f h hb s hi => ?_, fun c sp io f h hb s hi => ?_⟩
  · obtain ⟨t, ht, hmmas, hregs, hmem⟩ := mma_issues h hi
    refine ⟨t, ht, mmaJob (s.atIssue io) io.core sp f, hmmas, rfl, rfl, rfl, ?_, rfl, rfl, hregs, hmem⟩
    simp [mmaJob, mmaImageB, hb, before]
  · obtain ⟨t, ht, hmmas, hregs, hmem⟩ := mma_issues h hi
    obtain ⟨x, hx⟩ := readyBuf_of_issues hb hi
    refine ⟨t, ht, mmaJob (s.atIssue io) io.core sp f, x, hmmas, rfl, hx, ?_, hregs, hmem⟩
    rw [before] at hx
    simp [mmaJob, mmaImageB, hb, hx]

end Sys2Proof.Proofs
end

section
/-! PROOFS. Ends of operations in flight (03 R62, R68, 05 R133, 06 R157): what a core's work up to a cycle leaves of its registers,
its operations under way and its scratchpad, stage by stage, and the commands that carry a core to such an end. -/

open Sys2Proof Sys2Proof.Machine Sys2Proof.Claims

namespace Sys2Proof.Proofs

/-! ## What the ends of operations leave of their core -/

/-- The register files of core `d` are those of `c`. -/
@[simp] abbrev KeepsFiles (c d : Core) : Prop := d.sregs = c.sregs ∧ d.vregs = c.vregs ∧ d.preds = c.preds

/-- Results in flight, MMAs, FILL and COPY, and the clock of core `d` are those of `c`. -/
@[simp] abbrev KeepsQueued (c d : Core) : Prop := d.pend = c.pend ∧ d.mmas = c.mmas ∧ d.mem = c.mem ∧ d.cycle = c.cycle

@[simp] theorem Core.setTile_keeps (c : Core) (i : Nat) (v : Tile) :
    KeepsFiles c (c.setTile i v) ∧ KeepsQueued c (c.setTile i v) ∧ (c.setTile i v).xfer = c.xfer :=
  ⟨⟨rfl, rfl, rfl⟩, ⟨rfl, rfl, rfl, rfl⟩, rfl⟩

@[simp] theorem Core.setSreg_keeps (c : Core) (r : Nat) (v : BitVec 64) :
    KeepsQueued c (c.setSreg r v) ∧ (c.setSreg r v).xfer = c.xfer := by
  unfold Core.setSreg
  split <;> simp

@[simp] theorem Core.setPred_keeps (c : Core) (p : Nat) (v : BitVec 64) :
    KeepsQueued c (c.setPred p v) ∧ (c.setPred p v).xfer = c.xfer := by
  unfold Core.setPred
  split <;> simp

@[simp] theorem State.spadWrite_core (s : State) (k a : Nat) (b : Bytes) (j : Nat) :
    (s.spadWrite k a b).core j = s.core j := rfl

@[simp] theorem State.count_core (s : State) (o n j : Nat) : (s.count o n).core j = s.core j := rfl

@[simp] theorem State.updDie_core (s : State) (i : Nat) (f : Die → Die) (j : Nat) : (s.updDie i f).core j = s.core j := rfl

@[simp] theorem State.core_ite (c : Prop) [Decidable c] (s t : State) (k : Nat) :
    (if c then s else t).core k = if c then s.core k else t.core k := apply_ite (fun s : State => s.core k) ..

/-- Registers, operations in flight and the freeze of core `k`, and the scratchpads, of `t` are those of `s`. -/
@[simp] abbrev KeepsCore (k : Nat) (s t : State) : Prop := KeepsFlight (s.core k) (t.core k) ∧ t.spad = s.spad

/-- The register files and what is queued on core `k`, and the scratchpads, of `t` are those of `s`. -/
@[simp] abbrev KeepsButTiles (k : Nat) (s t : State) : Prop :=
  KeepsFiles (s.core k) (t.core k) ∧ KeepsQueued (s.core k) (t.core k) ∧ t.spad = s.spad

theorem foldl_keepsCore {α : Type} {k : Nat} {f : State → α → State} (h : ∀ s x, KeepsCore k s (f s x)) (l : List α)
    (s : State) : KeepsCore k s (l.foldl f s) :=
  List.foldlRecOn l f (motive := KeepsCore k s) (by simp) fun t ht x _ => by simp [ht, h t x]

@[simp] theorem fillSend_keepsCore (s : State) (k ch : Nat) : KeepsCore k s (s.fillSend k ch) := by
  simp only [State.fillSend]
  split <;> simp

@[simp] theorem fillSends_keepsCore (s : State) (k : Nat) : KeepsCore k s (s.fillSends k) := by
  unfold State.fillSends
  exact foldl_keepsCore (fun t ch => fillSend_keepsCore t k ch) _ s

@[simp] theorem endRange_keepsCore (s : State) (k tag : Nat) : KeepsCore k s (s.endRange k tag) := by
  simp [State.endRange]

@[simp] theorem ladleHeaders_keepsCore (s : State) (k t : Nat) : KeepsCore k s (s.ladleHeaders k t) := by
  unfold State.ladleHeaders
  exact foldl_keepsCore (fun t e => by simp) _ s

@[simp] theorem heldUntil_keepsCore (s : State) (k t : Nat) : KeepsCore k s (s.heldUntil k t) := by
  simp only [State.heldUntil]
  split <;> simp

@[simp] theorem imemEcc_keepsCore (s : State) (k : Nat) (e : Ecc) : KeepsCore k s (s.imemEcc k e) := by
  simp only [State.imemEcc]
  split <;> simp

@[simp] theorem mmaEnd_core (s : State) (k : Nat) (j : MmaJob) : (s.mmaEnd k j).core k =
    (s.core k).setTile j.tile (((s.core k).tile j.tile).mma j.sparse j.a j.b j.fa.toNat j.fb.toNat) := by
  simp [State.mmaEnd]

@[simp] theorem mmaEnd_spad (s : State) (k : Nat) (j : MmaJob) : (s.mmaEnd k j).spad = s.spad := by
  simp [State.mmaEnd]

@[simp] theorem sieveErr_core (s : State) (k t e : Nat) : (s.sieveErr k t e).core k =
    (s.core k).setTile t { (s.core k).tile t with chk := (((s.core k).tile t).chk + e) % rhoP } := by
  simp [State.sieveErr]

@[simp] theorem sieveErr_spad (s : State) (k t e : Nat) : (s.sieveErr k t e).spad = s.spad := rfl

theorem keepsButTiles_of_aside {s u : State} (h : Aside s u) (k i : Nat) (v : Tile) :
    KeepsButTiles k s (u.updCore k (fun c => c.setTile i v)) ∧
    ((u.updCore k (fun c => c.setTile i v)).core k).xfer = (s.core k).xfer := by
  simp [h]

@[simp] theorem closeTile_keeps (s : State) (k t : Nat) : KeepsButTiles k s (s.closeTile k t) ∧
    ((s.closeTile k t).core k).xfer = (s.core k).xfer := by
  unfold State.closeTile
  extract_lets site tl v _ u w e _ x
  have hu : Aside s u := aside_of (by unfold u; split <;> simp)
  have hw : Aside s w := aside_of (by simp [w, hu])
  have hx : Aside s x := aside_of (by unfold x; split <;> simp [hw])
  clear_value x w u
  split
  · simp [hu]
  split
  · split
    · simp [hx]
    · exact keepsButTiles_of_aside (hw.trans (aside_of ⟨⟨rfl, rfl, rfl⟩, rfl, rfl, rfl, rfl, rfl⟩)) k t _
  · simp [hu]

@[simp] theorem xferRead_core (s : State) (k : Nat) (j : XferJob) : (s.xferRead k j).core k =
    (s.core k).setTile j.tile (((s.core k).tile j.tile).tadd
      (s.spadRead k j.addr (64 + 1024 * (xHdr (s.spadRead k j.addr 64)).rows))) := by
  simp [State.xferRead]

@[simp] theorem xferRead_spad (s : State) (k : Nat) (j : XferJob) : (s.xferRead k j).spad = s.spad := by
  simp [State.xferRead]

/-- The image that the end of a TCVT or TXF writes (05 R133). -/
def xferImage (old : Tile) (j : XferJob) : Bytes :=
  let rows := if j.kind = .txf then j.rows else 32
  let row0 := if j.kind = .txf then j.row0 else 0
  let t := { old with overflow := old.overflow || old.leaves row0 rows }
  if j.kind = .tcvt then (t.convert j.fmt.toNat j.sat).1 else t.exact row0 rows

/-- The check residue of a tile is not in its image (10 R260). -/
theorem xferImage_chk (old : Tile) (x : Nat) (j : XferJob) : xferImage { old with chk := x } j = xferImage old j := rfl

@[simp] theorem xferWrite_keeps (s : State) (k : Nat) (j : XferJob) :
    KeepsFiles (s.core k) ((s.xferWrite k j).core k) ∧ KeepsQueued (s.core k) ((s.xferWrite k j).core k) ∧
    ((s.xferWrite k j).core k).xfer = (s.core k).xfer := by
  simp [State.xferWrite]

theorem xferWrite_spad (s : State) (k : Nat) (j : XferJob) :
    (s.xferWrite k j).spad = writeBytes s.spad (spadKey k j.addr) (xferImage ((s.core k).tile j.tile) j) := by
  by_cases h : j.kind = .tcvt <;> simp [State.xferWrite, xferImage, h]

@[simp] theorem taddHeader_keeps (s : State) (k : Nat) (j : XferJob) : KeepsButTiles k s (s.taddHeader k j) ∧
    ((s.taddHeader k j).core k).tiles = (s.core k).tiles := by
  unfold State.taddHeader
  split <;> simp [freezeAt_core, frozenAs]

theorem taddHeader_of_ok {s : State} {k : Nat} {j : XferJob} (h : s.taddOk k j = true) :
    s.taddHeader k j = s.updCore k (fun c => { c with xfer := some { j with hdrAt := 0 } }) := by
  simp [State.taddHeader, h]

@[simp] theorem xferEnd_keeps (s : State) (k : Nat) (j : XferJob) (dup : Bool) (e : Ecc) (off : Nat) :
    KeepsFiles (s.core k) ((s.xferEnd k j dup e off).core k) ∧ KeepsQueued (s.core k) ((s.xferEnd k j dup e off).core k) ∧
    ((s.xferEnd k j dup e off).core k).xfer = none := by
  simp only [State.xferEnd]
  (repeat' split) <;> simp

@[simp] theorem memEnd_keeps (s : State) (k : Nat) (j : MemJob) :
    KeepsFiles (s.core k) ((s.memEnd k j).core k) ∧ ((s.memEnd k j).core k).tiles = (s.core k).tiles ∧
    ((s.memEnd k j).core k).pend = (s.core k).pend ∧ ((s.memEnd k j).core k).mmas = (s.core k).mmas ∧
    ((s.memEnd k j).core k).xfer = (s.core k).xfer ∧ ((s.memEnd k j).core k).cycle = (s.core k).cycle := by
  simp [State.memEnd]

@[simp] theorem memEnd_mem (s : State) (k : Nat) (j : MemJob) :
    ((s.memEnd k j).core k).mem = (s.core k).mem.filter (fun x => x.tag != j.tag) := by
  simp [State.memEnd]

theorem memEnd_spad (s : State) (k : Nat) (j : MemJob) : (s.memEnd k j).spad = writeBytes s.spad (spadKey k j.dst)
    (if j.fill then (List.range (j.len / 8)).flatMap (fun _ => bytesLE 8 j.value.toNat) else s.spadRead k j.src j.len) := by
  simp [State.memEnd]

theorem landTclr_core (s : State) (k t : Nat) (e : BitVec 10) (cl : BitVec 2) :
    ∃ v, (s.landTclr k t e cl).core k = (s.core k).setTile t v := by
  unfold State.landTclr
  extract_lets hit u
  obtain ⟨v, hv⟩ : ∃ v, u.core k = (s.core k).setTile t v := ⟨_, State.core_updCore_same ..⟩
  clear_value u
  exact ⟨v, by split <;> exact hv⟩

@[simp] theorem landDest_keeps (s : State) (k : Nat) (d : Dest) : KeepsQueued (s.core k) ((s.landDest k d).core k) ∧
    ((s.landDest k d).core k).xfer = (s.core k).xfer := by
  cases d
  case tclr t e cl =>
    obtain ⟨v, hv⟩ := landTclr_core s k t e cl
    simp [State.landDest, hv]
  all_goals simp [State.landDest]

end Sys2Proof.Proofs
end

section
/-! PROOFS. A core's work up to a cycle, stage by stage (03 R62, R68, 05 R133, 06 R157). -/

open Sys2Proof Sys2Proof.Machine Sys2Proof.Claims

namespace Sys2Proof.Proofs

/-! ## The stages of a core's work up to a cycle -/

/-- MMAs, as `State.settle` ends them first. -/
def mmaStage (s : State) (k t : Nat) : State :=
  ((s.core k).mmas.filter (fun j => j.done ≤ t)).foldl (fun s j => s.mmaEnd k j)
    (s.updCore k (fun c => { c with mmas := c.mmas.filter (fun j => !(j.done ≤ t)) }))

/-- The header of a TADD. -/
def headerStage (s : State) (k t : Nat) : State :=
  match (s.core k).xfer with
  | some j => if j.hdrAt ≠ 0 ∧ j.hdrAt ≤ t then s.taddHeader k j else s
  | none => s

/-- The tile transfer. -/
def xferStage (s : State) (k t : Nat) : State :=
  match (s.core k).xfer with
  | some j => if j.done ≤ t then s.xferEnd k j false .clean 0 else s
  | none => s

/-- FILL and COPY. -/
def memStage (s : State) (k t : Nat) : State :=
  ((s.core k).mem.filter (fun j => j.done ≤ t)).foldl (fun s j => s.memEnd k j) s

/-- Ranges of the scoreboard and B buffers. -/
def rangeStage (s : State) (k t : Nat) : State :=
  s.updCore k (fun c => { c with
    ranges := c.ranges.filter (fun r => match r.release with | some x => !(x ≤ t) | none => true)
    bbufs := c.bbufs.filter (fun b => b.busyTill == 0 || !(b.busyTill ≤ t)) })

/-- All that comes before the results. -/
def beforeLand (s : State) (k t : Nat) : State :=
  rangeStage (memStage (xferStage (headerStage (mmaStage s k t) k t) k t) k t) k t

theorem settle_eq (s : State) (k t : Nat) : s.settle k t = ((beforeLand s k t).landDue k t).ladleHeaders k t := rfl

theorem foldl_mmaEnd_keeps (k : Nat) (l : List MmaJob) (s : State) :
    KeepsButTiles k s (l.foldl (fun s j => s.mmaEnd k j) s) ∧
    ((l.foldl (fun s j => s.mmaEnd k j) s).core k).xfer = (s.core k).xfer :=
  List.foldlRecOn l _ (motive := fun u : State => KeepsButTiles k s u ∧ (u.core k).xfer = (s.core k).xfer) (by simp)
    fun u hu j _ => by simp [hu]

theorem mmaStage_keeps (s : State) (k t : Nat) :
    KeepsFiles (s.core k) ((mmaStage s k t).core k) ∧ ((mmaStage s k t).core k).pend = (s.core k).pend ∧
    ((mmaStage s k t).core k).mmas = (s.core k).mmas.filter (fun j => !(j.done ≤ t)) ∧
    ((mmaStage s k t).core k).mem = (s.core k).mem ∧ ((mmaStage s k t).core k).cycle = (s.core k).cycle ∧
    ((mmaStage s k t).core k).xfer = (s.core k).xfer ∧ (mmaStage s k t).spad = s.spad := by
  simp [mmaStage, foldl_mmaEnd_keeps]

theorem mmaStage_of_nil {s : State} {k : Nat} (h : (s.core k).mmas = []) (t : Nat) :
    mmaStage s k t = s.updCore k (fun c => { c with mmas := [] }) := by
  simp [mmaStage, State.updCore, h]

theorem mmaStage_of_single {s : State} {k t : Nat} {j : MmaJob} (h : (s.core k).mmas = [j]) (hj : j.done ≤ t) :
    mmaStage s k t = (s.updCore k (fun c => { c with mmas := [] })).mmaEnd k j := by
  simp [mmaStage, State.updCore, h, hj]

theorem headerStage_keeps (s : State) (k t : Nat) : KeepsButTiles k s (headerStage s k t) ∧
    ((headerStage s k t).core k).tiles = (s.core k).tiles := by
  unfold headerStage
  split
  · split <;> simp
  · simp

theorem headerStage_of_none {s : State} {k : Nat} (h : (s.core k).xfer = none) (t : Nat) : headerStage s k t = s := by
  simp [headerStage, h]

theorem xferStage_keeps (s : State) (k t : Nat) :
    KeepsFiles (s.core k) ((xferStage s k t).core k) ∧ KeepsQueued (s.core k) ((xferStage s k t).core k) := by
  unfold xferStage
  split
  · split <;> simp
  · simp

theorem xferStage_of_none {s : State} {k : Nat} (h : (s.core k).xfer = none) (t : Nat) : xferStage s k t = s := by
  simp [xferStage, h]

theorem foldl_memEnd_keeps (k : Nat) (l : List MemJob) (s : State) :
    KeepsRegs (s.core k) ((l.foldl (fun s j => s.memEnd k j) s).core k) ∧
    ((l.foldl (fun s j => s.memEnd k j) s).core k).pend = (s.core k).pend ∧
    ((l.foldl (fun s j => s.memEnd k j) s).core k).mmas = (s.core k).mmas ∧
    ((l.foldl (fun s j => s.memEnd k j) s).core k).xfer = (s.core k).xfer ∧
    ((l.foldl (fun s j => s.memEnd k j) s).core k).cycle = (s.core k).cycle :=
  List.foldlRecOn l _ (motive := fun u : State => KeepsRegs (s.core k) (u.core k) ∧ (u.core k).pend = (s.core k).pend ∧
    (u.core k).mmas = (s.core k).mmas ∧ (u.core k).xfer = (s.core k).xfer ∧ (u.core k).cycle = (s.core k).cycle)
    (by simp) fun u hu j _ => by simp [hu]

/-- What is left of FILL and COPY after some have ended. -/
theorem mem_foldl_memEnd {k : Nat} {l : List MemJob} {s : State} {x : MemJob}
    (h : x ∈ ((l.foldl (fun s j => s.memEnd k j) s).core k).mem) : x ∈ (s.core k).mem ∧ ∀ j ∈ l, x.tag ≠ j.tag := by
  induction l generalizing s with
  | nil => simpa using h
  | cons j l ih =>
    rw [List.foldl_cons] at h
    obtain ⟨hx, hl⟩ := ih (s := s.memEnd k j) h
    simp only [memEnd_mem, List.mem_filter, bne_iff_ne] at hx
    exact ⟨hx.1, List.forall_mem_cons.mpr ⟨hx.2, hl⟩⟩

theorem memStage_keeps (s : State) (k t : Nat) : KeepsRegs (s.core k) ((memStage s k t).core k) ∧
    ((memStage s k t).core k).pend = (s.core k).pend ∧ ((memStage s k t).core k).mmas = (s.core k).mmas ∧
    ((memStage s k t).core k).xfer = (s.core k).xfer ∧ ((memStage s k t).core k).cycle = (s.core k).cycle :=
  foldl_memEnd_keeps ..

theorem memStage_of_nil {s : State} {k : Nat} (h : (s.core k).mem = []) (t : Nat) : memStage s k t = s := by
  simp [memStage, h]

theorem memStage_of_single {s : State} {k t : Nat} {j : MemJob} (h : (s.core k).mem = [j]) (hj : j.done ≤ t) :
    memStage s k t = s.memEnd k j := by
  simp [memStage, h, hj]

/-- A FILL or COPY that is due has ended. -/
theorem memStage_ends {s : State} {k t : Nat} {j : MemJob} (h : j ∈ (s.core k).mem) (hj : j.done ≤ t) :
    j ∉ ((memStage s k t).core k).mem := fun hmem =>
  (mem_foldl_memEnd hmem).2 j (List.mem_filter.mpr ⟨h, by simpa using hj⟩) rfl

theorem rangeStage_keepsCore (s : State) (k t : Nat) : KeepsCore k s (rangeStage s k t) := by
  simp [rangeStage]

/-! ## The results that are due -/

theorem foldl_landDest_keeps (k : Nat) (l : List Pend) (s : State) :
    KeepsQueued (s.core k) ((l.foldl (fun s p => s.landDest k p.dest) s).core k) ∧
    ((l.foldl (fun s p => s.landDest k p.dest) s).core k).xfer = (s.core k).xfer :=
  List.foldlRecOn l _ (motive := fun u : State => KeepsQueued (s.core k) (u.core k) ∧ (u.core k).xfer = (s.core k).xfer)
    (by simp) fun u hu p _ => by simp [hu]

theorem landDue_keeps (s : State) (k t : Nat) :
    ((s.landDue k t).core k).pend = (s.core k).pend.filter (fun p => !due t p) ∧
    ((s.landDue k t).core k).mmas = (s.core k).mmas ∧ ((s.landDue k t).core k).mem = (s.core k).mem ∧
    ((s.landDue k t).core k).cycle = (s.core k).cycle ∧ ((s.landDue k t).core k).xfer = (s.core k).xfer := by
  simp [State.landDue, foldl_landDest_keeps]

theorem landDue_of_nil {s : State} {k : Nat} (h : (s.core k).pend = []) (t : Nat) : KeepsCore k s (s.landDue k t) := by
  simp [State.landDue, h]

theorem landDue_of_single {s : State} {k t : Nat} {p : Pend} (h : (s.core k).pend.filter (due t) = [p]) :
    s.landDue k t =
      (s.updCore k (fun c => { c with pend := c.pend.filter (fun p => !due t p) })).landDest k p.dest := by
  simp [State.landDue, h]

/-! ## The whole of it -/

theorem beforeLand_keeps (s : State) (k t : Nat) :
    KeepsFiles (s.core k) ((beforeLand s k t).core k) ∧ ((beforeLand s k t).core k).pend = (s.core k).pend ∧
    ((beforeLand s k t).core k).mmas = (s.core k).mmas.filter (fun j => !(j.done ≤ t)) ∧
    ((beforeLand s k t).core k).cycle = (s.core k).cycle := by
  simp [beforeLand, rangeStage_keepsCore, memStage_keeps, xferStage_keeps, headerStage_keeps, mmaStage_keeps]

theorem settle_keeps (s : State) (k t : Nat) :
    ((s.settle k t).core k).pend = (s.core k).pend.filter (fun p => !due t p) ∧
    ((s.settle k t).core k).mmas = (s.core k).mmas.filter (fun j => !(j.done ≤ t)) ∧
    ((s.settle k t).core k).cycle = (s.core k).cycle := by
  simp [settle_eq, landDue_keeps, beforeLand_keeps]

theorem settle_xfer_none {s : State} {k : Nat} (h : (s.core k).xfer = none) (t : Nat) :
    ((s.settle k t).core k).xfer = none := by
  have h1 : ((mmaStage s k t).core k).xfer = none := by simp [mmaStage_keeps, h]
  simp [settle_eq, landDue_keeps, beforeLand, rangeStage_keepsCore, memStage_keeps, headerStage_of_none h1,
    xferStage_of_none h1, h1]

theorem settle_mem_ends {s : State} {k t : Nat} {j : MemJob} (h : j ∈ (s.core k).mem) (hj : j.done ≤ t) :
    j ∉ ((s.settle k t).core k).mem := by
  simp only [settle_eq, ladleHeaders_keepsCore, landDue_keeps, beforeLand, rangeStage_keepsCore]
  refine memStage_ends ?_ hj
  simpa [xferStage_keeps, headerStage_keeps, mmaStage_keeps] using h

/-- One result due: the register files before it and after it. -/
theorem settle_lands {s : State} {k t : Nat} {p : Pend} (h : (s.core k).pend.filter (due t) = [p]) :
    ∃ u : State, KeepsFiles (s.core k) (u.core k) ∧
      KeepsFiles ((u.landDest k p.dest).core k) ((s.settle k t).core k) := by
  obtain ⟨hfiles, hpend, -, -⟩ := beforeLand_keeps s k t
  refine ⟨(beforeLand s k t).updCore k (fun c => { c with pend := c.pend.filter (fun p => !due t p) }), ?_, ?_⟩
  · simpa using hfiles
  · rw [settle_eq, landDue_of_single (hpend ▸ h)]
    simp

/-- No result under way: what comes after the other ends keeps the core. -/
theorem settle_of_noPend {s : State} {k : Nat} (h : (s.core k).pend = []) (t : Nat) :
    KeepsCore k (beforeLand s k t) (s.settle k t) := by
  have hp : ((beforeLand s k t).core k).pend = [] := by simp [beforeLand_keeps, h]
  rw [settle_eq]
  simp [landDue_of_nil hp]

/-- A core with nothing under way. -/
theorem settle_of_atRest {s : State} {k : Nat} (h : atRest (s.core k)) (t : Nat) : KeepsCore k s (s.settle k t) := by
  obtain ⟨hpend, hmmas, hxfer, hmem⟩ := h
  have hb : KeepsCore k s (beforeLand s k t) := by
    rw [beforeLand, mmaStage_of_nil hmmas, headerStage_of_none (by simpa using hxfer),
      xferStage_of_none (by simpa using hxfer), memStage_of_nil (by simpa using hmem)]
    simp [rangeStage_keepsCore, hmmas]
  simp [settle_of_noPend hpend, hb]

/-- No transfer and no result under way: the tiles are those that the MMAs leave. -/
theorem settle_tiles {s : State} {k : Nat} (hpend : (s.core k).pend = []) (hxfer : (s.core k).xfer = none) (t : Nat) :
    ((s.settle k t).core k).tiles = ((mmaStage s k t).core k).tiles := by
  have hx : ((mmaStage s k t).core k).xfer = none := by simp [mmaStage_keeps, hxfer]
  have hb : ((beforeLand s k t).core k).tiles = ((mmaStage s k t).core k).tiles := by
    simp [beforeLand, rangeStage_keepsCore, memStage_keeps, headerStage_of_none hx, xferStage_of_none hx]
  simp [settle_of_noPend hpend, hb]

/-- One FILL or COPY under way, and nothing else. -/
theorem settle_of_mem {s : State} {k t : Nat} {j : MemJob} (hpend : (s.core k).pend = []) (hmmas : (s.core k).mmas = [])
    (hxfer : (s.core k).xfer = none) (hmem : (s.core k).mem = [j]) (hj : j.done ≤ t) :
    KeepsRegs (s.core k) ((s.settle k t).core k) ∧ (s.settle k t).spad = writeBytes s.spad (spadKey k j.dst)
      (if j.fill then (List.range (j.len / 8)).flatMap (fun _ => bytesLE 8 j.value.toNat) else s.spadRead k j.src j.len) := by
  have hb : KeepsRegs (s.core k) ((beforeLand s k t).core k) ∧ (beforeLand s k t).spad =
      ((s.updCore k (fun c => { c with mmas := [] })).memEnd k j).spad := by
    rw [beforeLand, mmaStage_of_nil hmmas, headerStage_of_none (by simpa using hxfer),
      xferStage_of_none (by simpa using hxfer), memStage_of_single (by simpa using hmem) hj]
    simp [rangeStage_keepsCore]
  simp [settle_of_noPend hpend, hb, memEnd_spad, State.spadRead]

end Sys2Proof.Proofs
end

section
/-! PROOFS. O24: the commands that carry a core to the end of an operation in flight (03 R62, R68, 05 R133, 06 R157). -/

open Sys2Proof Sys2Proof.Machine Sys2Proof.Claims

namespace Sys2Proof.Proofs

/-! ## What an MMA adds to an element (04 R93) -/

/-- The values of a function on a list of keys that differ from `z`, as a map. -/
def mapOf {α : Type} [DecidableEq α] (z : α) (f : Nat → α) (l : List Nat) : SMap α :=
  l.filterMap (fun i => if f i = z then none else some (i, f i))

theorem get_mapOf {α : Type} [DecidableEq α] (z : α) (f : Nat → α) (l : List Nat) (n : Nat) :
    SMap.get (fun _ => z) (mapOf z f l) n = if n ∈ l then f n else z := by
  induction l with
  | nil => rfl
  | cons i l ih =>
    by_cases hf : f i = z
    · have hcons : mapOf z f (i :: l) = mapOf z f l := List.filterMap_cons_none (by simp [hf])
      rw [hcons, ih]
      by_cases hi : n = i <;> simp [hi, hf]
    · have hcons : mapOf z f (i :: l) = (i, f i) :: mapOf z f l := List.filterMap_cons_some (by simp [hf])
      rw [hcons, SMap.get, ih]
      by_cases hi : i = n
      · simp [hi]
      · simp [hi, Ne.symm hi]

/-- Element `i` of a tile to which the sums `l` are added from element `first` on. -/
def addedElem (t : Tile) (first : Nat) (l : List Int) (i : Nat) : BitVec 320 :=
  if first ≤ i ∧ i < first + l.length then t.elem i + BitVec.ofInt 320 (l.getD (i - first) 0) else t.elem i

theorem Tile.add_elems (t : Tile) (first : Nat) (c : Contrib) :
    (t.add first c).elems = mapOf 0 (addedElem t first c.sums) (List.range 1024) := by
  simp only [Tile.add]
  generalize List.range 1024 = l
  rfl

theorem Tile.elem_add (t : Tile) (first : Nat) (c : Contrib) {n : Nat} (hn : n < 1024) :
    (t.add first c).elem n = addedElem t first c.sums n := by
  rw [Tile.elem, Tile.add_elems, get_mapOf, if_pos (List.mem_range.mpr hn)]

/-- One product of an MMA, truncated to the unit of its tile (04 R93). -/
def mmaTerm (u : Int) (p : Option (Int × Int) × Option (Int × Int)) : Int :=
  match p with
  | (some x, some y) => (truncTo (x.1 * y.1) (x.2 + y.2) u).1
  | _ => 0

/-- The sum that an MMA accumulates is the sum of its products. -/
theorem mmaSum_fst (u : Int) (ps : List (Option (Int × Int) × Option (Int × Int))) :
    (Machine.mmaSum u ps).1 = (ps.map (mmaTerm u)).sum := by
  have fold : ∀ (ps : List (Option (Int × Int) × Option (Int × Int))) (r : Int × Bool × Bool),
      (ps.foldl (fun r p => match p with
        | (some x, some y) =>
          let v := truncTo (x.1 * y.1) (x.2 + y.2) u
          (r.1 + v.1, r.2.1 || v.2, r.2.2 || out256 v.1)
        | _ => r) r).1 = r.1 + (ps.map (mmaTerm u)).sum := by
    intro ps
    induction ps with
    | nil => simp
    | cons p ps ih =>
      intro r
      rw [List.foldl_cons, ih, List.map_cons, List.sum_cons]
      obtain ⟨_ | x, _ | y⟩ := p <;> simp [mmaTerm, add_assoc]
  rw [Machine.mmaSum]
  exact (fold ps _).trans (zero_add _)

/-- R93: an MMA adds to each element of its tile the exact sum of its truncated products. -/
theorem Tile.elem_mma (t : Tile) (j : MmaJob) {n : Nat} (hn : n < 1024) :
    (t.mma j.sparse j.a j.b j.fa.toNat j.fb.toNat).elem n = t.elem n + BitVec.ofInt 320 (Claims.mmaSum t j n) := by
  have hlen : (mmaContrib j.sparse j.a j.b j.fa.toNat j.fb.toNat t.unit).sums.length = 1024 := by simp [mmaContrib]
  have hsum : (mmaContrib j.sparse j.a j.b j.fa.toNat j.fb.toNat t.unit).sums.getD n 0 = Claims.mmaSum t j n := by
    simp only [mmaContrib, List.map_map, List.getD_eq_getElem?_getD, List.getElem?_map, List.getElem?_range hn,
      Option.map_some, Option.getD_some, Function.comp_apply]
    exact mmaSum_fst t.unit _
  calc (t.mma j.sparse j.a j.b j.fa.toNat j.fb.toNat).elem n
      = (t.add 0 (mmaContrib j.sparse j.a j.b j.fa.toNat j.fb.toNat t.unit)).elem n := by simp only [Tile.mma, Tile.elem]
    _ = t.elem n + BitVec.ofInt 320 (Claims.mmaSum t j n) := by
      rw [Tile.elem_add t 0 _ hn, addedElem, if_pos ⟨n.zero_le, by omega⟩, Nat.sub_zero, hsum]

/-! ## A core carried to a cycle -/

/-- The work done of a core that is carried to cycle `t`. -/
def settled (s : State) (k t : Nat) : State := (s.heldUntil k (t - 1)).settle k t

theorem advance_keeps (s : State) (k t : Nat) :
    KeepsRegs ((settled s k t).core k) ((s.advance k t).core k) ∧
    ((s.advance k t).core k).pend = ((settled s k t).core k).pend ∧
    ((s.advance k t).core k).mmas = ((settled s k t).core k).mmas ∧
    ((s.advance k t).core k).xfer = ((settled s k t).core k).xfer ∧
    ((s.advance k t).core k).mem = ((settled s k t).core k).mem ∧
    ((s.advance k t).core k).cycle = max ((settled s k t).core k).cycle (t - 1) ∧
    (s.advance k t).spad = (settled s k t).spad := by
  simp [State.advance, settled]

@[simp] theorem runTo_core (s : State) (k t j : Nat) : (s.runTo k t).core j = (s.advance k t).core j := by
  simp only [State.runTo, State.core, State.atTime_cores]

@[simp] theorem runTo_spad (s : State) (k t : Nat) : (s.runTo k t).spad = (s.advance k t).spad := by simp [State.runTo]

theorem runTo_time (s : State) (k t : Nat) : s.time ≤ (s.runTo k t).time := by
  simp [State.runTo]

theorem not_due (t : Nat) (p : Pend) : (!due t p) = decide (t < p.ready) := by
  simp [due, ← decide_not]

theorem advance_of_atRest {s : State} {k : Nat} (h : atRest (s.core k)) (t : Nat) :
    ((s.advance k t).core k).tiles = (s.core k).tiles ∧ (s.advance k t).spad = s.spad := by
  have hu : atRest ((s.heldUntil k (t - 1)).core k) := by simpa [atRest] using h
  simp [advance_keeps, settled, settle_of_atRest hu]

end Sys2Proof.Proofs
end

section
/-! PROOFS. O24: what the commands of the ends of operations leave (03 R62, R68, 05 R133, 06 R157). -/

open Sys2Proof Sys2Proof.Machine Sys2Proof.Claims

namespace Sys2Proof.Proofs

theorem answers_of_exec {c : Instr} {s t : State} {p : State → Prop} (h : exec c s = .next t) (hp : p t) :
    answers c s p := ⟨t, h, hp⟩

/-! ## RESULT_WRITEBACK (03 R62) -/

theorem exec_resultWriteback {k : Nat} (e : Ecc) (s : State) (hk : okCore k = true) :
    exec (.resultWriteback k e) s = .next (match nextDue (s.core k) with
      | some t => (s.advance k t).imemEcc k e
      | none => s.imemEcc k e) := by
  change execResultWriteback k e s = _
  rw [execResultWriteback, hk]
  rfl

/-- The state that a core's work up to cycle `c` is done from keeps its registers and its results. -/
theorem advance_lands {s : State} {k c : Nat} {p : Pend} (h : (s.core k).pend.filter (due c) = [p]) :
    ∃ u : State, KeepsFiles (s.core k) (u.core k) ∧
      KeepsFiles ((u.landDest k p.dest).core k) ((s.advance k c).core k) := by
  obtain ⟨u, hu, hland⟩ := settle_lands (s := s.heldUntil k (c - 1)) (k := k) (t := c) (p := p) (by simpa using h)
  refine ⟨u, by simpa using hu, ?_⟩
  simpa [advance_keeps, settled] using hland

theorem sreg_congr {c d : Core} (h : d.sregs = c.sregs) (q : Nat) : d.sreg q = c.sreg q := by
  rw [Core.sreg, Core.sreg, h]

theorem predOf_congr {c d : Core} (h : d.preds = c.preds) (q : Nat) : d.predOf q = c.predOf q := by
  rw [Core.predOf, Core.predOf, h]

theorem advance_pend (s : State) (k c : Nat) :
    ((s.advance k c).core k).pend = (s.core k).pend.filter (fun p => decide (c < p.ready)) := by
  simp [advance_keeps, settled, settle_keeps, not_due]

/-! ## MMA_COMPLETE (03 R68) -/

theorem exec_mmaComplete {k : Nat} (e : TileEnd) {s : State} (hk : okCore k = true) {j : MmaJob}
    (h : (s.core k).mmas.head? = some j) :
    exec (.mmaComplete k e) s = .next (((s.runTo k j.done).sieveErr k j.tile e.off).mmaDup k j e.dup) := by
  change execMmaComplete k e s = _
  rw [execMmaComplete, hk, h]
  rfl

/-- The only MMA under way ends on its tile. -/
theorem advance_of_mma {s : State} {k : Nat} {j : MmaJob} (hmmas : (s.core k).mmas = [j]) (hpend : (s.core k).pend = [])
    (hxfer : (s.core k).xfer = none) : ((s.advance k j.done).core k).tile j.tile =
      ((s.core k).tile j.tile).mma j.sparse j.a j.b j.fa.toNat j.fb.toNat := by
  have ht : ((s.advance k j.done).core k).tiles =
      ((mmaStage (s.heldUntil k (j.done - 1)) k j.done).core k).tiles := by
    simp only [advance_keeps, settled]
    exact settle_tiles (by simpa using hpend) (by simpa using hxfer) _
  have htile : ((s.heldUntil k (j.done - 1)).core k).tile j.tile = (s.core k).tile j.tile := by simp [Core.tile]
  rw [Core.tile, ht, mmaStage_of_single (j := j) (by simpa using hmmas) le_rfl, ← Core.tile, mmaEnd_core,
    Core.tile_setTile_same, ← htile]
  simp [Core.tile]

/-! ## TILE_TRANSFER_COMPLETE (05 R133) -/

/-- What the end of transfer `j` of core `k` does from `s` to `t`: its image is written, or added to its tile. -/
def Transferred (k : Nat) (j : XferJob) (s t : State) : Prop :=
  (j.kind ≠ .tadd → t.spad = writeBytes s.spad (spadKey k j.addr) (xferImage ((s.core k).tile j.tile) j)) ∧
  (j.kind = .tadd → ∀ n, ((t.core k).tile j.tile).elem n = (((s.core k).tile j.tile).tadd
    (s.spadRead k j.addr (64 + 1024 * (xHdr (s.spadRead k j.addr 64)).rows))).elem n)

/-- Transfer `j` is all that core `k` has under way in `t`, which has the tiles and scratchpads of `s`. -/
def Carrying (k : Nat) (j : XferJob) (s t : State) : Prop :=
  (t.core k).tiles = (s.core k).tiles ∧ t.spad = s.spad ∧ (t.core k).pend = [] ∧ (t.core k).mmas = [] ∧
  (t.core k).mem = [] ∧ ∃ n, (t.core k).xfer = some { j with hdrAt := n }

/-- It has ended, and core `k` has nothing under way. -/
def Carried (k : Nat) (j : XferJob) (s t : State) : Prop := Transferred k j s t ∧ atRest (t.core k)

theorem Transferred.congr_left {k : Nat} {j : XferJob} {s u t : State} (htiles : (u.core k).tiles = (s.core k).tiles)
    (hspad : u.spad = s.spad) (h : Transferred k j u t) : Transferred k j s t := by
  simpa only [Transferred, Core.tile, State.spadRead, htiles, hspad] using h

theorem Transferred.congr_right {k : Nat} {j : XferJob} {s u t : State} (h : Transferred k j s u)
    (htiles : (t.core k).tiles = (u.core k).tiles) (hspad : t.spad = u.spad) : Transferred k j s t := by
  simpa only [Transferred, Core.tile, htiles, hspad] using h

theorem Core.tile_clearXfer (c : Core) (i : Nat) : Core.tile { c with xfer := none } i = c.tile i := rfl

/-- The check residue of a tile is no part of its elements. -/
theorem Tile.elem_chk (t : Tile) (x n : Nat) : Tile.elem { t with chk := x } n = t.elem n := rfl

theorem xferEnd_transferred (s : State) (k : Nat) (j : XferJob) (dup : Bool) (e : Ecc) (off : Nat) :
    Transferred k j s (s.xferEnd k j dup e off) := by
  refine ⟨fun h => ?_, fun h n => ?_⟩
  · simp only [State.xferEnd, if_neg h]
    split <;> simp [xferWrite_spad, xferImage_chk, Core.tile_clearXfer]
  · have hd : (dup && j.kind != .tadd) = false := by simp [h]
    have htile : ∀ u : State, ((u.endRange k j.tag).core k).tile j.tile = (u.core k).tile j.tile :=
      fun u => by simp [Core.tile]
    simp only [State.xferEnd, if_pos h, hd]
    simp [htile, Tile.elem_chk, Core.tile_clearXfer, State.spadRead]

theorem Carrying.xferEnd {k : Nat} {j i : XferJob} {s t : State} (h : Carrying k j s t) (hi : (t.core k).xfer = some i)
    (dup : Bool) (e : Ecc) (off : Nat) : Carried k j s (t.xferEnd k i dup e off) := by
  obtain ⟨htiles, hspad, hpend, hmmas, hmem, n, hx⟩ := h
  obtain rfl : i = { j with hdrAt := n } := Option.some.inj (hi.symm.trans hx)
  have hend : Transferred k j t (t.xferEnd k { j with hdrAt := n } dup e off) := xferEnd_transferred t k _ dup e off
  exact ⟨hend.congr_left htiles hspad, by simp [atRest, hpend, hmmas, hmem]⟩

theorem KeepsCore.trans {k : Nat} {s u t : State} (h : KeepsCore k s u) (h' : KeepsCore k u t) : KeepsCore k s t := by
  simp [h, h']

theorem Carrying.headerStage {k : Nat} {j : XferJob} {s u : State} (h : Carrying k j s u)
    (hx : (u.core k).xfer = some j) (hj : j.hdrAt = 0 ∨ u.taddOk k j = true) (t : Nat) :
    Carrying k j s (Proofs.headerStage u k t) := by
  have hu := h
  obtain ⟨htiles, hspad, hpend, hmmas, hmem, -⟩ := h
  simp only [Proofs.headerStage, hx]
  split
  next hn =>
    rw [taddHeader_of_ok (hj.resolve_left hn.1)]
    exact ⟨by simpa using htiles, hspad, by simpa using hpend, by simpa using hmmas, by simpa using hmem, 0, by simp⟩
  next => exact hu

theorem Carrying.xferStage {k : Nat} {j : XferJob} {s u : State} (h : Carrying k j s u) (t : Nat) :
    Carrying k j s (Proofs.xferStage u k t) ∨ Carried k j s (Proofs.xferStage u k t) := by
  have hu := h
  obtain ⟨-, -, -, -, -, n, hx⟩ := h
  simp only [Proofs.xferStage, hx]
  split
  · exact .inr (hu.xferEnd hx false .clean 0)
  · exact .inl hu

theorem Carrying.congr {k : Nat} {j : XferJob} {s u t : State} (h : Carrying k j s u) (ht : KeepsCore k u t) :
    Carrying k j s t := by
  simpa [Carrying, ht] using h

theorem Carried.congr {k : Nat} {j : XferJob} {s u t : State} (h : Carried k j s u) (ht : KeepsCore k u t) :
    Carried k j s t :=
  ⟨h.1.congr_right (by simp [ht]) (by simp [ht]), by simpa [atRest, ht] using h.2⟩

/-- The work up to any cycle, of a core with one transfer under way and nothing else: the transfer is still under way, or
has ended. -/
theorem settle_of_xfer {s : State} {k : Nat} {j : XferJob} (hpend : (s.core k).pend = []) (hmmas : (s.core k).mmas = [])
    (hmem : (s.core k).mem = []) (hx : (s.core k).xfer = some j) (hj : j.hdrAt = 0 ∨ s.taddOk k j = true) (t : Nat) :
    Carrying k j s (s.settle k t) ∨ Carried k j s (s.settle k t) := by
  have hu : Carrying k j s (s.updCore k (fun c => { c with mmas := [] })) :=
    ⟨by simp, by simp, by simpa using hpend, by simp, by simpa using hmem, j.hdrAt, by simpa using hx⟩
  have hstage := (hu.headerStage (by simpa using hx) hj t).xferStage t
  have hmem' : ((xferStage (headerStage (s.updCore k (fun c => { c with mmas := [] })) k t) k t).core k).mem = [] :=
    hstage.elim (fun h => h.2.2.2.2.1) (fun h => h.2.2.2.2)
  have hkeep : KeepsCore k (xferStage (headerStage (s.updCore k (fun c => { c with mmas := [] })) k t) k t)
      (s.settle k t) := by
    have h := settle_of_noPend hpend t
    rw [beforeLand, mmaStage_of_nil hmmas, memStage_of_nil hmem'] at h
    exact (rangeStage_keepsCore _ k t).trans h
  exact hstage.imp (·.congr hkeep) (·.congr hkeep)

/-- The state in which TILE_TRANSFER_COMPLETE has ended the transfer, before it carries the core on. -/
def transferEnded (s : State) (k : Nat) (e : TileEnd) (ecc : Ecc) : State :=
  match (s.core k).xfer with
  | some j => s.xferEnd k j e.dup ecc e.off
  | none => s

theorem exec_tileTransferComplete {k : Nat} (e : TileEnd) (ecc : Ecc) {s : State} (hk : okCore k = true) {j : XferJob}
    (h : (s.core k).xfer = some j) : exec (.tileTransferComplete k e ecc) s =
      .next ((transferEnded (s.settle k (j.done - 1)) k e ecc).runTo k j.done) := by
  change execTileTransferComplete k e ecc s = _
  cases hx : ((s.settle k (j.done - 1)).core k).xfer <;>
    simp only [execTileTransferComplete, transferEnded, hk, h, hx, onPart, if_true]

theorem transferEnded_xfer (s : State) (k : Nat) (e : TileEnd) (ecc : Ecc) :
    ((transferEnded s k e ecc).core k).xfer = none := by
  unfold transferEnded
  split
  · simp
  · assumption

theorem transferEnded_time (s : State) (k : Nat) (e : TileEnd) (ecc : Ecc) : (transferEnded s k e ecc).time = s.time := by
  unfold transferEnded
  split <;> simp

/-- A core with one transfer under way and nothing else: the transfer has ended. -/
theorem transferEnded_carried {s : State} {k : Nat} {j : XferJob} (hpend : (s.core k).pend = [])
    (hmmas : (s.core k).mmas = []) (hmem : (s.core k).mem = []) (hx : (s.core k).xfer = some j)
    (hj : j.hdrAt = 0 ∨ s.taddOk k j = true) (t : Nat) (e : TileEnd) (ecc : Ecc) :
    Carried k j s (transferEnded (s.settle k t) k e ecc) := by
  rcases settle_of_xfer hpend hmmas hmem hx hj t with h | h
  · obtain ⟨n, hn⟩ := h.2.2.2.2.2
    simpa only [transferEnded, hn] using h.xferEnd hn e.dup ecc e.off
  · have hnone : ((s.settle k t).core k).xfer = none := h.2.2.2.1
    simpa only [transferEnded, hnone] using h

theorem advance_xfer_none {s : State} {k : Nat} (h : (s.core k).xfer = none) (t : Nat) :
    ((s.advance k t).core k).xfer = none := by
  simp only [advance_keeps, settled]
  exact settle_xfer_none (by simpa using h) t

/-! ## FILL_COPY_END (06 R157) -/

theorem exec_fillCopyEnd {k : Nat} {s : State} (hk : okCore k = true) {j : MemJob}
    (h : (s.core k).mem.head? = some j) : exec (.fillCopyEnd k) s = .next (s.runTo k j.done) := by
  change execFillCopyEnd k s = _
  rw [execFillCopyEnd, hk, h]
  rfl

theorem advance_mem_ends {s : State} {k : Nat} {j : MemJob} (h : j ∈ (s.core k).mem) :
    j ∉ ((s.advance k j.done).core k).mem := by
  simp only [advance_keeps, settled]
  exact settle_mem_ends (by simpa using h) le_rfl

theorem advance_of_mem {s : State} {k : Nat} {j : MemJob} (hpend : (s.core k).pend = []) (hmmas : (s.core k).mmas = [])
    (hxfer : (s.core k).xfer = none) (hmem : (s.core k).mem = [j]) :
    sameRegs (s.core k) ((s.advance k j.done).core k) ∧ (s.advance k j.done).spad = writeBytes s.spad (spadKey k j.dst)
      (if j.fill then (List.range (j.len / 8)).flatMap (fun _ => bytesLE 8 j.value.toNat) else s.spadRead k j.src j.len) := by
  have h := settle_of_mem (s := s.heldUntil k (j.done - 1)) (k := k) (by simpa using hpend) (by simpa using hmmas)
    (by simpa using hxfer) (by simpa using hmem) le_rfl
  simpa [sameRegs, advance_keeps, settled, State.spadRead] using h

/-! ## O24 -/

/-- Settles O24: each command carries its core to the end it names, and the stages of that work do the rest. -/
theorem completions : Obligations.completions := by
  unfold Obligations.completions
  refine ⟨fun k c e s hk hc => ?_, fun k e s hk hp => ?_, fun k off dup j s hk hj => ?_,
    fun k off dup e j s hk hj => ?_, fun k j s hk hj => ?_⟩
  · refine answers_of_exec (exec_resultWriteback e s hk) ?_
    rw [hc]
    refine ⟨by simp [advance_pend], fun p hp => ?_⟩
    obtain ⟨u, ⟨hus, huv, hup⟩, hfiles⟩ := advance_lands (c := c) (p := p) hp
    obtain ⟨hs, hv, hpr⟩ : KeepsFiles ((u.landDest k p.dest).core k) (((s.advance k c).imemEcc k e).core k) := by
      simpa using hfiles
    refine ⟨fun r v hd q => ?_, fun r v hd q => ?_, fun r l hd => ?_⟩
    · rw [sreg_congr hs, hd, landDest_sreg, sreg_congr hus]
    · rw [predOf_congr hpr, hd, landDest_pred, predOf_congr hup]
    · rw [hv, hd, landDest_vregs, huv]
  · refine answers_of_exec (exec_resultWriteback e s hk) ?_
    simp [nextDue, hp, sameRegs, sameMem]
  · refine answers_of_exec (exec_mmaComplete ⟨dup, off⟩ hk hj) ⟨?_, ?_, fun hm hp hx n hn => ?_⟩
    · simp [advance_keeps, settled, settle_keeps, ← decide_not]
    · simp [advance_keeps, settled, settle_keeps]
    · rw [← Tile.elem_mma _ j hn, ← advance_of_mma hm hp hx]
      simp [Tile.elem_chk]
  · refine answers_of_exec (exec_tileTransferComplete ⟨dup, off⟩ e hk hj) ⟨?_, ?_, fun hp hm hmem => ?_⟩
    · simpa using advance_xfer_none (transferEnded_xfer _ k _ e) _
    · refine le_trans ?_ (runTo_time _ k _)
      simp [transferEnded_time]
    · have key : j.hdrAt = 0 ∨ s.taddOk k j = true → Transferred k j s
          ((transferEnded (s.settle k (j.done - 1)) k ⟨dup, off⟩ e).runTo k j.done) := by
        intro hok
        obtain ⟨ht, hrest⟩ := transferEnded_carried hp hm hmem hj hok (j.done - 1) ⟨dup, off⟩ e
        obtain ⟨htiles, hspad⟩ := advance_of_atRest hrest j.done
        exact ht.congr_right (by simpa using htiles) (by simpa using hspad)
      refine ⟨fun hkind h0 => ?_, fun hkind h0 => ?_, fun hkind hok => (key (.inr hok)).2 hkind⟩
      · simpa [xferImage, hkind] using (key (.inl h0)).1 (by simp [hkind])
      · simpa [xferImage, hkind] using (key (.inl h0)).1 (by simp [hkind])
  · have hmem : j ∈ (s.core k).mem := List.mem_of_head? hj
    refine answers_of_exec (exec_fillCopyEnd hk hj) ⟨by simpa using advance_mem_ends hmem, runTo_time s k _, ?_⟩
    intro hm hp hmm hx
    simpa using advance_of_mem hp hmm hx hm

end Sys2Proof.Proofs
end

section
/-! PROOFS. O40: hints and the ramp governor (03 R76, R77, 13 R377). -/

open Sys2Proof Sys2Proof.Machine Sys2Proof.Claims

namespace Sys2Proof.Proofs

/-! ## HINT_ARRIVAL (03 R76) -/

/-- The state in which the oldest hint of core `k` has left it. -/
def hintTaken (s : State) (k : Nat) (h : Nat × Nat × Nat) (l : List (Nat × Nat × Nat)) : State :=
  (s.atTime h.1).updCore k (fun c => { c with hints := l, hintLevel := h.2.1 })

/-- The step that the governor of a site takes from a hint. -/
def hintStep (s : State) (site step : Nat) : State :=
  let tg := min (s.hintTarget site) (1000 * s.peakOf site)
  (if (s.die site).allow < tg then s.count Obj.PREBOOST_COUNT else s).updDie site
    (fun d => { d with steps := d.steps ++ [(step, tg)] })

theorem exec_hintArrival {s : State} {site k : Nat} {h : Nat × Nat × Nat} {l : List (Nat × Nat × Nat)} (hsite : site < 144)
    (hcores : s.cores.filter (fun x => x.1 / 272 == site && !x.2.hints.isEmpty) = [(k, s.core k)])
    (hh : (s.core k).hints = h :: l) : exec (.hintArrival site) s =
      .next (if h.1 + 2000 ≤ h.2.2 then hintStep (hintTaken s k h l) site h.2.2 else hintTaken s k h l) := by
  change execHintArrival site s = _
  simp only [execHintArrival, hcores, List.map_cons, List.map_nil, hh, List.head?_cons, Option.map_some, Option.getD_some,
    minKey, hsite, decide_true, onPart, if_true]
  rfl

theorem State.count_die (s : State) (o n j : Nat) : (s.count o n).die j = s.die j := rfl

theorem hintStep_steps (s : State) (site step : Nat) : ((hintStep s site step).die site).steps =
    (s.die site).steps ++ [(step, min (s.hintTarget site) (1000 * s.peakOf site))] := by
  simp only [hintStep]
  split <;> simp [State.count_die]

theorem hintStep_keeps (s : State) (site step : Nat) : (hintStep s site step).cores = s.cores ∧
    (hintStep s site step).spad = s.spad ∧ (hintStep s site step).hbm = s.hbm ∧ (hintStep s site step).imem = s.imem ∧
    (hintStep s site step).time = s.time := by
  simp only [hintStep]
  split <;> simp

theorem hintTaken_peakOf (s : State) (k : Nat) (h : Nat × Nat × Nat) (l : List (Nat × Nat × Nat)) (site : Nat) :
    (hintTaken s k h l).peakOf site = s.peakOf site := rfl

/-! ## GOVERNOR_TICK (03 R77, 13 R377) -/

/-- The allowance that a tick gives a die: a due step's target within the peak, or a bounded move to what is wanted. -/
def allowNext (stop : Bool) (due : Option (Nat × Nat)) (peak want allow : Nat) : Nat :=
  if stop then 0
  else match due with
    | some x => min peak x.2
    | none => if allow < want then min want (allow + 200) else max want (allow - 400)

theorem allowNext_bounds {peak want allow : Nat} (h : want ≤ peak) :
    allowNext false none peak want allow ≤ allow + 200 ∧ allow ≤ allowNext false none peak want allow + 400 ∧
    allowNext false none peak want allow ≤ max peak allow := by
  simp only [allowNext, Bool.false_eq_true, if_false]
  split <;> omega

/-- What the cores of a site want of its governor, within the peak. -/
def wanted (s : State) (site : Nat) : Nat :=
  let mine := s.cores.filter (fun x => x.1 / 272 == site)
  let held := mine.any (fun x => match x.2.hold with | some h => h.1 == 10 | none => false)
  let busy := mine.foldl (fun m x => max m x.2.used) 0
  min (1000 * s.peakOf site) (if held then 16000 else busy)

/-- The allowance of a site at a tick. -/
def tickAllow (s : State) (site : Nat) : Nat :=
  allowNext (s.thermal.quench.isSome || s.thermal.release)
    ((s.die site).steps.filter (fun x => decide (x.1 ≤ s.time))).getLast? (1000 * s.peakOf site) (wanted s site)
    (s.die site).allow

/-- The die of a site after a tick. -/
def tickDie (s : State) (site : Nat) (d : Die) : Die :=
  { d with
    govAt := s.time
    allow := tickAllow s site
    allowAt := if tickAllow s site = d.allow then d.allowAt else s.time
    filler := tickAllow s site - min (tickAllow s site) (wanted s site)
    steps := d.steps.filter (fun x => !decide (x.1 ≤ s.time)) }

/-- The cores with the work of a site since its last tick counted. -/
def clearUsed (site : Nat) (l : SMap Core) : SMap Core :=
  l.filterMap (fun x =>
    let c := if x.1 / 272 = site then { x.2 with used := 0 } else x.2
    if c = {} then none else some (x.1, c))

/-- The state after a tick whose sample is taken in state `s`. -/
def ticked (s : State) (site : Nat) : State :=
  { s.updDie site (tickDie s site) with cores := clearUsed site s.cores }

theorem ticked_die_same (s : State) (site : Nat) : (ticked s site).die site = tickDie s site (s.die site) :=
  SMap.get_put_same ..

theorem ticked_die_other (s : State) {site j : Nat} (h : j ≠ site) : (ticked s site).die j = s.die j :=
  SMap.get_put_other _ _ _ h

theorem exec_governorTick {site : Nat} (hsite : site < 144) (s : State) :
    exec (.governorTick site) s = .next (ticked (s.nextSample (s.die site).govAt 100) site) := by
  change execGovernorTick site s = _
  simp only [execGovernorTick, hsite, decide_true, onPart, if_true]
  rfl

theorem clearUsed_used {site k : Nat} (hk : k / 272 = site) (l : SMap Core) :
    (SMap.get coreD (clearUsed site l) k).used = 0 := by
  induction l with
  | nil => rfl
  | cons x l ih =>
    have hcons : clearUsed site (x :: l) = clearUsed site l ∨
        ∃ c : Core, (x.1 = k → c.used = 0) ∧ clearUsed site (x :: l) = (x.1, c) :: clearUsed site l := by
      by_cases hc : (if x.1 / 272 = site then { x.2 with used := 0 } else x.2) = {}
      · exact .inl (List.filterMap_cons_none (if_pos hc))
      · refine .inr ⟨_, fun hx => ?_, List.filterMap_cons_some (if_neg hc)⟩
        rw [if_pos (hx ▸ hk)]
    obtain hcons | ⟨c, hc, hcons⟩ := hcons
    · rw [hcons, ih]
    · rw [hcons, SMap.get]
      split
      next hx => exact hc hx
      next => exact ih

/-- What a tick makes of the allowance of its site, once its sample is taken. -/
theorem tickAllow_bounds (s : State) (site : Nat) :
    (s.thermal.quench ≠ none → tickAllow s site = 0) ∧
    (s.thermal.quench = none → s.thermal.release = false →
      (∀ l x, (s.die site).steps.filter (fun y => decide (y.1 ≤ s.time)) = l ++ [x] →
        tickAllow s site = min (1000 * s.peakOf site) x.2) ∧
      ((∀ x ∈ (s.die site).steps, s.time < x.1) →
        tickAllow s site ≤ (s.die site).allow + 200 ∧ (s.die site).allow ≤ tickAllow s site + 400 ∧
        tickAllow s site ≤ max (1000 * s.peakOf site) (s.die site).allow)) := by
  refine ⟨fun hq => ?_, fun hq hr => ⟨fun l x hdue => ?_, fun hnone => ?_⟩⟩
  · simp [tickAllow, allowNext, Option.isSome_iff_ne_none.mpr hq]
  · simp [tickAllow, allowNext, hq, hr, hdue]
  · have hdue : (s.die site).steps.filter (fun x => decide (x.1 ≤ s.time)) = [] :=
      List.filter_eq_nil_iff.mpr fun x hx => by simpa using hnone x hx
    have hwant : wanted s site ≤ 1000 * s.peakOf site := min_le_left ..
    simpa [tickAllow, hdue, hq, hr] using allowNext_bounds hwant

/-! ## O40 -/

/-- Settles O40: what a hint does to its core and its governor, and the bounds of a tick. -/
theorem governor : Obligations.governor := by
  unfold Obligations.governor
  refine ⟨fun s site k h l hsite hcores hh => answers_of_exec (exec_hintArrival hsite hcores hh) ?_,
    fun s site hsite => answers_of_exec (exec_governorTick hsite s) ?_⟩
  · have hcore : (hintTaken s k h l).core k = { s.core k with hints := l, hintLevel := h.2.1 } :=
      State.core_updCore_same ..
    have hothers : sameOthers k s (hintTaken s k h l) := fun j hj => State.core_updCore_other _ _ hj
    split
    next hstep =>
      obtain ⟨hcores, hspad, hhbm, himem, htime⟩ := hintStep_keeps (hintTaken s k h l) site h.2.2
      have hkeep : ∀ j, (hintStep (hintTaken s k h l) site h.2.2).core j = (hintTaken s k h l).core j :=
        fun j => by rw [State.core, State.core, hcores]
      refine ⟨?_, ?_, htime, fun hlt => ?_, fun _ => ⟨_, hintStep_steps .., min_le_right ..⟩, ⟨hspad, hhbm, himem⟩,
        fun j hj => ?_⟩
      · rw [hkeep, hcore]
      · rw [hkeep, hcore]
      · omega
      · rw [hkeep, hothers j hj]
    next hstep =>
      refine ⟨?_, ?_, rfl, fun _ => rfl, fun hle => absurd hle hstep, ⟨rfl, rfl, rfl⟩, hothers⟩
      · rw [hcore]
      · rw [hcore]
  · obtain ⟨hstop, hgo⟩ := tickAllow_bounds (s.nextSample (s.die site).govAt 100) site
    have hallow : ((ticked (s.nextSample (s.die site).govAt 100) site).die site).allow =
        tickAllow (s.nextSample (s.die site).govAt 100) site := by rw [ticked_die_same, tickDie]
    rw [hallow]
    exact ⟨hstop, hgo, fun k hk => clearUsed_used hk _, fun j hj => ticked_die_other _ hj, rfl, rfl, rfl, rfl⟩

end Sys2Proof.Proofs
end

section
/-! PROOFS. What the traffic of the mesh leaves of the instruction memories and the panel state (03 R60, R71). -/

open Sys2Proof Sys2Proof.Machine Sys2Proof.Claims

namespace Sys2Proof.Proofs

/-- The instruction memories and the panel state of `t` are those of `s`. -/
@[simp] abbrev KeepsCode (s t : State) : Prop := t.imem = s.imem ∧ t.panel = s.panel

@[simp] theorem foldl_keepsCode {α : Type} {f : State → α → State} (h : ∀ s x, KeepsCode s (f s x)) (l : List α)
    (s : State) : KeepsCode s (l.foldl f s) :=
  List.foldlRecOn l f (motive := KeepsCode s) ⟨rfl, rfl⟩ fun t ht x _ => by simp [ht, h t x]

@[simp] theorem foldl_fst_keepsCode {α β : Type} {f : State × β → α → State × β} (h : ∀ r x, KeepsCode r.1 (f r x).1)
    (l : List α) (r : State × β) : KeepsCode r.1 (l.foldl f r).1 :=
  List.foldlRecOn l f (motive := fun t => KeepsCode r.1 t.1) ⟨rfl, rfl⟩ fun t ht x _ => by simp [ht, h t x]

/-! ## Packets and the ledger (09) -/

@[simp] theorem State.injectFlit_keepsCode (s : State) (t : Nat) (p : Packet) (f : Flit) (first : Bool) :
    KeepsCode s (s.injectFlit t p f first) := by
  simp [State.injectFlit]

@[simp] theorem State.cross_keepsCode (s : State) (i : Nat) (h : Hdr) (n : Nat) : KeepsCode s (s.cross i h n) := by
  simp [State.cross]

@[simp] theorem State.unflight_keepsCode (s : State) (i : Nat) (p : Packet) : KeepsCode s (s.unflight i p) := by
  unfold State.unflight
  split <;> simp

@[simp] theorem State.eject_keepsCode (s : State) (p : Packet) : KeepsCode s (s.eject p) := by
  unfold State.eject
  split <;> simp

@[simp] theorem State.firmware_keepsCode (s : State) (p : Packet) : KeepsCode s (s.firmware p) := by
  simp [State.firmware]

@[simp] theorem State.discardAt_keepsCode (s : State) (i : Nat) (p : Packet) : KeepsCode s (s.discardAt i p) := by
  simp [State.discardAt]

@[simp] theorem State.headerFault_keepsCode (s : State) (p : Packet) : KeepsCode s (s.headerFault p) := by
  simp only [State.headerFault]
  split <;> simp

@[simp] theorem State.lateDiscard_keepsCode (s : State) (p : Packet) : KeepsCode s (s.lateDiscard p) := by
  simp only [State.lateDiscard]
  (repeat' split) <;> simp

@[simp] theorem State.noteCapture_keepsCode (s : State) (k : Nat) (b : Bytes) : KeepsCode s (s.noteCapture k b) := by
  simp [State.noteCapture]

@[simp] theorem State.isolatedDiscard_keepsCode (s : State) (p : Packet) : KeepsCode s (s.isolatedDiscard p) := by
  simp [State.isolatedDiscard]

/-! ## Sends, rings, windows and operand ports (07) -/

@[simp] theorem State.flitOut_keepsCode (s : State) (k ch : Nat) (b : Bnd) (f : SFlit) : KeepsCode s (s.flitOut k ch b f) := by
  simp [State.flitOut]

@[simp] theorem State.sendCredit_keepsCode (s : State) (k src ch n : Nat) : KeepsCode s (s.sendCredit k src ch n) := by
  simp [State.sendCredit]

theorem State.ringTake_keepsCode {s t : State} {k ch : Nat} {p : Packet} (h : s.ringTake k ch p = some t) : KeepsCode s t := by
  simp only [State.ringTake] at h
  split at h
  · cases h
  · split at h
    · cases h
    next hp =>
      cases h
      split at hp
      · cases hp
        split <;> simp
      · split at hp
        · cases hp
          (repeat' split) <;> simp
        · cases hp

@[simp] theorem State.ringDrain_keepsCode (k ch n : Nat) (s : State) : KeepsCode s (State.ringDrain k ch n s) := by
  induction n generalizing s with
  | zero => simp [State.ringDrain]
  | succ n ih =>
    simp only [State.ringDrain]
    split
    · simp
    · split
      next h => simp [ih, State.ringTake_keepsCode h]
      · split <;> simp

@[simp] theorem State.ringArrive_keepsCode (s : State) (k ch : Nat) (p : Packet) : KeepsCode s (s.ringArrive k ch p) := by
  simp only [State.ringArrive]
  split
  · simp
  · split
    next h => exact State.ringTake_keepsCode h
    · simp

@[simp] theorem State.winArrive_keepsCode (s : State) (k ch lineOff : Nat) (p : Packet) :
    KeepsCode s (s.winArrive k ch lineOff p) := by
  simp only [State.winArrive]
  (repeat' split) <;> simp

@[simp] theorem State.portArrive_keepsCode (s : State) (k ch : Nat) (p : Packet) :
    KeepsCode s (s.portArrive k ch p) := ⟨rfl, rfl⟩

@[simp] theorem State.deliver_keepsCode (s : State) (k ch lineOff : Nat) (p : Packet) :
    KeepsCode s (s.deliver k ch lineOff p) := by
  simp only [State.deliver]
  split <;> simp

/-! ## HBM and the queues (08) -/

@[simp] theorem State.waitRefresh_keepsCode (s : State) (stack l n : Nat) : KeepsCode s (s.waitRefresh stack l n) := by
  unfold State.waitRefresh
  split <;> simp

@[simp] theorem State.markLine_keepsCode (s : State) (stack off v : Nat) : KeepsCode s (s.markLine stack off v) := ⟨rfl, rfl⟩
@[simp] theorem State.markOwn_keepsCode (s : State) (stack g v : Nat) : KeepsCode s (s.markOwn stack g v) := ⟨rfl, rfl⟩

@[simp] theorem State.putLines_keepsCode (s : State) (stack off : Nat) (d : Nat → Nat) (b : Bytes) (n : Nat) :
    KeepsCode s (s.putLines stack off d b n) := by
  simp [State.putLines]

@[simp] theorem State.hubChecks_keepsCode (s : State) (stack l n : Nat) : KeepsCode s (s.hubChecks stack l n).1 := by
  simp only [State.hubChecks]
  refine foldl_fst_keepsCode (fun r g => ?_) _ (s, false)
  split
  · simp [foldl_keepsCode (f := fun s x => if s.lineDiff stack (64 * x) = 0 then s.markLine stack (64 * x) 1 else s)
      (fun s x => by split <;> simp)]
  · simp

@[simp] theorem State.writeLines_keepsCode (s : State) (stack off : Nat) (b : Bytes) (n : Nat) :
    KeepsCode s (s.writeLines stack off b n) := by
  simp [State.writeLines]

@[simp] theorem State.readCmps_keepsCode (s : State) (h : Hdr) (stack lo n : Nat) : KeepsCode s (s.readCmps h stack lo n) := by
  simp [State.readCmps]

@[simp] theorem State.e2eFault_keepsCode (s : State) (k haddr lines : Nat) : KeepsCode s (s.e2eFault k haddr lines) := by
  simp [State.e2eFault]

@[simp] theorem State.noteDone_keepsCode (s : State) (k : Nat) (e : QEnt) : KeepsCode s (s.noteDone k e) := by
  simp [State.noteDone]

/-! ## Streams, ladles and control packets (06, 07 R184, 09) -/

@[simp] theorem State.setStream_keepsCode (s : State) (i : Nat) (x : Stream) : KeepsCode s (s.setStream i x) := ⟨rfl, rfl⟩

@[simp] theorem State.ladleRefuse_keepsCode (s : State) (h : Hdr) (entry : Nat) (flits : Nat) :
    KeepsCode s (s.ladleRefuse h entry flits) := by
  simp only [State.ladleRefuse]
  split <;> simp

@[simp] theorem State.ladleTake_keepsCode (s : State) (k : Nat) (h : Hdr) (b : Bytes) : KeepsCode s (s.ladleTake k h b) := by
  simp [State.ladleTake]

@[simp] theorem State.ladleFlits_keepsCode (s : State) (k : Nat) (p : Packet) : KeepsCode s (s.ladleFlits k p) := by
  simp [State.ladleFlits]

@[simp] theorem State.ccReply_keepsCode (s : State) (h : Hdr) (refused : Bool) (data : Bytes) :
    KeepsCode s (s.ccReply h refused data) := by
  simp [State.ccReply]

@[simp] theorem State.restartServices_keepsCode (s : State) (site pair : Nat) : KeepsCode s (s.restartServices site pair) := by
  unfold State.restartServices
  split <;> simp

@[simp] theorem State.freezePair_keepsCode (s : State) (site pair : Nat) : KeepsCode s (s.freezePair site pair) := by
  simp [State.freezePair]

@[simp] theorem State.ccRefuse_keepsCode (s : State) (h : Hdr) : KeepsCode s (s.ccRefuse h) := by
  unfold State.ccRefuse
  split <;> simp

@[simp] theorem State.adminRoute_keepsCode (s : State) (h : Hdr) (e : RouteEnt) : KeepsCode s (s.adminRoute h e) := by
  simp [State.adminRoute]

/-! ## Where a packet arrives (09 R236 to R241) -/

theorem arriveAt_keepsCode (s : State) (p : Packet) (ty : Nat) : KeepsCode s (arrivalState (s.arriveAt p ty)) := by
  unfold State.arriveAt
  extract_lets u h
  have hu : KeepsCode s u := by simp [u]
  clear_value u
  split
  · split <;> simp [arrivalState, hu]
  · (repeat' split) <;> simp [arrivalState, hu]

theorem State.arriveAt_over_keepsCode {s t : State} {p : Packet} {ty : Nat} (h : s.arriveAt p ty = .over t) :
    KeepsCode s t := by
  simpa [h, arrivalState] using arriveAt_keepsCode s p ty

theorem State.arriveAt_at_keepsCode {s t : State} {p : Packet} {ty k : Nat} (h : s.arriveAt p ty = .at t k) :
    KeepsCode s t := by
  simpa [h, arrivalState] using arriveAt_keepsCode s p ty

/-! ## The commands of a core and of the mesh -/

/-- The command leaves the instruction memories and the panel state. -/
def CodeKept (s : State) (o : Host.Outcome State Fault Refusal) : Prop := ∀ t, o = .next t → KeepsCode s t

@[simp] theorem codeKept_next (s t : State) : CodeKept s (.next t) ↔ KeepsCode s t := by
  simp [CodeKept]

@[simp] theorem codeKept_onPart (s t : State) (ok : Bool) : CodeKept s (onPart ok t) ↔ (ok = true → KeepsCode s t) := by
  cases ok <;> simp [CodeKept, onPart]

theorem execMmaComplete_codeKept (core : Nat) (e : TileEnd) (s : State) : CodeKept s (execMmaComplete core e s) := by
  simp only [execMmaComplete]
  (repeat' split) <;> simp

theorem execTileTransferComplete_codeKept (core : Nat) (e : TileEnd) (ecc : Ecc) (s : State) :
    CodeKept s (execTileTransferComplete core e ecc s) := by
  simp only [execTileTransferComplete]
  (repeat' split) <;> simp

theorem execFillCopyEnd_codeKept (core : Nat) (s : State) : CodeKept s (execFillCopyEnd core s) := by
  simp only [execFillCopyEnd]
  (repeat' split) <;> simp

theorem execResultWriteback_codeKept (core : Nat) (ecc : Ecc) (s : State) : CodeKept s (execResultWriteback core ecc s) := by
  simp only [execResultWriteback]
  (repeat' split) <;> simp

theorem execFlitInject_codeKept (core ch : Nat) (s : State) : CodeKept s (execFlitInject core ch s) := by
  simp only [execFlitInject]
  (repeat' split) <;> simp

theorem execMsg_codeKept (p : Packet) (s : State) : CodeKept s (execMsg p s) := by
  rw [execMsg, codeKept_next]
  split
  next h => exact State.arriveAt_over_keepsCode h
  next h => simp [State.arriveAt_at_keepsCode h]

theorem execWin_codeKept (p : Packet) (s : State) : CodeKept s (execWin p s) := by
  rw [execWin, codeKept_next]
  split
  next h => exact State.arriveAt_over_keepsCode h
  next h => simp [State.arriveAt_at_keepsCode h]

theorem execMcast_codeKept (p : Packet) (s : State) : CodeKept s (execMcast p s) := by
  rw [execMcast, codeKept_next]
  split
  next h => exact State.arriveAt_over_keepsCode h
  next h =>
    simp only
    (repeat' split) <;> simp [State.arriveAt_at_keepsCode h]

theorem execBBufferFill_codeKept (q : BFill) (s : State) : CodeKept s (execBBufferFill q s) := by
  simp only [execBBufferFill]
  (repeat' split) <;> simp

theorem execLadle_codeKept (p : Packet) (dup : Bool) (s : State) : CodeKept s (execLadle p dup s) := by
  rw [execLadle, codeKept_next]
  extract_lets h entry go waiting
  clear_value waiting
  split
  · simp +zetaDelta
  split
  next h => exact State.arriveAt_over_keepsCode h
  next h => simp +zetaDelta [State.arriveAt_at_keepsCode h]

theorem execShrdReq_codeKept (p : Packet) (s : State) : CodeKept s (execShrdReq p s) := by
  rw [execShrdReq, codeKept_next]
  split
  next h => exact State.arriveAt_over_keepsCode h
  next h =>
    simp only
    (repeat' split) <;> simp [State.arriveAt_at_keepsCode h]

theorem execShrdMergeRead_codeKept (core : Nat) (q : MergeRead) (s : State) : CodeKept s (execShrdMergeRead core q s) := by
  simp only [execShrdMergeRead]
  (repeat' split) <;> simp

theorem execShrdRep_codeKept (p : Packet) (s : State) : CodeKept s (execShrdRep p s) := by
  rw [execShrdRep, codeKept_next]
  split
  next h => exact State.arriveAt_over_keepsCode h
  next h => simp [State.arriveAt_at_keepsCode h]

theorem execQCmp_codeKept (p : Packet) (err : List (BitVec 32)) (s : State) : CodeKept s (execQCmp p err s) := by
  rw [execQCmp, codeKept_next]
  split
  next h => exact State.arriveAt_over_keepsCode h
  next h =>
    simp only
    split <;> simp [State.arriveAt_at_keepsCode h]

theorem execCredit_codeKept (p : Packet) (s : State) : CodeKept s (execCredit p s) := by
  rw [execCredit, codeKept_next]
  extract_lets h n
  split
  · split <;> simp +zetaDelta
  split
  next h => exact State.arriveAt_over_keepsCode h
  next h => simp [State.arriveAt_at_keepsCode h]

theorem execCcReq_codeKept (q : CcIn) (s : State) : CodeKept s (execCcReq q s) := by
  unfold execCcReq
  extract_lets p h u
  have hu : KeepsCode s u := by simp [u]
  clear_value u
  rw [codeKept_next]
  split
  · exact hu
  split
  · simp +zetaDelta [hu]
  split
  · simp +zetaDelta [hu]
  split
  · simp +zetaDelta [hu]
  split
  · split <;> simp +zetaDelta [hu]
  · simp +zetaDelta [hu]

theorem execAdmin_codeKept (p : Packet) (body : AdminBody) (s : State) : CodeKept s (execAdmin p body s) := by
  simp only [execAdmin]
  (repeat' split) <;> simp

theorem execCopyPacket_codeKept (p : Packet) (s : State) : CodeKept s (execCopyPacket p s) := by
  simp only [execCopyPacket]
  (repeat' split) <;> simp

theorem execStreamEntryStart_codeKept (st : Nat) (s : State) : CodeKept s (execStreamEntryStart st s) := by
  simp only [execStreamEntryStart]
  (repeat' split) <;> simp

theorem execStreamSegmentSend_codeKept (q : StreamRead) (s : State) : CodeKept s (execStreamSegmentSend q s) := by
  simp only [execStreamSegmentSend]
  (repeat' split) <;> simp

theorem execStreamSegmentReceive_codeKept (st : Nat) (s : State) : CodeKept s (execStreamSegmentReceive st s) := by
  simp only [execStreamSegmentReceive]
  (repeat' split) <;> simp

theorem execStreamEntryReadDone_codeKept (st : Nat) (s : State) : CodeKept s (execStreamEntryReadDone st s) := by
  simp only [execStreamEntryReadDone]
  (repeat' split) <;> simp

theorem execRingRecordPlace_codeKept (core ch : Nat) (s : State) : CodeKept s (execRingRecordPlace core ch s) := by
  simp [execRingRecordPlace]

theorem execLadleComplete_codeKept (core entry : Nat) (e : LadleEnd) (s : State) :
    CodeKept s (execLadleComplete core entry e s) := by
  simp [execLadleComplete]

theorem execQReq_codeKept (p : Packet) (err : List (BitVec 32)) (rot : List Nat) (s : State) :
    CodeKept s (execQReq p err rot s) := by
  simp [execQReq]

theorem execCcRep_codeKept (p : Packet) (s : State) : CodeKept s (execCcRep p s) := by
  simp [execCcRep]

theorem execStreamCreditReturn_codeKept (st : Nat) (s : State) : CodeKept s (execStreamCreditReturn st s) := by
  simp [execStreamCreditReturn]

/-- R60, R71: the work of cores and of the mesh that is no slot operation. -/
theorem eventWork_codeKept {c : Instr} (hs : slotOf c = none) (hc : coreWork c = true) (s : State) :
    CodeKept s (exec c s) := by
  cases c <;> cases hs
  case mmaComplete core e => exact execMmaComplete_codeKept core e s
  case tileTransferComplete core e ecc => exact execTileTransferComplete_codeKept core e ecc s
  case fillCopyEnd core => exact execFillCopyEnd_codeKept core s
  case resultWriteback core ecc => exact execResultWriteback_codeKept core ecc s
  case flitInject core ch => exact execFlitInject_codeKept core ch s
  case msg p => exact execMsg_codeKept p s
  case ringRecordPlace core ch => exact execRingRecordPlace_codeKept core ch s
  case win p => exact execWin_codeKept p s
  case mcast p => exact execMcast_codeKept p s
  case bBufferFill q => exact execBBufferFill_codeKept q s
  case ladle p dup => exact execLadle_codeKept p dup s
  case ladleComplete core entry e => exact execLadleComplete_codeKept core entry e s
  case shrdReq p => exact execShrdReq_codeKept p s
  case shrdMergeRead core q => exact execShrdMergeRead_codeKept core q s
  case shrdRep p => exact execShrdRep_codeKept p s
  case qReq p err rot => exact execQReq_codeKept p err rot s
  case qCmp p err => exact execQCmp_codeKept p err s
  case credit p => exact execCredit_codeKept p s
  case ccReq q => exact execCcReq_codeKept q s
  case ccRep p => exact execCcRep_codeKept p s
  case admin p body => exact execAdmin_codeKept p body s
  case copyPacket p => exact execCopyPacket_codeKept p s
  case streamEntryStart st => exact execStreamEntryStart_codeKept st s
  case streamSegmentSend q => exact execStreamSegmentSend_codeKept q s
  case streamSegmentReceive st => exact execStreamSegmentReceive_codeKept st s
  case streamEntryReadDone st => exact execStreamEntryReadDone_codeKept st s
  case streamCreditReturn st => exact execStreamCreditReturn_codeKept st s
  all_goals cases hc

/-- R71: a slot operation writes neither HBM nor an instruction memory, and moves no panel state. -/
theorem slotOp_keepsWork {c : Instr} {io : Issue} {info : State → Op} {eff : State → State}
    (h : slotOf c = some (io, info, eff)) {s t : State} (he : exec c s = .next t) : KeepsWork s t := by
  rw [exec_of_slotOf h, slotOp, onPart] at he
  split at he
  · cases he
    exact present_keepsWork (fun s => (eff_onCore h s).keepsWork) s io info
  · cases he

/-- Settles O5: what a slot operation does is on its core, and nothing that the mesh carries writes code. -/
theorem workWritesNoCode : Obligations.work_writes_no_code := by
  unfold Obligations.work_writes_no_code
  refine ⟨fun c s t hc he => ?_, fun c s t hs he => ?_⟩
  · cases hs : slotOf c with
    | none => exact eventWork_codeKept hs hc s t he
    | some x =>
      obtain ⟨himem, -, hpanel, -⟩ := slotOp_keepsWork hs he
      exact ⟨himem, hpanel⟩
  · obtain ⟨x, hx⟩ := Option.isSome_iff_exists.mp hs
    obtain ⟨-, hhbm, -⟩ := slotOp_keepsWork hx he
    exact hhbm

end Sys2Proof.Proofs
end

section
/-! PROOFS. The exact accumulator and the random function: what the end of an MMA adds to each element (04 R91, R93), and how a
round of rng is inverted (04 R117). -/

open Sys2Proof Sys2Proof.Machine Sys2Proof.Claims

namespace Sys2Proof.Proofs

/-! ## The end of an MMA (04 R91, R93) -/

/-- Settles O19: the end of an MMA puts in its tile what the tile's own addition of the products gives. -/
theorem mmaExact : Obligations.mma_exact := by
  unfold Obligations.mma_exact
  intro s k j n hn
  rw [mmaEnd_core, Core.tile_setTile_same, Tile.elem_mma _ j hn]

/-! ## The steps of a round and their inverses (04 R117) -/

/-- A word xor itself shifted right by `n`. -/
def xorShift (n : Nat) (x : BitVec 64) : BitVec 64 := x ^^^ (x >>> n)

/-- The step back: two shifted copies are enough where three shifts leave no bit. -/
def unXorShift (n : Nat) (y : BitVec 64) : BitVec 64 := y ^^^ (y >>> n) ^^^ (y >>> (n + n))

theorem leftInverse_unXorShift {n : Nat} (hn : 64 ≤ n + (n + n)) : Function.LeftInverse (unXorShift n) (xorShift n) := by
  intro x
  have hgone : x >>> (n + (n + n)) = 0 := BitVec.ushiftRight_eq_zero hn
  calc unXorShift n (xorShift n x)
      = x ^^^ ((x >>> n ^^^ x >>> n) ^^^ (x >>> (n + n) ^^^ x >>> (n + n))) ^^^ x >>> (n + (n + n)) := by
        simp only [unXorShift, xorShift, BitVec.ushiftRight_xor_distrib, ← BitVec.shiftRight_add]
        ac_rfl
    _ = x := by simp [hgone]

/-- The factor of a round, which is odd, and its inverse modulo 2^64. -/
def rngFactor : BitVec 64 := 0xC3A59E1D7B246F8B
def rngFactorInv : BitVec 64 := 0x2AC3F9036EA64023

theorem leftInverse_mul_rngFactorInv : Function.LeftInverse (· * rngFactorInv) (· * rngFactor) := by
  intro x
  have hunit : rngFactor * rngFactorInv = 1#64 := by decide
  simp only [BitVec.mul_assoc, hunit, BitVec.mul_one]

/-! ## Rounds (04 R117) -/

theorem rngRound_eq (key x : BitVec 64) (r : Nat) :
    rngRound key x r = xorShift 29 (xorShift 31 (x + key.rotateLeft (16 * r)) * rngFactor) := rfl

/-- The round undone: its four steps back, the last first. -/
def rngUnround (key : BitVec 64) (r : Nat) (y : BitVec 64) : BitVec 64 :=
  unXorShift 31 (unXorShift 29 y * rngFactorInv) - key.rotateLeft (16 * r)

theorem leftInverse_rngUnround (key : BitVec 64) (r : Nat) :
    Function.LeftInverse (rngUnround key r) (rngRound key · r) := by
  intro x
  simp only [rngRound_eq, rngUnround, leftInverse_unXorShift (n := 29) (by decide) _, leftInverse_mul_rngFactorInv _,
    leftInverse_unXorShift (n := 31) (by decide) _, BitVec.add_sub_cancel]

theorem foldl_rngRound_injective (key : BitVec 64) (l : List Nat) :
    Function.Injective (fun x => l.foldl (rngRound key) x) := by
  induction l with
  | nil => exact Function.injective_id
  | cons r l ih => exact ih.comp (leftInverse_rngUnround key r).injective

theorem rng_injective (key : BitVec 64) : Function.Injective (rng key) := fun _ _ h =>
  (BitVec.xor_left_inj key).mp (foldl_rngRound_injective key (List.range 6) h)

/-- Settles O59: a round is undone step by step, and rounds that can be undone keep distinct counters apart. -/
theorem rngInverts : Obligations.rng_inverts := by
  unfold Obligations.rng_inverts
  exact ⟨fun _ _ => rfl, fun _ _ _ => rfl, fun key r => ⟨rngUnround key r, leftInverse_rngUnround key r⟩,
    fun key _ _ h => rng_injective key h⟩

end Sys2Proof.Proofs
end

section
/-! PROOFS. Where a slot operation issues, what its own effect does to its core: scalar results, branches, LOOP and PMOV
(05 R122, R143). -/

open Sys2Proof Sys2Proof.Machine Sys2Proof.Claims

namespace Sys2Proof.Proofs

/-! ## From the effect of an operation to its issue -/

/-- From `c` to `d` only what every issue notes has changed: the slot and its destinations (05 R145), the hold, the TIME of
the bundle, the allowance used (03 R75) and what the checkers saw. -/
def IssueNoted (c d : Core) : Prop :=
  ∃ slot names time used seen,
    d = { c with openSlot := slot, named := names, hold := none, lastIssueTime := time, used := used, seen := seen }

theorem issued_noted (s : State) (io : Issue) (o : Op) : IssueNoted (s.core io.core) ((s.issued io o).core io.core) :=
  ⟨_, _, _, _, _, State.core_updCore_same ..⟩

/-- Where it issues, an operation leaves its core as its effect does, but for what every issue notes, and reaches nothing
else. -/
theorem answers_of_issues {c : Instr} {io : Issue} {info : State → Op} {eff : State → State}
    (hc : slotOf c = some (io, info, eff)) {s : State} (hi : s.issues io info = true) {p : State → Prop}
    (hp : ∀ t, IssueNoted ((eff (s.atIssue io)).core io.core) (t.core io.core) →
      sameRegs (before s io) (t.core io.core) → sameMem (s.atIssue io) t → sameOthers io.core (s.atIssue io) t → p t) :
    answers c s p :=
  have hon := (eff_onCore hc (s.atIssue io)).trans (issued_onCore _ io (info (s.atIssue io)))
  ⟨_, slotOpIssues c io info eff hc s hi, hp _ (issued_noted ..) hon.2.1 hon.sameMem hon.2.2⟩

theorem issuesWith_of_noted {c : Instr} {io : Issue} {info : State → Op} {eff : State → State} {q : Core → Core → Prop}
    (hc : slotOf c = some (io, info, eff))
    (hq : ∀ s, s.issues io info = true → ∀ d, IssueNoted ((eff (s.atIssue io)).core io.core) d →
      sameRegs (before s io) d → q (before s io) d) : issuesWith c q := by
  intro io' info' eff' hc' s hi
  rw [hc] at hc'
  cases hc'
  exact answers_of_issues hc hi fun t hnoted hregs hmem hothers => ⟨hq s hi _ hnoted hregs, hmem, hothers⟩

/-- An operation whose effect on its core is `g` relates its core before and after the issue as `g` does. -/
theorem issuesWith_of_eff {c : Instr} {io : Issue} {info : State → Op} {eff : State → State} {q : Core → Core → Prop}
    (hc : slotOf c = some (io, info, eff)) (g : State → Core → Core)
    (heff : ∀ s, (eff s).core io.core = g s (s.core io.core))
    (hq : ∀ s, s.issues io info = true → ∀ d, IssueNoted (g (s.atIssue io) (before s io)) d →
      sameRegs (before s io) d → q (before s io) d) : issuesWith c q :=
  issuesWith_of_noted hc fun s hi d hnoted hregs => hq s hi d (by rwa [heff] at hnoted) hregs

/-- An operation that issues is legal, names a bound channel, and none of its own conditions holds it (03 R64, 05 R148). -/
theorem legal_of_issues {s : State} {io : Issue} {info : State → Op} (hi : s.issues io info = true) :
    (info (s.atIssue io)).illegal = false ∧ (info (s.atIssue io)).unbound = false ∧ (info (s.atIssue io)).holds = [] := by
  obtain ⟨-, -, -, -, hstatic, -, -, hhold, -⟩ := (issues_iff s io info).mp hi
  have hunmet := minHold_none hhold
  simp only [State.unmet, List.append_eq_nil_iff] at hunmet
  obtain ⟨⟨-, hholds⟩, -⟩ := hunmet
  simp only [staticViol] at hstatic
  split at hstatic
  · cases hstatic
  next hlegal =>
    split at hstatic
    · cases hstatic
    next hbound =>
      simp only [Bool.or_eq_true, not_or, Bool.not_eq_true] at hlegal hbound
      obtain ⟨⟨-, hlegal⟩, -⟩ := hlegal
      exact ⟨hlegal, hbound, hholds⟩

/-! ## Scalar results (05 R143) -/

/-- `v` is the value of the operation's row where its effect computes `g`. -/
theorem issuesWith_ctlEff {c : Instr} {io : Issue} {info : State → Op} {f : CtlF} {lat : Nat} {g v : Core → BitVec 64}
    (hc : slotOf c = some (io, info, ctlEff io.core f lat g)) (hv : ∀ b, g b = v b) :
    issuesWith c (fun b a => a.pend = b.pend ++ [⟨.sreg f.rd.toNat (v b), b.cycle, b.cycle + lat⟩] ∧ a.pc = b.pc ∧
      a.nextIssue = b.nextIssue ∧ sameRegs b a ∧ a.acs = b.acs) := by
  obtain rfl : g = v := funext hv
  refine issuesWith_of_eff hc (fun _ c => c.send (.sreg f.rd.toNat (g c)) lat) (fun _ => State.core_updCore_same ..) ?_
  rintro s - _ ⟨_, _, _, _, _, rfl⟩ hregs
  exact ⟨rfl, rfl, rfl, hregs, rfl⟩

/-- Settles O12: each operation sends the value of its row; SLT, SLTU and MUL are written there on numbers. -/
theorem ctlResults : Obligations.ctl_results := by
  unfold Obligations.ctl_results
  intro c lat rd v h
  cases c <;> cases h
  case slt => exact issuesWith_ctlEff rfl fun b => by simp only [BitVec.slt_iff_toInt_lt]
  case sltu => exact issuesWith_ctlEff rfl fun b => by simp only [BitVec.ult_iff_lt, BitVec.lt_def]
  case mul => exact issuesWith_ctlEff rfl fun b => by simp only [BitVec.ofNat_mul, BitVec.ofNat_toNat, BitVec.setWidth_eq]
  all_goals exact issuesWith_ctlEff rfl fun _ => rfl

/-! ## Branches, LOOP and PMOV (05 R122, R143) -/

/-- R122: a taken branch sets the bundle address and puts the next bundle two cycles on; one not taken changes neither. -/
theorem branchTo_pc (c : Core) (f : CtlF) (taken : Bool) :
    if taken then (branchTo c f taken).pc = f.imm.toNat % 2048 ∧ (branchTo c f taken).nextIssue = c.cycle + 2
    else (branchTo c f taken).pc = c.pc ∧ (branchTo c f taken).nextIssue = c.nextIssue := by
  cases taken <;> simp [branchTo]

theorem branchTo_acs (c : Core) (f : CtlF) (taken : Bool) : (branchTo c f taken).acs = c.acs := by
  cases taken <;> rfl

theorem branchTo_pend (c : Core) (f : CtlF) (taken : Bool) : (branchTo c f taken).pend = c.pend := by
  cases taken <;> rfl

/-- `taken` is the condition of the branch's row where its effect tests `g`. -/
theorem issuesWith_ctlBranch {c : Instr} {io : Issue} {info : State → Op} {f : CtlF} {g taken : Core → Bool}
    (hc : slotOf c = some (io, info, ctlBranch io.core f g)) (ht : ∀ b, g b = taken b) :
    issuesWith c (fun b a => a.pend = b.pend ∧ sameRegs b a ∧ a.acs = b.acs ∧
      (if taken b then a.pc = f.imm.toNat % 2048 ∧ a.nextIssue = b.cycle + 2
        else a.pc = b.pc ∧ a.nextIssue = b.nextIssue)) := by
  obtain rfl : g = taken := funext ht
  refine issuesWith_of_eff hc (fun _ c => branchTo c f (g c)) (fun _ => State.core_updCore_same ..) ?_
  rintro s - _ ⟨_, _, _, _, _, rfl⟩ hregs
  exact ⟨branchTo_pend .., hregs, branchTo_acs .., branchTo_pc (before s io) f (g (before s io))⟩

theorem issuesWith_branch {c : Instr} {f : CtlF} {taken : Core → Bool} (h : branchTaken c = some (f, taken)) :
    issuesWith c (fun b a => a.pend = b.pend ∧ sameRegs b a ∧ a.acs = b.acs ∧
      (if taken b then a.pc = f.imm.toNat % 2048 ∧ a.nextIssue = b.cycle + 2
        else a.pc = b.pc ∧ a.nextIssue = b.nextIssue)) := by
  cases c <;> cases h
  case bne => exact issuesWith_ctlBranch rfl fun b => by simp only [bne, Bool.beq_eq_decide_eq, decide_not]
  case bge => exact issuesWith_ctlBranch rfl fun b => by simp only [BitVec.slt_eq_decide, ← decide_not, Int.not_lt]
  case bgeu => exact issuesWith_ctlBranch rfl fun b => by simp only [BitVec.ult_eq_decide, ← decide_not, Nat.not_lt]
  all_goals exact issuesWith_ctlBranch rfl fun _ => rfl

/-- R143: LOOP counts s[RA] down and branches while the new value is not zero. -/
theorem issuesWith_loop (io : Issue) (f : CtlF) : issuesWith (.loop io f) (fun b a => sameRegs b a ∧ a.acs = b.acs ∧
    a.pend = b.pend ++ [⟨.sreg f.ra.toNat (b.sreg f.ra.toNat - 1), b.cycle, b.cycle + 1⟩] ∧
    (if b.sreg f.ra.toNat - 1 = 0 then a.pc = b.pc ∧ a.nextIssue = b.nextIssue
      else a.pc = f.imm.toNat % 2048 ∧ a.nextIssue = b.cycle + 2)) := by
  refine issuesWith_of_eff rfl (fun _ c => branchTo (c.send (.sreg f.ra.toNat (c.sreg f.ra.toNat - 1)) 1) f
    (c.sreg f.ra.toNat - 1 != 0)) (fun _ => State.core_updCore_same ..) ?_
  rintro s - _ ⟨_, _, _, _, _, rfl⟩ hregs
  refine ⟨hregs, branchTo_acs .., branchTo_pend .., ?_⟩
  have hpc := branchTo_pc ((before s io).send (.sreg f.ra.toNat ((before s io).sreg f.ra.toNat - 1)) 1) f
    ((before s io).sreg f.ra.toNat - 1 != 0)
  simp only [bne_iff_ne, ne_eq, ite_not] at hpc
  exact hpc

theorem issuesWith_pmov (io : Issue) (f : CtlF) : issuesWith (.pmov io f) (fun b a => sameRegs b a ∧ a.acs = b.acs ∧
    a.pc = b.pc ∧ a.pend = b.pend ++ [⟨.pred f.rd.toNat (b.sreg f.ra.toNat), b.cycle, b.cycle + 1⟩]) := by
  refine issuesWith_of_eff rfl (fun _ c => c.send (.pred f.rd.toNat (c.sreg f.ra.toNat)) 1)
    (fun _ => State.core_updCore_same ..) ?_
  rintro s - _ ⟨_, _, _, _, _, rfl⟩ hregs
  exact ⟨hregs, rfl, rfl, rfl⟩

/-- Settles O13: the branches of the table, LOOP and PMOV. -/
theorem branchesLoops : Obligations.branches_loops := by
  unfold Obligations.branches_loops
  exact ⟨fun _ _ _ h => issuesWith_branch h, issuesWith_loop, issuesWith_pmov⟩

end Sys2Proof.Proofs
end

section
/-! PROOFS. The VEC slot where it issues: lane-wise operations and comparisons (05 R137), sums and conversions (05 R138,
R139). -/

open Sys2Proof Sys2Proof.Machine Sys2Proof.Claims

namespace Sys2Proof.Proofs

/-! ## Lane-wise operations (05 R137) -/

/-- `v` is the lane value of the operation's row where its effect computes `g`. -/
theorem issuesWith_vecLanewise {c : Instr} {io : Issue} {info : State → Op} {sp : VSpec} {f : VecF}
    {g v : Core → Nat → BitVec 32} {lat itv : Nat} (hc : slotOf c = some (io, info, vecLanewise io.core sp f g))
    (hlat : sp.lat = lat) (hitv : sp.interval = itv) (hv : ∀ b i, g b i = v b i) :
    issuesWith c (fun b a => sameRegs b a ∧ a.vecFree = b.cycle + itv ∧
      a.pend = b.pend ++ [⟨.vreg f.vd.toNat ((vecGov b f).map (fun i => (64 * f.vd.toNat + i, v b i))), b.cycle,
        b.cycle + lat⟩]) := by
  subst hlat hitv
  obtain rfl : g = v := funext fun b => funext (hv b)
  refine issuesWith_of_eff hc (fun _ c => vecDone sp f c (.vreg f.vd.toNat ((vecGov c f).map
    (fun i => (64 * f.vd.toNat + i, g c i))))) (fun _ => State.core_setCore_same ..) ?_
  rintro s - _ ⟨_, _, _, _, _, rfl⟩ hregs
  exact ⟨hregs, rfl, rfl⟩

/-- IMIN's choice is the signed minimum. -/
theorem ofInt_min_toInt (a b : BitVec 32) : BitVec.ofInt 32 (min a.toInt b.toInt) = if a.slt b then a else b := by
  rw [BitVec.slt_eq_decide]
  by_cases h : a.toInt < b.toInt
  · simp [h, min_eq_left h.le]
  · simp [h, min_eq_right (Int.not_lt.mp h)]

/-- IMAX's choice is the signed maximum. -/
theorem ofInt_max_toInt (a b : BitVec 32) : BitVec.ofInt 32 (max a.toInt b.toInt) = if a.slt b then b else a := by
  rw [BitVec.slt_eq_decide]
  by_cases h : a.toInt < b.toInt
  · simp [h, max_eq_right h.le]
  · simp [h, max_eq_left (Int.not_lt.mp h)]

theorem issuesWith_laneValue {c : Instr} {f : VecF} {lat itv : Nat} {g : Core → Nat → BitVec 32}
    (h : laneValue c = some (f, lat, itv, g)) :
    issuesWith c (fun b a => sameRegs b a ∧ a.vecFree = b.cycle + itv ∧
      a.pend = b.pend ++ [⟨.vreg f.vd.toNat ((vecGov b f).map (fun i => (64 * f.vd.toNat + i, g b i))), b.cycle,
        b.cycle + lat⟩]) := by
  cases c <;> cases h
  case imul =>
    exact issuesWith_vecLanewise rfl rfl rfl fun b i => by
      simp only [BitVec.ofNat_mul, BitVec.ofNat_toNat, BitVec.setWidth_eq]
  case imin => exact issuesWith_vecLanewise rfl rfl rfl fun _ _ => (ofInt_min_toInt ..).symm
  case imax => exact issuesWith_vecLanewise rfl rfl rfl fun _ _ => (ofInt_max_toInt ..).symm
  all_goals exact issuesWith_vecLanewise rfl rfl rfl fun _ _ => rfl

/-! ## Comparisons (05 R137) -/

/-- Bits written as a number, the lowest first, are the bits of that number. -/
theorem testBit_foldr_bits (l : List Bool) (i : Nat) :
    (l.foldr (fun (b : Bool) (r : Nat) => (if b then 1 else 0) + 2 * r) 0).testBit i = l.getD i false := by
  induction l generalizing i with
  | nil => simp
  | cons b l ih =>
    cases i with
    | zero => cases b <;> simp [Nat.testBit_zero]
    | succ i =>
      have hhalf (r : Nat) : ((if b then 1 else 0) + 2 * r) / 2 = r := by split <;> omega
      rw [List.foldr_cons, Nat.testBit_succ, hhalf, ih, List.getD_cons_succ]

/-- The predicate that a comparison sends: the test of each governed lane, the old bit of the others. -/
theorem getLsbD_compare (gov : List Nat) (t : Nat → Bool) (old : BitVec 64) {i : Nat} (hi : i < 64) :
    (BitVec.ofNat 64 (((List.range 64).map (fun i => if gov.contains i then t i else old.getLsbD i)).foldr
      (fun (b : Bool) (r : Nat) => (if b then 1 else 0) + 2 * r) 0)).getLsbD i =
        if i ∈ gov then t i else old.getLsbD i := by
  simp only [BitVec.getLsbD_ofNat, testBit_foldr_bits, hi, decide_true, Bool.true_and]
  simp [hi]

theorem issuesWith_vecCompare {c : Instr} {io : Issue} {info : State → Op} {sp : VSpec} {f : VecF}
    {g : Core → Nat → Bool} {lat itv : Nat} (hc : slotOf c = some (io, info, vecCompare io.core sp f g))
    (hlat : sp.lat = lat) (hitv : sp.interval = itv) :
    issuesWith c (fun b a => sameRegs b a ∧ a.vecFree = b.cycle + itv ∧
      ∃ v : BitVec 64, a.pend = b.pend ++ [⟨.pred (f.vd.toNat % 8) v, b.cycle, b.cycle + lat⟩] ∧
        ∀ i, i < 64 → v.getLsbD i = if i ∈ vecGov b f then g b i else (b.predOf (f.vd.toNat % 8)).getLsbD i) := by
  subst hlat hitv
  refine issuesWith_of_noted hc fun s hi d hnoted hregs => ⟨hregs, ?_⟩
  obtain ⟨_, _, _, _, _, rfl⟩ := hnoted
  rw [vecCompare, State.core_setCore_same]
  exact ⟨rfl, _, rfl, fun i hi => getLsbD_compare (vecGov (before s io) f) _ _ hi⟩

/-- Settles O14: each lane-wise operation and each comparison by the row of its table (`vecLanes` is the model's list of the
lanes of an issue). -/
theorem vecLanesHolds : Obligations.vec_lanes := by
  unfold Obligations.vec_lanes
  refine ⟨fun c f lat itv g h => issuesWith_laneValue h, fun c f lat g h => ?_⟩
  cases c <;> cases h
  case icmp => exact issuesWith_vecCompare rfl rfl rfl
  case fcmp => exact issuesWith_vecCompare rfl rfl rfl

/-! ## Sums and conversions (05 R138, R139) -/

theorem issuesWith_vecWhole {c : Instr} {io : Issue} {info : State → Op} {sp : VSpec} {f : VecF}
    {g : Core → List (Nat × BitVec 32)} {lat itv : Nat} (hc : slotOf c = some (io, info, vecWhole io.core sp f g))
    (hlat : sp.lat = lat) (hitv : sp.interval = itv) :
    issuesWith c (fun b a => sameRegs b a ∧ a.vecFree = b.cycle + itv ∧
      a.pend = b.pend ++ [⟨.vreg f.vd.toNat ((g b).map (fun x => (64 * f.vd.toNat + x.1, x.2))), b.cycle,
        b.cycle + lat⟩]) := by
  subst hlat hitv
  refine issuesWith_of_eff hc (fun _ c => vecDone sp f c (.vreg f.vd.toNat ((g c).map
    (fun x : Nat × BitVec 32 => (64 * f.vd.toNat + x.1, x.2))))) (fun _ => State.core_setCore_same ..) ?_
  rintro s - _ ⟨_, _, _, _, _, rfl⟩ hregs
  exact ⟨hregs, rfl, rfl⟩

/-- A level of the tree halves the list. -/
theorem length_treeLevel {α : Type} (add : α → α → α) (l : List α) : (treeLevel add l).length = (l.length + 1) / 2 := by
  induction l using treeLevel.induct with
  | case1 a b t ih =>
    simp only [treeLevel, List.length_cons, ih]
    omega
  | case2 l h =>
    match l, h with
    | [], _ => simp [treeLevel]
    | [a], _ => simp [treeLevel]
    | a :: b :: t, h => exact absurd rfl (h a b t)

/-- A level of the tree keeps the sum, for addition modulo 2^32 is associative. -/
theorem sum_treeLevel (l : List (BitVec 32)) : (treeLevel (fun a b => a + b) l).sum = l.sum := by
  induction l using treeLevel.induct with
  | case1 a b t ih => simp only [treeLevel, List.sum_cons, ih, add_assoc]
  | case2 l h =>
    match l, h with
    | [], _ => simp [treeLevel]
    | [a], _ => simp [treeLevel]
    | a :: b :: t, h => exact absurd rfl (h a b t)

/-- R138: six levels take up to 64 elements to their sum. -/
theorem treeSum_add (l : List (BitVec 32)) (hpos : 0 < l.length) (hlen : l.length ≤ 64) :
    treeSum (fun a b => a + b) l = [l.sum] := by
  have hone : (treeSum (fun a b => a + b) l).length = 1 := by
    simp only [treeSum, show List.range 6 = [0, 1, 2, 3, 4, 5] from rfl, List.foldl_cons, List.foldl_nil, length_treeLevel]
    omega
  have hsum : (treeSum (fun a b => a + b) l).sum = l.sum :=
    List.foldlRecOn (List.range 6) _ (motive := fun r => r.sum = l.sum) rfl fun r hr _ _ => (sum_treeLevel r).trans hr
  obtain ⟨x, hx⟩ := List.length_eq_one_iff.mp hone
  rw [hx] at hsum ⊢
  rw [← hsum, List.sum_singleton]

/-- One issue has lanes, at most 64. -/
theorem length_vecLanes (f : VecF) : 0 < (vecLanes f).length ∧ (vecLanes f).length ≤ 64 := by
  unfold vecLanes
  split <;> simp

/-- The governed lanes are what a sum over all lanes of the issue adds up. -/
theorem sum_governed (c : Core) (f : VecF) (g : Nat → BitVec 32) :
    ((vecLanes f).map (fun i => if (vecGov c f).contains i then g i else 0)).sum =
      ((vecGov c f).map g).foldl (fun a b => a + b) 0 := by
  have hmem (i : Nat) (hi : i ∈ vecLanes f) : (if (vecGov c f).contains i then g i else 0) =
      if (c.predOf f.pred.toNat).getLsbD i = true then g i else 0 := by
    simp only [vecGov, List.contains_iff_mem, List.mem_filter, hi, true_and]
  rw [List.map_congr_left hmem, List.sum_map_ite, ← List.sum_eq_foldl]
  simp [vecGov]

/-- The entry of a lane in a list with one entry for each lane. -/
theorem find?_map_lane (l : List Nat) (g : Nat → BitVec 32) {i : Nat} (hi : i ∈ l) :
    ((l.map (fun j => (j, g j))).find? (fun x => x.1 == i)).map Prod.snd = some (g i) := by
  induction l with
  | nil => cases hi
  | cons j l ih =>
    by_cases hj : j = i
    · simp [hj]
    · have hil : i ∈ l := (List.mem_cons.mp hi).resolve_left (Ne.symm hj)
      simpa [hj] using ih hil

/-- R138: IRSUM puts the sum of the governed lanes into the lowest lane of the range and zero into the others. -/
theorem vecSum_add_lane (c : Core) (f : VecF) {i : Nat} (hi : i ∈ vecLanes f) :
    ((vecSum f (fun a b => a + b) c).find? (fun x => x.1 == i)).map Prod.snd =
      some (if i = (vecLanes f).headD 0 then ((vecGov c f).map (fun j => c.lane f.va.toNat j)).foldl (fun a b => a + b) 0
        else 0) := by
  obtain ⟨hpos, hle⟩ := length_vecLanes f
  rw [vecSum, treeSum_add _ (by rwa [List.length_map]) (by rwa [List.length_map]), sum_governed]
  exact find?_map_lane _ _ hi

/-- Settles O15: FRSUM, IRSUM and CVT send their lists; the tree of IRSUM adds up the governed lanes. -/
theorem vecSumsConversions : Obligations.vec_sums_conversions := by
  unfold Obligations.vec_sums_conversions
  refine ⟨fun c f lat itv g h => ?_, fun c f i hi => vecSum_add_lane c f hi⟩
  cases c <;> cases h
  case frsum => exact issuesWith_vecWhole rfl rfl rfl
  case irsum => exact issuesWith_vecWhole rfl rfl rfl
  case cvt => exact issuesWith_vecWhole rfl rfl rfl

end Sys2Proof.Proofs
end

section
/-! PROOFS. The SYNC and MAT slots where they issue: waits, arrival counters, frame marks and power hints (05 R130, R131,
03 R76), the clear, the status word and the transfers of a tile (05 R133, 04 R97). -/

open Sys2Proof Sys2Proof.Machine Sys2Proof.Claims

namespace Sys2Proof.Proofs

theorem Core.ac_setAc (c : Core) (i j : Nat) (v : BitVec 32) : (c.setAc i v).ac j = if j = i then v else c.ac j :=
  SMap.get_put ..

/-! ## Waits (05 R130) -/

theorem not_of_no_hold {p : Prop} [Decidable p] {x : Nat × Nat} (h : (if p then [x] else []) = []) : ¬ p := by
  intro hp
  simp [hp] at h

theorem of_no_hold {p : Prop} [Decidable p] {x : Nat × Nat} (h : (if p then [] else [x]) = []) : p := by
  by_contra hp
  simp [hp] at h

theorem issuesWith_waitAc (io : Issue) (idx : BitVec 6) (cons src : Bool) (imm : BitVec 16) :
    issuesWith (.waitAc io idx cons src imm) (fun b a => sameRegs b a ∧ a.pend = b.pend ∧
      acOperand b src imm false ≤ b.ac idx.toNat ∧
      (∀ j, a.ac j = if cons = true ∧ j = idx.toNat then b.ac j - acOperand b src imm false else b.ac j)) := by
  refine issuesWith_of_eff rfl
    (fun _ c => if cons then c.setAc idx.toNat (c.ac idx.toNat - acOperand c src imm false) else c) (fun s => ?_) ?_
  · cases cons
    · rfl
    · simp [effWaitAc]
  rintro s hi _ ⟨_, _, _, _, _, rfl⟩ hregs
  obtain ⟨-, -, hholds⟩ := legal_of_issues hi
  have hmet : acOperand (before s io) src imm false ≤ (before s io).ac idx.toNat := BitVec.not_lt.mp (not_of_no_hold hholds)
  cases cons
  · exact ⟨hregs, rfl, hmet, fun j => (if_neg fun h => Bool.false_ne_true h.1).symm⟩
  · refine ⟨hregs, rfl, hmet, fun j => (Core.ac_setAc ..).trans ?_⟩
    by_cases hj : j = idx.toNat <;> simp [hj]

theorem issuesWith_waitQ (io : Issue) (q : BitVec 2) (count : Bool) (arg : BitVec 7) :
    issuesWith (.waitQ io q count arg) (fun b a => sameRegs b a ∧ a.pend = b.pend ∧ a.acs = b.acs ∧
      a.queue q.toNat = if count then (b.queue q.toNat).drop arg.toNat else b.queue q.toNat) := by
  refine issuesWith_of_eff rfl
    (fun _ c => if count then c.setQueue q.toNat ((c.queue q.toNat).drop arg.toNat) else c) (fun s => ?_) ?_
  · cases count
    · rfl
    · simp [effWaitQ]
  rintro s - _ ⟨_, _, _, _, _, rfl⟩ hregs
  cases count
  · exact ⟨hregs, rfl, rfl, rfl⟩
  · exact ⟨hregs, rfl, rfl, Core.queue_setQueue_same ..⟩

theorem issuesWith_waitCh (io : Issue) (ch : BitVec 4) (arg : BitVec 7) :
    issuesWith (.waitCh io ch arg) (fun b a => sameRegs b a ∧ a.pend = b.pend ∧ a.acs = b.acs ∧
      a.rings = b.rings ∧ a.landing = b.landing) := by
  refine issuesWith_of_eff rfl (fun _ c => c) (fun _ => rfl) ?_
  rintro s - _ ⟨_, _, _, _, _, rfl⟩ hregs
  exact ⟨hregs, rfl, rfl, rfl, rfl⟩

theorem issuesWith_waitLd (io : Issue) (ld : BitVec 5) :
    issuesWith (.waitLd io ld) (fun b a => sameRegs b a ∧ a.pend = b.pend ∧ a.acs = b.acs ∧
      (b.ladle ld.toNat).st = .complete ∧ a.ladles = b.ladles) := by
  refine issuesWith_of_eff rfl (fun _ c => c) (fun _ => rfl) ?_
  rintro s hi _ ⟨_, _, _, _, _, rfl⟩ hregs
  obtain ⟨-, -, hholds⟩ := legal_of_issues hi
  exact ⟨hregs, rfl, rfl, of_no_hold hholds, rfl⟩

/-! ## Arrival counters and NOP (05 R121, R130) -/

theorem issuesWith_acSet (io : Issue) (idx : BitVec 6) (src : Bool) (imm : BitVec 16) :
    issuesWith (.acSet io idx src imm) (fun b a => sameRegs b a ∧ a.pend = b.pend ∧
      (∀ j, a.ac j = if j = idx.toNat then (if src then (b.sreg (imm.toNat % 32)).setWidth 32 else imm.setWidth 32)
        else b.ac j)) := by
  refine issuesWith_of_eff rfl (fun _ c => c.setAc idx.toNat (acOperand c src imm false))
    (fun _ => State.core_updCore_same ..) ?_
  rintro s - _ ⟨_, _, _, _, _, rfl⟩ hregs
  exact ⟨hregs, rfl, fun j => Core.ac_setAc ..⟩

theorem issuesWith_acAdd (io : Issue) (idx : BitVec 6) (src : Bool) (imm : BitVec 16) :
    issuesWith (.acAdd io idx src imm) (fun b a => sameRegs b a ∧ a.pend = b.pend ∧
      (∀ j, a.ac j = if j = idx.toNat then
        b.ac j + (if src then (b.sreg (imm.toNat % 32)).setWidth 32 else imm.signExtend 32) else b.ac j)) := by
  refine issuesWith_of_eff rfl (fun _ c => c.setAc idx.toNat (c.ac idx.toNat + acOperand c src imm true))
    (fun _ => State.core_updCore_same ..) ?_
  rintro s - _ ⟨_, _, _, _, _, rfl⟩ hregs
  refine ⟨hregs, rfl, fun j => (Core.ac_setAc ..).trans ?_⟩
  by_cases hj : j = idx.toNat <;> simp [hj, acOperand]

theorem issuesWith_nop (io : Issue) (slot : Slot) :
    issuesWith (.nop io slot) (fun b a => sameRegs b a ∧ a.pend = b.pend ∧ a.acs = b.acs) := by
  refine issuesWith_of_eff rfl (fun _ c => c) (fun _ => rfl) ?_
  rintro s - _ ⟨_, _, _, _, _, rfl⟩ hregs
  exact ⟨hregs, rfl, rfl⟩

/-! ## Frame marks and power hints (05 R131, 03 R76) -/

theorem issuesWith_mark (io : Issue) (last : Bool) (index4 : BitVec 26) :
    issuesWith (.mark io last index4) (fun b a => sameRegs b a ∧ a.pend = b.pend ∧ a.acs = b.acs ∧
      a.ordinal = b.ordinal + 1 ∧ a.lastMark = last ∧ b.late ≤ a.late ∧ (last = true → markWaits b = false)) := by
  refine issuesWith_of_eff rfl (fun s c => { c with
    ordinal := c.ordinal + 1, lastMark := last, late := max c.late (lateness s io.core (4 * index4.toNat)) })
    (fun _ => State.core_updCore_same ..) ?_
  rintro s hi _ ⟨_, _, _, _, _, rfl⟩ hregs
  obtain ⟨-, -, hholds⟩ := legal_of_issues hi
  refine ⟨hregs, rfl, rfl, rfl, rfl, le_max_left .., fun hlast => ?_⟩
  have hmet : ¬ (last && markWaits (before s io)) = true := not_of_no_hold hholds
  simpa [hlast] using hmet

/-- R76: a hint is on its way to the governor for 100 ns; its level is at most 16. -/
theorem pwrHint_answers (io : Issue) (level : BitVec 5) (lead : BitVec 17) (s : State)
    (hi : s.issues io (infoPwrHint level) = true) : answers (.pwrHint io level lead) s (fun t =>
      (t.core io.core).hints = (before s io).hints ++
        [((s.atIssue io).coreTime io.core (before s io).cycle + 100, level.toNat,
          (s.atIssue io).coreTime io.core ((before s io).cycle + lead.toNat))] ∧
      sameRegs (before s io) (t.core io.core) ∧ level.toNat ≤ 16) := by
  refine answers_of_issues rfl hi fun t hnoted hregs _ _ => ⟨?_, hregs, ?_⟩
  · obtain ⟨_, _, _, _, _, ht⟩ := hnoted
    rw [ht, effPwrHint, State.core_updCore_same]
    rfl
  · obtain ⟨hlegal, -, -⟩ := legal_of_issues hi
    exact Nat.not_lt.mp (of_decide_eq_false hlegal)

/-- Settles O16: operation by operation; what a wait waited for is that it was not held. -/
theorem syncWaitsCounters : Obligations.sync_waits_counters := by
  unfold Obligations.sync_waits_counters
  exact ⟨⟨issuesWith_waitAc, issuesWith_waitQ, issuesWith_waitCh, issuesWith_waitLd⟩,
    ⟨issuesWith_acSet, issuesWith_acAdd, issuesWith_nop⟩, issuesWith_mark, pwrHint_answers⟩

/-! ## Tile clear and status (05 R133, 04 R97) -/

theorem issuesWith_tclr (io : Issue) (acc : BitVec 3) (cls : BitVec 2) (eref : BitVec 10) :
    issuesWith (.tclr io acc cls eref) (fun b a => sameRegs b a ∧ cls ≠ 3 ∧
      a.pend = b.pend ++ [⟨.tclr acc.toNat eref cls, b.cycle, b.cycle + 1⟩]) := by
  refine issuesWith_of_eff rfl (fun _ c => (c.noteTile acc.toNat).send (.tclr acc.toNat eref cls) 1)
    (fun _ => State.core_updCore_same ..) ?_
  rintro s hi _ ⟨_, _, _, _, _, rfl⟩ hregs
  obtain ⟨hlegal, -, -⟩ := legal_of_issues hi
  exact ⟨hregs, beq_eq_false_iff_ne.mp hlegal, rfl⟩

theorem issuesWith_tstat (io : Issue) (acc : BitVec 3) (sd : BitVec 5) :
    issuesWith (.tstat io acc sd) (fun b a => sameRegs b a ∧
      a.pend = b.pend ++ [⟨.sreg sd.toNat (BitVec.ofNat 64 (b.tile acc.toNat).stat), b.cycle, b.cycle + 1⟩]) := by
  refine issuesWith_of_eff rfl
    (fun _ c => (c.noteTile acc.toNat).send (.sreg sd.toNat (BitVec.ofNat 64 (c.tile acc.toNat).stat)) 1)
    (fun _ => State.core_updCore_same ..) ?_
  rintro s - _ ⟨_, _, _, _, _, rfl⟩ hregs
  exact ⟨hregs, rfl⟩

/-! ## Tile transfers (05 R133) -/

/-- The transfer under way is the one that has just started; it ends no earlier than its fixed time after issue. -/
theorem startXfer_xfer (c : Core) (j : XferJob) (fix n : Nat) : ∃ done hdrAt tag,
    (startXfer c j fix n).xfer = some { j with done := done, hdrAt := hdrAt, tag := tag } ∧ c.cycle + fix ≤ done :=
  ⟨_, _, _, rfl, (Nat.le_add_right ..).trans (Nat.le_add_right ..)⟩

theorem none_of_xferHold {c : Core} (h : xferHold c = []) : c.xfer = none :=
  Option.not_isSome_iff_eq_none.mp (not_of_no_hold h)

theorem noteStore_xfer (s : State) (k a : Nat) (b : Bytes) (c : Core) : (s.noteStore k a b c).xfer = c.xfer := by simp

theorem effTcvt_xfer (k : Nat) (acc : BitVec 3) (fmt : BitVec 4) (sat : Bool) (img : ImgF) (s : State) :
    ∃ j, ((effTcvt k acc fmt sat img s).core k).xfer = some j ∧ j.kind = .tcvt ∧ j.tile = acc.toNat ∧
      j.vaddr = imgEa (s.core k) img.ra img.offA ∧ j.fmt = fmt ∧ j.sat = sat ∧ (s.core k).cycle + 4 ≤ j.done := by
  rw [effTcvt, State.core_setCore_same, noteStore_xfer]
  obtain ⟨_, _, _, hx, hdone⟩ := startXfer_xfer ((s.core k).noteTile acc.toNat) _ 4 (convLen fmt.toNat)
  exact ⟨_, hx, rfl, rfl, rfl, rfl, rfl, hdone⟩

theorem issuesWith_tcvt (io : Issue) (acc : BitVec 3) (fmt : BitVec 4) (sat : Bool) (img : ImgF) :
    issuesWith (.tcvt io acc fmt sat img) (fun b a => sameRegs b a ∧ b.xfer = none ∧
      ∃ j, a.xfer = some j ∧ j.kind = .tcvt ∧ j.tile = acc.toNat ∧ j.vaddr = imgEa b img.ra img.offA ∧ j.fmt = fmt ∧
        j.sat = sat ∧ b.cycle + 4 ≤ j.done) := by
  refine issuesWith_of_noted rfl fun s hi d hnoted hregs => ?_
  obtain ⟨_, _, _, _, _, rfl⟩ := hnoted
  obtain ⟨-, -, hholds⟩ := legal_of_issues hi
  exact ⟨hregs, none_of_xferHold (List.append_eq_nil_iff.mp hholds).1, effTcvt_xfer ..⟩

theorem effTxf_xfer (k : Nat) (acc : BitVec 3) (row0 rowsM1 : BitVec 5) (img : ImgF) (s : State) :
    ∃ j, ((effTxf k acc row0 rowsM1 img s).core k).xfer = some j ∧ j.kind = .txf ∧ j.tile = acc.toNat ∧
      j.vaddr = imgEa (s.core k) img.ra img.offA ∧ j.row0 = row0.toNat ∧ j.rows = rowsM1.toNat + 1 ∧
      (s.core k).cycle + 4 ≤ j.done := by
  rw [effTxf, State.core_setCore_same, noteStore_xfer]
  obtain ⟨_, _, _, hx, hdone⟩ := startXfer_xfer ((s.core k).noteTile acc.toNat) _ 4 (64 + 1024 * (rowsM1.toNat + 1))
  exact ⟨_, hx, rfl, rfl, rfl, rfl, rfl, hdone⟩

theorem issuesWith_txf (io : Issue) (acc : BitVec 3) (row0 rowsM1 : BitVec 5) (img : ImgF) :
    issuesWith (.txf io acc row0 rowsM1 img) (fun b a => sameRegs b a ∧ b.xfer = none ∧
      ∃ j, a.xfer = some j ∧ j.kind = .txf ∧ j.tile = acc.toNat ∧ j.vaddr = imgEa b img.ra img.offA ∧
        j.row0 = row0.toNat ∧ j.rows = rowsM1.toNat + 1 ∧ b.cycle + 4 ≤ j.done) := by
  refine issuesWith_of_noted rfl fun s hi d hnoted hregs => ?_
  obtain ⟨_, _, _, _, _, rfl⟩ := hnoted
  obtain ⟨-, -, hholds⟩ := legal_of_issues hi
  exact ⟨hregs, none_of_xferHold (List.append_eq_nil_iff.mp hholds).1, effTxf_xfer ..⟩

theorem effTadd_xfer (k : Nat) (acc : BitVec 3) (img : ImgF) (s : State) :
    ∃ j, ((effTadd k acc img s).core k).xfer = some j ∧ j.kind = .tadd ∧ j.tile = acc.toNat ∧
      j.vaddr = imgEa (s.core k) img.ra img.offA ∧ (s.core k).cycle + 6 ≤ j.done := by
  rw [effTadd, State.core_setCore_same]
  obtain ⟨_, _, _, hx, hdone⟩ := startXfer_xfer ((s.core k).noteTile acc.toNat) _ 6
    (taddLen s k (imgEa (s.core k) img.ra img.offA))
  exact ⟨_, hx, rfl, rfl, rfl, hdone⟩

theorem issuesWith_tadd (io : Issue) (acc : BitVec 3) (img : ImgF) :
    issuesWith (.tadd io acc img) (fun b a => sameRegs b a ∧ b.xfer = none ∧
      ∃ j, a.xfer = some j ∧ j.kind = .tadd ∧ j.tile = acc.toNat ∧ j.vaddr = imgEa b img.ra img.offA ∧
        b.cycle + 6 ≤ j.done) := by
  refine issuesWith_of_noted rfl fun s hi d hnoted hregs => ?_
  obtain ⟨_, _, _, _, _, rfl⟩ := hnoted
  obtain ⟨-, -, hholds⟩ := legal_of_issues hi
  exact ⟨hregs, none_of_xferHold (List.append_eq_nil_iff.mp hholds).2, effTadd_xfer ..⟩

/-- Settles O17: the results that TCLR and TSTAT send, and the job that a transfer starts where none runs. -/
theorem tileOperations : Obligations.tile_operations := by
  unfold Obligations.tile_operations
  exact ⟨⟨issuesWith_tclr, issuesWith_tstat⟩, issuesWith_tcvt, issuesWith_txf, issuesWith_tadd⟩

end Sys2Proof.Proofs
end

section
/-! PROOFS. The MOV slot where it issues: loads and stores (05 R141), SEND and SENDV (07 R175, R182), CH.REL (06 R168), SHRD
(06 R170). -/

open Sys2Proof Sys2Proof.Machine Sys2Proof.Claims

namespace Sys2Proof.Proofs

theorem IssueNoted.pend {c d : Core} (h : IssueNoted c d) : d.pend = c.pend := by
  obtain ⟨_, _, _, _, _, rfl⟩ := h
  rfl

theorem IssueNoted.sq {c d : Core} (h : IssueNoted c d) (ch : Nat) : d.sq ch = c.sq ch := by
  obtain ⟨_, _, _, _, _, rfl⟩ := h
  rfl

/-! ## Loads and stores (05 R141) -/

/-- A result sent joins what is in flight. -/
theorem send_pend (c : Core) (d : Dest) (lat : Nat) : (c.send d lat).pend = c.pend ++ [⟨d, c.cycle, c.cycle + lat⟩] := rfl

theorem noteStore_pend (s : State) (k a : Nat) (b : Bytes) (c : Core) : (s.noteStore k a b c).pend = c.pend := by simp

theorem pend_lds {k : Nat} {f : MovF} {s : State} {d : Core} (h : IssueNoted ((effLds k f s).core k) d) :
    ∃ lat, 4 ≤ lat ∧ d.pend = (s.core k).pend ++
      [⟨.load f.x.toNat (s.phys k (alignTo (szBytes f.sz.toNat) (movEa (s.core k) f))) (szBytes f.sz.toNat)
        (decide (4 ≤ f.sz.toNat)), (s.core k).cycle, (s.core k).cycle + lat⟩] := by
  rw [h.pend, effLds, State.core_setCore_same, send_pend]
  exact ⟨_, by omega, rfl⟩

theorem pend_ldv {k : Nat} {f : MovF} {s : State} {d : Core} (h : IssueNoted ((effLdv k f s).core k) d) :
    ∃ lat, 4 ≤ lat ∧ d.pend = (s.core k).pend ++
      [⟨.loadv f.x.toNat f.roff.toNat (s.phys k (alignTo 64 (movEa (s.core k) f))) (cnt f), (s.core k).cycle,
        (s.core k).cycle + lat⟩] := by
  rw [h.pend, effLdv, State.core_setCore_same, send_pend]
  exact ⟨_, by omega, rfl⟩

/-- 06 R152: a store of less than eight bytes whose read-modify-write finds a double-bit error puts nothing in flight. -/
theorem pend_sts {k : Nat} {f : MovF} {ecc : Ecc} {s : State} {d : Core}
    (h : IssueNoted ((effSts k f ecc s).core k) d) :
    if ecc = .double ∧ szBytes f.sz.toNat < 8 then d.pend = (s.core k).pend
    else ∃ lat, 3 ≤ lat ∧ d.pend = (s.core k).pend ++
      [⟨.store (s.phys k (alignTo (szBytes f.sz.toNat) (movEa (s.core k) f)))
        (bytesLE (szBytes f.sz.toNat) ((s.core k).sreg f.x.toNat).toNat), (s.core k).cycle, (s.core k).cycle + lat⟩] := by
  rw [h.pend]
  split
  next herr =>
    simp only [effSts, if_pos herr, State.core_setCore_same]
    rfl
  next herr =>
    simp only [effSts, if_neg herr, State.core_setCore_same, noteStore_pend, send_pend]
    exact ⟨_, by omega, rfl⟩

theorem pend_stv {k : Nat} {f : MovF} {s : State} {d : Core} (h : IssueNoted ((effStv k f s).core k) d) :
    ∃ lat, 3 ≤ lat ∧ d.pend = (s.core k).pend ++
      [⟨.store (s.phys k (alignTo 64 (movEa (s.core k) f))) (vregBytes (s.core k) f.x.toNat f.roff.toNat (cnt f)),
        (s.core k).cycle, (s.core k).cycle + lat⟩] := by
  rw [h.pend, effStv, State.core_setCore_same, noteStore_pend, send_pend]
  exact ⟨_, by omega, rfl⟩

/-- Settles O20: what each load and store puts in flight where it issues. -/
theorem loadsStores : Obligations.loads_stores := by
  unfold Obligations.loads_stores
  exact ⟨fun _ _ _ hi => answers_of_issues rfl hi fun _ hnoted hregs hmem _ => ⟨pend_lds hnoted, hregs, hmem⟩,
    fun _ _ _ hi => answers_of_issues rfl hi fun _ hnoted hregs hmem _ => ⟨pend_ldv hnoted, hregs, hmem⟩,
    fun _ _ _ hi => answers_of_issues rfl hi fun _ hnoted hregs hmem _ => ⟨pend_sts hnoted, hregs, hmem⟩,
    fun _ _ _ hi => answers_of_issues rfl hi fun _ hnoted hregs hmem _ => ⟨pend_stv hnoted, hregs, hmem⟩⟩

/-! ## SEND and SENDV (05 R141, 07 R175, R182) -/

theorem Core.sq_setSq_same (c : Core) (ch : Nat) (l : List SFlit) : (c.setSq ch l).sq ch = l := SMap.get_put_same ..

/-- A message's flits stand behind those of the send queue. -/
theorem length_sq_queueMsg (c : Core) (ch : Nat) (l : List (Flit × Option Nat)) (off tag after : Nat) :
    ((queueMsg c ch l off tag after).sq ch).length = (c.sq ch).length + l.length := by
  simp [queueMsg, Core.sq_setSq_same]

theorem data_sq_queueMsg (c : Core) (ch : Nat) (l : List (Flit × Option Nat)) (off tag after : Nat) :
    ((queueMsg c ch l off tag after).sq ch).map (fun x => x.data) =
      (c.sq ch).map (fun x => x.data) ++ l.map Prod.fst := by
  rw [queueMsg, Core.sq_setSq_same, List.map_append, List.map_map]
  congr 1
  refine List.ext_getElem (by simp) fun i hi hi' => ?_
  rw [List.length_map] at hi'
  simp [hi']

/-- R175: the NET engine reads lines into the send queue; no flit joins or leaves it. -/
theorem length_sq_fillSend (s : State) (k ch : Nat) :
    (((s.fillSend k ch).core k).sq ch).length = ((s.core k).sq ch).length := by
  unfold State.fillSend
  extract_lets c now q rd done lines c'
  rw [State.core_setCore_same]
  calc ((c'.setSq ch rd).sq ch).length = rd.length := by rw [Core.sq_setSq_same]
    _ = q.length := by simp only [rd, List.length_map, List.length_range]

theorem length_sq_effSend (k : Nat) (f : MovF) (s : State) :
    (((effSend k f s).core k).sq f.x.toNat).length = ((s.core k).sq f.x.toNat).length + cnt f := by
  rw [effSend, length_sq_fillSend, State.core_setCore_same, length_sq_queueMsg, List.length_map, List.length_range]
  rfl

theorem data_sq_effSendv (k : Nat) (f : MovF) (s : State) :
    (((effSendv k f s).core k).sq f.x.toNat).map (fun x => x.data) = ((s.core k).sq f.x.toNat).map (fun x => x.data) ++
      toFlits (cnt f) (vregBytes (s.core k) f.rb.toNat f.roff.toNat (cnt f)) := by
  rw [effSendv, State.core_updCore_same, data_sq_queueMsg, List.map_map]
  exact congrArg _ (List.map_id _)

theorem send_answers (io : Issue) (f : MovF) (s : State) (hi : s.issues io (infoSend io.core f) = true) :
    answers (.send io f) s (fun t =>
      ((t.core io.core).sq f.x.toNat).length = ((before s io).sq f.x.toNat).length + cnt f ∧
      sendable ((s.atIssue io).outKind io.core f.x.toNat) = true ∧
      sameRegs (before s io) (t.core io.core) ∧ sameMem (s.atIssue io) t) := by
  obtain ⟨-, hbound, -⟩ := legal_of_issues hi
  refine answers_of_issues rfl hi fun t hnoted hregs hmem _ => ⟨?_, by simpa [infoSend] using hbound, hregs, hmem⟩
  rw [hnoted.sq]
  exact length_sq_effSend ..

/-! ## CH.REL and SHRD (06 R168, R170) -/

theorem chRel_answers (io : Issue) (f : MovF) (s : State) (hi : s.issues io (infoChRel io.core f) = true) :
    answers (.chRel io f) s (fun t =>
      cnt f ≤ ringCount ((before s io).ring f.x.toNat) ∧
      (t.core io.core).ring f.x.toNat =
        ((before s io).ring f.x.toNat).release ((s.atIssue io).ringSize io.core f.x.toNat) (cnt f) ∧
      sameRegs (before s io) (t.core io.core) ∧ sameMem (s.atIssue io) t) := by
  obtain ⟨-, -, hholds⟩ := legal_of_issues hi
  refine answers_of_issues rfl hi fun t hnoted hregs hmem _ => ⟨Nat.not_lt.mp (not_of_no_hold hholds), ?_, hregs, hmem⟩
  obtain ⟨_, _, _, _, _, ht⟩ := hnoted
  rw [ht, effChRel, State.core_updCore_same]
  exact Core.ring_setRing_same ..

/-- A channel whose binding has a kind is bound. -/
theorem bindOut_of_outKind {s : State} {k ch : Nat} (h : s.outKind k ch ≠ 0) : ∃ b, s.bindOut k ch = some b := by
  cases hb : s.bindOut k ch with
  | some b => exact ⟨b, rfl⟩
  | none => simp [State.outKind, hb] at h

theorem shrd_answers (io : Issue) (f : MovF) (s : State) (hi : s.issues io (infoShrd io.core f) = true) :
    answers (.shrd io f) s (fun t =>
      ∃ p, (t.core io.core).outbox = (before s io).outbox ++ [p] ∧ p.payload = [] ∧
        sameRegs (before s io) (t.core io.core) ∧ sameMem (s.atIssue io) t) := by
  obtain ⟨-, hbound, -⟩ := legal_of_issues hi
  have hkind : (s.atIssue io).outKind io.core f.x.toNat = 7 := by simpa [infoShrd] using hbound
  obtain ⟨b, hb⟩ := bindOut_of_outKind (by rw [hkind]; decide)
  refine answers_of_issues rfl hi fun t hnoted hregs hmem _ => ?_
  obtain ⟨_, _, _, _, _, ht⟩ := hnoted
  simp only [effShrd, hb, State.core_setCore_same] at ht
  exact ⟨_, by rw [ht]; rfl, rfl, hregs, hmem⟩

/-- Settles O22: SEND, SENDV and CH.REL on the queue and the ring that they name, SHRD on the outbox. -/
theorem sendsReleases : Obligations.sends_releases := by
  unfold Obligations.sends_releases
  refine ⟨⟨send_answers, fun io f s hi => answers_of_issues rfl hi fun t hnoted hregs hmem _ => ⟨?_, hregs, hmem⟩⟩,
    chRel_answers, shrd_answers⟩
  rw [hnoted.sq]
  exact data_sq_effSendv ..

end Sys2Proof.Proofs
end

section
/-! PROOFS. What every function on the state leaves of the memories (06 R150, 08 R199; log 3): most leave each of
them as it is, and those that write keep the canonical form. One lemma for each function, in the order of the model;
as a `simp` rule each one reads off the five memories of its result. -/

open Sys2Proof Sys2Proof.Machine Sys2Proof.Claims

namespace Sys2Proof.Proofs

/-! ## The relations -/

/-- Scratchpads, HBM, instruction memories and the two staging areas of `t` are those of `s`. -/
@[simp] abbrev MemSame (s t : State) : Prop :=
  t.spad = s.spad ∧ t.hbm = s.hbm ∧ t.imem = s.imem ∧ t.stage = s.stage ∧ t.fwStage = s.fwStage

/-- The canonical form of the instruction memories, as `State.memWf` asks for it. -/
def CodeWf (m : SMap (BitVec 256)) : Bool := SMap.wf (fun _ => 0) m

/-- Each memory of `t` is canonical where that of `s` is. -/
@[simp] abbrev MemCanon (s t : State) : Prop :=
  (Memory.wf s.spad = true → Memory.wf t.spad = true) ∧ (Memory.wf s.hbm = true → Memory.wf t.hbm = true) ∧
  (CodeWf s.imem = true → CodeWf t.imem = true) ∧
  (Memory.wf s.stage = true → Memory.wf t.stage = true) ∧ (Memory.wf s.fwStage = true → Memory.wf t.fwStage = true)

theorem MemSame.trans {s t u : State} (h : MemSame s t) (h' : MemSame t u) : MemSame s u := by
  simp [h, h']

theorem MemSame.canon {s t : State} (h : MemSame s t) : MemCanon s t := by
  simp [h]

theorem MemCanon.refl (s : State) : MemCanon s s := ⟨id, id, id, id, id⟩

theorem MemCanon.trans {s t u : State} (h : MemCanon s t) (h' : MemCanon t u) : MemCanon s u := by
  obtain ⟨hspad, hhbm, himem, hstage, hfw⟩ := h
  obtain ⟨hspad', hhbm', himem', hstage', hfw'⟩ := h'
  exact ⟨hspad' ∘ hspad, hhbm' ∘ hhbm, himem' ∘ himem, hstage' ∘ hstage, hfw' ∘ hfw⟩

@[simp] theorem foldl_memSame {α : Type} {f : State → α → State} (h : ∀ s x, MemSame s (f s x)) (l : List α) (s : State) :
    MemSame s (l.foldl f s) :=
  List.foldlRecOn l f (motive := MemSame s) ⟨rfl, rfl, rfl, rfl, rfl⟩ fun t ht x _ => ht.trans (h t x)

@[simp] theorem foldl_fst_memSame {α β : Type} {f : State × β → α → State × β} (h : ∀ r x, MemSame r.1 (f r x).1)
    (l : List α) (r : State × β) : MemSame r.1 (l.foldl f r).1 :=
  List.foldlRecOn l f (motive := fun q => MemSame r.1 q.1) ⟨rfl, rfl, rfl, rfl, rfl⟩ fun q hq x _ => hq.trans (h q x)

@[simp] theorem foldl_memCanon {α : Type} {f : State → α → State} (h : ∀ s x, MemCanon s (f s x)) (l : List α) (s : State) :
    MemCanon s (l.foldl f s) :=
  List.foldlRecOn l f (motive := MemCanon s) (MemCanon.refl s) fun t ht x _ => ht.trans (h t x)

@[simp] theorem foldl_fst_memCanon {α β : Type} {f : State × β → α → State × β} (h : ∀ r x, MemCanon r.1 (f r x).1)
    (l : List α) (r : State × β) : MemCanon r.1 (l.foldl f r).1 :=
  List.foldlRecOn l f (motive := fun q => MemCanon r.1 q.1) (MemCanon.refl r.1) fun q hq x _ => hq.trans (h q x)

/-- Whichever of two states comes of a choice, its memories are canonical where both would be. -/
theorem MemCanon.ite {s t u : State} {c : Prop} [Decidable c] (h : MemCanon s t) (h' : MemCanon s u) :
    MemCanon s (if c then t else u) := by
  split
  · exact h
  · exact h'

@[simp] theorem stage_ite (c : Prop) [Decidable c] (s t : State) :
    (if c then s else t).stage = if c then s.stage else t.stage := apply_ite ..

@[simp] theorem fwStage_ite (c : Prop) [Decidable c] (s t : State) :
    (if c then s else t).fwStage = if c then s.fwStage else t.fwStage := apply_ite ..

@[simp] theorem wf_ite (c : Prop) [Decidable c] (m m' : SMap Byte) :
    Memory.wf (if c then m else m') = if c then Memory.wf m else Memory.wf m' := apply_ite ..

@[simp] theorem codeWf_ite (c : Prop) [Decidable c] (m m' : SMap (BitVec 256)) :
    CodeWf (if c then m else m') = if c then CodeWf m else CodeWf m' := apply_ite ..

/-! ## What writes a memory keeps its form -/

@[simp] theorem wf_nil : Memory.wf [] = true := rfl
@[simp] theorem codeWf_nil : CodeWf [] = true := rfl

@[simp] theorem wf_writeBytes {m : SMap Byte} (h : Memory.wf m = true) (a : Nat) (b : Bytes) :
    Memory.wf (writeBytes m a b) = true := Memory.wf_writeBytes m a b h

@[simp] theorem wf_clearRange {m : SMap Byte} (h : Memory.wf m = true) (lo hi : Nat) :
    Memory.wf (SMap.clearRange m lo hi) = true := SMap.wf_clearRange zByte m lo hi h

@[simp] theorem wf_splice {m : SMap Byte} (h : Memory.wf m = true) (lo hi : Nat) (l : List (Nat × Byte)) :
    Memory.wf (SMap.splice zByte m lo hi l) = true := SMap.wf_splice zByte m lo hi l h

@[simp] theorem codeWf_splice {m : SMap (BitVec 256)} (h : CodeWf m = true) (lo hi : Nat) (l : List (Nat × BitVec 256)) :
    CodeWf (SMap.splice (fun _ => 0#256) m lo hi l) = true := SMap.wf_splice (fun _ => 0#256) m lo hi l h

theorem State.spadWrite_memCanon (s : State) (k a : Nat) (b : Bytes) : MemCanon s (s.spadWrite k a b) :=
  ⟨fun h => wf_writeBytes h _ _, id, id, id, id⟩

theorem State.setNum_memSame (s : State) (k n : Nat) : MemSame s (s.setNum k n) := ⟨rfl, rfl, rfl, rfl, rfl⟩
theorem State.enter_memSame (s : State) (p : PanelSt) : MemSame s (s.enter p) := ⟨rfl, rfl, rfl, rfl, rfl⟩

/-! ## Parts, registers, memories, reports, ledgers, addresses, packets -/

@[simp] theorem State.nextSample_memSame (s : State) (last every : Nat) :
    MemSame s (s.nextSample last every) := ⟨rfl, rfl, rfl, rfl, rfl⟩

@[simp] theorem State.draw_memSame (s : State) : MemSame s s.draw.2 := ⟨rfl, rfl, rfl, rfl, rfl⟩

@[simp] theorem State.drawBytes_memSame (s : State) : MemSame s s.drawBytes.2 := ⟨rfl, rfl, rfl, rfl, rfl⟩

@[simp] theorem State.clearSpads_memCanon (s : State) (site : Nat) : MemCanon s (s.clearSpads site) := by
  simp +contextual [State.clearSpads]

@[simp] theorem State.setHashing_memCanon (s : State) (site : Nat) (h : Bool) : MemCanon s (s.setHashing site h) := by
  simp +contextual [State.setHashing]

@[simp] theorem State.report_memSame (s : State) (det : Nat) (vd site : Option Nat) (core : Option Nat) :
    MemSame s (s.report det vd site core) := ⟨rfl, rfl, rfl, rfl, rfl⟩

@[simp] theorem State.fsr_memSame (s : State) (r : FsrIn) : MemSame s (s.fsr r) := by
  simp [State.fsr]

@[simp] theorem State.dieFault_memSame (s : State) (site det unit : Nat) :
    MemSame s (s.dieFault site det unit) := ⟨rfl, rfl, rfl, rfl, rfl⟩

@[simp] theorem State.coreFault_memSame (s : State) (k op det unit : Nat) : MemSame s (s.coreFault k op det unit) := by
  simp [State.coreFault]

@[simp] theorem State.reqMig_memSame (s : State) (site prio : Nat) : MemSame s (s.reqMig site prio) := by
  simp [State.reqMig]

@[simp] theorem State.quarantine_memSame (s : State) (site : Nat) (det : Nat) : MemSame s (s.quarantine site det) := by
  simp only [State.quarantine]
  (repeat' split) <;> simp

@[simp] theorem State.joinTest_memSame (s : State) (site : Nat) : MemSame s (s.joinTest site) := by
  simp [State.joinTest]

@[simp] theorem State.lastingFault_memSame (s : State) (site det unit : Nat) (core : Option Nat) :
    MemSame s (s.lastingFault site det unit core) := by
  simp [State.lastingFault]

@[simp] theorem State.writeRoute_memSame (s : State) (f : Route → Route) : MemSame s (s.writeRoute f) := by
  simp [State.writeRoute]

@[simp] theorem State.injectAt_memSame (s : State) (t : Nat) (p : Packet) :
    MemSame s (s.injectAt t p) := ⟨rfl, rfl, rfl, rfl, rfl⟩

@[simp] theorem State.inject_memSame (s : State) (p : Packet) : MemSame s (s.inject p) := ⟨rfl, rfl, rfl, rfl, rfl⟩

@[simp] theorem State.injectFlit_memSame (s : State) (t : Nat) (p : Packet) (f : Flit) (first : Bool) :
    MemSame s (s.injectFlit t p f first) := by
  simp [State.injectFlit]

@[simp] theorem State.cross_memSame (s : State) (i : Nat) (h : Hdr) (n : Nat) : MemSame s (s.cross i h n) := by
  simp [State.cross]

@[simp] theorem State.unflight_memSame (s : State) (i : Nat) (p : Packet) : MemSame s (s.unflight i p) := by
  unfold State.unflight
  split <;> simp

@[simp] theorem State.eject_memSame (s : State) (p : Packet) : MemSame s (s.eject p) := by
  unfold State.eject
  split <;> simp

@[simp] theorem State.firmware_memSame (s : State) (p : Packet) : MemSame s (s.firmware p) := by
  simp [State.firmware]

@[simp] theorem State.discardAt_memSame (s : State) (i : Nat) (p : Packet) : MemSame s (s.discardAt i p) := by
  simp [State.discardAt]

@[simp] theorem State.headerFault_memSame (s : State) (p : Packet) : MemSame s (s.headerFault p) := by
  simp only [State.headerFault]
  split <;> simp

@[simp] theorem State.lateDiscard_memSame (s : State) (p : Packet) : MemSame s (s.lateDiscard p) := by
  simp only [State.lateDiscard]
  (repeat' split) <;> simp

@[simp] theorem State.noteCapture_memSame (s : State) (k : Nat) (b : Bytes) : MemSame s (s.noteCapture k b) := by
  simp [State.noteCapture]

@[simp] theorem State.isolatedDiscard_memSame (s : State) (p : Packet) : MemSame s (s.isolatedDiscard p) := by
  simp [State.isolatedDiscard]

@[simp] theorem State.markLine_memSame (s : State) (stack off v : Nat) :
    MemSame s (s.markLine stack off v) := ⟨rfl, rfl, rfl, rfl, rfl⟩

@[simp] theorem State.markOwn_memSame (s : State) (stack g v : Nat) : MemSame s (s.markOwn stack g v) := ⟨rfl, rfl, rfl, rfl, rfl⟩

@[simp] theorem State.putLines_memCanon (s : State) (stack off : Nat) (d : Nat → Nat) (b : Bytes) (n : Nat) :
    MemCanon s (s.putLines stack off d b n) := by
  simp +contextual [State.putLines]

@[simp] theorem State.hubChecks_memSame (s : State) (stack l n : Nat) : MemSame s (s.hubChecks stack l n).1 := by
  simp only [State.hubChecks]
  refine foldl_fst_memSame (fun r g => ?_) _ (s, false)
  split
  · simp [foldl_memSame (f := fun s x => if s.lineDiff stack (64 * x) = 0 then s.markLine stack (64 * x) 1 else s)
      (fun s x => by split <;> simp)]
  · simp

@[simp] theorem State.writeLines_memCanon (s : State) (stack off : Nat) (b : Bytes) (n : Nat) :
    MemCanon s (s.writeLines stack off b n) := by
  simp +contextual [State.writeLines]

@[simp] theorem State.writeStripe_memCanon (s : State) (p : Prog) (kind slot total n : Nat) (b : Bytes) :
    MemCanon s (s.writeStripe p kind slot total n b) :=
  foldl_memCanon (fun s j => by split <;> simp +contextual) _ s

@[simp] theorem State.writeStripes_memCanon (s : State) (p : Prog) (kind slot : Nat) (b : Bytes) :
    MemCanon s (s.writeStripes p kind slot b) := by
  simp +contextual [State.writeStripes]

@[simp] theorem State.retainWrite_memCanon (s : State) (p : Prog) (slot : Nat) (b : Bytes) :
    MemCanon s (s.retainWrite p slot b) := by
  simp +contextual [State.retainWrite]

/-! ## How a core issues -/

@[simp] theorem State.dupFault_memSame (s : State) (k op unit : Nat) : MemSame s (s.dupFault k op unit) := by
  simp [State.dupFault]

@[simp] theorem State.corrected_memSame (s : State) (site : Nat) : MemSame s (s.corrected site) := by
  simp [State.corrected]

@[simp] theorem State.spadEcc_memSame (s : State) (k op : Nat) (e : Ecc) : MemSame s (s.spadEcc k op e) := by
  simp only [State.spadEcc]
  split <;> simp

@[simp] theorem State.imemEcc_memSame (s : State) (k : Nat) (e : Ecc) : MemSame s (s.imemEcc k e) := by
  simp only [State.imemEcc]
  split <;> simp

@[simp] theorem State.tell_memSame (s : State) (k : Nat) (x : Seen × Nat) : MemSame s (s.tell k x) := by
  unfold State.tell
  split <;> simp

@[simp] theorem State.overflowTrap_memSame (s : State) (k : Nat) (old new : Tile) : MemSame s (s.overflowTrap k old new) := by
  simp [State.overflowTrap]

@[simp] theorem State.freezeAt_memSame (s : State) (k pc : Nat) (slot : Slot) (opc viol operation : Nat) (related : Nat) :
    MemSame s (s.freezeAt k pc slot opc viol operation related) := by
  simp [State.freezeAt]

@[simp] theorem State.freezeBundle_memSame (s : State) (k : Nat) (slot : Slot) (opc viol : Nat) :
    MemSame s (s.freezeBundle k slot opc viol) := by
  simp [State.freezeBundle]

@[simp] theorem State.countHeld_memSame (s : State) (k code n : Nat) : MemSame s (s.countHeld k code n) := by
  simp [State.countHeld]

@[simp] theorem State.holdBundle_memSame (s : State) (k code what : Nat) (names : List (Nat × Nat)) :
    MemSame s (s.holdBundle k code what names) := by
  simp [State.holdBundle]

@[simp] theorem State.landTclr_memSame (s : State) (k t : Nat) (e : BitVec 10) (cl : BitVec 2) :
    MemSame s (s.landTclr k t e cl) := by
  simp [State.landTclr]

@[simp] theorem State.landDest_memCanon (s : State) (k : Nat) (d : Dest) : MemCanon s (s.landDest k d) := by
  unfold State.landDest
  split <;> simp +contextual

@[simp] theorem State.landDue_memCanon (s : State) (k t : Nat) : MemCanon s (s.landDue k t) := by
  simp +contextual [State.landDue]

@[simp] theorem State.fillSend_memSame (s : State) (k ch : Nat) : MemSame s (s.fillSend k ch) := by
  simp [State.fillSend]

@[simp] theorem State.fillSends_memSame (s : State) (k : Nat) : MemSame s (s.fillSends k) := by
  simp [State.fillSends]

@[simp] theorem State.endRange_memSame (s : State) (k tag : Nat) : MemSame s (s.endRange k tag) := by
  simp [State.endRange]

@[simp] theorem State.mmaEnd_memSame (s : State) (k : Nat) (j : MmaJob) : MemSame s (s.mmaEnd k j) := by
  simp [State.mmaEnd]

@[simp] theorem State.sieveErr_memSame (s : State) (k t e : Nat) : MemSame s (s.sieveErr k t e) := ⟨rfl, rfl, rfl, rfl, rfl⟩

@[simp] theorem State.mmaDup_memSame (s : State) (k : Nat) (j : MmaJob) (dup : Bool) : MemSame s (s.mmaDup k j dup) := by
  simp [State.mmaDup]

@[simp] theorem State.closeTile_memSame (s : State) (k t : Nat) : MemSame s (s.closeTile k t) := by
  simp [State.closeTile]

@[simp] theorem State.xferWrite_memCanon (s : State) (k : Nat) (j : XferJob) : MemCanon s (s.xferWrite k j) := by
  simp +contextual [State.xferWrite]

@[simp] theorem State.taddHeader_memSame (s : State) (k : Nat) (j : XferJob) : MemSame s (s.taddHeader k j) := by
  simp [State.taddHeader]

@[simp] theorem State.xferRead_memSame (s : State) (k : Nat) (j : XferJob) : MemSame s (s.xferRead k j) := by
  simp [State.xferRead]

@[simp] theorem State.xferEnd_memCanon (s : State) (k : Nat) (j : XferJob) (dup : Bool) (e : Ecc) (off : Nat) :
    MemCanon s (s.xferEnd k j dup e off) := by
  simp +contextual [State.xferEnd]

@[simp] theorem State.memEnd_memCanon (s : State) (k : Nat) (j : MemJob) : MemCanon s (s.memEnd k j) := by
  simp +contextual [State.memEnd]

@[simp] theorem State.ladleHeaders_memSame (s : State) (k t : Nat) : MemSame s (s.ladleHeaders k t) := by
  simp [State.ladleHeaders]

@[simp] theorem State.settle_memCanon (s : State) (k t : Nat) : MemCanon s (s.settle k t) := by
  unfold State.settle
  extract_lets s1 s2 s3 s4 s5
  have h1 : MemCanon s s1 := by simp [s1]
  clear_value s1
  have h2 : MemCanon s1 s2 := by
    simp only [s2]
    (repeat' split) <;> simp
  clear_value s2
  have h3 : MemCanon s2 s3 := by
    simp only [s3]
    (repeat' split) <;> simp +contextual
  clear_value s3
  have h4 : MemCanon s3 s4 := by simp +contextual [s4]
  clear_value s4
  have h5 : MemCanon s4 ((s5.landDue k t).ladleHeaders k t) := by simp +contextual [s5]
  exact (((h1.trans h2).trans h3).trans h4).trans h5

@[simp] theorem State.heldUntil_memSame (s : State) (k t : Nat) : MemSame s (s.heldUntil k t) := by
  simp only [State.heldUntil]
  split <;> simp

@[simp] theorem State.advance_memCanon (s : State) (k t : Nat) : MemCanon s (s.advance k t) := by
  simp +contextual [State.advance]

@[simp] theorem State.settleAll_memCanon (s : State) (t : Nat) : MemCanon s (s.settleAll t) := by
  simp +contextual [State.settleAll]

@[simp] theorem State.noteTable_memSame (s : State) (k a : Nat) : MemSame s (s.noteTable k a) := by
  unfold State.noteTable
  split <;> simp

theorem State.sendReq_memSame {s : State} {k q : Nat} {e : QEnt} {r : State × QEnt} (h : s.sendReq k q e = some r) :
    MemSame s r.1 := by
  unfold State.sendReq at h
  extract_lets at h
  split at h
  · cases h
  · cases h
    exact ⟨rfl, rfl, rfl, rfl, rfl⟩

@[simp] theorem State.sendReqs_memSame (k q n : Nat) (s : State) (e : QEnt) : MemSame s (State.sendReqs k q n s e).1 := by
  induction n generalizing s e with
  | zero => simp [State.sendReqs]
  | succ n ih =>
    rw [State.sendReqs]
    split
    · simp
    · split
      next r h => simp [ih, State.sendReq_memSame h]
      · simp

@[simp] theorem State.descFault_memSame (s : State) (k : Nat) (e : QEnt) : MemSame s (s.descFault k e) := by
  simp only [State.descFault]
  split <;> simp

@[simp] theorem State.pumpGo_memSame (k q : Nat) (l : List QEnt) (s : State) : MemSame s (State.pumpGo k q l s).1 := by
  induction l generalizing s with
  | nil => simp [State.pumpGo]
  | cons e l ih =>
    simp only [State.pumpGo]
    (repeat' split) <;> simp [ih]

@[simp] theorem State.pump_memSame (s : State) (k q : Nat) : MemSame s (s.pump k q) := by
  simp [State.pump]

@[simp] theorem State.handPackets_memSame (l : List Packet) (s : State) : MemSame s (State.handPackets l s).1 := by
  induction l generalizing s with
  | nil => simp [State.handPackets]
  | cons p l ih =>
    rw [State.handPackets]
    split <;> simp [ih]

@[simp] theorem State.handOver_memSame (s : State) (k : Nat) : MemSame s (s.handOver k) := by
  simp only [State.handOver]
  (repeat' split) <;> simp

@[simp] theorem State.flush_memSame (s : State) (k : Nat) : MemSame s (s.flush k) := by
  simp only [State.flush]
  (repeat' split) <;> simp

@[simp] theorem State.flushAll_memSame (s : State) : MemSame s s.flushAll := by
  simp [State.flushAll]

@[simp] theorem State.openBundle_memCanon (s : State) (k : Nat) : MemCanon s (s.openBundle k) := by
  simp +contextual [State.openBundle]

@[simp] theorem State.issued_memSame (s : State) (io : Issue) (o : Op) : MemSame s (s.issued io o) := by
  simp [State.issued]

@[simp] theorem State.atIssue_memCanon (s : State) (io : Issue) : MemCanon s (s.atIssue io) := by
  unfold State.atIssue
  split <;> simp +contextual

@[simp] theorem State.nameOp_memSame (s : State) (k : Nat) (o : Op) : MemSame s (s.nameOp k o) := ⟨rfl, rfl, rfl, rfl, rfl⟩

@[simp] theorem State.noteViol_memSame (s : State) (k : Nat) (o : Op) (v : Nat) :
    MemSame s (s.noteViol k o v) := ⟨rfl, rfl, rfl, rfl, rfl⟩

/-- What an operation does before and besides its own effect keeps the memories canonical. -/
theorem present_memCanon {eff : State → State} (h : ∀ s, MemCanon s (eff s)) (s : State) (io : Issue) (info : State → Op) :
    MemCanon s (present s io info eff) := by
  simp only [present]
  (repeat' split) <;> simp +contextual [h]

@[simp] theorem State.xferBy_memSame (s : State) (k : Nat) (e : Eng) (a n : Nat) : MemSame s (s.xferBy k e a n) := by
  simp only [State.xferBy]
  (repeat' split) <;> simp

@[simp] theorem State.runTo_memCanon (s : State) (k t : Nat) : MemCanon s (s.runTo k t) := by
  simp +contextual [State.runTo]

@[simp] theorem State.evCore_memSame (s : State) (k : Nat) (f : Core → Core) :
    MemSame s (s.evCore k f) := ⟨rfl, rfl, rfl, rfl, rfl⟩

/-! ## The MAT, SYNC and MOV slots, the data mesh -/

@[simp] theorem State.flitOut_memSame (s : State) (k ch : Nat) (b : Bnd) (f : SFlit) : MemSame s (s.flitOut k ch b f) := by
  simp [State.flitOut]

@[simp] theorem State.sendCredit_memSame (s : State) (k src ch n : Nat) : MemSame s (s.sendCredit k src ch n) := by
  simp [State.sendCredit]

theorem State.ringTake_memCanon {s t : State} {k ch : Nat} {p : Packet} (h : s.ringTake k ch p = some t) :
    MemCanon s t := by
  simp only [State.ringTake] at h
  split at h
  · cases h
  split at h
  · cases h
  next s1 x hp =>
  cases h
  have h1 : MemCanon s s1 := by
    split at hp
    · cases hp
      exact MemCanon.refl s
    · split at hp
      · cases hp
        split <;> simp +contextual
      · cases hp
  refine h1.trans ?_
  split <;> simp +contextual

@[simp] theorem State.ringDrain_memCanon (k ch n : Nat) (s : State) : MemCanon s (State.ringDrain k ch n s) := by
  induction n generalizing s with
  | zero => simp +contextual [State.ringDrain]
  | succ n ih =>
    simp only [State.ringDrain]
    split
    · simp +contextual
    · split
      next h => simp +contextual [ih, State.ringTake_memCanon h]
      · split <;> simp +contextual

@[simp] theorem State.ringArrive_memCanon (s : State) (k ch : Nat) (p : Packet) : MemCanon s (s.ringArrive k ch p) := by
  simp only [State.ringArrive]
  split
  · simp +contextual
  · split
    next h => exact State.ringTake_memCanon h
    · simp +contextual

@[simp] theorem State.winArrive_memCanon (s : State) (k ch lineOff : Nat) (p : Packet) :
    MemCanon s (s.winArrive k ch lineOff p) := by
  simp only [State.winArrive]
  (repeat' split) <;> simp +contextual

@[simp] theorem State.portArrive_memSame (s : State) (k ch : Nat) (p : Packet) :
    MemSame s (s.portArrive k ch p) := ⟨rfl, rfl, rfl, rfl, rfl⟩

@[simp] theorem State.deliver_memCanon (s : State) (k ch lineOff : Nat) (p : Packet) :
    MemCanon s (s.deliver k ch lineOff p) := by
  simp only [State.deliver]
  split <;> simp +contextual

@[simp] theorem State.waitRefresh_memSame (s : State) (stack l n : Nat) : MemSame s (s.waitRefresh stack l n) := by
  unfold State.waitRefresh
  split <;> simp

@[simp] theorem State.readCmps_memSame (s : State) (h : Hdr) (stack lo n : Nat) : MemSame s (s.readCmps h stack lo n) := by
  simp [State.readCmps]

@[simp] theorem State.e2eFault_memSame (s : State) (k haddr lines : Nat) : MemSame s (s.e2eFault k haddr lines) := by
  simp [State.e2eFault]

@[simp] theorem State.noteDone_memSame (s : State) (k : Nat) (e : QEnt) : MemSame s (s.noteDone k e) := by
  simp [State.noteDone]

@[simp] theorem State.setStream_memSame (s : State) (i : Nat) (x : Stream) :
    MemSame s (s.setStream i x) := ⟨rfl, rfl, rfl, rfl, rfl⟩

@[simp] theorem State.takeSettings_memSame (s : State) : MemSame s s.takeSettings := by
  simp [State.takeSettings]

@[simp] theorem State.portPump_memSame (s : State) (port : Nat) : MemSame s (s.portPump port) := by
  simp [State.portPump]

@[simp] theorem State.queueFrame_memSame (s : State) (port : Nat) (f : GlpFrame) : MemSame s (s.queueFrame port f) := by
  simp [State.queueFrame]

@[simp] theorem State.glpDiscard_memSame (s : State) (n : Nat) : MemSame s (s.glpDiscard n) := ⟨rfl, rfl, rfl, rfl, rfl⟩

@[simp] theorem State.forward_memSame (s : State) (f : GlpFrame) (came : Option Nat) : MemSame s (s.forward f came) := by
  simp only [State.forward]
  (repeat' split) <;> simp

@[simp] theorem State.glpSend_memSame (s : State) (g : GlpSpec) : MemSame s (s.glpSend g) := by
  simp [State.glpSend]

@[simp] theorem State.toHost_memSame (s : State) (op arg sess tag : Nat) (payload : Bytes) :
    MemSame s (s.toHost op arg sess tag payload) := by
  unfold State.toHost
  (repeat' split) <;> simp

@[simp] theorem State.sendConcordOn_memSame (s : State) (port : Nat) : MemSame s (s.sendConcordOn port) := by
  simp [State.sendConcordOn]

@[simp] theorem State.sendConcord_memSame (s : State) (d : Nat) : MemSame s (s.sendConcord d) := by
  simp [State.sendConcord]

@[simp] theorem State.reConcord_memSame (s : State) : MemSame s s.reConcord := by
  simp [State.reConcord]

/-! ## What the commands of the panel share -/

@[simp] theorem State.classify_memSame (s : State) (f retry kind action : Nat) : MemSame s (s.classify f retry kind action) := by
  simp [State.classify]

@[simp] theorem State.abandonRep_memSame (s : State) (site : Nat) : MemSame s (s.abandonRep site) := ⟨rfl, rfl, rfl, rfl, rfl⟩

@[simp] theorem State.wantPower_memSame (s : State) (site : Nat) : MemSame s (s.wantPower site) := by
  simp [State.wantPower]

@[simp] theorem State.displace_memSame (s : State) (ds : List Desc) : MemSame s (s.displace ds) := ⟨rfl, rfl, rfl, rfl, rfl⟩

@[simp] theorem State.unswap_memSame (s : State) (src : Nat) : MemSame s (s.unswap src) := by
  unfold State.unswap
  split <;> simp

@[simp] theorem State.discard_memSame (s : State) : MemSame s s.discard := by
  simp [State.discard]

@[simp] theorem State.stopAttempt_memSame (s : State) : MemSame s s.stopAttempt := by
  unfold State.stopAttempt
  split <;> simp

@[simp] theorem State.dropCmd_memSame (s : State) (p : Bool) : MemSame s (s.dropCmd p) := by
  simp [State.dropCmd]

@[simp] theorem State.holdNext_memSame (s : State) (cause : Nat) : MemSame s (s.holdNext cause) := by
  simp [State.holdNext]

@[simp] theorem State.toHold_memSame (s : State) (cause : Nat) : MemSame s (s.toHold cause) := by
  simp [State.toHold]

@[simp] theorem State.endHeld_memSame (s : State) : MemSame s s.endHeld := by
  simp [State.endHeld]

@[simp] theorem State.cancelFlips_memSame (s : State) : MemSame s s.cancelFlips := by
  simp [State.cancelFlips]

@[simp] theorem State.toSafe_memSame (s : State) (cause : Nat) : MemSame s (s.toSafe cause) := by
  simp [State.toSafe]

@[simp] theorem State.writeCode_memCanon (s : State) (p : Prog) (site vd : Nat) : MemCanon s (s.writeCode p site vd) := by
  simp +contextual [State.writeCode]

@[simp] theorem State.writeLoadCopy_memCanon (s : State) (p : Prog) (site vd : Nat) : MemCanon s (s.writeLoadCopy p site vd) := by
  simp +contextual [State.writeLoadCopy]

@[simp] theorem State.enterDie_memCanon (s : State) (site vd : Nat) (fromLoad : Bool) :
    MemCanon s (s.enterDie site vd fromLoad) := by
  unfold State.enterDie
  split
  next p _ =>
    have h := (State.setHashing_memCanon s site false).trans (State.writeCode_memCanon _ p site vd)
    exact MemCanon.ite (h.trans (State.writeLoadCopy_memCanon ..)) h
  · exact MemCanon.refl s

@[simp] theorem State.clearCores_memSame (s : State) (site : Nat) : MemSame s (s.clearCores site) := ⟨rfl, rfl, rfl, rfl, rfl⟩

@[simp] theorem State.leave_memCanon (s : State) (site : Nat) : MemCanon s (s.leave site) := by
  simp +contextual [State.leave]

@[simp] theorem State.clearProgram_memCanon (s : State) : MemCanon s s.clearProgram := by
  simp +contextual [State.clearProgram]

@[simp] theorem State.unloadNow_memCanon (s : State) : MemCanon s s.unloadNow := by
  simp +contextual [State.unloadNow]

@[simp] theorem State.isolateDie_memSame (s : State) (site cause : Nat) : MemSame s (s.isolateDie site cause) := by
  simp [State.isolateDie]

@[simp] theorem State.startRoll_memSame (s : State) (vd : Nat) (att : Option Nat) : MemSame s (s.startRoll vd att) := by
  simp [State.startRoll]

@[simp] theorem State.writeMoves_memSame (s : State) (mv : List (Nat × Nat)) : MemSame s (s.writeMoves mv) := by
  simp [State.writeMoves]

@[simp] theorem State.rollTargets_memCanon (s : State) : MemCanon s s.rollTargets := by
  unfold State.rollTargets
  split
  · simp +contextual
  · extract_lets u
    have hu : MemCanon s u := foldl_memCanon (fun s v => by simp only; (repeat' split) <;> simp +contextual) _ s
    clear_value u
    (repeat' split) <;> simp +contextual [hu]

@[simp] theorem State.rollSlots_memSame (s : State) : MemSame s s.rollSlots := by
  unfold State.rollSlots
  split <;> simp

@[simp] theorem State.restartServices_memSame (s : State) (site pair : Nat) : MemSame s (s.restartServices site pair) := by
  unfold State.restartServices
  split <;> simp

@[simp] theorem State.dieLoss_memCanon (s : State) (site det unit : Nat) : MemCanon s (s.dieLoss site det unit) := by
  unfold State.dieLoss
  extract_lets d
  split
  · simp +contextual
  · next vd fr s1 s2 mine late asDst s3 s4 s5 s6 s7 _ _ s8 _ _ _ _ s9 _ =>
    have h8 : MemCanon s s8 := by simp +contextual [s8, s7, s6, s5, s4, s3, s2, s1]
    have h9 : MemCanon s8 s9 := by
      clear_value asDst s8
      cases asDst <;> simp +contextual +zetaDelta
    refine (h8.trans h9).trans ?_
    clear_value s9 vd mine fr
    cases vd <;> cases mine <;> simp +contextual

@[simp] theorem State.hubLoss_memSame (s : State) (hub det : Nat) : MemSame s (s.hubLoss hub det) := by
  simp [State.hubLoss]

@[simp] theorem State.revoke_memSame (s : State) (reason first last sample vd site r1 r2 : Nat) :
    MemSame s (s.revoke reason first last sample vd site r1 r2) := ⟨rfl, rfl, rfl, rfl, rfl⟩

@[simp] theorem State.sendQuench_memSame (s : State) (q : Quench) : MemSame s (s.sendQuench q) := ⟨rfl, rfl, rfl, rfl, rfl⟩

@[simp] theorem State.quench_memSame (s : State) (cause : Nat) : MemSame s (s.quench cause) := by
  simp [State.quench]

/-! ## Slots, ticks, attempts, audits and operating points -/

@[simp] theorem State.takeSnap_memSame (s : State) (slot : Nat) : MemSame s (s.takeSnap slot) := by
  unfold State.takeSnap
  extract_lets bad snap _ s1 s2
  have h2 : MemSame s1 s2 := foldl_memSame (fun s x => by simp only; split <;> simp) _ _
  simpa +zetaDelta using h2

@[simp] theorem State.foldEpoch_memSame (s : State) : MemSame s s.foldEpoch := by
  simp [State.foldEpoch]

@[simp] theorem State.noteStall_memSame (s : State) : MemSame s s.noteStall := by
  simp [State.noteStall]

@[simp] theorem State.rehearse_memSame (s : State) (frame : Nat) (missed : List Nat) : MemSame s (s.rehearse frame missed) := by
  unfold State.rehearse
  refine foldl_memSame (fun s i => ?_) _ s
  simp only
  (repeat' split) <;> simp

@[simp] theorem State.fault_memSame (s : State) (frame cause retry : Nat) : MemSame s (s.fault frame cause retry) := by
  simp [State.fault]

@[simp] theorem State.postReplay_memSame (s : State) (frame : Nat) (late : Bool) :
    MemSame s (s.postReplay frame late) := ⟨rfl, rfl, rfl, rfl, rfl⟩

@[simp] theorem State.swapOut_memSame (s : State) (frame site det : Nat) : MemSame s (s.swapOut frame site det) := by
  simp [State.swapOut]

@[simp] theorem State.failAttempt_memSame (s : State) (a : Attempt) (sig : Sig) (inexactOnly late : Bool) :
    MemSame s (s.failAttempt a sig inexactOnly late) := by
  unfold State.failAttempt
  extract_lets _ s1
  split
  · simp +zetaDelta
  · next n first s2 _ =>
    have h2 : MemSame s s2 := by simp +zetaDelta
    clear_value s2 first
    (repeat' split) <;> simp [h2]

@[simp] theorem State.deadlockRecords_memSame (s : State) (l : List Nat) : MemSame s (s.deadlockRecords l) := by
  simp [State.deadlockRecords]

@[simp] theorem State.finishAttempt_memSame (s : State) (a : Attempt) (missed : List Nat) :
    MemSame s (s.finishAttempt a missed) := by
  simp [State.finishAttempt]

@[simp] theorem State.giveCredits_memSame (s : State) : MemSame s s.giveCredits := by
  simp [State.giveCredits]

@[simp] theorem State.startCopy_memSame (s : State) (frame : Nat) : MemSame s (s.startCopy frame) := by
  unfold State.startCopy
  split <;> simp

@[simp] theorem State.startCores_memSame (s : State) : MemSame s s.startCores := by
  simp [State.startCores]

@[simp] theorem State.tableCounts_memSame (s : State) : MemSame s s.tableCounts := by
  unfold State.tableCounts
  split
  · simp
  · exact foldl_memSame (fun s t => by split <;> simp) _ s

@[simp] theorem State.startAttempt_memSame (s : State) (a : Attempt) (kind : SlotKind) : MemSame s (s.startAttempt a kind) := by
  simp [State.startAttempt]

@[simp] theorem State.capsDue_memSame (s : State) : MemSame s s.capsDue := by
  simp [State.capsDue]

@[simp] theorem State.thermalBudget_memSame (s : State) : MemSame s s.thermalBudget := by
  simp [State.thermalBudget]

@[simp] theorem State.vinSlot_memSame (s : State) : MemSame s s.vinSlot := ⟨rfl, rfl, rfl, rfl, rfl⟩

@[simp] theorem State.notePower_memSame (s : State) : MemSame s s.notePower := by
  unfold State.notePower
  split
  · simp
  · exact (((foldl_memSame (fun s i => by simp) _ s).trans (State.setNum_memSame ..)).trans
      (State.setNum_memSame ..)).trans (State.setNum_memSame ..)

@[simp] theorem State.budget_memSame (s : State) : MemSame s s.budget := by
  simp [State.budget]

@[simp] theorem State.rotate_memSame (s : State) : MemSame s s.rotate := by
  unfold State.rotate
  refine foldl_memSame (fun s c => ?_) _ s
  simp only
  split <;> simp

@[simp] theorem State.stragglers_memSame (s : State) : MemSame s s.stragglers := by
  simp [State.stragglers]

@[simp] theorem State.stopTest_memSame (s : State) (r : MigReq) : MemSame s (s.stopTest r) := by
  unfold State.stopTest
  (repeat' split) <;> simp

@[simp] theorem State.stopTests_memCanon (s : State) : MemCanon s s.stopTests := by
  simp +contextual [State.stopTests]

@[simp] theorem State.takeReq_memSame (s : State) (r : MigReq) : MemSame s (s.takeReq r) := by
  simp only [State.takeReq]
  (repeat' split) <;> simp

@[simp] theorem State.chooseMigs_memCanon (s : State) : MemCanon s s.chooseMigs := by
  simp +contextual [State.chooseMigs]

@[simp] theorem State.cancelMigs_memSame (s : State) : MemSame s s.cancelMigs := by
  simp [State.cancelMigs]

@[simp] theorem State.endBlank_memSame (s : State) : MemSame s s.endBlank := by
  simp [State.endBlank]

@[simp] theorem State.dueNow_memSame (s : State) : MemSame s s.dueNow := by
  simp [State.dueNow]

@[simp] theorem State.pendingCmds_memCanon (s : State) : MemCanon s s.pendingCmds := by
  simp +contextual [State.pendingCmds]

@[simp] theorem State.portCounts_memSame (s : State) (slot : Nat) : MemSame s (s.portCounts slot) := by
  simp [State.portCounts]

@[simp] theorem State.boundary_memCanon (s : State) (slot : Nat) (missed : List Nat) : MemCanon s (s.boundary slot missed) := by
  unfold State.boundary
  extract_lets s1 s2 s3 s4 _ s6 s7 s8 _ s10 s11 s12
  have h2 : MemSame s s2 := by
    simp only [s2, s1]
    (repeat' split) <;> simp
  clear_value s2
  have h4 : MemCanon s2 s4 := by simp +contextual [s4, s3]
  clear_value s4
  have h6 : MemSame s4 s6 := by
    simp only [s6]
    (repeat' split) <;> simp
  clear_value s6
  have h8 : MemCanon s6 s8 := by simp +contextual [s8, s7]
  clear_value s8
  have h12 : MemSame s8 s12 := by
    simp only [s12, s11, s10]
    (repeat' split) <;> simp
  clear_value s12
  exact ((((h2.canon.trans h4).trans h6.canon).trans h8).trans h12.canon).trans (State.rollTargets_memCanon s12)

@[simp] theorem State.openKind_memSame (s : State) (kind : SlotKind) : MemSame s (s.openKind kind) := ⟨rfl, rfl, rfl, rfl, rfl⟩

@[simp] theorem State.popDesc_memSame (s : State) : MemSame s s.popDesc := ⟨rfl, rfl, rfl, rfl, rfl⟩

@[simp] theorem State.openRoll_memSame (s : State) (r : Rollback) : MemSame s (s.openRoll r) := by
  simp [State.openRoll]

@[simp] theorem State.endRoll_memSame (s : State) (r : Rollback) : MemSame s (s.endRoll r) := by
  unfold State.endRoll
  split <;> simp

@[simp] theorem State.announceStretch_memSame (s : State) : MemSame s s.announceStretch := by
  simp [State.announceStretch]

@[simp] theorem State.belowFloor_memSame (s : State) (site : Nat) : MemSame s (s.belowFloor site) := by
  unfold State.belowFloor
  split <;> simp

@[simp] theorem State.floorsHeld_memSame (s : State) : MemSame s s.floorsHeld := by
  simp [State.floorsHeld]

@[simp] theorem State.openPosted_memSame (s : State) (slot : Nat) : MemSame s (s.openPosted slot) := by
  simp only [State.openPosted]
  split <;> simp

@[simp] theorem State.openSlot_memSame (s : State) (slot : Nat) : MemSame s (s.openSlot slot) := by
  unfold State.openSlot
  split <;> simp

@[simp] theorem State.openWindow_memSame (s : State) (j : Nat) : MemSame s (s.openWindow j) := by
  simp [State.openWindow]

@[simp] theorem State.putDescs_memSame (s : State) (ds : List Desc) : MemSame s (s.putDescs ds) := ⟨rfl, rfl, rfl, rfl, rfl⟩

@[simp] theorem State.endStretch_memSame (s : State) : MemSame s s.endStretch := by
  simp [State.endStretch]

@[simp] theorem State.postProgram_memSame (s : State) : MemSame s s.postProgram := by
  simp [State.postProgram]

@[simp] theorem State.postRoll_memSame (s : State) (r : Rollback) : MemSame s (s.postRoll r) := by
  unfold State.postRoll
  (repeat' split) <;> simp

@[simp] theorem State.postNext_memCanon (s : State) : MemCanon s s.postNext := by
  simp only [State.postNext]
  (repeat' split) <;> simp +contextual

@[simp] theorem State.passFrame_memSame (s : State) (e : Ended) : MemSame s (s.passFrame e) := by
  unfold State.passFrame
  (repeat' split) <;> simp

@[simp] theorem State.reSafe_memSame (s : State) (site : Nat) : MemSame s (s.reSafe site) := by
  simp [State.reSafe]

@[simp] theorem State.setSafe_memSame (s : State) (site point : Nat) : MemSame s (s.setSafe site point) := by
  simp [State.setSafe]

/-! ## Calibration, the digest chain, replays, references and TIME, checkpoints -/

@[simp] theorem State.calLoad_memSame (s : State) (i : Nat) : MemSame s (s.calLoad i) := by
  simp [State.calLoad]

@[simp] theorem State.advanceFinal_memSame (s : State) (f : Nat) : MemSame s (s.advanceFinal f) := by
  simp [State.advanceFinal]

@[simp] theorem State.signCert_memSame (s : State) (last : Nat) (demand : Bool) : MemSame s (s.signCert last demand) := by
  simp [State.signCert]

@[simp] theorem State.writeReadBuf_memCanon (s : State) (site vd : Nat) : MemCanon s (s.writeReadBuf site vd) :=
  foldl_memCanon (fun _ _ => foldl_memCanon (fun s e => by simp +contextual) _ _) _ s

@[simp] theorem State.samplePassed_memSame (s : State) (vd : Nat) : MemSame s (s.samplePassed vd) := by
  unfold State.samplePassed
  split <;> simp

@[simp] theorem State.recoverReplay_memSame (s : State) (vd first : Nat) : MemSame s (s.recoverReplay vd first) := by
  simp [State.recoverReplay]

@[simp] theorem State.secondReplay_memSame (s : State) (r : Rep) (digest orig : Bytes) :
    MemSame s (s.secondReplay r digest orig) := by
  simp only [State.secondReplay]
  (repeat' split) <;> simp

@[simp] theorem State.switchTo_memSame (s : State) (i : RefIn) : MemSame s (s.switchTo i) := ⟨rfl, rfl, rfl, rfl, rfl⟩

@[simp] theorem State.stepTime_memSame (s : State) (d : Int) : MemSame s (s.stepTime d) := by
  simp [State.stepTime]

@[simp] theorem State.slew_memSame (s : State) (d : Int) : MemSame s (s.slew d) := ⟨rfl, rfl, rfl, rfl, rfl⟩

@[simp] theorem State.follow_memSame (s : State) (d : Int) : MemSame s (s.follow d) := by
  simp [State.follow]

@[simp] theorem State.discipline_memSame (s : State) (d : Int) : MemSame s (s.discipline d) := by
  simp [State.discipline]

@[simp] theorem State.pageWrite_memCanon (s : State) (p : Prog) (w : PageWrite) : MemCanon s (s.pageWrite p w) := by
  simp only [State.pageWrite]
  (repeat' split) <;> simp +contextual

@[simp] theorem State.writeCk_memCanon (s : State) (p : Prog) (c : Ck) : MemCanon s (s.writeCk p c) := by
  simp +contextual [State.writeCk]

@[simp] theorem State.commit_memSame (s : State) (c : Ck) : MemSame s (s.commit c) := ⟨rfl, rfl, rfl, rfl, rfl⟩

@[simp] theorem State.putBuf_memCanon (s : State) (p : Prog) (odd epoch : Bool) (b : CkBuf) (d : Bytes) :
    MemCanon s (s.putBuf p odd epoch b d) := by
  simp only [State.putBuf]
  (repeat' split) <;> simp +contextual

@[simp] theorem State.putData_memCanon (s : State) (p : Prog) (resume : Nat) (epoch : Bool) (data : Bytes) :
    MemCanon s (s.putData p resume epoch data) :=
  (foldl_fst_memCanon (fun r _ => State.putBuf_memCanon r.1 ..) p.buffers (s, data)).trans
    (foldl_fst_memCanon (fun r _ => State.writeLines_memCanon r.1 ..) _ _)

@[simp] theorem State.putTables_memCanon (s : State) (epoch : Bool) (t : SMap (BitVec 32)) : MemCanon s (s.putTables epoch t) :=
  foldl_memCanon (fun s key => by split <;> simp +contextual) _ s

@[simp] theorem State.restore_memCanon (s : State) (p : Prog) (c : Ck) (epoch : Bool) (data : Bytes) :
    MemCanon s (s.restore p c epoch data) := by
  simp +contextual [State.restore]

@[simp] theorem State.countMig_memSame (s : State) (prio : Nat) : MemSame s (s.countMig prio) := by
  simp [State.countMig]

@[simp] theorem State.moveVd_memCanon (s : State) (m : Nat × Nat × Nat) : MemCanon s (s.moveVd m) := by
  unfold State.moveVd
  extract_lets v src dst prio sv lost s1 _ s2 s3 op s4
  have h1 : MemCanon s s1 := by
    simp only [s1]
    split <;> simp +contextual
  clear_value s1
  have h2 : MemSame s1 s2 := by
    simp only [s2]
    split <;> simp
  clear_value s2
  refine (h1.trans h2.canon).trans (MemSame.canon ?_)
  split
  · simp
  split
  · simp
  · split <;> simp [s4, s3]

@[simp] theorem State.syncWords_memSame (s : State) (key : Nat) (words : List (BitVec 96 × BitVec 96)) :
    MemSame s (s.syncWords key words).1 :=
  foldl_fst_memSame (fun r w => by simp only; split <;> simp) words (s, false)

@[simp] theorem State.syncDown_memCanon (s : State) (link : SyncLink) : MemCanon s (s.syncDown link) := by
  unfold State.syncDown
  split <;> simp +contextual

@[simp] theorem State.copySpads_memCanon (s : State) (src dst vd : Nat) : MemCanon s (s.copySpads src dst vd) := by
  simp +contextual [State.copySpads]

@[simp] theorem State.losePanel_memSame (s : State) (nb : Nat) : MemSame s (s.losePanel nb) := by
  simp [State.losePanel]

@[simp] theorem State.freezePair_memSame (s : State) (site pair : Nat) : MemSame s (s.freezePair site pair) := by
  simp [State.freezePair]

@[simp] theorem State.ccReply_memSame (s : State) (h : Hdr) (refused : Bool) (data : Bytes) :
    MemSame s (s.ccReply h refused data) := by
  simp [State.ccReply]

@[simp] theorem State.ccRefuse_memSame (s : State) (h : Hdr) : MemSame s (s.ccRefuse h) := by
  unfold State.ccRefuse
  split <;> simp

@[simp] theorem State.adminRoute_memSame (s : State) (h : Hdr) (e : RouteEnt) : MemSame s (s.adminRoute h e) := by
  simp [State.adminRoute]

/-! ## Resets, power, sessions and ports -/

@[simp] theorem State.vinOff_memCanon (s : State) : MemCanon s s.vinOff := by
  simp [State.vinOff]

@[simp] theorem State.panelReset_memCanon (s : State) (cause : Nat) (cold : Bool) : MemCanon s (s.panelReset cause cold) := by
  simp +contextual [State.panelReset]

@[simp] theorem State.resetInto_memSame (s : State) (p : PanelSt) (old : PanelSt) :
    MemSame s (s.resetInto p old) := ⟨rfl, rfl, rfl, rfl, rfl⟩

@[simp] theorem State.meshLock_memSame (s : State) : MemSame s s.meshLock := by
  simp [State.meshLock]

@[simp] theorem State.simmerStacks_memSame (s : State) : MemSame s s.simmerStacks := by
  simp [State.simmerStacks]

@[simp] theorem State.stageStart_memSame (s : State) (n : Nat) : MemSame s (s.stageStart n) := ⟨rfl, rfl, rfl, rfl, rfl⟩

@[simp] theorem State.stageHalt_memSame (s : State) (n code : Nat) : MemSame s (s.stageHalt n code) := by
  simp [State.stageHalt]

@[simp] theorem State.startBringup_memSame (s : State) (fast : Bool) : MemSame s (s.startBringup fast) := by
  simp [State.startBringup]

@[simp] theorem State.toSimmer_memSame (s : State) (auto : Bool) : MemSame s (s.toSimmer auto) := by
  simp only [State.toSimmer]
  split <;> simp

@[simp] theorem State.unqueue_memSame (s : State) (site : Nat) : MemSame s (s.unqueue site) := ⟨rfl, rfl, rfl, rfl, rfl⟩

@[simp] theorem State.loseSite_memSame (s : State) (site : Nat) : MemSame s (s.loseSite site) := by
  simp [State.loseSite]

@[simp] theorem State.excludeSite_memSame (s : State) (n : Nat) (x : Nat × Nat) : MemSame s (s.excludeSite n x) := by
  simp [State.excludeSite]

@[simp] theorem State.vinDown_memCanon (s : State) : MemCanon s s.vinDown := by
  simp +contextual [State.vinDown]

@[simp] theorem State.retire_memSame (s : State) (site prio : Nat) : MemSame s (s.retire site prio) := by
  unfold State.retire
  split <;> simp

@[simp] theorem State.restarted_memSame (s : State) : MemSame s s.restarted := by
  simp [State.restarted]

@[simp] theorem State.connWarning_memSame (s : State) (site point : Nat) : MemSame s (s.connWarning site point) := by
  simp [State.connWarning]

@[simp] theorem State.updSession_memSame (s : State) (n : Nat) (f : Session → Session) : MemSame s (s.updSession n f) := by
  simp [State.updSession]

@[simp] theorem State.closeSession_memSame (s : State) (n : Nat) : MemSame s (s.closeSession n) := ⟨rfl, rfl, rfl, rfl, rfl⟩

@[simp] theorem State.touch_memSame (s : State) (n : Nat) : MemSame s (s.touch n) := ⟨rfl, rfl, rfl, rfl, rfl⟩

@[simp] theorem State.freezeSession_memSame (s : State) (n : Nat) : MemSame s (s.freezeSession n) := by
  unfold State.freezeSession
  split <;> simp

@[simp] theorem State.deny_memSame (s : State) (n : Nat) : MemSame s (s.deny n) := by
  simp [State.deny]

@[simp] theorem State.addSession_memSame (s : State) (x : Session) : MemSame s (s.addSession x) := ⟨rfl, rfl, rfl, rfl, rfl⟩

theorem State.inband_memSame {s t : State} {n : Nat} (h : s.inband n = some t) : MemSame s t := by
  obtain ⟨a, rfl⟩ := inband_eq h
  exact ⟨rfl, rfl, rfl, rfl, rfl⟩

@[simp] theorem State.dropPort_memSame (s : State) (port : Nat) : MemSame s (s.dropPort port) := by
  unfold State.dropPort
  extract_lets p n s1
  exact MemSame.trans (by simp [s1]) (foldl_memSame (fun s f => by split <;> simp) _ s1)

@[simp] theorem State.linkCtl_memSame (s : State) (port op : Nat) : MemSame s (s.linkCtl port op) := by
  simp [State.linkCtl]

@[simp] theorem State.glpHeaderFault_memSame (s : State) (port n : Nat) :
    MemSame s (s.glpHeaderFault port n) := ⟨rfl, rfl, rfl, rfl, rfl⟩

@[simp] theorem State.expDelivery_memSame (s : State) (t : Nat) : MemSame s (s.expDelivery t) := by
  simp [State.expDelivery]

@[simp] theorem State.groupDrift_memSame (s : State) : MemSame s s.groupDrift := by
  simp [State.groupDrift]

@[simp] theorem State.hostPacket_memSame (s : State) (sess : Nat) : MemSame s (s.hostPacket sess).1 := by
  unfold State.hostPacket
  split
  · simp
  next h =>
    split <;> exact State.inband_memSame h

@[simp] theorem State.answer_memSame (s : State) (r : Request) (status flags : Nat) : MemSame s (s.answer r status flags) := by
  simp [State.answer]

@[simp] theorem State.passOn_memSame (s : State) (r : Request) (target : Nat) : MemSame s (s.passOn r target) := by
  simp [State.passOn]

@[simp] theorem State.complete_memSame (s : State) (r : Request) : MemSame s (s.complete r) := by
  unfold State.complete
  split <;> simp

@[simp] theorem State.sendNotice_memSame (s : State) (kind op : Nat) : MemSame s (s.sendNotice kind op) := by
  unfold State.sendNotice
  split <;> simp

@[simp] theorem State.sendColl_memSame (s : State) (c : Coll) (entry frame : Nat) (b : Bytes) :
    MemSame s (s.sendColl c entry frame b) := by
  simp [State.sendColl]

/-! ## Cooling, field test, bring-up and update, ladles -/

@[simp] theorem State.coolCheck_memSame (s : State) : MemSame s s.coolCheck := by
  simp [State.coolCheck]

@[simp] theorem State.quenchTrack_memSame (s : State) : MemSame s s.quenchTrack := by
  unfold State.quenchTrack
  split <;> simp

@[simp] theorem State.shutdown_memCanon (s : State) : MemCanon s s.shutdown := by
  simp +contextual [State.shutdown]

@[simp] theorem State.throttle_memSame (s : State) (site : Nat) : MemSame s (s.throttle site) := by
  simp only [State.throttle]
  (repeat' split) <;> simp

@[simp] theorem State.sampleDie_memCanon (s : State) (site : Nat) (temps : List Int) : MemCanon s (s.sampleDie site temps) := by
  unfold State.sampleDie
  extract_lets s1 old v s2 d s3 s4 c run s5 s6
  have h3 : MemSame s s3 := by simp [s3, s2, s1]
  clear_value s3
  have h5 : MemSame s3 s5 := by simp [s5, s4]
  clear_value s5
  refine (h3.trans h5).canon.trans ?_
  split
  · simp +contextual
  · exact MemSame.canon (by split <;> simp [s6])

@[simp] theorem State.sampleHub_memCanon (s : State) (hub : Nat) (temps : List Int) : MemCanon s (s.sampleHub hub temps) := by
  simp +contextual [State.sampleHub]

@[simp] theorem State.samplePort_memSame (s : State) (d : Nat) (temps : List Int) : MemSame s (s.samplePort d temps) := by
  simp [State.samplePort]

@[simp] theorem State.railsOff_memCanon (s : State) (q : Quench) : MemCanon s (s.railsOff q) := by
  unfold State.railsOff
  extract_lets s1
  have h1 : MemCanon s s1 := foldl_memCanon (fun s i => by
    simp only
    (repeat' split) <;> simp +contextual) _ s
  clear_value s1
  exact h1.trans (MemSame.canon (by simp))

@[simp] theorem State.testPass_memSame (s : State) (site : Nat) : MemSame s (s.testPass site) := by
  unfold State.testPass
  split <;> simp

@[simp] theorem State.excludeOther_memSame (s : State) (x : Nat × Nat) : MemSame s (s.excludeOther x) := by
  simp [State.excludeOther]

@[simp] theorem State.stage2_memSame (s : State) (found : List Nat) : MemSame s (s.stage2 found) := by
  simp [State.stage2]

@[simp] theorem State.stage4_memSame (s : State) : MemSame s s.stage4 := by
  unfold State.stage4
  extract_lets s1 s2 _
  have h1 : MemSame s s1 := by simp [s1]
  have h2 : MemSame s1 s2 := by
    clear_value s1
    exact foldl_memSame (fun s i => by split <;> simp) _ _
  have h : MemSame s s2 := h1.trans h2
  clear_value s2
  simp [h]

@[simp] theorem State.stage5_memCanon (s : State) : MemCanon s s.stage5 := by
  simp +contextual [State.stage5]

@[simp] theorem State.stage6_memSame (s : State) (note : Nat) : MemSame s (s.stage6 note) := by
  simp [State.stage6]

@[simp] theorem State.stage8_memSame (s : State) : MemSame s s.stage8 := by
  simp [State.stage8]

@[simp] theorem State.stage10_memCanon (s : State) : MemCanon s s.stage10 := by
  unfold State.stage10
  extract_lets s1 s2 _ s3
  have h2 : MemCanon s1 s2 := foldl_memCanon (fun s i => by
    simp only
    (repeat' split) <;> simp +contextual) _ s1
  clear_value s2
  exact (MemSame.canon (by simp [s1])).trans (h2.trans (MemSame.canon (by simp [s3])))

@[simp] theorem State.stageWork_memCanon (s : State) (n : Nat) (out : StageOutcome) : MemCanon s (s.stageWork n out) := by
  unfold State.stageWork
  split <;> simp +contextual

@[simp] theorem State.updateCert_memSame (s : State) : MemSame s s.updateCert := by
  simp [State.updateCert]

@[simp] theorem State.fwNext_memSame (s : State) (n : Nat) : MemSame s (s.fwNext n) := ⟨rfl, rfl, rfl, rfl, rfl⟩

@[simp] theorem State.updateSpares_memSame (s : State) : MemSame s s.updateSpares := by
  simp [State.updateSpares]

@[simp] theorem State.updateActive_memSame (s : State) : MemSame s s.updateActive := by
  simp [State.updateActive]

@[simp] theorem State.updateHubs_memSame (s : State) : MemSame s s.updateHubs := by
  unfold State.updateHubs
  (repeat' split) <;> simp

@[simp] theorem State.updateTrivets_memSame (s : State) : MemSame s s.updateTrivets := by
  simp [State.updateTrivets]

@[simp] theorem State.updateDone_memSame (s : State) : MemSame s s.updateDone := by
  simp [State.updateDone]

@[simp] theorem State.ladleRefuse_memSame (s : State) (h : Hdr) (entry : Nat) (flits : Nat) :
    MemSame s (s.ladleRefuse h entry flits) := by
  simp only [State.ladleRefuse]
  split <;> simp

@[simp] theorem State.ladleTake_memCanon (s : State) (k : Nat) (h : Hdr) (b : Bytes) : MemCanon s (s.ladleTake k h b) := by
  simp +contextual [State.ladleTake]

@[simp] theorem State.ladleFlits_memCanon (s : State) (k : Nat) (p : Packet) : MemCanon s (s.ladleFlits k p) := by
  simp +contextual [State.ladleFlits]

/-! ## The loader and the commands on objects -/

@[simp] theorem State.loadResult_memSame (s : State) (code detail sec : Nat) :
    MemSame s (s.loadResult code detail sec) := ⟨rfl, rfl, rfl, rfl, rfl⟩

/-- The next state of a command on an object, where it answers one, keeps the memories of `s` canonical. -/
def OkCanon (s : State) (r : Except Nat State) : Prop := ∀ t, r = .ok t → MemCanon s t

@[simp] theorem okCanon_ok (s t : State) : OkCanon s (.ok t) ↔ MemCanon s t := by
  simp [OkCanon]

@[simp] theorem okCanon_error (s : State) (e : Nat) : OkCanon s (.error e) := by
  simp [OkCanon]

@[simp] theorem okCanon_ite (s : State) (c : Prop) [Decidable c] (a b : Except Nat State) :
    OkCanon s (if c then a else b) ↔ (c → OkCanon s a) ∧ (¬ c → OkCanon s b) := by
  split <;> simp [*]

theorem OkCanon.ite {s : State} {a b : Except Nat State} {c : Prop} [Decidable c] (h : OkCanon s a) (h' : OkCanon s b) :
    OkCanon s (if c then a else b) := by
  split
  · exact h
  · exact h'

@[simp] theorem State.cmdLoad_memCanon (s : State) : OkCanon s s.cmdLoad := by
  unfold State.cmdLoad
  (repeat' split) <;> simp +contextual

@[simp] theorem State.stopForLoad_memSame (s : State) (site : Nat) : MemSame s (s.stopForLoad site) := by
  simp [State.stopForLoad]

@[simp] theorem State.placeDie_memCanon (s : State) (p : Prog) (site vd : Nat) : MemCanon s (s.placeDie p site vd) := by
  unfold State.placeDie
  extract_lets s1 s2
  have h2 : MemCanon s s2 := by simp +contextual [s2, s1]
  exact h2.trans ((State.writeCode_memCanon ..).trans (State.writeLoadCopy_memCanon ..))

@[simp] theorem State.writeContent_memCanon (s : State) (l : List (Nat × Bytes)) : MemCanon s (s.writeContent l) := by
  simp +contextual [State.writeContent]

@[simp] theorem State.startServices_memSame (s : State) (p : Prog) : MemSame s (s.startServices p) := by
  unfold State.startServices
  split <;> simp

@[simp] theorem State.firstCheckpoint_memCanon (s : State) (p : Prog) : MemCanon s (s.firstCheckpoint p) := by
  simp +contextual [State.firstCheckpoint]

@[simp] theorem State.finishLoad_memCanon (s : State) (l : Loading) : MemCanon s (s.finishLoad l) := by
  unfold State.finishLoad
  extract_lets _ p s1 s2 streams r s3 s4 s5 s6 root _ s7 s8 s9
  have h2 : MemCanon s s2 := by simp +contextual [s2, s1]
  clear_value s2
  have h4 : MemCanon s2 s4 := by simp +contextual [s4, s3]
  clear_value s4
  have h5 : MemCanon s4 s5 := by simp +contextual [s5]
  clear_value s5
  refine ((h2.trans h4).trans h5).trans (MemSame.canon ?_)
  split <;> simp [s9, s8, s7, s6]

@[simp] theorem State.returnDie_memCanon (s : State) (p : Prog) (image : Bool) (site vd : Nat) :
    MemCanon s (s.returnDie p image site vd) := by
  unfold State.returnDie
  extract_lets d s1 s2 s3
  have h1 : MemCanon s s1 := by simp +contextual [s1]
  clear_value s1
  have h3 : MemSame s1 s3 := by
    simp only [s3, s2]
    split <;> simp
  clear_value s3
  have h : MemCanon s s3 := h1.trans h3.canon
  exact MemCanon.ite (MemCanon.ite (h.trans (State.writeLoadCopy_memCanon ..)) h) (MemSame.canon (by simp))

@[simp] theorem State.spoil_memCanon (s : State) (l : List (Nat × Bytes)) : MemCanon s (s.spoil l) := by
  simp +contextual [State.spoil]

@[simp] theorem State.failLoad_memCanon (s : State) (l : Loading) (detail : Nat) : MemCanon s (s.failLoad l detail) := by
  unfold State.failLoad
  extract_lets r r2 s1 s2 core _ s3
  have h1 : MemSame s s1 := by simp [s1, r2, r]
  clear_value s1
  have h2 : MemCanon s1 s2 := by simp +contextual [s2]
  clear_value s2
  exact (h1.canon.trans h2).trans (by simp +contextual [s3])

@[simp] theorem State.cmdStart_memCanon (s : State) : OkCanon s s.cmdStart := by
  simp +contextual [State.cmdStart]

@[simp] theorem State.cmdUnload_memCanon (s : State) : OkCanon s s.cmdUnload := by
  simp +contextual [State.cmdUnload]

@[simp] theorem State.cmdStage_memCanon (s : State) (b : Bytes) : OkCanon s (s.cmdStage b) := by
  simp +contextual [State.cmdStage]

@[simp] theorem State.clearStage_memCanon (s : State) : MemCanon s s.clearStage := by
  simp [State.clearStage]

@[simp] theorem State.cmdFwStage_memCanon (s : State) (b : Bytes) : OkCanon s (s.cmdFwStage b) := by
  simp +contextual [State.cmdFwStage]

@[simp] theorem State.cmdHold_memCanon (s : State) : OkCanon s s.cmdHold := by
  simp +contextual [State.cmdHold]

@[simp] theorem State.cmdResume_memCanon (s : State) : OkCanon s s.cmdResume := by
  simp +contextual [State.cmdResume]

@[simp] theorem State.cmdBringup_memSame (s : State) : MemSame s s.cmdBringup := by
  simp [State.cmdBringup]

@[simp] theorem State.cmdWarmReset_memCanon (s : State) : MemCanon s s.cmdWarmReset := by
  simp +contextual [State.cmdWarmReset]

@[simp] theorem State.cmdSimmer_memCanon (s : State) : OkCanon s s.cmdSimmer := by
  unfold State.cmdSimmer
  split
  · simp
  extract_lets s1 off _ _ s2
  rw [okCanon_ok]
  have h1 : MemCanon s s1 := foldl_memCanon (fun s i => by
    simp only
    (repeat' split) <;> simp +contextual) _ s
  clear_value s1
  refine h1.trans ?_
  simp +contextual [s2]

@[simp] theorem State.cmdBringupCommand_memCanon (s : State) (v : Nat) : OkCanon s (s.cmdBringupCommand v) := by
  simp +contextual [State.cmdBringupCommand]

@[simp] theorem State.cmdRestart_memCanon (s : State) : OkCanon s s.cmdRestart := by
  simp +contextual [State.cmdRestart]

@[simp] theorem State.cmdDiscard_memCanon (s : State) : OkCanon s s.cmdDiscard := by
  simp +contextual [State.cmdDiscard]

@[simp] theorem State.cmdLiveUpdate_memCanon (s : State) : OkCanon s s.cmdLiveUpdate := by
  simp +contextual [State.cmdLiveUpdate]

@[simp] theorem State.cmdWriteOnly_memCanon (s : State) (ok : Bool) : OkCanon s (s.cmdWriteOnly ok) := by
  simp only [State.cmdWriteOnly]
  (repeat' split) <;> simp +contextual

@[simp] theorem State.thaw_memSame (s : State) (k : Nat) : MemSame s (s.thaw k) := by
  unfold State.thaw
  split <;> simp

@[simp] theorem State.cmdUnfreezeCore_memSame (s : State) (v : Nat) : MemSame s (s.cmdUnfreezeCore v) := by
  unfold State.cmdUnfreezeCore
  (repeat' split) <;> simp

@[simp] theorem State.cmdUnfreezePanel_memSame (s : State) (p : Nat) : MemSame s (s.cmdUnfreezePanel p) := by
  simp [State.cmdUnfreezePanel]

@[simp] theorem State.cmdUnfreezeCredential_memSame (s : State) (v : Nat) : MemSame s (s.cmdUnfreezeCredential v) := by
  simp [State.cmdUnfreezeCredential]

@[simp] theorem State.headTest_memSame (s : State) (site : Nat) : MemSame s (s.headTest site) := ⟨rfl, rfl, rfl, rfl, rfl⟩

@[simp] theorem State.cmdRelease_memCanon (s : State) (site : Nat) : OkCanon s (s.cmdRelease site) := by
  simp +contextual [State.cmdRelease]

@[simp] theorem State.cmdTestNow_memCanon (s : State) (site : Nat) : OkCanon s (s.cmdTestNow site) := by
  simp +contextual [State.cmdTestNow]

@[simp] theorem State.cmdLinkBringup_memSame (s : State) (d : Nat) : MemSame s (s.cmdLinkBringup d) := by
  simp [State.cmdLinkBringup]

@[simp] theorem State.cmdRoleInstall_memSame (s : State) (b : Bytes) : MemSame s (s.cmdRoleInstall b) := by
  unfold State.cmdRoleInstall
  split <;> simp

@[simp] theorem State.cmdRoleRemove_memCanon (s : State) (e : Nat) : OkCanon s (s.cmdRoleRemove e) := by
  simp +contextual [State.cmdRoleRemove]

@[simp] theorem State.cmdOwnerInstall_memSame (s : State) (b : Bytes) :
    MemSame s (s.cmdOwnerInstall b) := ⟨rfl, rfl, rfl, rfl, rfl⟩

@[simp] theorem State.cmdOwnerRemove_memSame (s : State) (i : Nat) : MemSame s (s.cmdOwnerRemove i) := ⟨rfl, rfl, rfl, rfl, rfl⟩

@[simp] theorem State.cmdCalSet_memCanon (s : State) (i : Nat) (b : Bytes) : OkCanon s (s.cmdCalSet i b) := by
  simp +contextual [State.cmdCalSet]

@[simp] theorem State.cmdCap_memCanon (s : State) (amps : Bool) (k v : Nat) : OkCanon s (s.cmdCap amps k v) := by
  simp +contextual [State.cmdCap]

@[simp] theorem State.cmdCoolant_memSame (s : State) (k v : Nat) : MemSame s (s.cmdCoolant k v) := by
  simp [State.cmdCoolant]

@[simp] theorem State.effect_memCanon (s : State) (x : Session) (k : Nat) (ty : ObjTy) (b : Bytes) (ok : Bool) :
    OkCanon s (s.effect x k ty b ok) := by
  unfold State.effect
  extract_lets v n _ _ s1
  repeat' with_reducible apply OkCanon.ite
  all_goals simp +contextual [s1]

/-! ## The object-dictionary server and the VEC slot -/

@[simp] theorem State.readEffect_memSame (s : State) (x : Session) (k off : Nat) : MemSame s (s.readEffect x k off) := by
  simp [State.readEffect]

@[simp] theorem State.dropPart_memSame (s : State) (n k : Nat) : MemSame s (s.dropPart n k) := ⟨rfl, rfl, rfl, rfl, rfl⟩

@[simp] theorem State.keepPart_memSame (s : State) (n : Nat) (p : PartVal) :
    MemSame s (s.keepPart n p) := ⟨rfl, rfl, rfl, rfl, rfl⟩

@[simp] theorem State.respond_memSame (s : State) (q : UReq) (a : Resp) : MemSame s (s.respond q a) := by
  simp [State.respond]

theorem State.sessionOf_memSame {s t : State} {n : Nat} (h : s.sessionOf n = some t) : MemSame s t := by
  obtain ⟨a, rfl⟩ := sessionOf_eq h
  exact ⟨rfl, rfl, rfl, rfl, rfl⟩

@[simp] theorem refuse_memSame (s : State) (e : Nat) : MemSame s (refuse s e).1 := ⟨rfl, rfl, rfl, rfl, rfl⟩

@[simp] theorem grant_memSame (s : State) : MemSame s (grant s).1 := ⟨rfl, rfl, rfl, rfl, rfl⟩

@[simp] theorem State.denied_memSame (s : State) (n : Nat) : MemSame s (s.denied n).1 := by
  simp [State.denied]

@[simp] theorem State.doRead_memSame (s : State) (x : Session) (q : UReq) : MemSame s (s.doRead x q).1 := by
  simp only [State.doRead]
  (repeat' split) <;> simp

@[simp] theorem State.doWrite_memCanon (s : State) (x : Session) (q : UReq) : MemCanon s (s.doWrite x q).1 := by
  unfold State.doWrite
  split
  · simp
  split
  · simp
  extract_lets
  split
  · simp
  split
  · simp
  split
  · simp
  split
  · split <;> simp
  split
  · simp
  split
  · simp
  split
  · simp
  next h => simpa using State.effect_memCanon _ _ _ _ _ _ _ h

@[simp] theorem State.doOpen_memSame (s : State) (x : Session) (q : UReq) : MemSame s (s.doOpen x q).1 := by
  simp only [State.doOpen]
  (repeat' split) <;> simp

@[simp] theorem State.doProve_memSame (s : State) (x : Session) (q : UReq) : MemSame s (s.doProve x q).1 := by
  simp only [State.doProve]
  (repeat' split) <;> simp

@[simp] theorem State.execute_memCanon (s : State) (x : Session) (q : UReq) : MemCanon s (s.execute x q).1 := by
  unfold State.execute
  (repeat' split) <;> simp +contextual

@[simp] theorem State.serve_memCanon (s : State) (q : UReq) : MemCanon s (s.serve q) := by
  unfold State.serve
  split
  · simp
  split
  · simp
  next h =>
  have ht := (State.sessionOf_memSame h).canon
  split
  · exact ht
  extract_lets seq
  split
  · exact ht.trans (MemSame.canon (by simp))
  split
  · exact ht
  · exact ht.trans (by simp +contextual +zetaDelta)

end Sys2Proof.Proofs

end

section
/-! PROOFS. The memories stay canonical through every command (O3): what each command does is put together of the
functions above. -/

open Sys2Proof Sys2Proof.Machine Sys2Proof.Claims

namespace Sys2Proof.Proofs

/-- The command keeps the memories canonical. -/
def FormKept (s : State) (o : Host.Outcome State Fault Refusal) : Prop := ∀ t, o = .next t → MemCanon s t

@[simp] theorem formKept_next (s t : State) : FormKept s (.next t) ↔ MemCanon s t := by
  simp +contextual [FormKept]

@[simp] theorem formKept_onPart (s t : State) (ok : Bool) : FormKept s (onPart ok t) ↔ (ok = true → MemCanon s t) := by
  cases ok <;> simp +contextual [FormKept, onPart]

/-- The effect of a slot operation reaches no memory: what it stores is put in flight. -/
theorem eff_memSame {c : Instr} {io : Issue} {info : State → Op} {eff : State → State} (h : slotOf c = some (io, info, eff))
    (s : State) : MemSame s (eff s) := by
  cases c <;> cases h
  case waitAc => simp [effWaitAc]
  case waitQ => simp [effWaitQ]
  case sts => simp [effSts]
  case send => simp [effSend]
  case shrd =>
    simp only [effShrd]
    split <;> simp
  all_goals exact ⟨rfl, rfl, rfl, rfl, rfl⟩

theorem slotOp_formKept {c : Instr} {io : Issue} {info : State → Op} {eff : State → State}
    (h : slotOf c = some (io, info, eff)) (s : State) : FormKept s (exec c s) := by
  rw [exec_of_slotOf h, slotOp, formKept_onPart]
  exact fun _ => present_memCanon (fun s => (eff_memSame h s).canon) s io info

/-! ## The commands that are no slot operations -/

theorem arriveAt_memSame (s : State) (p : Packet) (ty : Nat) : MemSame s (arrivalState (s.arriveAt p ty)) := by
  unfold State.arriveAt
  extract_lets u h
  have hu : MemSame s u := State.flushAll_memSame s
  clear_value u
  split
  · split <;> simp [arrivalState, hu]
  · (repeat' split) <;> simp [arrivalState, hu]

theorem State.arriveAt_over_memSame {s t : State} {p : Packet} {ty : Nat} (h : s.arriveAt p ty = .over t) :
    MemSame s t := by
  simpa [h, arrivalState] using arriveAt_memSame s p ty

theorem State.arriveAt_at_memSame {s t : State} {p : Packet} {ty k : Nat} (h : s.arriveAt p ty = .at t k) :
    MemSame s t := by
  simpa [h, arrivalState] using arriveAt_memSame s p ty

theorem execMmaComplete_formKept (core : Nat) (e : TileEnd) (s : State) : FormKept s (execMmaComplete core e s) := by
  simp only [execMmaComplete]
  (repeat' split) <;> simp +contextual

theorem execTileTransferComplete_formKept (core : Nat) (e : TileEnd) (ecc : Ecc) (s : State) :
    FormKept s (execTileTransferComplete core e ecc s) := by
  rw [execTileTransferComplete, formKept_onPart]
  intro _
  split
  next j _ =>
    extract_lets s1 s2
    have h1 : MemCanon s s1 := State.settle_memCanon ..
    clear_value s1
    have h2 : MemCanon s1 s2 := by
      simp only [s2]
      split <;> simp +contextual
    clear_value s2
    exact (h1.trans h2).trans (State.runTo_memCanon s2 core j.done)
  · exact MemCanon.refl s

theorem execFillCopyEnd_formKept (core : Nat) (s : State) : FormKept s (execFillCopyEnd core s) := by
  simp only [execFillCopyEnd]
  (repeat' split) <;> simp +contextual

theorem execResultWriteback_formKept (core : Nat) (ecc : Ecc) (s : State) :
    FormKept s (execResultWriteback core ecc s) := by
  simp only [execResultWriteback]
  (repeat' split) <;> simp +contextual

theorem execFlitInject_formKept (core ch : Nat) (s : State) : FormKept s (execFlitInject core ch s) := by
  simp only [execFlitInject]
  (repeat' split) <;> simp +contextual

theorem execMsg_formKept (p : Packet) (s : State) : FormKept s (execMsg p s) := by
  rw [execMsg, formKept_next]
  split
  next h => exact (State.arriveAt_over_memSame h).canon
  next h => simp +contextual [State.arriveAt_at_memSame h]

theorem execWin_formKept (p : Packet) (s : State) : FormKept s (execWin p s) := by
  rw [execWin, formKept_next]
  split
  next h => exact (State.arriveAt_over_memSame h).canon
  next h => simp +contextual [State.arriveAt_at_memSame h]

theorem execMcast_formKept (p : Packet) (s : State) : FormKept s (execMcast p s) := by
  rw [execMcast, formKept_next]
  split
  next h => exact (State.arriveAt_over_memSame h).canon
  next h =>
    simp only
    (repeat' split) <;> simp +contextual [State.arriveAt_at_memSame h]

theorem execBBufferFill_formKept (q : BFill) (s : State) : FormKept s (execBBufferFill q s) := by
  simp only [execBBufferFill]
  (repeat' split) <;> simp +contextual

theorem execLadle_formKept (p : Packet) (dup : Bool) (s : State) : FormKept s (execLadle p dup s) := by
  rw [execLadle, formKept_next]
  extract_lets h entry go waiting
  clear_value waiting
  split
  · simp +contextual +zetaDelta
  split
  next h => exact (State.arriveAt_over_memSame h).canon
  next h => simp +contextual +zetaDelta [State.arriveAt_at_memSame h]

theorem execShrdReq_formKept (p : Packet) (s : State) : FormKept s (execShrdReq p s) := by
  rw [execShrdReq, formKept_next]
  split
  next h => exact (State.arriveAt_over_memSame h).canon
  next h =>
    simp only
    (repeat' split) <;> simp +contextual [State.arriveAt_at_memSame h]

theorem execShrdMergeRead_formKept (core : Nat) (q : MergeRead) (s : State) :
    FormKept s (execShrdMergeRead core q s) := by
  simp only [execShrdMergeRead]
  (repeat' split) <;> simp +contextual

theorem execShrdRep_formKept (p : Packet) (s : State) : FormKept s (execShrdRep p s) := by
  rw [execShrdRep, formKept_next]
  split
  next h => exact (State.arriveAt_over_memSame h).canon
  next h => simp +contextual [State.arriveAt_at_memSame h]

theorem execQCmp_formKept (p : Packet) (err : List (BitVec 32)) (s : State) : FormKept s (execQCmp p err s) := by
  rw [execQCmp, formKept_next]
  split
  next h => exact (State.arriveAt_over_memSame h).canon
  next s0 k h =>
    have h0 : MemSame s s0 := State.arriveAt_at_memSame h
    refine h0.canon.trans ?_
    clear h h0
    extract_lets hd q idx s1 n
    split
    · exact MemSame.canon (by simp)
    next e _ =>
    split
    · exact MemCanon.refl s0
    extract_lets s2 lines bad s3 got e' s4 key _ s5 s6
    have h2 : MemSame s0 s2 := by
      simp only [s2, s1]
      split <;> simp
    clear_value s2
    have h3 : MemCanon s2 s3 := by
      simp only [s3]
      split <;> simp +contextual
    clear_value s3
    have h5 : MemSame s3 s5 := by
      simp only [s5, s4]
      split <;> simp
    clear_value s5
    refine ((h2.canon.trans h3).trans h5.canon).trans (MemSame.canon ?_)
    simp only [s6]
    (repeat' split) <;> simp

theorem execCredit_formKept (p : Packet) (s : State) : FormKept s (execCredit p s) := by
  rw [execCredit, formKept_next]
  extract_lets h n
  split
  · split <;> simp +contextual +zetaDelta
  split
  next h => exact (State.arriveAt_over_memSame h).canon
  next h => simp +contextual [State.arriveAt_at_memSame h]

theorem execCcReq_formKept (q : CcIn) (s : State) : FormKept s (execCcReq q s) := by
  unfold execCcReq
  extract_lets p h u u1 u2 _ u3
  have hu : MemSame s u := State.flushAll_memSame s
  clear_value u
  rw [formKept_next]
  refine hu.canon.trans ?_
  split
  · exact MemCanon.refl u
  split
  · exact MemSame.canon (by simp [u1])
  split
  · exact MemSame.canon (by simp [u1])
  split
  · exact MemSame.canon (by simp [u1])
  have h3 : MemSame u u3 := by simp [u3, u2, u1]
  refine h3.canon.trans ?_
  clear_value u3
  (repeat' split) <;> simp +contextual

theorem execAdmin_formKept (p : Packet) (body : AdminBody) (s : State) : FormKept s (execAdmin p body s) := by
  simp only [execAdmin]
  (repeat' split) <;> simp +contextual

theorem execCopyPacket_formKept (p : Packet) (s : State) : FormKept s (execCopyPacket p s) := by
  simp only [execCopyPacket]
  (repeat' split) <;> simp +contextual

theorem execStreamEntryStart_formKept (st : Nat) (s : State) : FormKept s (execStreamEntryStart st s) := by
  simp only [execStreamEntryStart]
  (repeat' split) <;> simp +contextual

theorem execStreamSegmentSend_formKept (q : StreamRead) (s : State) : FormKept s (execStreamSegmentSend q s) := by
  simp only [execStreamSegmentSend]
  (repeat' split) <;> simp +contextual

theorem execStreamSegmentReceive_formKept (st : Nat) (s : State) : FormKept s (execStreamSegmentReceive st s) := by
  simp only [execStreamSegmentReceive]
  (repeat' split) <;> simp +contextual

theorem execStreamEntryReadDone_formKept (st : Nat) (s : State) : FormKept s (execStreamEntryReadDone st s) := by
  simp only [execStreamEntryReadDone]
  (repeat' split) <;> simp +contextual

theorem execHintArrival_formKept (site : Nat) (s : State) : FormKept s (execHintArrival site s) := by
  simp only [execHintArrival]
  (repeat' split) <;> simp +contextual

theorem execReplayRestart_formKept (s : State) : FormKept s (execReplayRestart s) := by
  simp only [execReplayRestart]
  (repeat' split) <;> simp +contextual

theorem execAudit_formKept (err : RootErr) (s : State) : FormKept s (execAudit err s) := by
  simp only [execAudit]
  (repeat' split) <;> simp +contextual

theorem execVerdict_formKept (s : State) : FormKept s (execVerdict s) := by
  simp only [execVerdict]
  (repeat' split) <;> simp +contextual

theorem execChainAppend_formKept (s : State) : FormKept s (execChainAppend s) := by
  simp only [execChainAppend]
  (repeat' split) <;> simp +contextual

theorem execOutputRelease_formKept (s : State) : FormKept s (execOutputRelease s) := by
  simp only [execOutputRelease]
  (repeat' split) <;> simp +contextual

theorem execCertificateSign_formKept (s : State) : FormKept s (execCertificateSign s) := by
  simp only [execCertificateSign]
  (repeat' split) <;> simp +contextual

theorem execReplayDieStart_formKept (site vd : Nat) (s : State) : FormKept s (execReplayDieStart site vd s) := by
  rw [execReplayDieStart, formKept_onPart]
  intro _
  split
  · exact MemCanon.refl s
  next p _ =>
  extract_lets put _ s2
  have hput (s : State) (r : Rep) : MemCanon s (put s r) := by
    have h1 : MemCanon s ((s.setHashing site false).clearCores site) := by simp +contextual
    have h2 := ((h1.trans (State.writeCode_memCanon _ p site vd)).trans
      (State.writeLoadCopy_memCanon _ p site vd)).trans (State.writeReadBuf_memCanon _ site vd)
    simpa [put] using h2
  clear_value put
  split
  · exact MemCanon.refl s
  split
  · extract_lets s1
    exact MemCanon.trans (by simp [s1]) (hput s1 _)
  split
  · exact MemCanon.trans (by simp [s2]) (hput s2 _)
  · exact MemCanon.refl s

theorem execReplayCompare_formKept (site : Nat) (digest : Bytes) (s : State) :
    FormKept s (execReplayCompare site digest s) := by
  simp only [execReplayCompare]
  (repeat' split) <;> simp +contextual

theorem execTimepulseInEdge_formKept (s : State) : FormKept s (execTimepulseInEdge s) := by
  unfold execTimepulseInEdge
  extract_lets near off u
  have hu : MemSame s u := State.setNum_memSame ..
  rw [formKept_next]
  exact MemCanon.ite (hu.trans (State.discipline_memSame u _)).canon hu.canon

theorem execBatchSeal_formKept (inputs : Bytes) (admitted : List Nat) (table : List PageWrite) (freed : Nat) (s : State) :
    FormKept s (execBatchSeal inputs admitted table freed s) := by
  rw [execBatchSeal, formKept_next]
  split
  next p n _ _ =>
    extract_lets s1 s2 key s3
    have h2 : MemCanon s s2 := by simp +contextual [s2, s1]
    clear_value s2
    exact MemCanon.ite (MemCanon.refl s) (h2.trans (State.retainWrite_memCanon s2 p key _))
  · exact MemCanon.refl s

theorem execCheckpointCopyComplete_formKept (buf : CkBuf) (s : State) :
    FormKept s (execCheckpointCopyComplete buf s) := by
  simp only [execCheckpointCopyComplete]
  (repeat' split) <;> simp +contextual

theorem execCheckpointCommit_formKept (s : State) : FormKept s (execCheckpointCommit s) := by
  simp only [execCheckpointCommit]
  (repeat' split) <;> simp +contextual

theorem execRouteFlip_formKept (s : State) : FormKept s (execRouteFlip s) := by
  rw [execRouteFlip, formKept_next]
  split
  · simp
  extract_lets mv s1 _ s2 s3 _ _ s4 epoch _ _ s5 s6
  have h2 : MemSame s s2 := by simp [s2, s1]
  clear_value s2
  have h3 : MemCanon s2 s3 := by simp +contextual [s3]
  clear_value s3
  have h6 : MemSame s3 s6 := by simp [s6, s5, s4]
  clear_value s6
  refine ((h2.canon.trans h3).trans h6.canon).trans (MemSame.canon ?_)
  split
  · exact foldl_memSame (fun s t => by (repeat' split) <;> simp) _ s6
  · simp

theorem execFaultWord_formKept (kind : FaultKind) (s : State) : FormKept s (execFaultWord kind s) := by
  simp only [execFaultWord]
  (repeat' split) <;> simp +contextual

theorem execControlCoreLockstepMismatch_formKept (site pair : Nat) (step : Option Nat) (s : State) :
    FormKept s (execControlCoreLockstepMismatch site pair step s) := by
  rw [execControlCoreLockstepMismatch, formKept_onPart]
  intro _
  extract_lets d
  split
  · exact MemCanon.refl s
  next vd again s1 s2 s3 rep _ s4 s5 s6 _ =>
  have h3 : MemSame s s3 := by simp [s3, s2, s1]
  have h4 : MemSame s3 s4 := by
    simp only [s4]
    split <;> simp +zetaDelta
  have h5 : MemSame s4 s5 := by
    simp only [s5]
    split <;> simp
  have h6 : MemSame s5 (s6.reqMig site 2) := by simp [s6]
  exact (((h3.trans h4).trans h5).trans h6).canon

theorem execMigrationCopy_formKept (vd : Nat) (same : Bool) (s : State) : FormKept s (execMigrationCopy vd same s) := by
  simp only [execMigrationCopy]
  (repeat' split) <;> simp +contextual

theorem execMigrationCancel_formKept (vd : Nat) (s : State) : FormKept s (execMigrationCancel vd s) := by
  simp only [execMigrationCancel]
  (repeat' split) <;> simp +contextual

theorem execRecoveryRestoreDone_formKept (unavailable failing : List (Nat × Nat)) (s : State) :
    FormKept s (execRecoveryRestoreDone unavailable failing s) := by
  simp only [execRecoveryRestoreDone]
  (repeat' split) <;> simp +contextual

theorem execLostPanelHold_formKept (s : State) : FormKept s (execLostPanelHold s) := by
  simp only [execLostPanelHold]
  (repeat' split) <;> simp +contextual

theorem execPortUp_formKept (port flightNs : Nat) (s : State) : FormKept s (execPortUp port flightNs s) := by
  simp only [execPortUp]
  (repeat' split) <;> simp +contextual

theorem execResponse_formKept (sess tag off : Nat) (last : Bool) (data : Bytes) (s : State) :
    FormKept s (execResponse sess tag off last data s) := by
  simp only [execResponse]
  (repeat' split) <;> simp +contextual

theorem execObjRsp_formKept (sess : Nat) (s : State) : FormKept s (execObjRsp sess s) := by
  simp only [execObjRsp]
  (repeat' split) <;> simp +contextual

theorem execBulkWrite_formKept (sess addr : Nat) (data : Bytes) (s : State) :
    FormKept s (execBulkWrite sess addr data s) := by
  rw [execBulkWrite, formKept_next]
  split
  · simp
  next s0 h =>
  extract_lets st off code s1 s2
  have h1 : MemSame s s1 := by
    simp only [s1]
    split <;> simp [State.inband_memSame h]
  clear_value s1
  have h2 : MemCanon s1 s2 := MemCanon.ite (State.writeLines_memCanon ..) (MemCanon.refl s1)
  exact h1.canon.trans h2

theorem execCollSend_formKept (entry : Nat) (s : State) : FormKept s (execCollSend entry s) := by
  simp only [execCollSend]
  (repeat' split) <;> simp +contextual

theorem execCollData_formKept (entry frame off : Nat) (data : Bytes) (s : State) :
    FormKept s (execCollData entry frame off data s) := by
  simp only [execCollData]
  (repeat' split) <;> simp +contextual

theorem execCollResend_formKept (entry frame : Nat) (s : State) : FormKept s (execCollResend entry frame s) := by
  simp only [execCollResend]
  (repeat' split) <;> simp +contextual

theorem execTimeProbeSend_formKept (dir : Nat) (s : State) : FormKept s (execTimeProbeSend dir s) := by
  simp only [execTimeProbeSend]
  (repeat' split) <;> simp +contextual

theorem execTimeProbe_formKept (dir t1 : Nat) (s : State) : FormKept s (execTimeProbe dir t1 s) := by
  simp only [execTimeProbe]
  (repeat' split) <;> simp +contextual

theorem execHostSessionIdleClose_formKept (sess : Nat) (s : State) : FormKept s (execHostSessionIdleClose sess s) := by
  simp only [execHostSessionIdleClose]
  (repeat' split) <;> simp +contextual

theorem execRequestTimeout_formKept (sess tag : Nat) (s : State) : FormKept s (execRequestTimeout sess tag s) := by
  simp only [execRequestTimeout]
  (repeat' split) <;> simp +contextual

theorem execPanelResetN_formKept (lowNs : Nat) (s : State) : FormKept s (execPanelResetN lowNs s) := by
  unfold execPanelResetN
  rw [formKept_next]
  refine MemCanon.ite (MemCanon.refl s) ?_
  extract_lets old u v
  have hu : MemCanon s u := State.panelReset_memCanon s 1 true
  have hv : MemSame u v := ((State.resetInto_memSame ..).trans (State.meshLock_memSame _)).trans (State.simmerStacks_memSame _)
  refine hu.trans (MemCanon.ite (State.resetInto_memSame u _ _).canon (hv.canon.trans (MemCanon.ite ?_ (MemCanon.refl v))))
  exact ((State.enter_memSame v _).trans (State.startBringup_memSame _ _)).canon

theorem execPowerOnAdmit_formKept (s : State) : FormKept s (execPowerOnAdmit s) := by
  simp only [execPowerOnAdmit]
  (repeat' split) <;> simp +contextual

theorem execSoftStartEnd_formKept (site : Nat) (s : State) : FormKept s (execSoftStartEnd site s) := by
  simp only [execSoftStartEnd]
  (repeat' split) <;> simp +contextual

theorem execSensorSample_formKept (part : Part) (temps : List Int) (s : State) :
    FormKept s (execSensorSample part temps s) := by
  simp only [execSensorSample]
  (repeat' split) <;> simp +contextual

theorem execStackTempReadout_formKept (stack : Nat) (temp : Int) (s : State) :
    FormKept s (execStackTempReadout stack temp s) := by
  rw [execStackTempReadout, formKept_onPart]
  intro _
  refine MemSame.canon ?_
  split
  · exact ⟨rfl, rfl, rfl, rfl, rfl⟩
  extract_lets s1 x cool want run s2 c hot last s3
  have h3 : MemSame s s3 := by simp +zetaDelta
  clear_value s3
  split
  · split
    · split <;> simp +zetaDelta [h3]
    · simp +zetaDelta [h3]
  · simp [h3]

theorem execCoolOkLow_formKept (s : State) : FormKept s (execCoolOkLow s) := by
  simp only [execCoolOkLow]
  (repeat' split) <;> simp +contextual

theorem execQuenchEscalation_formKept (s : State) : FormKept s (execQuenchEscalation s) := by
  simp only [execQuenchEscalation]
  (repeat' split) <;> simp +contextual

theorem execQuenchEnd_formKept (s : State) : FormKept s (execQuenchEnd s) := by
  simp only [execQuenchEnd]
  (repeat' split) <;> simp +contextual

theorem execTestStart_formKept (site : Nat) (s : State) : FormKept s (execTestStart site s) := by
  simp only [execTestStart]
  (repeat' split) <;> simp +contextual

theorem execTestCornerEnd_formKept (site : Nat) (pass : Bool) (e : CornerEnd) (s : State) :
    FormKept s (execTestCornerEnd site pass e s) := by
  simp only [execTestCornerEnd]
  (repeat' split) <;> simp +contextual

theorem execBringupStageEnd_formKept (out : StageOutcome) (s : State) : FormKept s (execBringupStageEnd out s) := by
  rw [execBringupStageEnd, formKept_next]
  split
  · exact MemCanon.refl s
  next n _ =>
  split
  · exact MemCanon.refl s
  extract_lets s1 hubs s2 halt s3 bad others s4 s5 s6 s7 gone last status s8 s9
  have h3 : MemSame s s3 := by simp [s3, s2, s1]
  clear_value s3
  split
  · exact MemSame.canon (by simp [h3])
  have h4 : MemCanon s3 s4 := State.stageWork_memCanon ..
  clear_value s4
  have h9 : MemSame s4 s9 := by simp [s9, s8, s7, s6, s5]
  clear_value s9
  refine ((h3.canon.trans h4).trans h9.canon).trans (MemCanon.ite (State.stage10_memCanon s9) (MemSame.canon ?_))
  split <;> simp

theorem execLoadComplete_formKept (faultSite : Option Nat) (s : State) : FormKept s (execLoadComplete faultSite s) := by
  simp only [execLoadComplete]
  (repeat' split) <;> simp +contextual

theorem execLiveUpdateStep_formKept (ok : Bool) (s : State) : FormKept s (execLiveUpdateStep ok s) := by
  simp only [execLiveUpdateStep]
  (repeat' split) <;> simp +contextual

theorem execSegmentTimeout_formKept (sess : Nat) (s : State) : FormKept s (execSegmentTimeout sess s) := by
  simp only [execSegmentTimeout]
  (repeat' split) <;> simp +contextual

theorem execSessionHandshake_formKept (path : Nat) (cert : Bytes) (s : State) :
    FormKept s (execSessionHandshake path cert s) := by
  simp only [execSessionHandshake]
  (repeat' split) <;> simp +contextual

theorem execMgmtSessionIdleClose_formKept (sess : Nat) (s : State) : FormKept s (execMgmtSessionIdleClose sess s) := by
  simp only [execMgmtSessionIdleClose]
  (repeat' split) <;> simp +contextual

theorem execPtpMessage_formKept (port : Nat) (kind : PtpKind) (domain : Nat) (offset : Int) (s : State) :
    FormKept s (execPtpMessage port kind domain offset s) := by
  simp only [execPtpMessage]
  (repeat' split) <;> simp +contextual

theorem execConcordRetry_formKept (port : Nat) (s : State) : FormKept s (execConcordRetry port s) := by
  simp only [execConcordRetry]
  (repeat' split) <;> simp +contextual

theorem execLinkRetry_formKept (link : RetryLink) (ns : Nat) (s : State) : FormKept s (execLinkRetry link ns s) := by
  simp only [execLinkRetry]
  (repeat' split) <;> simp +contextual

theorem execLadleComplete_formKept (core entry : Nat) (e : LadleEnd) (s : State) :
    FormKept s (execLadleComplete core entry e s) := by
  rw [execLadleComplete, formKept_onPart]
  intro _
  extract_lets s1 l ovf fl s2 s3 s4 s5 s6 s7 s8
  have h1 : MemSame s s1 := State.flushAll_memSame s
  clear_value s1
  split
  · exact h1.canon
  have h2 : MemCanon s1 s2 := by
    simp only [s2]
    split
    · exact State.spadWrite_memCanon ..
    · exact ((State.spadWrite_memCanon ..).trans (State.spadWrite_memCanon ..)).trans (State.spadWrite_memCanon ..)
  clear_value s2
  have h4 : MemCanon s2 s4 := by simp +contextual [s4, s3]
  clear_value s4
  refine ((h1.canon.trans h2).trans h4).trans (MemSame.canon ?_)
  have h8 : MemSame s4 s8 := by
    simp only [s8, s7, s6, s5]
    (repeat' split) <;> simp
  clear_value s8
  split <;> simp [h8]

theorem execQReq_formKept (p : Packet) (err : List (BitVec 32)) (rot : List Nat) (s : State) :
    FormKept s (execQReq p err rot s) := by
  simp +contextual [execQReq]

theorem execGovernorTick_formKept (site : Nat) (s : State) : FormKept s (execGovernorTick site s) := by
  rw [execGovernorTick, formKept_onPart]
  exact fun _ => MemSame.canon (by simp)

theorem execAuditCountTimeout_formKept (port : Nat) (s : State) : FormKept s (execAuditCountTimeout port s) := by
  rw [execAuditCountTimeout, formKept_onPart]
  exact fun _ => MemSame.canon (by simp)

theorem execTimeReply_formKept (dir t1 t2 t3 : Nat) (s : State) : FormKept s (execTimeReply dir t1 t2 t3 s) := by
  rw [execTimeReply, formKept_onPart]
  intro _
  refine MemSame.canon ?_
  split
  · simp
  extract_lets off s1 s2 s3 lim x bad good s4 s5 _ s6
  have h2 : MemSame s s2 := by simp [s2, s1]
  clear_value s2
  split
  · exact h2
  have h5 : MemSame s2 s5 := by
    simp only [s5, s4, s3]
    split <;> simp
  clear_value s5
  have h6 : MemSame s5 s6 := by
    simp only [s6]
    split <;> simp
  clear_value s6
  exact ((h2.trans h5).trans h6).trans (State.follow_memSame ..)

theorem execGlpFrameReceive_formKept (port : Nat) (f : GlpFrame) (s : State) :
    FormKept s (execGlpFrameReceive port f s) := by
  rw [execGlpFrameReceive, formKept_onPart]
  exact fun _ => MemSame.canon (by (repeat' split) <;> simp)

theorem execVinSample_formKept (hub mv : Nat) (s : State) : FormKept s (execVinSample hub mv s) := by
  rw [execVinSample, formKept_onPart]
  intro _
  split
  · exact MemCanon.refl s
  extract_lets s1 _ _ h bad low high s2 s3 note w4 _ s4 w5 s5
  refine (MemSame.canon (s := s) (t := s1) (by simp [s1])).trans ?_
  clear_value s1
  split
  · exact MemSame.canon (by simp)
  have h3 : MemSame s1 s3 := by simp [s3, s2]
  clear_value s3
  refine h3.canon.trans (MemCanon.ite (State.vinDown_memCanon s3) (MemSame.canon ?_))
  have h4 : MemSame s3 s4 := by
    simp only [s4]
    split <;> simp [w4]
  clear_value s4
  have h5 : MemSame s3 s5 := by
    simp only [s5]
    split <;> simp [w5, h4]
  clear_value s5
  split <;> exact h5

theorem execEfuseOpen_formKept (site : Nat) (s : State) : FormKept s (execEfuseOpen site s) := by
  rw [execEfuseOpen, formKept_onPart]
  intro _
  extract_lets d soft s1 _ s2
  split
  · exact MemCanon.refl s
  have h2 : MemSame s s2 := by
    simp only [s2, s1]
    split <;> simp
  clear_value s2
  exact h2.canon.trans (MemCanon.ite (State.excludeSite_memSame ..).canon (State.dieLoss_memCanon ..))

theorem execSlotTick_formKept (missed : List Nat) (s : State) : FormKept s (execSlotTick missed s) := by
  simp +contextual [execSlotTick]

theorem execSlotDescriptorPost_formKept (s : State) : FormKept s (execSlotDescriptorPost s) := by
  simp +contextual [execSlotDescriptorPost]

theorem execMeshPhaseCompare_formKept (hub : Nat) (phases : List Int) (s : State) :
    FormKept s (execMeshPhaseCompare hub phases s) := by
  simp +contextual [execMeshPhaseCompare]

theorem execClockLoss_formKept (site : Nat) (s : State) : FormKept s (execClockLoss site s) := by
  simp +contextual [execClockLoss]

theorem execSpadModeChange_formKept (site : Nat) (hashing : Bool) (s : State) :
    FormKept s (execSpadModeChange site hashing s) := by
  simp +contextual [execSpadModeChange]

theorem execSyncLinkDown_formKept (q : LinkWords) (s : State) : FormKept s (execSyncLinkDown q s) := by
  simp +contextual [execSyncLinkDown]

theorem execVinLoss_formKept (s : State) : FormKept s (execVinLoss s) := by
  simp +contextual [execVinLoss]

theorem execAuxPgoodRise_formKept (s : State) : FormKept s (execAuxPgoodRise s) := by
  simp +contextual [execAuxPgoodRise]

theorem execAuxPgoodFall_formKept (s : State) : FormKept s (execAuxPgoodFall s) := by
  simp +contextual [execAuxPgoodFall]

theorem execLossOfRegulation_formKept (site : Nat) (s : State) : FormKept s (execLossOfRegulation site s) := by
  simp +contextual [execLossOfRegulation]

theorem execObjReq_formKept (sess : Nat) (message : Bytes) (s : State) : FormKept s (execObjReq sess message s) := by
  simp +contextual [execObjReq]

theorem execRingRecordPlace_formKept (core ch : Nat) (s : State) : FormKept s (execRingRecordPlace core ch s) := by
  simp +contextual [execRingRecordPlace]

theorem execCcRep_formKept (p : Packet) (s : State) : FormKept s (execCcRep p s) := by
  simp [execCcRep]

theorem execStreamCreditReturn_formKept (st : Nat) (s : State) : FormKept s (execStreamCreditReturn st s) := by
  simp [execStreamCreditReturn]

theorem execRefreshWindow_formKept (s : State) : FormKept s (execRefreshWindow s) := by
  simp [execRefreshWindow]

theorem execOpSwitch_formKept (s : State) : FormKept s (execOpSwitch s) := by
  simp [execOpSwitch]

theorem execClockStretch_formKept (site ns safe : Nat) (s : State) : FormKept s (execClockStretch site ns safe s) := by
  simp [execClockStretch]

theorem execSafePointChange_formKept (site point : Nat) (s : State) : FormKept s (execSafePointChange site point s) := by
  simp [execSafePointChange]

theorem execRefclkLoss_formKept (input : RefIn) (s : State) : FormKept s (execRefclkLoss input s) := by
  simp [execRefclkLoss]

theorem execRefclkReturn_formKept (s : State) : FormKept s (execRefclkReturn s) := by
  simp [execRefclkReturn]

theorem execTimepulseOut_formKept (s : State) : FormKept s (execTimepulseOut s) := by
  simp [execTimepulseOut]

theorem execRouteFlipAnnounce_formKept (count : Nat) (s : State) : FormKept s (execRouteFlipAnnounce count s) := by
  simp [execRouteFlipAnnounce]

theorem execDrainedWord_formKept (site : Nat) (s : State) : FormKept s (execDrainedWord site s) := by
  simp [execDrainedWord]

theorem execPortDown_formKept (port : Nat) (s : State) : FormKept s (execPortDown port s) := by
  simp [execPortDown]

theorem execSubmit_formKept (sess tag off : Nat) (last : Bool) (data : Bytes) (s : State) :
    FormKept s (execSubmit sess tag off last data s) := by
  simp [execSubmit]

theorem execNoticeFinal_formKept (s : State) : FormKept s (execNoticeFinal s) := by
  simp [execNoticeFinal]

theorem execNoticeRevoke_formKept (s : State) : FormKept s (execNoticeRevoke s) := by
  simp [execNoticeRevoke]

theorem execNoticeCert_formKept (s : State) : FormKept s (execNoticeCert s) := by
  simp [execNoticeCert]

theorem execBulkAck_formKept (sess addr status : Nat) (s : State) : FormKept s (execBulkAck sess addr status s) := by
  simp [execBulkAck]

theorem execCollAck_formKept (entry frame bytes : Nat) (s : State) : FormKept s (execCollAck entry frame bytes s) := by
  simp [execCollAck]

theorem execAuditCount_formKept (port slot : Nat) (counts : List Nat) (s : State) :
    FormKept s (execAuditCount port slot counts s) := by
  simp [execAuditCount]

theorem execFaultFlag_formKept (panel : Nat) (kind : Nat) (s : State) : FormKept s (execFaultFlag panel kind s) := by
  simp [execFaultFlag]

theorem execConcord_formKept (port : Nat) (record cert : Bytes) (s : State) : FormKept s (execConcord port record cert s) := by
  simp [execConcord]

theorem execNak_formKept (port lack : Nat) (s : State) : FormKept s (execNak port lack s) := by
  simp [execNak]

theorem execIdle_formKept (port : Nat) (s : State) : FormKept s (execIdle port s) := by
  simp [execIdle]

theorem execNeighborSolicitation_formKept (port : Nat) (addr : Bytes) (s : State) :
    FormKept s (execNeighborSolicitation port addr s) := by
  simp [execNeighborSolicitation]

theorem execEchoRequest_formKept (port : Nat) (addr : Bytes) (s : State) : FormKept s (execEchoRequest port addr s) := by
  simp [execEchoRequest]

theorem execLowRateLaneFallback_formKept (portDie : Nat) (s : State) : FormKept s (execLowRateLaneFallback portDie s) := by
  simp [execLowRateLaneFallback]

theorem execVinPgoodRise_formKept (vinMv : Nat) (s : State) : FormKept s (execVinPgoodRise vinMv s) := by
  simp [execVinPgoodRise]

theorem execIvrPhaseFault_formKept (site quadrant phase : Nat) (s : State) :
    FormKept s (execIvrPhaseFault site quadrant phase s) := by
  simp [execIvrPhaseFault]

theorem execIrDropSample_formKept (site point dropMv modelMv : Nat) (s : State) :
    FormKept s (execIrDropSample site point dropMv modelMv s) := by
  simp [execIrDropSample]

theorem execTrivetTakeover_formKept (s : State) : FormKept s (execTrivetTakeover s) := by
  simp [execTrivetTakeover]

theorem execCoolantStale_formKept (s : State) : FormKept s (execCoolantStale s) := by
  simp [execCoolantStale]

theorem execSeHalfFail_formKept (half : Nat) (s : State) : FormKept s (execSeHalfFail half s) := by
  simp [execSeHalfFail]

theorem execRefclkInputGood_formKept (input : RefIn) (s : State) : FormKept s (execRefclkInputGood input s) := by
  simp [execRefclkInputGood]

theorem execFieldTestDue_formKept (site : Nat) (s : State) : FormKept s (execFieldTestDue site s) := by
  simp [execFieldTestDue]

theorem execSeHalfRecover_formKept (half : Nat) (s : State) : FormKept s (execSeHalfRecover half s) := by
  simp [execSeHalfRecover]

theorem execMgmtPhyResetRelease_formKept (port : Nat) (s : State) : FormKept s (execMgmtPhyResetRelease port s) := by
  simp [execMgmtPhyResetRelease]

/-- What the object-dictionary server does for a request keeps the memories canonical. -/
theorem formKept_of_serve {s : State} {o : Host.Outcome State Fault Refusal} {q : UReq} (h : o = .next (s.serve q)) :
    FormKept s o := by
  rw [h, formKept_next]
  exact State.serve_memCanon s q

/-- The work of cores and of the mesh that is no slot operation keeps the memories canonical. -/
theorem eventWork_formKept {c : Instr} (hs : slotOf c = none) (hc : coreWork c = true) (s : State) :
    FormKept s (exec c s) := by
  cases c <;> cases hs
  case mmaComplete core e => exact execMmaComplete_formKept core e s
  case tileTransferComplete core e ecc => exact execTileTransferComplete_formKept core e ecc s
  case fillCopyEnd core => exact execFillCopyEnd_formKept core s
  case resultWriteback core ecc => exact execResultWriteback_formKept core ecc s
  case flitInject core ch => exact execFlitInject_formKept core ch s
  case msg p => exact execMsg_formKept p s
  case win p => exact execWin_formKept p s
  case mcast p => exact execMcast_formKept p s
  case bBufferFill q => exact execBBufferFill_formKept q s
  case ladle p dup => exact execLadle_formKept p dup s
  case shrdReq p => exact execShrdReq_formKept p s
  case shrdMergeRead core q => exact execShrdMergeRead_formKept core q s
  case shrdRep p => exact execShrdRep_formKept p s
  case qReq p err rot => exact execQReq_formKept p err rot s
  case qCmp p err => exact execQCmp_formKept p err s
  case credit p => exact execCredit_formKept p s
  case ccReq q => exact execCcReq_formKept q s
  case admin p body => exact execAdmin_formKept p body s
  case copyPacket p => exact execCopyPacket_formKept p s
  case streamEntryStart st => exact execStreamEntryStart_formKept st s
  case streamSegmentSend q => exact execStreamSegmentSend_formKept q s
  case streamSegmentReceive st => exact execStreamSegmentReceive_formKept st s
  case streamEntryReadDone st => exact execStreamEntryReadDone_formKept st s
  case ladleComplete core entry e => exact execLadleComplete_formKept core entry e s
  case ccRep p => exact execCcRep_formKept p s
  case streamCreditReturn st => exact execStreamCreditReturn_formKept st s
  case ringRecordPlace core ch => exact execRingRecordPlace_formKept core ch s
  all_goals cases hc

/-- So do the commands that no core or mesh works by: those of the panel and of its hosts. -/
theorem eventPanel_formKept {c : Instr} (hs : slotOf c = none) (hc : coreWork c = false) (s : State) :
    FormKept s (exec c s) := by
  cases c <;> cases hs
  case load | start | unload | stageData | stageClear | hold | resume | bringupStart | warmReset | enterSimmer
      | recoveryRestart | recoveryDiscard | fwStageData | liveUpdate | fwWriteOnly | certOnDemand | unfreezeCore
      | unfreezePanel | unfreezeCredential | quarantineRelease | testNow | settingsClear | linkBringup | roleKeyInstall
      | roleKeyRemove | ownerKeyInstall | ownerKeyRemove | calSetWrite | calSetExport | quoteNonce | quote | objectWrite
      | openS | prove | close | objectRead => exact formKept_of_serve rfl
  case hintArrival site => exact execHintArrival_formKept site s
  case replayRestart => exact execReplayRestart_formKept s
  case audit err => exact execAudit_formKept err s
  case verdict => exact execVerdict_formKept s
  case chainAppend => exact execChainAppend_formKept s
  case outputRelease => exact execOutputRelease_formKept s
  case certificateSign => exact execCertificateSign_formKept s
  case replayDieStart site vd => exact execReplayDieStart_formKept site vd s
  case replayCompare site digest => exact execReplayCompare_formKept site digest s
  case timepulseInEdge => exact execTimepulseInEdge_formKept s
  case batchSeal inputs admitted table freed => exact execBatchSeal_formKept inputs admitted table freed s
  case checkpointCopyComplete buf => exact execCheckpointCopyComplete_formKept buf s
  case checkpointCommit => exact execCheckpointCommit_formKept s
  case routeFlip => exact execRouteFlip_formKept s
  case faultWord kind => exact execFaultWord_formKept kind s
  case controlCoreLockstepMismatch site pair step => exact execControlCoreLockstepMismatch_formKept site pair step s
  case migrationCopy vd same => exact execMigrationCopy_formKept vd same s
  case migrationCancel vd => exact execMigrationCancel_formKept vd s
  case recoveryRestoreDone unavailable failing => exact execRecoveryRestoreDone_formKept unavailable failing s
  case lostPanelHold => exact execLostPanelHold_formKept s
  case portUp port flightNs => exact execPortUp_formKept port flightNs s
  case response sess tag off last data => exact execResponse_formKept sess tag off last data s
  case objRsp sess => exact execObjRsp_formKept sess s
  case bulkWrite sess addr data => exact execBulkWrite_formKept sess addr data s
  case collSend entry => exact execCollSend_formKept entry s
  case collData entry frame off data => exact execCollData_formKept entry frame off data s
  case collResend entry frame => exact execCollResend_formKept entry frame s
  case timeProbeSend dir => exact execTimeProbeSend_formKept dir s
  case timeProbe dir t1 => exact execTimeProbe_formKept dir t1 s
  case hostSessionIdleClose sess => exact execHostSessionIdleClose_formKept sess s
  case requestTimeout sess tag => exact execRequestTimeout_formKept sess tag s
  case panelResetN lowNs => exact execPanelResetN_formKept lowNs s
  case powerOnAdmit => exact execPowerOnAdmit_formKept s
  case softStartEnd site => exact execSoftStartEnd_formKept site s
  case sensorSample part temps => exact execSensorSample_formKept part temps s
  case stackTempReadout stack temp => exact execStackTempReadout_formKept stack temp s
  case coolOkLow => exact execCoolOkLow_formKept s
  case quenchEscalation => exact execQuenchEscalation_formKept s
  case quenchEnd => exact execQuenchEnd_formKept s
  case testStart site => exact execTestStart_formKept site s
  case testCornerEnd site pass e => exact execTestCornerEnd_formKept site pass e s
  case bringupStageEnd out => exact execBringupStageEnd_formKept out s
  case loadComplete faultSite => exact execLoadComplete_formKept faultSite s
  case liveUpdateStep ok => exact execLiveUpdateStep_formKept ok s
  case segmentTimeout sess => exact execSegmentTimeout_formKept sess s
  case sessionHandshake path cert => exact execSessionHandshake_formKept path cert s
  case mgmtSessionIdleClose sess => exact execMgmtSessionIdleClose_formKept sess s
  case ptpMessage port kind domain offset => exact execPtpMessage_formKept port kind domain offset s
  case concordRetry port => exact execConcordRetry_formKept port s
  case linkRetry link ns => exact execLinkRetry_formKept link ns s
  case governorTick site => exact execGovernorTick_formKept site s
  case auditCountTimeout port => exact execAuditCountTimeout_formKept port s
  case timeReply dir t1 t2 t3 => exact execTimeReply_formKept dir t1 t2 t3 s
  case glpFrameReceive port f => exact execGlpFrameReceive_formKept port f s
  case vinSample hub mv => exact execVinSample_formKept hub mv s
  case efuseOpen site => exact execEfuseOpen_formKept site s
  case slotTick missed => exact execSlotTick_formKept missed s
  case slotDescriptorPost => exact execSlotDescriptorPost_formKept s
  case meshPhaseCompare hub phases => exact execMeshPhaseCompare_formKept hub phases s
  case clockLoss site => exact execClockLoss_formKept site s
  case spadModeChange site hashing => exact execSpadModeChange_formKept site hashing s
  case syncLinkDown q => exact execSyncLinkDown_formKept q s
  case vinLoss => exact execVinLoss_formKept s
  case auxPgoodRise => exact execAuxPgoodRise_formKept s
  case auxPgoodFall => exact execAuxPgoodFall_formKept s
  case lossOfRegulation site => exact execLossOfRegulation_formKept site s
  case objReq sess message => exact execObjReq_formKept sess message s
  case refreshWindow => exact execRefreshWindow_formKept s
  case opSwitch => exact execOpSwitch_formKept s
  case clockStretch site ns safe => exact execClockStretch_formKept site ns safe s
  case safePointChange site point => exact execSafePointChange_formKept site point s
  case refclkLoss input => exact execRefclkLoss_formKept input s
  case refclkReturn => exact execRefclkReturn_formKept s
  case timepulseOut => exact execTimepulseOut_formKept s
  case routeFlipAnnounce count => exact execRouteFlipAnnounce_formKept count s
  case drainedWord site => exact execDrainedWord_formKept site s
  case portDown port => exact execPortDown_formKept port s
  case submit sess tag off last data => exact execSubmit_formKept sess tag off last data s
  case noticeFinal => exact execNoticeFinal_formKept s
  case noticeRevoke => exact execNoticeRevoke_formKept s
  case noticeCert => exact execNoticeCert_formKept s
  case bulkAck sess addr status => exact execBulkAck_formKept sess addr status s
  case collAck entry frame bytes => exact execCollAck_formKept entry frame bytes s
  case auditCount port slot counts => exact execAuditCount_formKept port slot counts s
  case faultFlag panel kind => exact execFaultFlag_formKept panel kind s
  case concord port record cert => exact execConcord_formKept port record cert s
  case nak port lack => exact execNak_formKept port lack s
  case idle port => exact execIdle_formKept port s
  case neighborSolicitation port addr => exact execNeighborSolicitation_formKept port addr s
  case echoRequest port addr => exact execEchoRequest_formKept port addr s
  case lowRateLaneFallback portDie => exact execLowRateLaneFallback_formKept portDie s
  case vinPgoodRise vinMv => exact execVinPgoodRise_formKept vinMv s
  case ivrPhaseFault site quadrant phase => exact execIvrPhaseFault_formKept site quadrant phase s
  case irDropSample site point dropMv modelMv => exact execIrDropSample_formKept site point dropMv modelMv s
  case trivetTakeover => exact execTrivetTakeover_formKept s
  case coolantStale => exact execCoolantStale_formKept s
  case seHalfFail half => exact execSeHalfFail_formKept half s
  case refclkInputGood input => exact execRefclkInputGood_formKept input s
  case fieldTestDue site => exact execFieldTestDue_formKept site s
  case seHalfRecover half => exact execSeHalfRecover_formKept half s
  case mgmtPhyResetRelease port => exact execMgmtPhyResetRelease_formKept port s
  all_goals cases hc

theorem exec_formKept (c : Instr) (s : State) : FormKept s (exec c s) := by
  cases h : slotOf c with
  | none =>
    cases hc : coreWork c with
    | true => exact eventWork_formKept h hc s
    | false => exact eventPanel_formKept h hc s
  | some r => exact slotOp_formKept h s


/-! ## The invariant -/

theorem memWf_iff (s : State) : s.memWf = true ↔
    Memory.wf s.spad = true ∧ Memory.wf s.hbm = true ∧ Memory.wf s.stage = true ∧ Memory.wf s.fwStage = true ∧
      CodeWf s.imem = true := by
  simp [State.memWf, CodeWf, and_assoc]

theorem MemCanon.memWf {s t : State} (h : MemCanon s t) (hs : s.memWf = true) : t.memWf = true := by
  obtain ⟨hspad, hhbm, himem, hstage, hfw⟩ := h
  obtain ⟨wspad, whbm, wstage, wfw, wimem⟩ := (memWf_iff s).mp hs
  exact (memWf_iff t).mpr ⟨hspad wspad, hhbm whbm, hstage wstage, hfw wfw, himem wimem⟩

/-- Settles O3: no function on the state writes a memory but by the operations that keep its form, whichever command a step
runs. -/
theorem memoryCanonical : Obligations.memory_canonical := by
  unfold Obligations.memory_canonical
  intro s t hs h
  cases hp : s.pending with
  | nil =>
    rw [step, hp] at h
    cases h
    exact hs
  | cons c rest =>
    rw [step, hp] at h
    exact (exec_formKept c { s with pending := rest } t h).memWf hs

end Sys2Proof.Proofs

end

section
/-! PROOFS. FILL and COPY (06 R157): the transfer that each starts where it issues, and what its end writes. -/

open Sys2Proof Sys2Proof.Machine Sys2Proof.Claims

namespace Sys2Proof.Proofs

theorem IssueNoted.mem {c d : Core} (h : IssueNoted c d) : d.mem = c.mem := by
  obtain ⟨_, _, _, _, _, rfl⟩ := h
  rfl

theorem noteStore_mem (s : State) (k a : Nat) (b : Bytes) (c : Core) : (s.noteStore k a b c).mem = c.mem := by simp

/-- A FILL that issues starts one transfer, of the register's value over the destination's lines. -/
theorem mem_effFill (k : Nat) (f : MovF) (s : State) :
    ∃ j, ((effFill k f s).core k).mem = (s.core k).mem ++ [j] ∧ j.fill = true ∧ j.len = movLen f ∧
      j.dst = s.phys k (alignTo 64 (movEa (s.core k) f)) ∧ j.value = (s.core k).sreg f.rb.toNat := by
  rw [effFill, State.core_setCore_same, noteStore_mem]
  exact ⟨_, rfl, rfl, rfl, rfl, rfl⟩

/-- A COPY that issues starts one transfer, from the source's lines to the destination's. -/
theorem mem_effCopy (k : Nat) (f : MovF) (s : State) :
    ∃ j, ((effCopy k f s).core k).mem = (s.core k).mem ++ [j] ∧ j.fill = false ∧ j.len = movLen f ∧
      j.dst = s.phys k (alignTo 64 (movEa (s.core k) f)) ∧ j.src = s.phys k (copySrc (s.core k) f) := by
  unfold effCopy
  extract_lets c vd d a n t rd wr c1 c2
  clear_value rd wr
  have h1 : c1.mem = (s.core k).mem := by simp [c1, c]
  clear_value c1
  rw [State.core_setCore_same, noteStore_mem]
  exact ⟨_, congrArg (· ++ _) h1, rfl, rfl, rfl, rfl⟩

theorem fill_answers (io : Issue) (f : MovF) (s : State) (hi : s.issues io (infoFill io.core f) = true) :
    answers (.fill io f) s (fun t =>
      ∃ j, (t.core io.core).mem = (before s io).mem ++ [j] ∧ j.fill = true ∧ j.len = movLen f ∧
        j.dst = (s.atIssue io).phys io.core (alignTo 64 (movEa (before s io) f)) ∧ j.value = (before s io).sreg f.rb.toNat ∧
        sameRegs (before s io) (t.core io.core) ∧ sameMem (s.atIssue io) t) := by
  refine answers_of_issues rfl hi fun t hnoted hregs hmem _ => ?_
  obtain ⟨j, hj, hfill, hlen, hdst, hvalue⟩ := mem_effFill io.core f (s.atIssue io)
  exact ⟨j, hnoted.mem.trans hj, hfill, hlen, hdst, hvalue, hregs, hmem⟩

theorem copy_answers (io : Issue) (f : MovF) (s : State) (hi : s.issues io (infoCopy io.core f) = true) :
    answers (.copy io f) s (fun t =>
      ∃ j, (t.core io.core).mem = (before s io).mem ++ [j] ∧ j.fill = false ∧ j.len = movLen f ∧
        j.dst = (s.atIssue io).phys io.core (alignTo 64 (movEa (before s io) f)) ∧
        j.src = (s.atIssue io).phys io.core (copySrc (before s io) f) ∧
        sameRegs (before s io) (t.core io.core) ∧ sameMem (s.atIssue io) t) := by
  refine answers_of_issues rfl hi fun t hnoted hregs hmem _ => ?_
  obtain ⟨j, hj, hfill, hlen, hdst, hsrc⟩ := mem_effCopy io.core f (s.atIssue io)
  exact ⟨j, hnoted.mem.trans hj, hfill, hlen, hdst, hsrc, hregs, hmem⟩

/-! ## The end of the transfer -/

/-- The bytes that a FILL or COPY has written when it ends. -/
def memBytes (s : State) (k : Nat) (j : MemJob) : Bytes :=
  if j.fill then (List.range (j.len / 8)).flatMap (fun _ => bytesLE 8 j.value.toNat) else s.spadRead k j.src j.len

theorem length_memBytes {s : State} {k : Nat} {j : MemJob} (h : j.len % 8 = 0) : (memBytes s k j).length = j.len := by
  unfold memBytes
  split
  · have hlen (n : Nat) : (bytesLE 8 n).length = 8 := by simp [bytesLE]
    simp [List.length_flatMap, hlen]
    omega
  · simp [State.spadRead, readBytes]

theorem memEnd_spad_memBytes (s : State) (k : Nat) (j : MemJob) :
    (s.memEnd k j).spad = writeBytes s.spad (spadKey k j.dst) (memBytes s k j) := memEnd_spad s k j

theorem spadRead_memEnd_dst {s : State} {k : Nat} {j : MemJob} (h : j.len % 8 = 0) :
    (s.memEnd k j).spadRead k j.dst j.len = memBytes s k j := by
  rw [State.spadRead, memEnd_spad_memBytes]
  conv_lhs => rw [← length_memBytes (s := s) (k := k) h]
  exact readBytes_writeBytes ..

theorem spadRead_memEnd_other {s : State} {k a c : Nat} {j : MemJob} (h : j.len % 8 = 0)
    (hout : spadKey c a < spadKey k j.dst ∨ spadKey k j.dst + j.len ≤ spadKey c a) :
    (s.memEnd k j).spadRead c a 1 = s.spadRead c a 1 := by
  have hne : ¬ (spadKey k j.dst ≤ spadKey c a ∧ spadKey c a < spadKey k j.dst + (memBytes s k j).length) := by
    rw [length_memBytes h]
    omega
  simp [State.spadRead, memEnd_spad_memBytes, readBytes, get_writeBytes, hne]

/-- Settles O21: one job starts where a FILL or COPY issues, and its end writes the job's bytes and no others. -/
theorem fillCopy : Obligations.fill_copy := by
  unfold Obligations.fill_copy
  exact ⟨fill_answers, copy_answers, fun _ _ _ _ _ h => ⟨spadRead_memEnd_dst h, spadRead_memEnd_other h⟩⟩

end Sys2Proof.Proofs

end

section
/-! PROOFS. Shared windows (06 R163, R170; log 12): the requests that join or open an entry of the merge table, the read that
answers them, the replies that land. -/

open Sys2Proof Sys2Proof.Machine Sys2Proof.Claims

namespace Sys2Proof.Proofs

/-! ## The open bundles closed, a packet accepted -/

theorem flushAll_of_quiet {s : State} (h : quiet s) : s.flushAll = s :=
  List.foldlRecOn s.cores (fun s x => s.flush x.1) (motive := fun t => t = s) rfl fun t ht x hx => by
    rw [ht, State.flush, if_neg (by simp [h x hx])]

theorem flushAll_of_closed {s u : State} (h : closed s u) : s.flushAll = u := by
  rcases h with rfl | ⟨hq, rfl⟩
  · rfl
  · exact flushAll_of_quiet hq

theorem arriveAt_of_arrives {s u : State} {p : Packet} {ty k : Nat} (hc : closed s u) (ha : arrives u p ty k) :
    s.arriveAt p ty = .at u k := by
  obtain ⟨hok, hty, hkind, hcore, hord, hatt, hiso⟩ := ha
  have hdie : (ty != 3 && (u.die (k / 272)).isolated) = false := by
    rcases hiso with h | h <;> simp [h]
  simp [State.arriveAt, flushAll_of_closed hc, hcore, hok, hty, hkind, hord, hatt, hdie]

/-! ## What the functions of a packet leave of the cores -/

@[simp] theorem eject_cores (s : State) (p : Packet) : (s.eject p).cores = s.cores := by
  have hun (i : Nat) : (s.unflight i p).cores = s.cores := by
    unfold State.unflight
    split <;> simp [State.cross]
  simp only [State.eject]
  (repeat' split) <;> simp [hun]

@[simp] theorem eject_core (s : State) (p : Packet) (j : Nat) : (s.eject p).core j = s.core j := by
  simp [State.core]

@[simp] theorem noteCapture_core (s : State) (k : Nat) (b : Bytes) (j : Nat) : (s.noteCapture k b).core j = s.core j := by
  have h : (s.noteCapture k b).cores = s.cores := by simp [State.noteCapture]
  simp [State.core, h]

/-- Registers, merge table and arrival counters of `d` are those of `c`. -/
@[simp] abbrev KeepsShared (c d : Core) : Prop := sameRegs c d ∧ d.merge = c.merge ∧ d.acs = c.acs

theorem KeepsShared.refl (c : Core) : KeepsShared c c := ⟨⟨rfl, rfl, rfl, rfl⟩, rfl, rfl⟩

theorem KeepsShared.trans {c d e : Core} (h : KeepsShared c d) (h' : KeepsShared d e) : KeepsShared c e := by
  simp_all [sameRegs]

theorem hashCycle_keepsShared (c : Core) (reqs : List (Nat × Nat)) : KeepsShared c (c.hashCycle reqs).1 := by
  refine List.foldlRecOn (List.range 16) _ (motive := fun r : Core × List (Nat × Nat) => KeepsShared c r.1)
    (KeepsShared.refl c) fun r hr b _ => ?_
  simp only
  (repeat' split) <;> exact hr

theorem hashRun_keepsShared (c : Core) (e : Eng) (l n : Nat) : KeepsShared c (c.hashRun e l n) :=
  List.foldlRecOn (List.range n) _ (motive := KeepsShared c) (KeepsShared.refl c) fun _ hd _ _ =>
    hd.trans (hashCycle_keepsShared ..)

@[simp] theorem atTime_core (s : State) (t j : Nat) : (s.atTime t).core j = s.core j := by
  simp [State.core]

theorem xferBy_core_same (s : State) (k : Nat) (e : Eng) (a n : Nat) :
    KeepsShared (s.core k) ((s.xferBy k e a n).core k) := by
  unfold State.xferBy
  split
  · rw [State.core_updCore_same]
    exact hashRun_keepsShared ..
  split
  · exact KeepsShared.refl _
  · extract_lets r
    rw [atTime_core, State.core_updCore_same]
    exact KeepsShared.refl _

@[simp] theorem xferBy_core_other (s : State) {k j : Nat} (e : Eng) (a n : Nat) (h : j ≠ k) :
    (s.xferBy k e a n).core j = s.core j := by
  unfold State.xferBy
  split
  · exact State.core_updCore_other s _ h
  split
  · rfl
  · rw [atTime_core]
    exact State.core_updCore_other s _ h

@[simp] theorem xferBy_net (s : State) (k : Nat) (e : Eng) (a n : Nat) : (s.xferBy k e a n).net = s.net := by
  simp only [State.xferBy]
  (repeat' split) <;> simp

@[simp] theorem net_ite (c : Prop) [Decidable c] (s t : State) :
    (if c then s else t).net = if c then s.net else t.net := apply_ite ..

@[simp] theorem fsr_net (s : State) (r : FsrIn) : (s.fsr r).net = s.net := by
  simp [State.fsr]

@[simp] theorem coreFault_net (s : State) (k op det unit : Nat) : (s.coreFault k op det unit).net = s.net := by
  simp [State.coreFault, State.report]

@[simp] theorem reqMig_net (s : State) (site prio : Nat) : (s.reqMig site prio).net = s.net := by
  simp [State.reqMig]

@[simp] theorem quarantine_net (s : State) (site det : Nat) : (s.quarantine site det).net = s.net := by
  simp only [State.quarantine]
  (repeat' split) <;> simp

@[simp] theorem joinTest_net (s : State) (site : Nat) : (s.joinTest site).net = s.net := by
  simp [State.joinTest]

@[simp] theorem lastingFault_net (s : State) (site det unit : Nat) (core : Option Nat) :
    (s.lastingFault site det unit core).net = s.net := by
  simp [State.lastingFault]

@[simp] theorem corrected_net (s : State) (site : Nat) : (s.corrected site).net = s.net := by
  simp [State.corrected]

@[simp] theorem spadEcc_net (s : State) (k op : Nat) (e : Ecc) : (s.spadEcc k op e).net = s.net := by
  simp only [State.spadEcc]
  split <;> simp

/-! ## A request (06 R170) -/

theorem eject_sameMem (s : State) (p : Packet) : sameMem s (s.eject p) := by
  obtain ⟨hspad, hhbm, himem, -, -⟩ := State.eject_memSame s p
  exact ⟨hspad, hhbm, himem⟩

/-- The address that a request asks the owner for, in the shared window of binding `b`. -/
def shrdAddr (b : Bnd) (p : Packet) : Nat := b.base + 64 * bits (pktH p).arg 12 0

/-- The lines that it asks for. -/
def shrdLines (p : Packet) : Nat := bits (pktH p).arg 18 13 + 1

/-- The requester that a request names. -/
def shrdAsker (p : Packet) : Asker := { vcore := (pktH p).src, line := bits (pktH p).arg 31 19, ch := (pktH p).sch }

/-- A request accepted at core `k`, whose merge table becomes `m`. -/
def shrdTaken (u : State) (k : Nat) (p : Packet) (m : List MergeEnt) : State :=
  (u.eject p).setCore k { u.core k with merge := m, openSlot := none }

theorem shrdTaken_keeps (u : State) (k : Nat) (p : Packet) (m : List MergeEnt) :
    sameRegs (u.core k) ((shrdTaken u k p m).core k) ∧ sameMem u (shrdTaken u k p m) ∧
      sameOthers k u (shrdTaken u k p m) := by
  refine ⟨?_, eject_sameMem u p, fun j hj => ?_⟩
  · rw [shrdTaken, State.core_setCore_same]
    exact ⟨rfl, rfl, rfl, rfl⟩
  · rw [shrdTaken, State.core_setCore_other _ _ hj, eject_core]

theorem shrdTaken_merge (u : State) (k : Nat) (p : Packet) (m : List MergeEnt) :
    ((shrdTaken u k p m).core k).merge = m := by
  rw [shrdTaken, State.core_setCore_same]

section
variable {s u : State} {k : Nat} {p : Packet} {b : Bnd} (hc : closed s u) (ha : arrives u p 5 k)
  (hb : (u.bindingsOf (pktH p).src).find? (fun b => b.ch == 16 + (pktH p).sch) = some b)
include hc ha hb

/-- A request that no entry can take opens one. -/
theorem exec_shrdReq_opens (hnew : ∀ e ∈ (u.core k).merge, e.addr ≠ shrdAddr b p) (hroom : (u.core k).merge.length < 16) :
    exec (.shrdReq p) s =
      .next (shrdTaken u k p ((u.core k).merge ++ [⟨shrdAddr b p, shrdLines p, [shrdAsker p]⟩])) := by
  have hany : (u.core k).merge.any (fun e => e.addr == b.base + 64 * bits (pktH p).arg 12 0 &&
      e.lines == bits (pktH p).arg 18 13 + 1 && decide (e.askers.length < 64)) = false := by
    rw [List.any_eq_false]
    intro e he
    simp [show e.addr ≠ b.base + 64 * bits (pktH p).arg 12 0 from hnew e he]
  simp only [exec, execShrdReq, arriveAt_of_arrives hc ha, hb, hany, Nat.not_le.mpr hroom, if_false, Bool.false_eq_true]
  rfl

/-- A request that the only entry of the table takes joins it. -/
theorem exec_shrdReq_joins {e : MergeEnt} (hm : (u.core k).merge = [e]) (haddr : e.addr = shrdAddr b p)
    (hlines : e.lines = shrdLines p) (hroom : e.askers.length < 64) :
    exec (.shrdReq p) s =
      .next ((shrdTaken u k p [{ e with askers := e.askers ++ [shrdAsker p] }]).count Obj.SHRD_MERGED) := by
  have hhit : (e.addr == b.base + 64 * bits (pktH p).arg 12 0 && e.lines == bits (pktH p).arg 18 13 + 1 &&
      decide (e.askers.length < 64)) = true := by
    simp [haddr, hlines, hroom, shrdAddr, shrdLines]
  simp only [exec, execShrdReq, arriveAt_of_arrives hc ha, hb, hm, List.any_cons, hhit, Bool.true_or, if_true]
  simp [hhit, shrdTaken, shrdAsker, List.findIdx_cons]

theorem shrdReq_opens (hnew : ∀ e ∈ (u.core k).merge, e.addr ≠ shrdAddr b p) (hroom : (u.core k).merge.length < 16) :
    answers (.shrdReq p) s (fun t => (∃ e, (t.core k).merge = (u.core k).merge ++ [e] ∧
      e.addr = shrdAddr b p ∧ e.lines = shrdLines p ∧ e.askers.map (fun q => q.vcore) = [(pktH p).src]) ∧
      sameRegs (u.core k) (t.core k) ∧ sameMem u t ∧ sameOthers k u t) :=
  answers_of_exec (exec_shrdReq_opens hc ha hb hnew hroom)
    ⟨⟨_, shrdTaken_merge .., rfl, rfl, rfl⟩, shrdTaken_keeps ..⟩

theorem shrdReq_joins {e : MergeEnt} (hm : (u.core k).merge = [e]) (haddr : e.addr = shrdAddr b p)
    (hlines : e.lines = shrdLines p) (hroom : e.askers.length < 64) :
    answers (.shrdReq p) s (fun t => (∃ e', (t.core k).merge = [e'] ∧ e'.addr = e.addr ∧ e'.lines = e.lines ∧
      e'.askers.map (fun q => q.vcore) = e.askers.map (fun q => q.vcore) ++ [(pktH p).src]) ∧
      sameRegs (u.core k) (t.core k) ∧ sameMem u t ∧ sameOthers k u t) := by
  refine answers_of_exec (exec_shrdReq_joins hc ha hb hm haddr hlines hroom) ⟨⟨_, shrdTaken_merge .., rfl, rfl, ?_⟩,
    shrdTaken_keeps ..⟩
  simp [shrdAsker]

end

/-! ## The read of an entry (06 R170; log 12) -/

/-- The payloads of the packets that are under way. -/
def payloads (s : State) : List (List Flit) := s.net.flight.map (fun x => x.pkt.payload)

/-- The reply of entry `e` of core `k` to one requester. -/
def shrdReplyPkt (k : Nat) (e : MergeEnt) (data : List Flit) (s : State) (q : Asker) : Packet :=
  { hdr := (s.coreHdr k { type := 6, len := e.lines, dkind := 0, dst := q.vcore, dch := q.ch
                          arg := q.line + (e.lines - 1) * 2 ^ 13 }).flit
    payload := data }

/-- It is sent, with the increment that it carries. -/
def shrdReply (k : Nat) (e : MergeEnt) (data : List Flit) (s : State) (q : Asker) : State :=
  let t := s.inject (shrdReplyPkt k e data s q)
  if t.shrdCounter q.vcore q.ch < 64 then t.ledCreate (k / 272) 4 1 else t

/-- The core without entry `i` of its merge table. -/
def dropMerge (i : Nat) (c : Core) : Core := { c with merge := c.merge.eraseIdx i, openSlot := none }

/-- Entry `e` of number `i` read: it leaves the table, and the NET engine reads its lines once. -/
def shrdRead (u : State) (k i : Nat) (e : MergeEnt) (c : Ecc) : State :=
  ((u.updCore k (dropMerge i)).xferBy k .net (u.phys k e.addr) e.lines).spadEcc k noOp c

theorem exec_shrdMergeRead {s u : State} {k i : Nat} {c : Ecc} {e : MergeEnt} (hc : closed s u) (hk : okCore k = true)
    (he : (u.core k).merge[i]? = some e) :
    exec (.shrdMergeRead k ⟨i, c⟩) s = .next (e.askers.foldl
      (shrdReply k e (toFlits e.lines (u.viewRead k e.addr (64 * e.lines)))) (shrdRead u k i e c)) := by
  -- `2 ^ 13` stays as the model writes it: the kernel compares the two sides by `rfl`
  simp only [exec, execShrdMergeRead, flushAll_of_closed hc, he, hk, onPart, if_true, -Nat.reducePow]
  rfl

theorem shrdReply_aside (k : Nat) (e : MergeEnt) (data : List Flit) (s : State) (q : Asker) :
    Aside s (shrdReply k e data s q) := by
  unfold shrdReply
  extract_lets t
  have ht : Aside s t := State.inject_aside ..
  clear_value t
  split
  · exact ht.trans (aside_of (by simp))
  · exact ht

theorem payloads_inject (s : State) (p : Packet) : payloads (s.inject p) = payloads s ++ [p.payload] := by
  have h : (s.inject p).net.flight = s.net.flight ++ [{ time := s.time, pkt := p }] := rfl
  rw [payloads, h, List.map_append, payloads]
  rfl

theorem payloads_ledCreate (s : State) (i cat v : Nat) : payloads (s.ledCreate i cat v) = payloads s := by
  have h : (s.ledCreate i cat v).net.flight = s.net.flight := rfl
  rw [payloads, h, payloads]

theorem shrdReply_payloads (k : Nat) (e : MergeEnt) (data : List Flit) (s : State) (q : Asker) :
    payloads (shrdReply k e data s q) = payloads s ++ [data] := by
  unfold shrdReply
  extract_lets t
  have ht : payloads t = payloads s ++ [data] := payloads_inject ..
  split
  · rw [payloads_ledCreate, ht]
  · exact ht

theorem foldl_shrdReply_payloads (k : Nat) (e : MergeEnt) (data : List Flit) (l : List Asker) (s : State) :
    payloads (l.foldl (shrdReply k e data) s) = payloads s ++ l.map (fun _ => data) := by
  induction l generalizing s with
  | nil => simp
  | cons q l ih => simp [ih, shrdReply_payloads]

theorem shrdRead_payloads (u : State) (k i : Nat) (e : MergeEnt) (c : Ecc) :
    payloads (shrdRead u k i e c) = payloads u := by
  simp [payloads, shrdRead]

theorem shrdRead_core_other (u : State) {k j : Nat} (i : Nat) (e : MergeEnt) (c : Ecc) (h : j ≠ k) :
    (shrdRead u k i e c).core j = u.core j := by
  simp [shrdRead, h]

theorem shrdRead_core_same (u : State) (k i : Nat) (e : MergeEnt) (c : Ecc) :
    sameRegs (u.core k) ((shrdRead u k i e c).core k) ∧
      ((shrdRead u k i e c).core k).merge = (u.core k).merge.eraseIdx i := by
  have hcore : (shrdRead u k i e c).core k =
      ((u.updCore k (dropMerge i)).xferBy k .net (u.phys k e.addr) e.lines).core k := by simp [shrdRead]
  obtain ⟨hregs, hmerge, -⟩ := xferBy_core_same (u.updCore k (dropMerge i)) k .net (u.phys k e.addr) e.lines
  rw [State.core_updCore_same] at hregs hmerge
  rw [hcore]
  exact ⟨hregs, hmerge⟩

theorem shrdRead_sameMem (u : State) (k i : Nat) (e : MergeEnt) (c : Ecc) : sameMem u (shrdRead u k i e c) := by
  simp [sameMem, shrdRead]

theorem shrdMergeRead_answers {s u : State} {k i : Nat} {c : Ecc} {e : MergeEnt} (hc : closed s u) (hk : okCore k = true)
    (he : (u.core k).merge[i]? = some e) :
    answers (.shrdMergeRead k ⟨i, c⟩) s (fun t => (t.core k).merge = (u.core k).merge.eraseIdx i ∧
      t.net.flight.map (fun x => x.pkt.payload) = u.net.flight.map (fun x => x.pkt.payload) ++
        e.askers.map (fun _ => toFlits e.lines (u.viewRead k e.addr (64 * e.lines))) ∧
      sameRegs (u.core k) (t.core k) ∧ sameMem u t ∧ sameOthers k u t) := by
  obtain ⟨hregs, hmerge⟩ := shrdRead_core_same u k i e c
  obtain ⟨hspad, hhbm, himem⟩ := shrdRead_sameMem u k i e c
  obtain ⟨⟨-, hcore, -, hspad'⟩, himem', hhbm', -⟩ := foldl_aside
    (shrdReply_aside k e (toFlits e.lines (u.viewRead k e.addr (64 * e.lines)))) e.askers (shrdRead u k i e c)
  have hpay := foldl_shrdReply_payloads k e (toFlits e.lines (u.viewRead k e.addr (64 * e.lines))) e.askers
    (shrdRead u k i e c)
  rw [shrdRead_payloads] at hpay
  refine answers_of_exec (exec_shrdMergeRead hc hk he) ⟨?_, hpay, ?_, ?_, fun j hj => ?_⟩
  · rw [hcore, hmerge]
  · rw [hcore]
    exact hregs
  · exact ⟨hspad'.trans hspad, hhbm'.trans hhbm, himem'.trans himem⟩
  · rw [hcore, shrdRead_core_other u i e c hj]

/-! ## A reply (06 R163, R170) -/

/-- The lines of a reply landed at core `k`, before its increment leaves the ledger. -/
def shrdLand (u : State) (k : Nat) (p : Packet) : State :=
  ((((u.eject p).noteCapture k (pktBytes p)).spadWrite k (64 * bits (pktH p).arg 12 0) (p.payload.flatMap flitBytes)).xferBy
    k .net (64 * bits (pktH p).arg 12 0) p.payload.length).evCore k
      (fun c => c.incAc (u.shrdCounter (pktH p).dst (pktH p).dch))

/-- The state that an accepted reply leads to. -/
def shrdLanded (u : State) (k : Nat) (p : Packet) : State :=
  if u.shrdCounter (pktH p).dst (pktH p).dch < 64 then
    (shrdLand u k p).ledDestroy (k / 272) ((shrdLand u k p).srcIf (pktH p)) 4 1
  else shrdLand u k p

theorem exec_shrdRep {s u : State} {k : Nat} {p : Packet} (hc : closed s u) (ha : arrives u p 6 k) :
    exec (.shrdRep p) s = .next (shrdLanded u k p) := by
  simp only [exec, execShrdRep, arriveAt_of_arrives hc ha]
  rfl

/-- The ledger's entry changes no core and no memory. -/
theorem shrdLanded_frame (u : State) (k : Nat) (p : Packet) :
    (shrdLanded u k p).cores = (shrdLand u k p).cores ∧ MemSame (shrdLand u k p) (shrdLanded u k p) := by
  simp [shrdLanded]

theorem shrdLand_memory (u : State) (k : Nat) (p : Packet) :
    (shrdLand u k p).spad =
      writeBytes u.spad (spadKey k (64 * bits (pktH p).arg 12 0)) (p.payload.flatMap flitBytes) ∧
    (shrdLand u k p).hbm = u.hbm ∧ (shrdLand u k p).imem = u.imem := by
  simp [shrdLand]

theorem shrdLand_core_other (u : State) {k j : Nat} (p : Packet) (h : j ≠ k) :
    (shrdLand u k p).core j = u.core j := by
  rw [shrdLand, State.evCore, State.core_updCore_other _ _ h, xferBy_core_other _ _ _ _ h]
  simp

theorem ac_incAc (c : Core) (i j : Nat) : (c.incAc i).ac j = if j = i ∧ j < 64 then c.ac j + 1 else c.ac j := by
  unfold Core.incAc
  by_cases hj : j = i
  · subst hj
    split <;> simp [*]
  · split <;> simp [hj]

theorem incAc_sameRegs (c : Core) (i : Nat) : sameRegs c (c.incAc i) := by
  unfold Core.incAc
  split <;> exact ⟨rfl, rfl, rfl, rfl⟩

theorem shrdLand_core_same (u : State) (k : Nat) (p : Packet) :
    sameRegs (u.core k) ((shrdLand u k p).core k) ∧
      ∀ j, ((shrdLand u k p).core k).ac j = if j = u.shrdCounter (pktH p).dst (pktH p).dch ∧ j < 64 then
        (u.core k).ac j + 1 else (u.core k).ac j := by
  obtain ⟨hregs, -, hacs⟩ := xferBy_core_same (((u.eject p).noteCapture k (pktBytes p)).spadWrite k
    (64 * bits (pktH p).arg 12 0) (p.payload.flatMap flitBytes)) k .net (64 * bits (pktH p).arg 12 0) p.payload.length
  rw [State.spadWrite_core, noteCapture_core, eject_core] at hregs hacs
  rw [shrdLand, State.evCore, State.core_updCore_same]
  generalize (State.xferBy _ _ _ _ _).core k = d at hregs hacs
  refine ⟨?_, fun j => ?_⟩
  · obtain ⟨hs, hv, hp, ht⟩ := hregs
    obtain ⟨hs', hv', hp', ht'⟩ := incAc_sameRegs d (u.shrdCounter (pktH p).dst (pktH p).dch)
    exact ⟨hs'.trans hs, hv'.trans hv, hp'.trans hp, ht'.trans ht⟩
  · have hac : d.ac j = (u.core k).ac j := by rw [Core.ac, Core.ac, hacs]
    rw [← hac]
    exact ac_incAc d _ j

theorem shrdRep_answers {s u : State} {k : Nat} {p : Packet} (hc : closed s u) (ha : arrives u p 6 k) :
    answers (.shrdRep p) s (fun t =>
      t.spad = writeBytes u.spad (spadKey k (64 * bits (pktH p).arg 12 0)) (p.payload.flatMap flitBytes) ∧
      (∀ j, (t.core k).ac j = if j = u.shrdCounter (pktH p).dst (pktH p).dch ∧ j < 64 then (u.core k).ac j + 1
        else (u.core k).ac j) ∧
      sameRegs (u.core k) (t.core k) ∧ t.hbm = u.hbm ∧ t.imem = u.imem ∧ sameOthers k u t) := by
  obtain ⟨hcores, hspad, hhbm, himem, -⟩ := shrdLanded_frame u k p
  have hcore (j : Nat) : (shrdLanded u k p).core j = (shrdLand u k p).core j := by rw [State.core, hcores, State.core]
  obtain ⟨hspad', hhbm', himem'⟩ := shrdLand_memory u k p
  obtain ⟨hregs, hac⟩ := shrdLand_core_same u k p
  refine answers_of_exec (exec_shrdRep hc ha) ⟨hspad.trans hspad', ?_, ?_, hhbm.trans hhbm', himem.trans himem',
    fun j hj => ?_⟩
  · rw [hcore]
    exact hac
  · rw [hcore]
    exact hregs
  · rw [hcore, shrdLand_core_other u p hj]

/-- Settles O31: requests open and join entries, a read answers the requesters of one, a reply lands. -/
theorem sharedWindows : Obligations.shared_windows := by
  unfold Obligations.shared_windows
  exact ⟨fun _ _ _ _ _ hc ha hb =>
      ⟨shrdReq_opens hc ha hb, fun _ hm haddr hlines => shrdReq_joins hc ha hb hm haddr hlines⟩,
    fun _ _ _ _ _ _ hc hk he => shrdMergeRead_answers hc hk he, fun _ _ _ _ hc ha => shrdRep_answers hc ha⟩

end Sys2Proof.Proofs

end

section
/-! PROOFS. What traffic reaches at a core: one frame for the packets that arrive, the flits that leave, and the ladle entries
(06 R163, R167, 07 R175 to R188). -/

open Sys2Proof Sys2Proof.Machine Sys2Proof.Claims

namespace Sys2Proof.Proofs

/-! ## Where the virtual cores lie, and their bindings -/

theorem vcoreOf_congr {s t : State} (hprog : t.prog = s.prog) (hdies : t.dies = s.dies) (j : Nat) :
    t.vcoreOf j = s.vcoreOf j := by
  have hdie (i : Nat) : t.die i = s.die i := by rw [State.die, hdies, State.die]
  have hwidth : t.gridW = s.gridW := by rw [State.gridW, hprog, State.gridW]
  simp only [State.vcoreOf, hdie, hwidth]

/-- Only core `k` changes from `s` to `t`, and nothing of its registers; HBM, the instruction memories, the program and the
places of its virtual cores are the same. -/
structure AtCore (k : Nat) (s t : State) : Prop where
  regs : sameRegs (s.core k) (t.core k)
  others : sameOthers k s t
  hbm : t.hbm = s.hbm
  imem : t.imem = s.imem
  prog : t.prog = s.prog
  vcore : ∀ j, t.vcoreOf j = s.vcoreOf j

section
variable {k : Nat} {s t u : State}

theorem AtCore.refl (k : Nat) (s : State) : AtCore k s s :=
  ⟨⟨rfl, rfl, rfl, rfl⟩, fun _ _ => rfl, rfl, rfl, rfl, fun _ => rfl⟩

theorem AtCore.trans (h : AtCore k s t) (h' : AtCore k t u) : AtCore k s u := by
  obtain ⟨hs, hv, hp, ht⟩ := h.regs
  obtain ⟨hs', hv', hp', ht'⟩ := h'.regs
  exact ⟨⟨hs'.trans hs, hv'.trans hv, hp'.trans hp, ht'.trans ht⟩, fun j hj => (h'.others j hj).trans (h.others j hj),
    h'.hbm.trans h.hbm, h'.imem.trans h.imem, h'.prog.trans h.prog, fun j => (h'.vcore j).trans (h.vcore j)⟩

theorem AtCore.ite {c : Prop} [Decidable c] (h : AtCore k s t) (h' : AtCore k s u) : AtCore k s (if c then t else u) := by
  split
  · exact h
  · exact h'

theorem AtCore.bindingsOf (h : AtCore k s t) (v : Nat) : t.bindingsOf v = s.bindingsOf v := by
  simp [State.bindingsOf, h.prog]

theorem AtCore.bindIn (h : AtCore k s t) (j ch : Nat) : t.bindIn j ch = s.bindIn j ch := by
  simp [State.bindIn, h.vcore, h.bindingsOf]

theorem AtCore.inKind (h : AtCore k s t) (j ch : Nat) : t.inKind j ch = s.inKind j ch := by
  simp [State.inKind, h.bindIn]

theorem AtCore.ladleCounter (h : AtCore k s t) (j e : Nat) : t.ladleCounter j e = s.ladleCounter j e := by
  simp [State.ladleCounter, h.vcore, h.prog]

/-- What changes no core, no memory, no program and no die is in the frame of every core. -/
theorem AtCore.of_same (hcores : t.cores = s.cores) (hhbm : t.hbm = s.hbm) (himem : t.imem = s.imem)
    (hprog : t.prog = s.prog) (hdies : t.dies = s.dies) : AtCore k s t := by
  have hcore (j : Nat) : t.core j = s.core j := by simp [State.core, hcores]
  exact ⟨by simp [hcore, sameRegs], fun j _ => hcore j, hhbm, himem, hprog, vcoreOf_congr hprog hdies⟩

theorem AtCore.of_aside (h : Aside s t) (hv : ∀ j, t.vcoreOf j = s.vcoreOf j) : AtCore k s t := by
  obtain ⟨⟨-, hcore, -, -⟩, himem, hhbm, -, hprog, -⟩ := h
  exact ⟨by simp [hcore, sameRegs], fun j _ => hcore j, hhbm, himem, hprog, hv⟩

theorem AtCore.of_onCore (h : OnCore k s t) : AtCore k s t := by
  obtain ⟨⟨m, rfl⟩, hregs, hothers⟩ := h
  exact ⟨hregs, hothers, rfl, rfl, rfl, fun _ => rfl⟩

end

section
variable (k : Nat) (s : State)

theorem updCore_atCore {f : Core → Core} (h : sameRegs (s.core k) (f (s.core k))) : AtCore k s (s.updCore k f) :=
  .of_onCore (onCore_updCore h)

theorem spadWrite_atCore (a : Nat) (b : Bytes) : AtCore k s (s.spadWrite k a b) := .of_same rfl rfl rfl rfl rfl

theorem count_atCore (o n : Nat) : AtCore k s (s.count o n) := .of_same rfl rfl rfl rfl rfl

theorem ledDestroy_atCore (i j cat v : Nat) : AtCore k s (s.ledDestroy i j cat v) := .of_same rfl rfl rfl rfl rfl

@[simp] theorem eject_dies (p : Packet) : (s.eject p).dies = s.dies := by
  have hun (i : Nat) : (s.unflight i p).dies = s.dies := by
    unfold State.unflight
    split <;> rfl
  simp only [State.eject]
  (repeat' split) <;> simp [hun]

@[simp] theorem eject_prog (p : Packet) : (s.eject p).prog = s.prog := by
  have hun (i : Nat) : (s.unflight i p).prog = s.prog := by
    unfold State.unflight
    split <;> rfl
  simp only [State.eject]
  (repeat' split) <;> simp [hun]

theorem eject_atCore (p : Packet) : AtCore k s (s.eject p) := by
  obtain ⟨-, hhbm, himem⟩ := eject_sameMem s p
  exact .of_same (eject_cores s p) hhbm himem (eject_prog s p) (eject_dies s p)

theorem noteCapture_atCore (j : Nat) (b : Bytes) : AtCore k s (s.noteCapture j b) := by
  unfold State.noteCapture
  extract_lets vd used
  exact .ite (.ite (.of_same rfl rfl rfl rfl rfl) (.of_same rfl rfl rfl rfl rfl)) (AtCore.refl ..)

theorem sendCredit_atCore (j src ch n : Nat) : AtCore k s (s.sendCredit j src ch n) := by
  unfold State.sendCredit
  split
  · exact AtCore.refl ..
  · exact .of_same rfl rfl rfl rfl rfl

@[simp] theorem sendCredit_core (src ch n j : Nat) : (s.sendCredit k src ch n).core j = s.core j := by
  unfold State.sendCredit
  split <;> rfl

/-! ## A transfer of the NET engine (06 R154, R158, R159) -/

theorem hashCycle_eq (c : Core) (reqs : List (Nat × Nat)) : ∃ l, (c.hashCycle reqs).1 = { c with bankLast := l } := by
  refine List.foldlRecOn (List.range 16) _ (motive := fun r : Core × List (Nat × Nat) => ∃ l, r.1 = { c with bankLast := l })
    ⟨_, rfl⟩ fun r ⟨l, hr⟩ b _ => ?_
  simp only
  (repeat' split)
  · exact ⟨_, by rw [hr]⟩
  · exact ⟨l, hr⟩
  · exact ⟨l, hr⟩

theorem hashRun_eq (c : Core) (e : Eng) (l n : Nat) : ∃ m, c.hashRun e l n = { c with bankLast := m } := by
  refine List.foldlRecOn (List.range n) _ (motive := fun d : Core => ∃ m, d = { c with bankLast := m }) ⟨_, rfl⟩ ?_
  rintro _ ⟨m, rfl⟩ i _
  obtain ⟨m', h⟩ := hashCycle_eq { c with bankLast := m } [(e.idx, l + i)]
  exact ⟨m', h⟩

/-- A transfer moves nothing of its core but what its engines and banks are taken by. -/
theorem xferBy_core (e : Eng) (a n : Nat) :
    ∃ f l, (s.xferBy k e a n).core k = { s.core k with engFree := f, bankLast := l } := by
  unfold State.xferBy
  split
  · obtain ⟨l, h⟩ := hashRun_eq (s.core k) e (a / 64) n
    exact ⟨_, l, by rw [State.core_updCore_same, h]⟩
  split
  · exact ⟨_, _, rfl⟩
  · extract_lets r
    exact ⟨_, _, by rw [atTime_core, State.core_updCore_same]; rfl⟩

@[simp] theorem xferBy_dies (e : Eng) (a n : Nat) : (s.xferBy k e a n).dies = s.dies := by
  simp only [State.xferBy]
  (repeat' split) <;> rfl

@[simp] theorem xferBy_keeps (e : Eng) (a n : Nat) : KeepsFlight (s.core k) ((s.xferBy k e a n).core k) ∧
    ((s.xferBy k e a n).core k).rings = (s.core k).rings ∧ ((s.xferBy k e a n).core k).landing = (s.core k).landing ∧
    ((s.xferBy k e a n).core k).arr = (s.core k).arr ∧ ((s.xferBy k e a n).core k).acs = (s.core k).acs ∧
    ((s.xferBy k e a n).core k).ladles = (s.core k).ladles := by
  obtain ⟨f, l, h⟩ := xferBy_core k s e a n
  simp [h]

theorem xferBy_atCore (e : Eng) (a n : Nat) : AtCore k s (s.xferBy k e a n) := by
  obtain ⟨himem, hhbm, -, hprog, -⟩ := State.xferBy_keepsWork s k e a n
  exact ⟨by simp [sameRegs], fun j hj => xferBy_core_other s e a n hj, hhbm, himem, hprog,
    vcoreOf_congr hprog (xferBy_dies k s e a n)⟩

end

/-- Progress of a message touches the count of its flits and of the messages of its sender alone (07 R176, 09 R238). -/
@[simp] theorem progress_keeps (c : Core) (key : Nat) (a : Arr) (n len : Nat) : KeepsFlight c (c.progress key a n len) ∧
    (c.progress key a n len).rings = c.rings ∧ (c.progress key a n len).landing = c.landing ∧
    (c.progress key a n len).acs = c.acs ∧ (c.progress key a n len).ladles = c.ladles := by
  unfold Core.progress
  split <;> simp [Core.setArr]

@[simp] theorem incAc_keeps (c : Core) (i : Nat) : KeepsFlight c (c.incAc i) ∧ (c.incAc i).ladles = c.ladles := by
  unfold Core.incAc
  split <;> simp [Core.setAc]

/-! ## What a read of a memory gives after a write -/

theorem readBytes_writeBytes_other {m : SMap Byte} {a j n : Nat} {b : Bytes} (h : j + n ≤ a ∨ a + b.length ≤ j) :
    readBytes (writeBytes m a b) j n = readBytes m j n := by
  refine List.map_congr_left fun i hi => ?_
  have hi : i < n := List.mem_range.mp hi
  rw [get_writeBytes, if_neg (by omega)]

/-- A read within the bytes just written gives that part of them. -/
theorem readBytes_writeBytes_within (m : SMap Byte) (a o n : Nat) {b : Bytes} (h : o + n ≤ b.length) :
    readBytes (writeBytes m a b) (a + o) n = (b.drop o).take n := by
  refine List.ext_getElem (by simp [readBytes]; omega) fun i hi _ => ?_
  have hi : i < n := by simpa [readBytes] using hi
  simp [readBytes, get_writeBytes, show a + o + i - a = o + i by omega, show a ≤ a + o + i by omega,
    show a + o + i < a + b.length by omega, show o + i < b.length by omega]

theorem spadRead_spadWrite_other {s : State} {k a j n : Nat} {b : Bytes} (h : j + n ≤ a ∨ a + b.length ≤ j) :
    (s.spadWrite k a b).spadRead k j n = s.spadRead k j n :=
  readBytes_writeBytes_other (by unfold spadKey; omega)

theorem spadRead_spadWrite_within (s : State) (k a o n : Nat) {b : Bytes} (h : o + n ≤ b.length) :
    (s.spadWrite k a b).spadRead k (a + o) n = (b.drop o).take n := by
  have := readBytes_writeBytes_within s.spad (spadKey k a) o n h
  rwa [spadKey, Nat.add_assoc] at this

theorem spadRead_spadWrite_same (s : State) (k a : Nat) (b : Bytes) : (s.spadWrite k a b).spadRead k a b.length = b :=
  readBytes_writeBytes s.spad (spadKey k a) b

theorem spadRead_congr {s t : State} (h : t.spad = s.spad) (k a n : Nat) : t.spadRead k a n = s.spadRead k a n := by
  rw [State.spadRead, h, State.spadRead]

@[simp] theorem length_bytesLE (n v : Nat) : (bytesLE n v).length = n := by
  induction n generalizing v with
  | zero => rfl
  | succ n ih => simp [bytesLE, ih]

@[simp] theorem length_slice (b : Bytes) (o n : Nat) : (slice b o n).length = n := by
  simp [slice]

@[simp] theorem length_flatMap_flitBytes (l : List Flit) : (l.flatMap flitBytes).length = 64 * l.length := by
  simp [flitBytes, List.length_flatMap, mul_comm]

@[simp] theorem length_ringHdr (kind flits src sch seq : Nat) : (ringHdr kind flits src sch seq).length = 64 :=
  length_slice ..

end Sys2Proof.Proofs

end

section
/-! PROOFS. O26, O27: what arrives at operand ports, rings and windows (06 R163, R167, 07 R180, R182), and what a multicast
reaches (07 R183, 09 R250). -/

open Sys2Proof Sys2Proof.Machine Sys2Proof.Claims

namespace Sys2Proof.Proofs

/-! ## Operand ports (07 R180) -/

theorem portArrive_atCore (s : State) (k ch : Nat) (p : Packet) : AtCore k s (s.portArrive k ch p) := by
  unfold State.portArrive
  exact updCore_atCore k s (by simp [sameRegs, Core.setLand])

theorem portArrive_land (s : State) (k ch : Nat) (p : Packet) :
    ((s.portArrive k ch p).core k).land ch = (s.core k).land ch ++ p.payload := by
  rw [State.portArrive, State.core_updCore_same]
  simp [Core.land, Core.setLand]

/-! ## Rings (06 R167) -/

/-- Placing a record leaves alone what waits for the ring. -/
theorem place_waiting {r r' : Ring} {z f x : Nat} {sk : Option Nat} (h : r.place z f = some (r', x, sk)) :
    r'.waiting = r.waiting := by
  simp only [Ring.place] at h
  split at h
  · cases h; rfl
  split at h
  · split at h <;> (cases h; rfl)
  split at h
  · cases h; rfl
  · cases h

/-- A record opened in the ring of a channel, behind its skip record if it has one. -/
def ringOpened (s : State) (k ch : Nat) (b : Bnd) (r : Ring) (sk : Option Nat) : State :=
  match sk with
  | some t => (s.updCore k (fun c => c.setRing ch r)).spadWrite k (b.base + t) (ringHdr 2 0 0 0 0)
  | none => s.updCore k (fun c => c.setRing ch r)

/-- The record of a message, opened if it is not yet, and its offset. -/
def ringPlaced (s : State) (k ch : Nat) (b : Bnd) (p : Packet) : Option (State × Nat) :=
  match ((s.core k).arrOf (arrKey (pktH p))).base with
  | some x => some (s, x)
  | none => match ((s.core k).ring ch).place b.size (64 * ((pktH p).len + 1)) with
    | some (r, x, sk) => some (ringOpened s k ch b r sk, x)
    | none => none

/-- Flits of a message written from address `a` on by the NET engine. -/
def flitsWritten (s : State) (k a : Nat) (p : Packet) : State :=
  (s.spadWrite k a (p.payload.flatMap flitBytes)).xferBy k .net a p.payload.length

/-- The header line of a whole message, and its record marked as written (06 R166). -/
def recordClosed (s : State) (k ch x : Nat) (b : Bnd) (h : Hdr) : State :=
  (s.spadWrite k (b.base + x) (ringHdr 1 h.len h.src h.sch (SMap.get zeroD (s.core k).seqIn (arrKey h)))).updCore k (fun c =>
    let r := c.ring ch
    c.setRing ch { r with recs := r.recs.map (fun y => if y.addr = x ∧ !y.skip then { y with done := true } else y) })

/-- The lines of a record written, and its header line with the last of them. -/
def recordFilled (s : State) (k ch : Nat) (b : Bnd) (p : Packet) (got x : Nat) : State :=
  let t := flitsWritten s k (b.base + x + 64 * (1 + got)) p
  if (pktH p).len ≤ got + p.payload.length then recordClosed t k ch x b (pktH p) else t

/-- Flits taken into the record at offset `x` of a message of which `a` has arrived. -/
def ringTaken (s : State) (k ch : Nat) (b : Bnd) (p : Packet) (a : Arr) (x : Nat) : State :=
  ((recordFilled s k ch b p a.got x).updCore k (fun c =>
    { c.progress (arrKey (pktH p)) { a with base := some x } p.payload.length (pktH p).len with openSlot := none })).sendCredit
      k (pktH p).src (pktH p).sch p.payload.length

theorem ringTake_eq {s : State} {k ch : Nat} {p : Packet} {b : Bnd} (hb : s.bindIn k ch = some b) :
    s.ringTake k ch p = (ringPlaced s k ch b p).map
      (fun q => ringTaken q.1 k ch b p ((s.core k).arrOf (arrKey (pktH p))) q.2) := by
  simp only [State.ringTake, hb, ringPlaced]
  cases ((s.core k).arrOf (arrKey (pktH p))).base with
  | some x => rfl
  | none =>
    cases ((s.core k).ring ch).place b.size (64 * ((pktH p).len + 1)) with
    | some q => rfl
    | none => rfl

/-- Tail, used count and waiting flits of ring `q` are those of `r`. -/
@[simp] abbrev KeepsRing (r q : Ring) : Prop := q.t = r.t ∧ q.u = r.u ∧ q.waiting = r.waiting

section
variable (s : State) (k ch : Nat) (b : Bnd) (p : Packet)

theorem ringOpened_atCore (r : Ring) (sk : Option Nat) : AtCore k s (ringOpened s k ch b r sk) := by
  have h : AtCore k s (s.updCore k (fun c => c.setRing ch r)) := updCore_atCore k s ⟨rfl, rfl, rfl, rfl⟩
  cases sk with
  | some t => exact h.trans (spadWrite_atCore ..)
  | none => exact h

theorem ringOpened_ring (r : Ring) (sk : Option Nat) : ((ringOpened s k ch b r sk).core k).ring ch = r := by
  cases sk <;> simp [ringOpened]

theorem ringPlaced_atCore {q : State × Nat} (h : ringPlaced s k ch b p = some q) :
    AtCore k s q.1 ∧ ((q.1.core k).ring ch).waiting = ((s.core k).ring ch).waiting := by
  unfold ringPlaced at h
  split at h
  · cases h
    exact ⟨AtCore.refl .., rfl⟩
  split at h
  next r x sk hr =>
    cases h
    exact ⟨ringOpened_atCore .., by rw [ringOpened_ring, place_waiting hr]⟩
  · cases h

theorem flitsWritten_atCore (a : Nat) : AtCore k s (flitsWritten s k a p) :=
  (spadWrite_atCore ..).trans (xferBy_atCore ..)

theorem flitsWritten_spad (a : Nat) :
    (flitsWritten s k a p).spad = (s.spadWrite k a (p.payload.flatMap flitBytes)).spad := by
  simp [flitsWritten]

theorem recordClosed_atCore (x : Nat) (h : Hdr) : AtCore k s (recordClosed s k ch x b h) :=
  (spadWrite_atCore ..).trans (updCore_atCore _ _ ⟨rfl, rfl, rfl, rfl⟩)

theorem recordFilled_atCore (got x : Nat) : AtCore k s (recordFilled s k ch b p got x) := by
  unfold recordFilled
  have h := flitsWritten_atCore s k p (b.base + x + 64 * (1 + got))
  exact .ite (h.trans (recordClosed_atCore ..)) h

theorem recordFilled_ring (got x : Nat) :
    KeepsRing ((s.core k).ring ch) (((recordFilled s k ch b p got x).core k).ring ch) := by
  have h : ((flitsWritten s k (b.base + x + 64 * (1 + got)) p).core k).ring ch = (s.core k).ring ch := by
    simp [flitsWritten, Core.ring]
  unfold recordFilled
  split <;> simp [recordClosed, h]

/-- The header line does not reach the flits behind it. -/
theorem recordFilled_read (x : Nat) :
    (recordFilled s k ch b p 0 x).spadRead k (b.base + x + 64) (64 * p.payload.length) = p.payload.flatMap flitBytes := by
  have h : (flitsWritten s k (b.base + x + 64) p).spadRead k (b.base + x + 64) (64 * p.payload.length) =
      p.payload.flatMap flitBytes := by
    rw [spadRead_congr (flitsWritten_spad ..), ← length_flatMap_flitBytes]
    exact spadRead_spadWrite_same ..
  unfold recordFilled
  split
  · rw [recordClosed, spadRead_congr (State.updCore_spad ..), spadRead_spadWrite_other (by rw [length_ringHdr]; omega)]
    exact h
  · exact h

theorem ringTaken_atCore (a : Arr) (x : Nat) : AtCore k s (ringTaken s k ch b p a x) := by
  refine ((recordFilled_atCore s k ch b p a.got x).trans (updCore_atCore _ _ ?_)).trans (sendCredit_atCore ..)
  simp [sameRegs]

theorem ringTaken_ring (a : Arr) (x : Nat) :
    KeepsRing ((s.core k).ring ch) (((ringTaken s k ch b p a x).core k).ring ch) := by
  have h : ((ringTaken s k ch b p a x).core k).ring ch = ((recordFilled s k ch b p a.got x).core k).ring ch := by
    simp [ringTaken, Core.ring]
  rw [h]
  exact recordFilled_ring ..

theorem ringTaken_spad (a : Arr) (x : Nat) :
    (ringTaken s k ch b p a x).spad = (recordFilled s k ch b p a.got x).spad := by
  simp [ringTaken]

/-- Flits that a ring takes reach the core alone, and leave what waits for the ring waiting. -/
theorem ringTake_atCore {t : State} (h : s.ringTake k ch p = some t) :
    AtCore k s t ∧ ((t.core k).ring ch).waiting = ((s.core k).ring ch).waiting := by
  cases hb : s.bindIn k ch with
  | none => simp [State.ringTake, hb] at h
  | some b =>
    rw [ringTake_eq hb, Option.map_eq_some_iff] at h
    obtain ⟨q, hq, rfl⟩ := h
    obtain ⟨hat, hwait⟩ := ringPlaced_atCore s k ch b p hq
    exact ⟨hat.trans (ringTaken_atCore ..), (ringTaken_ring ..).2.2.trans hwait⟩

theorem ringArrive_atCore : AtCore k s (s.ringArrive k ch p) := by
  unfold State.ringArrive
  extract_lets wait
  have hwait (first : Bool) (u : State) : AtCore k u (wait first u) := updCore_atCore k u ⟨rfl, rfl, rfl, rfl⟩
  split
  · exact hwait ..
  split
  next t ht => exact (ringTake_atCore s k ch p ht).1
  · exact (count_atCore ..).trans (hwait ..)

/-- Flits wait behind those that wait (06 R167, case 4). -/
theorem ringArrive_waits (h : ((s.core k).ring ch).waiting ≠ []) : (s.ringArrive k ch p).spad = s.spad ∧
    (((s.ringArrive k ch p).core k).ring ch).waiting = ((s.core k).ring ch).waiting ++ [p] := by
  have hne : (!((s.core k).ring ch).waiting.isEmpty) = true := by simpa using h
  simp only [State.ringArrive, hne, if_true]
  refine ⟨rfl, ?_⟩
  rw [State.core_updCore_same]
  simp [Core.ring, Core.setRing]

/-! ## Windows (06 R163, 07 R182) -/

/-- The state of a window's core when flits of a message have been written at its line offset. -/
def windowTaken (off : Nat) : State :=
  let a := (s.core k).arrOf (arrKey (pktH p))
  (flitsWritten s k (b.base + 64 * (off + a.got)) p).updCore k (fun c =>
    let c := { c.progress (arrKey (pktH p)) a p.payload.length (pktH p).len with openSlot := none }
    if decide ((pktH p).len ≤ a.got + p.payload.length) then c.incAc b.counter else c)

theorem winArrive_eq {off : Nat} (hb : s.bindIn k ch = some b) : ∃ t, AtCore k (windowTaken s k b p off) t ∧
    t.core k = (windowTaken s k b p off).core k ∧ t.spad = (windowTaken s k b p off).spad ∧
    s.winArrive k ch off p = t := by
  refine ⟨_, ?_, ?_, ?_, rfl⟩ <;> simp only [State.winArrive, hb]
  · exact (AtCore.ite (ledDestroy_atCore ..) (AtCore.refl ..)).trans (sendCredit_atCore ..)
  · rw [sendCredit_core]
    split <;> rfl
  · simp [windowTaken, flitsWritten]

end

end Sys2Proof.Proofs

end

section
/-! PROOFS. O26, O27: messages delivered by the kind of their binding (06 R163, R167, 07 R180, R182), multicasts (07 R183, 09
R250). -/

open Sys2Proof Sys2Proof.Machine Sys2Proof.Claims

namespace Sys2Proof.Proofs

/-! ## A window's core -/

section
variable (s : State) (k ch off : Nat) (b : Bnd) (p : Packet)

theorem windowTaken_atCore : AtCore k s (windowTaken s k b p off) := by
  unfold windowTaken
  refine (flitsWritten_atCore ..).trans (updCore_atCore _ _ ?_)
  dsimp only
  split <;> simp [sameRegs]

theorem windowTaken_spad : (windowTaken s k b p off).spad = writeBytes s.spad
    (spadKey k (b.base + 64 * (off + ((s.core k).arrOf (arrKey (pktH p))).got))) (p.payload.flatMap flitBytes) := by
  rw [windowTaken, State.updCore_spad, flitsWritten_spad]
  rfl

theorem windowTaken_ac (j : Nat) : ((windowTaken s k b p off).core k).ac j =
    if (pktH p).len ≤ ((s.core k).arrOf (arrKey (pktH p))).got + p.payload.length ∧ j = b.counter ∧ j < 64
    then (s.core k).ac j + 1 else (s.core k).ac j := by
  rw [windowTaken, State.core_updCore_same]
  by_cases hlast : (pktH p).len ≤ ((s.core k).arrOf (arrKey (pktH p))).got + p.payload.length
  · simp only [hlast, decide_true, if_true, true_and, ac_incAc]
    simp [Core.ac, flitsWritten]
  · simp [hlast, Core.ac, flitsWritten]

theorem winArrive_atCore : AtCore k s (s.winArrive k ch off p) := by
  cases hb : s.bindIn k ch with
  | none =>
    simp only [State.winArrive, hb]
    exact AtCore.refl ..
  | some b =>
    obtain ⟨t, ht, -, -, heq⟩ := winArrive_eq s k ch b p (off := off) hb
    exact heq ▸ (windowTaken_atCore ..).trans ht

/-! ## Delivery -/

theorem deliver_atCore : AtCore k s (s.deliver k ch off p) := by
  have h := noteCapture_atCore k s k (pktBytes p)
  simp only [State.deliver]
  split
  · exact h.trans (portArrive_atCore ..)
  · exact h.trans (ringArrive_atCore ..)
  · exact h.trans (winArrive_atCore ..)
  · exact h

variable {s k ch}

theorem deliver_port (h : s.inKind k ch = 1) :
    s.deliver k ch off p = (s.noteCapture k (pktBytes p)).portArrive k ch p := by
  simp only [State.deliver, (noteCapture_atCore k s k (pktBytes p)).inKind, h]

theorem deliver_ring (h : s.inKind k ch = 2) :
    s.deliver k ch off p = (s.noteCapture k (pktBytes p)).ringArrive k ch p := by
  simp only [State.deliver, (noteCapture_atCore k s k (pktBytes p)).inKind, h]

theorem deliver_window (h : s.inKind k ch = 3) :
    s.deliver k ch off p = (s.noteCapture k (pktBytes p)).winArrive k ch off p := by
  simp only [State.deliver, (noteCapture_atCore k s k (pktBytes p)).inKind, h]

theorem deliver_land (h : s.inKind k ch = 1) :
    ((s.deliver k ch off p).core k).land ch = (s.core k).land ch ++ p.payload := by
  rw [deliver_port off p h, portArrive_land, noteCapture_core]

end

/-! ## MSG (06 R167, 07 R180) -/

/-- A packet out of the mesh, its bytes noted for the capture of a sample. -/
def captured (u : State) (k : Nat) (p : Packet) : State := (u.eject p).noteCapture k (pktBytes p)

theorem captured_atCore (u : State) (k : Nat) (p : Packet) : AtCore k u (captured u k p) :=
  (eject_atCore ..).trans (noteCapture_atCore ..)

@[simp] theorem captured_core (u : State) (k : Nat) (p : Packet) (j : Nat) : (captured u k p).core j = u.core j := by
  simp [captured]

@[simp] theorem captured_spad (u : State) (k : Nat) (p : Packet) : (captured u k p).spad = u.spad := by
  simp [captured]

theorem inKind_of_bindIn {s : State} {k ch : Nat} {b : Bnd} (h : s.bindIn k ch = some b) : s.inKind k ch = b.kind := by
  simp [State.inKind, h]

/-- A record of a message of which nothing has arrived is opened where the ring has room. -/
theorem ringTake_opens {s : State} {k ch x : Nat} {p : Packet} {b : Bnd} {r : Ring} {sk : Option Nat}
    (hb : s.bindIn k ch = some b) (harr : (s.core k).arrOf (arrKey (pktH p)) = {})
    (hr : ((s.core k).ring ch).place b.size (64 * ((pktH p).len + 1)) = some (r, x, sk)) :
    s.ringTake k ch p = some (ringTaken (ringOpened s k ch b r sk) k ch b p {} x) := by
  simp [ringTake_eq hb, ringPlaced, harr, hr]

theorem ringArrive_takes {s t : State} {k ch : Nat} {p : Packet} (hw : ((s.core k).ring ch).waiting = [])
    (h : s.ringTake k ch p = some t) : s.ringArrive k ch p = t := by
  simp [State.ringArrive, hw, h]

section
variable {s u : State} {k : Nat} {p : Packet} (hc : closed s u) (ha : arrives u p 1 k)
  (hs : seqOk (u.core k) (pktH p) = true)
include hc ha hs

theorem exec_msg : exec (.msg p) s = .next ((u.eject p).deliver k (pktH p).dch 0 p) := by
  simp only [exec, execMsg, arriveAt_of_arrives hc ha, hs]
  rfl

/-- What a message leaves of the rest, wherever it is delivered. -/
theorem msg_answers {q : State → Prop} (hq : q ((u.eject p).deliver k (pktH p).dch 0 p)) :
    answers (.msg p) s (fun t => q t ∧ AtCore k u t) :=
  answers_of_exec (exec_msg hc ha hs) ⟨hq, (eject_atCore ..).trans (deliver_atCore ..)⟩

theorem msg_port (h : u.inKind k (pktH p).dch = 1) :
    answers (.msg p) s (fun t => (t.core k).land (pktH p).dch = (u.core k).land (pktH p).dch ++ p.payload ∧
      sameRegs (u.core k) (t.core k) ∧ sameMem u t ∧ sameOthers k u t) := by
  have h' : (u.eject p).inKind k (pktH p).dch = 1 := (eject_atCore k u p).inKind .. ▸ h
  obtain ⟨t, ht, ⟨hland, hspad⟩, hat⟩ := msg_answers hc ha hs (q := fun t =>
    (t.core k).land (pktH p).dch = (u.core k).land (pktH p).dch ++ p.payload ∧ t.spad = u.spad)
    ⟨by rw [deliver_land 0 p h', eject_core], by simp [deliver_port 0 p h']⟩
  exact ⟨t, ht, hland, hat.regs, ⟨hspad, hat.hbm, hat.imem⟩, hat.others⟩

theorem msg_ring_waits (h : u.inKind k (pktH p).dch = 2) (hw : ((u.core k).ring (pktH p).dch).waiting ≠ []) :
    answers (.msg p) s (fun t =>
      ((t.core k).ring (pktH p).dch).waiting = ((u.core k).ring (pktH p).dch).waiting ++ [p] ∧
      sameRegs (u.core k) (t.core k) ∧ sameMem u t ∧ sameOthers k u t) := by
  have h' : (u.eject p).inKind k (pktH p).dch = 2 := (eject_atCore k u p).inKind .. ▸ h
  obtain ⟨hspad, hwait⟩ := ringArrive_waits (captured u k p) k (pktH p).dch p (by simpa using hw)
  obtain ⟨t, ht, ⟨hwait, hspad⟩, hat⟩ := msg_answers hc ha hs (q := fun t =>
    ((t.core k).ring (pktH p).dch).waiting = ((u.core k).ring (pktH p).dch).waiting ++ [p] ∧ t.spad = u.spad)
    (by rw [deliver_ring 0 p h', ← captured]; exact ⟨by simpa using hwait, by simpa using hspad⟩)
  exact ⟨t, ht, hwait, hat.regs, ⟨hspad, hat.hbm, hat.imem⟩, hat.others⟩

theorem msg_ring_record {x : Nat} {b : Bnd} {r : Ring} {sk : Option Nat} (hb : u.bindIn k (pktH p).dch = some b)
    (hkind : b.kind = 2) (hw : ((u.core k).ring (pktH p).dch).waiting = [])
    (harr : (u.core k).arrOf (arrKey (pktH p)) = {})
    (hr : ((u.core k).ring (pktH p).dch).place b.size (64 * ((pktH p).len + 1)) = some (r, x, sk)) :
    answers (.msg p) s (fun t =>
      t.spadRead k (b.base + x + 64) (64 * p.payload.length) = p.payload.flatMap flitBytes ∧
      ((t.core k).ring (pktH p).dch).u = r.u ∧ ((t.core k).ring (pktH p).dch).t = r.t ∧
      sameRegs (u.core k) (t.core k) ∧ t.hbm = u.hbm ∧ t.imem = u.imem ∧ sameOthers k u t) := by
  have h' : (u.eject p).inKind k (pktH p).dch = 2 :=
    (eject_atCore k u p).inKind .. ▸ (inKind_of_bindIn hb).trans hkind
  have htake := ringTake_opens (s := captured u k p) (k := k) (ch := (pktH p).dch) (p := p) (b := b) (r := r) (x := x) (sk := sk)
    (((captured_atCore u k p).bindIn ..).trans hb) (by simpa using harr) (by simpa using hr)
  have harrive := ringArrive_takes (by simpa using hw) htake
  obtain ⟨htail, hused, -⟩ := ringTaken_ring (ringOpened (captured u k p) k (pktH p).dch b r sk) k (pktH p).dch b p {} x
  rw [ringOpened_ring] at htail hused
  obtain ⟨t, ht, ⟨hread, hused, htail⟩, hat⟩ := msg_answers hc ha hs (q := fun t =>
    t.spadRead k (b.base + x + 64) (64 * p.payload.length) = p.payload.flatMap flitBytes ∧
    ((t.core k).ring (pktH p).dch).u = r.u ∧ ((t.core k).ring (pktH p).dch).t = r.t) (by
      rw [deliver_ring 0 p h', ← captured, harrive]
      exact ⟨(spadRead_congr (ringTaken_spad ..) ..).trans (recordFilled_read ..), hused, htail⟩)
  exact ⟨t, ht, hread, hused, htail, hat.regs, hat.hbm, hat.imem, hat.others⟩

end

/-! ## WIN (06 R163, 07 R182) -/

section
variable {s u : State} {k : Nat} {p : Packet} {b : Bnd} (hc : closed s u) (ha : arrives u p 2 k)
  (hs : seqOk (u.core k) (pktH p) = true)
include hc ha hs

theorem exec_win : exec (.win p) s = .next ((u.eject p).deliver k (pktH p).dch (bits (pktH p).arg 12 0) p) := by
  simp only [exec, execWin, arriveAt_of_arrives hc ha, hs]
  rfl

theorem win_answers (hb : u.bindIn k (pktH p).dch = some b) (hkind : b.kind = 3) :
    answers (.win p) s (fun t =>
      t.spad = writeBytes u.spad (spadKey k (b.base + 64 * (bits (pktH p).arg 12 0 +
        ((u.core k).arrOf (arrKey (pktH p))).got))) (p.payload.flatMap flitBytes) ∧
      (∀ j, (t.core k).ac j =
        if (pktH p).len ≤ ((u.core k).arrOf (arrKey (pktH p))).got + p.payload.length ∧ j = b.counter ∧ j < 64
        then (u.core k).ac j + 1 else (u.core k).ac j) ∧
      sameRegs (u.core k) (t.core k) ∧ t.hbm = u.hbm ∧ t.imem = u.imem ∧ sameOthers k u t) := by
  have h' : (u.eject p).inKind k (pktH p).dch = 3 :=
    (eject_atCore k u p).inKind .. ▸ (inKind_of_bindIn hb).trans hkind
  obtain ⟨t, -, hcore, hspad, ht⟩ := winArrive_eq (captured u k p) k (pktH p).dch b p
    (off := bits (pktH p).arg 12 0) (((captured_atCore u k p).bindIn ..).trans hb)
  have hexec := exec_win hc ha hs
  have hat : AtCore k u t := by
    rw [← ht]
    exact (captured_atCore ..).trans (winArrive_atCore ..)
  rw [deliver_window _ p h', ← captured, ht] at hexec
  refine answers_of_exec hexec ⟨?_, fun j => ?_, hat.regs, hat.hbm, hat.imem, hat.others⟩
  · rw [hspad, windowTaken_spad, captured_core, captured_spad]
  · rw [hcore, windowTaken_ac, captured_core]

end

/-- Settles O26, by the kind of the binding that a message arrives at. -/
theorem messageArrival : Obligations.message_arrival := by
  unfold Obligations.message_arrival
  exact ⟨fun _ _ _ _ hc ha hs h => msg_port hc ha hs h, fun _ _ _ _ hc ha hs h hw => msg_ring_waits hc ha hs h hw,
    fun _ _ _ _ _ _ _ _ hc ha hs hb hkind hw harr hr => msg_ring_record hc ha hs hb hkind hw harr hr,
    fun _ _ _ _ _ hc ha hs hb hkind => win_answers hc ha hs hb hkind⟩

/-! ## MCAST (07 R183, 09 R250) -/

/-- The copies of a multicast delivered to the cores of a list. -/
def copied (p : Packet) (l : List Nat) (s : State) : State :=
  l.foldl (fun s k => s.deliver k (pktH p).dch p.off p) s

theorem copied_frame (p : Packet) (l : List Nat) (s : State) :
    (∀ x, sameRegs (s.core x) ((copied p l s).core x)) ∧ (copied p l s).hbm = s.hbm ∧ (copied p l s).imem = s.imem := by
  refine List.foldlRecOn l _ (motive := fun t : State => (∀ x, sameRegs (s.core x) (t.core x)) ∧ t.hbm = s.hbm ∧
    t.imem = s.imem) ⟨fun _ => ⟨rfl, rfl, rfl, rfl⟩, rfl, rfl⟩ fun t ⟨hregs, hhbm, himem⟩ k _ => ?_
  have h := deliver_atCore t k (pktH p).dch p.off p
  refine ⟨fun x => ?_, h.hbm.trans hhbm, h.imem.trans himem⟩
  by_cases hx : x = k
  · subst hx
    obtain ⟨hs, hv, hp, ht⟩ := h.regs
    obtain ⟨hs', hv', hp', ht'⟩ := hregs x
    exact ⟨hs.trans hs', hv.trans hv', hp.trans hp', ht.trans ht'⟩
  · rw [h.others x hx]
    exact hregs x

theorem copied_other (p : Packet) {l : List Nat} {x : Nat} (hx : x ∉ l) (s : State) :
    (copied p l s).core x = s.core x :=
  List.foldlRecOn l _ (motive := fun t : State => t.core x = s.core x) rfl fun t ht k hk => by
    rw [(deliver_atCore t k (pktH p).dch p.off p).others x (ne_of_mem_of_not_mem hk hx).symm, ht]

theorem copied_land (p : Packet) {l : List Nat} {x : Nat} (hx : l.count x = 1) {s : State}
    (hk : s.inKind x (pktH p).dch = 1) :
    ((copied p l s).core x).land (pktH p).dch = (s.core x).land (pktH p).dch ++ p.payload := by
  induction l generalizing s with
  | nil => simp at hx
  | cons k l ih =>
    have h := deliver_atCore s k (pktH p).dch p.off p
    rw [copied, List.foldl_cons, ← copied]
    by_cases hkx : k = x
    · subst hkx
      have hnot : k ∉ l := by
        rw [List.count_cons_self] at hx
        exact List.count_eq_zero.mp (Nat.succ.inj hx)
      rw [copied_other p hnot, deliver_land p.off p hk]
    · rw [List.count_cons_of_ne hkx] at hx
      rw [ih hx ((h.inKind ..).trans hk), h.others x (Ne.symm hkx)]

/-- What the copies that isolated dies discard leave in the ledger of interface `i` (09 R250). -/
def copiesLedger (f : Nat) (lost : List Nat) (i gone : Nat) (s : State) : State :=
  let s := if lost.isEmpty then s else { s with net := { s.net with discards := s.net.discards + f * lost.length } }
  if gone = 0 then s else s.ledDestroy i i 4 gone

theorem copiesLedger_same (f : Nat) (lost : List Nat) (i gone : Nat) (s : State) :
    (∀ x, (copiesLedger f lost i gone s).core x = s.core x) ∧ (copiesLedger f lost i gone s).hbm = s.hbm ∧
      (copiesLedger f lost i gone s).imem = s.imem := by
  unfold copiesLedger
  split <;> split <;> exact ⟨fun _ => rfl, rfl, rfl⟩

/-- A fault of a header reaches no core and no memory (09 R239). -/
theorem headerFault_cores (s : State) (p : Packet) : (s.headerFault p).cores = s.cores := by
  have hun (i : Nat) : (s.unflight i p).cores = s.cores := by
    unfold State.unflight
    split <;> rfl
  have hdis (i : Nat) : (s.discardAt i p).cores = s.cores := by
    simp only [State.discardAt]
    split <;> exact hun i
  unfold State.headerFault
  extract_lets h n t w v i
  have hv : v.cores = s.cores := hdis _
  clear_value v
  split <;> simp [hv]

section
variable {s u : State} {k : Nat} {p : Packet} (hc : closed s u) (ha : arrives u p 3 k)
include hc ha

theorem exec_mcast_refused {x : Nat} (hx : x ∈ u.mcastCores (pktH p)) (hs : seqOk (u.core x) (pktH p) = false) :
    exec (.mcast p) s = .next (u.headerFault p) := by
  have hany : (u.mcastCores (pktH p)).any (fun k => !seqOk (u.core k) (pktH p)) = true :=
    List.any_eq_true.mpr ⟨x, hx, by simp [hs]⟩
  simp only [exec, execMcast, arriveAt_of_arrives hc ha, hany]
  rfl

theorem exec_mcast_taken (hs : ∀ x ∈ u.mcastCores (pktH p), seqOk (u.core x) (pktH p) = true) :
    ∃ f lost i gone, exec (.mcast p) s =
      .next (copiesLedger f lost i gone (copied p (u.mcastCores (pktH p)) (u.eject p))) := by
  have hany : (u.mcastCores (pktH p)).any (fun k => !seqOk (u.core k) (pktH p)) = false :=
    List.any_eq_false.mpr fun x hx => by simp [hs x hx]
  simp only [exec, execMcast, arriveAt_of_arrives hc ha, hany]
  exact ⟨_, _, _, _, rfl⟩

theorem mcast_taken (hs : ∀ x ∈ u.mcastCores (pktH p), seqOk (u.core x) (pktH p) = true) :
    answers (.mcast p) s (fun t =>
      (∀ x, (u.mcastCores (pktH p)).count x = 1 → u.inKind x (pktH p).dch = 1 →
        (t.core x).land (pktH p).dch = (u.core x).land (pktH p).dch ++ p.payload) ∧
      (∀ x, x ∈ u.mcastCores (pktH p) → sameRegs (u.core x) (t.core x)) ∧
      (∀ x, x ∉ u.mcastCores (pktH p) → t.core x = u.core x) ∧ t.hbm = u.hbm ∧ t.imem = u.imem) := by
  obtain ⟨f, lost, i, gone, hexec⟩ := exec_mcast_taken hc ha hs
  obtain ⟨hcore, hhbm, himem⟩ := copiesLedger_same f lost i gone (copied p (u.mcastCores (pktH p)) (u.eject p))
  obtain ⟨hregs, hhbm', himem'⟩ := copied_frame p (u.mcastCores (pktH p)) (u.eject p)
  have heject := eject_atCore k u p
  refine answers_of_exec hexec ⟨fun x hx hk => ?_, fun x _ => ?_, fun x hx => ?_, hhbm.trans (hhbm'.trans heject.hbm),
    himem.trans (himem'.trans heject.imem)⟩
  · rw [hcore, copied_land p hx ((heject.inKind ..).trans hk), eject_core]
  · rw [hcore, ← eject_core u p x]
    exact hregs x
  · rw [hcore, copied_other p hx, eject_core]

theorem mcast_refused {x : Nat} (hx : x ∈ u.mcastCores (pktH p)) (hs : seqOk (u.core x) (pktH p) = false) :
    answers (.mcast p) s (fun t => t.cores = u.cores ∧ sameMem u t) := by
  obtain ⟨hspad, hhbm, himem, -, -⟩ := State.headerFault_memSame u p
  exact answers_of_exec (exec_mcast_refused hc ha hx hs) ⟨headerFault_cores u p, hspad, hhbm, himem⟩

end

/-- Settles O27, by induction on the receivers of the span. -/
theorem multicastArrival : Obligations.multicast_arrival := by
  unfold Obligations.multicast_arrival
  exact ⟨fun _ _ _ _ hc ha hs => mcast_taken hc ha hs, fun _ _ _ _ _ hc ha hx hs => mcast_refused hc ha hx hs⟩

end Sys2Proof.Proofs

end

section
/-! PROOFS. O28: flits leave a send queue for credits (07 R176), flits that wait for a ring are taken in order (06 R167, log
83), B buffers fill from the receive FIFO (07 R180, log 62). -/

open Sys2Proof Sys2Proof.Machine Sys2Proof.Claims

namespace Sys2Proof.Proofs

section
variable {k : Nat} {s t : State}

theorem AtCore.bindOut (h : AtCore k s t) (j ch : Nat) : t.bindOut j ch = s.bindOut j ch := by
  simp [State.bindOut, h.vcore, h.bindingsOf]

theorem AtCore.sinks (h : AtCore k s t) (j ch : Nat) : t.sinks j ch = s.sinks j ch := by
  simp only [State.sinks, h.bindOut, h.vcore]

end

/-! ## The send queue as the NET engine fills it (07 R175) -/

/-- The flit at place `i` of a send queue, its line read if it may be. -/
def fetched (s : State) (k i : Nat) (f : SFlit) : SFlit :=
  match f.src with
  | some a =>
    if i < 8 && decide (f.after ≤ s.nowCycle k) then { f with data := bytesFlit (s.spadRead k a 64), src := none } else f
  | none => f

/-- The send queue with the lines that its engine may read. -/
def fetchedQueue (s : State) (k ch : Nat) : List SFlit :=
  (List.range ((s.core k).sq ch).length).map (fun i =>
    match ((s.core k).sq ch)[i]? with
    | some f => fetched s k i f
    | none => { data := 0, idx := 0, total := 0, off := 0, tag := 0 })

theorem fetched_of_none {s : State} {k i : Nat} {f : SFlit} (h : f.src = none) : fetched s k i f = f := by
  simp [fetched, h]

/-- The flit at the front is read once its line may be. -/
theorem fetched_front_src {s : State} {k : Nat} {f : SFlit} (h : f.src = none ∨ f.after ≤ s.nowCycle k) :
    (fetched s k 0 f).src = none := by
  cases hf : f.src with
  | none => rw [fetched_of_none hf, hf]
  | some a =>
    have ha : f.after ≤ s.nowCycle k := h.resolve_left (by simp [hf])
    simp [fetched, hf, ha]

theorem fetchedQueue_cons {s : State} {k ch : Nat} {f : SFlit} {l : List SFlit} (h : (s.core k).sq ch = f :: l) :
    ∃ l', fetchedQueue s k ch = fetched s k 0 f :: l' ∧ l'.length = l.length := by
  rw [fetchedQueue, h, List.length_cons, List.range_succ_eq_map]
  exact ⟨_, rfl, by simp⟩

/-- Filling a send queue moves that queue, the ranges of the scoreboard and the NET engine of its core. -/
theorem fillSend_eq (s : State) (k ch : Nat) : ∃ r e, s.fillSend k ch =
    s.setCore k { (s.core k).setSq ch (fetchedQueue s k ch) with ranges := r, engFree := e } := by
  unfold State.fillSend
  extract_lets c now q rd done lines c'
  obtain ⟨e, he⟩ : ∃ e, c' = { c with engFree := e } := by
    unfold c'
    generalize lines = l
    cases l <;> exact ⟨_, rfl⟩
  clear_value c'
  subst he
  exact ⟨_, e, rfl⟩

theorem fillSend_sq (s : State) (k ch : Nat) : ((s.fillSend k ch).core k).sq ch = fetchedQueue s k ch := by
  obtain ⟨r, e, h⟩ := fillSend_eq s k ch
  rw [h, State.core_setCore_same]
  exact Core.sq_setSq_same ..

theorem fillSend_taken (s : State) (k ch : Nat) : ((s.fillSend k ch).core k).taken = (s.core k).taken := by
  obtain ⟨r, e, h⟩ := fillSend_eq s k ch
  rw [h, State.core_setCore_same]
  rfl

theorem fillSend_waits (s : State) (k ch j c : Nat) : ((s.fillSend k ch).core j).ring c = (s.core j).ring c ∧
    ((s.fillSend k ch).core j).land c = (s.core j).land c := by
  obtain ⟨r, e, h⟩ := fillSend_eq s k ch
  rw [h, State.core_setCore]
  split
  next hj => rw [hj]; exact ⟨rfl, rfl⟩
  · exact ⟨rfl, rfl⟩

theorem fillSend_net (s : State) (k ch : Nat) : (s.fillSend k ch).net = s.net := rfl

theorem takenOf_congr {c d : Core} (h : d.taken = c.taken) (ch v : Nat) : d.takenOf ch v = c.takenOf ch v := by
  rw [Core.takenOf, h, Core.takenOf]

theorem fillSend_landingUsed (s : State) (k ch v c : Nat) :
    (s.fillSend k ch).landingUsed v c = s.landingUsed v c := by
  have hof (e : Bool) : (s.fillSend k ch).coreOf e v = s.coreOf e v := rfl
  simp only [State.landingUsed, fillSend_net, hof, fillSend_waits]

theorem fillSend_roomFor (s : State) (k ch : Nat) (b : Bnd) : (s.fillSend k ch).roomFor k ch b = s.roomFor k ch b := by
  have hat : AtCore k s (s.fillSend k ch) := .of_onCore (fillSend_onCore ..)
  simp only [State.roomFor, hat.sinks, takenOf_congr (fillSend_taken s k ch), fillSend_landingUsed]

/-! ## A flit leaves (07 R176) -/

/-- A credit taken from each destination of a list. -/
def creditsTaken (ch : Nat) (l : List Nat) (c : Core) : Core :=
  l.foldl (fun c v => c.setTaken ch v (c.takenOf ch v + 1)) c

theorem creditsTaken_eq (ch : Nat) (l : List Nat) (c : Core) : ∃ m, creditsTaken ch l c = { c with taken := m } := by
  refine List.foldlRecOn l _ (motive := fun d : Core => ∃ m, d = { c with taken := m }) ⟨_, rfl⟩ ?_
  rintro _ ⟨m, rfl⟩ v _
  exact ⟨_, rfl⟩

theorem takenOf_setTaken (c : Core) (ch v w n : Nat) :
    (c.setTaken ch v n).takenOf ch w = if w = v then n else c.takenOf ch w := by
  simp [Core.takenOf, Core.setTaken, SMap.get_put]

theorem creditsTaken_takenOf (ch : Nat) (l : List Nat) (c : Core) (v : Nat) :
    (creditsTaken ch l c).takenOf ch v = c.takenOf ch v + l.count v := by
  induction l generalizing c with
  | nil => rfl
  | cons w l ih =>
    rw [creditsTaken, List.foldl_cons, ← creditsTaken, ih, takenOf_setTaken]
    by_cases h : v = w
    · subst h
      rw [if_pos rfl, List.count_cons_self]
      omega
    · rw [if_neg h, List.count_cons_of_ne (Ne.symm h)]

theorem notePath_same (s : State) (q : Nat) (b : Bytes) (c : Core) :
    (s.notePath q b c).sendq = c.sendq ∧ (s.notePath q b c).taken = c.taken := by
  unfold State.notePath
  split <;> exact ⟨rfl, rfl⟩

theorem injectFlit_onNet (s : State) (t : Nat) (p : Packet) (f : Flit) (first : Bool) :
    ∃ n, s.injectFlit t p f first = { s with net := n } := by
  unfold State.injectFlit
  split <;> exact ⟨_, rfl⟩

theorem injectFlit_begins (s : State) (t : Nat) (p : Packet) (f : Flit) :
    ∃ x, (s.injectFlit t p f true).net.flight = s.net.flight ++ [x] ∧ x.pkt.payload = [f] := ⟨_, rfl, rfl⟩

/-- What a flit that leaves does before its send queue is filled again. -/
theorem flitOut_eq (s : State) (k ch : Nat) (b : Bnd) (f : SFlit) : ∃ t : State, s.flitOut k ch b f = t.fillSend k ch ∧
    AtCore k s t ∧ (t.core k).sq ch = ((s.core k).sq ch).drop 1 ∧
    (∀ v, (t.core k).takenOf ch v = (s.core k).takenOf ch v + (s.sinks k ch).count v) ∧
    (f.idx = 0 → ∃ x, t.net.flight = s.net.flight ++ [x] ∧ x.pkt.payload = [f.data]) := by
  unfold State.flitOut
  extract_lets t seq h last c c' s1 s2 s3 s4
  obtain ⟨m, hm⟩ : ∃ m, c = { (s.core k).setSq ch (((s.core k).sq ch).drop 1) with taken := m } := creditsTaken_eq ..
  have hcredit (v : Nat) : c.takenOf ch v = (s.core k).takenOf ch v + (s.sinks k ch).count v := creditsTaken_takenOf ..
  clear_value c
  have hnote := notePath_same s ch (flitBytes f.data) c'
  have hregs : KeepsFlight (s.core k) (s.notePath ch (flitBytes f.data) c') := by simp [c', hm, Core.setSq]
  have h1 : AtCore k s s1 := .of_onCore (onCore_setCore hregs.1)
  have hcore : s1.core k = s.notePath ch (flitBytes f.data) c' := State.core_setCore_same ..
  have hflight : f.idx = 0 → ∃ x, s2.net.flight = s.net.flight ++ [x] ∧ x.pkt.payload = [f.data] := by
    intro hf
    simp only [s2, show (f.idx == 0) = true by simp [hf]]
    exact injectFlit_begins s1 ..
  obtain ⟨n, h2⟩ : ∃ n, s2 = { s1 with net := n } := injectFlit_onNet ..
  obtain ⟨d, n', h4, hn⟩ : ∃ d n', s4 = { s1 with net := n', od := d } ∧ n'.flight = s2.net.flight := by
    unfold s4 s3
    rw [h2]
    split <;> split <;> exact ⟨_, _, rfl, rfl⟩
  refine ⟨s4, rfl, ?_, ?_, fun v => ?_, fun hf => ?_⟩
  · rw [h4]
    exact h1.trans (.of_same rfl rfl rfl rfl rfl)
  · have : (s4.core k).sendq = c.sendq := by rw [h4]; exact (congrArg _ hcore).trans hnote.1
    rw [Core.sq, this, hm]
    exact SMap.get_put_same ..
  · have : (s4.core k).taken = c.taken := by rw [h4]; exact (congrArg _ hcore).trans hnote.2
    rw [takenOf_congr this, hcredit]
  · rw [h4, hn]
    exact hflight hf

section
variable {s u : State} {k ch : Nat} (hc : closed s u) (hk : okCore k = true) (hch : ch < 16)
include hc hk hch

theorem exec_flitInject_leaves {b : Bnd} {f : SFlit} {l : List SFlit} (hb : u.bindOut k ch = some b)
    (hq : fetchedQueue u k ch = f :: l) (hf : f.src = none) (hroom : u.roomFor k ch b = true) :
    exec (.flitInject k ch) s = .next ((u.fillSend k ch).flitOut k ch b f) := by
  have hat : AtCore k u (u.fillSend k ch) := .of_onCore (fillSend_onCore ..)
  simp [exec, execFlitInject, onPart, hk, hch, flushAll_of_closed hc, fillSend_sq, hq, hat.bindOut, hb, hf,
    fillSend_roomFor, hroom]

/-- Without a credit nothing leaves. -/
theorem exec_flitInject_stays {v : Nat} (hv : v ∈ u.sinks k ch) (hfull : 16 ≤ (u.core k).takenOf ch v) :
    exec (.flitInject k ch) s = .next (u.fillSend k ch) := by
  have hroom (b : Bnd) : (u.fillSend k ch).roomFor k ch b = false := by
    rw [fillSend_roomFor, State.roomFor, List.all_eq_false]
    exact ⟨v, hv, by simp [Nat.not_lt.mpr hfull]⟩
  simp only [exec, execFlitInject, onPart, hk, hch, flushAll_of_closed hc, hroom]
  simp only [Bool.not_false, Bool.or_true, if_true, decide_true, Bool.and_true, Host.Outcome.next.injEq]
  split <;> rfl

theorem flitInject_leaves {f : SFlit} {l : List SFlit} {b : Bnd} (hb : u.bindOut k ch = some b)
    (hq : (u.core k).sq ch = f :: l) (hread : f.src = none ∨ f.after ≤ u.nowCycle k) (hroom : u.roomFor k ch b = true) :
    answers (.flitInject k ch) s (fun t => ((t.core k).sq ch).length = l.length ∧
      (∀ v, (t.core k).takenOf ch v = (u.core k).takenOf ch v + (u.sinks k ch).count v) ∧
      (f.src = none → f.idx = 0 → ∃ x, t.net.flight = u.net.flight ++ [x] ∧ x.pkt.payload = [f.data]) ∧
      sameRegs (u.core k) (t.core k) ∧ sameMem u t ∧ sameOthers k u t) := by
  obtain ⟨l', hq', hlen⟩ := fetchedQueue_cons hq
  have hexec := exec_flitInject_leaves hc hk hch hb hq' (fetched_front_src hread) hroom
  obtain ⟨t, ht, hat, hsq, hcredit, hflight⟩ := flitOut_eq (u.fillSend k ch) k ch b (fetched u k 0 f)
  obtain ⟨hspad, -⟩ := State.flitOut_memSame (u.fillSend k ch) k ch b (fetched u k 0 f)
  have hfill : AtCore k u (u.fillSend k ch) := .of_onCore (fillSend_onCore ..)
  have hall : AtCore k u (t.fillSend k ch) := (hfill.trans hat).trans (.of_onCore (fillSend_onCore ..))
  rw [ht] at hexec hspad
  refine answers_of_exec hexec ⟨?_, fun v => ?_, fun hsrc hidx => ?_, hall.regs, ⟨hspad, hall.hbm, hall.imem⟩,
    hall.others⟩
  · rw [length_sq_fillSend, hsq, fillSend_sq, hq', List.drop_one, List.tail_cons, hlen]
  · rw [takenOf_congr (fillSend_taken ..), hcredit, takenOf_congr (fillSend_taken ..), hfill.sinks]
  · rw [fetched_of_none hsrc] at hflight
    exact hflight hidx

theorem flitInject_stays {v : Nat} (hv : v ∈ u.sinks k ch) (hfull : 16 ≤ (u.core k).takenOf ch v) :
    answers (.flitInject k ch) s (fun t => ((t.core k).sq ch).length = ((u.core k).sq ch).length ∧
      (t.core k).taken = (u.core k).taken ∧ t.net = u.net ∧ sameRegs (u.core k) (t.core k) ∧ sameMem u t ∧
      sameOthers k u t) :=
  have hon := fillSend_onCore u k ch
  answers_of_exec (exec_flitInject_stays hc hk hch hv hfull)
    ⟨length_sq_fillSend .., fillSend_taken .., rfl, hon.2.1, hon.sameMem, hon.2.2⟩

/-! ## Flits that wait for a ring (06 R167; log 83) -/

theorem exec_ringRecordPlace : exec (.ringRecordPlace k ch) s =
    .next (State.ringDrain k ch ((u.core k).ring ch).waiting.length u) := by
  simp [exec, execRingRecordPlace, onPart, hk, hch, flushAll_of_closed hc]

end

/-- The ring of a channel without the flits at the front of those that wait. -/
def frontTaken (s : State) (k ch : Nat) : State :=
  s.updCore k (fun c => c.setRing ch { c.ring ch with waiting := (c.ring ch).waiting.drop 1, counted := false })

/-- A message at the front that finds no room is counted once (06 R172). -/
def waitCounted (s : State) (k ch : Nat) : State :=
  if ((s.core k).ring ch).counted then s
  else (s.count Obj.RING_WAIT_EVENTS).updCore k (fun c => c.setRing ch { c.ring ch with counted := true })

section
variable {s : State} {k ch n : Nat} {p : Packet} {l : List Packet} (hw : ((s.core k).ring ch).waiting = p :: l)
include hw

theorem ringDrain_takes {t : State} (h : s.ringTake k ch p = some t) :
    State.ringDrain k ch (n + 1) s = State.ringDrain k ch n (frontTaken t k ch) := by
  simp only [State.ringDrain, hw, h]
  rfl

theorem ringDrain_waits (h : s.ringTake k ch p = none) : State.ringDrain k ch (n + 1) s = waitCounted s k ch := by
  simp only [State.ringDrain, hw, h]
  rfl

theorem frontTaken_ring {t : State} (h : s.ringTake k ch p = some t) :
    AtCore k s (frontTaken t k ch) ∧ (((frontTaken t k ch).core k).ring ch).waiting = l := by
  obtain ⟨hat, hwait⟩ := ringTake_atCore s k ch p h
  refine ⟨hat.trans (updCore_atCore _ _ ⟨rfl, rfl, rfl, rfl⟩), ?_⟩
  rw [frontTaken, State.core_updCore_same, Core.ring_setRing_same]
  simp [hwait, hw]

end

theorem waitCounted_atCore (s : State) (k ch : Nat) : AtCore k s (waitCounted s k ch) :=
  .ite (.refl ..) ((count_atCore ..).trans (updCore_atCore _ _ ⟨rfl, rfl, rfl, rfl⟩))

theorem waitCounted_same (s : State) (k ch : Nat) : (waitCounted s k ch).spad = s.spad ∧
    (((waitCounted s k ch).core k).ring ch).waiting = ((s.core k).ring ch).waiting := by
  unfold waitCounted
  split <;> simp

/-- Flits that wait are taken from the front. -/
theorem ringDrain_keeps (k ch n : Nat) (s : State) : AtCore k s (State.ringDrain k ch n s) ∧
    ∃ m, (((State.ringDrain k ch n s).core k).ring ch).waiting = ((s.core k).ring ch).waiting.drop m := by
  induction n generalizing s with
  | zero => exact ⟨AtCore.refl .., 0, rfl⟩
  | succ n ih =>
    cases hw : ((s.core k).ring ch).waiting with
    | nil =>
      simp only [State.ringDrain, hw]
      exact ⟨AtCore.refl .., 0, rfl⟩
    | cons p l =>
      cases ht : s.ringTake k ch p with
      | none =>
        rw [ringDrain_waits hw ht]
        exact ⟨waitCounted_atCore .., 0, by rw [(waitCounted_same ..).2, hw]; rfl⟩
      | some t =>
        rw [ringDrain_takes hw ht]
        obtain ⟨hat, hwait⟩ := frontTaken_ring hw ht
        obtain ⟨hat', m, hm⟩ := ih (frontTaken t k ch)
        exact ⟨hat.trans hat', m + 1, by rw [hm, hwait, List.drop_succ_cons]⟩

/-- A ring takes flits of a message whose record is open, or has room for one. -/
theorem ringTake_of_room {s : State} {k ch : Nat} {p : Packet} {b : Bnd} (hb : s.bindIn k ch = some b)
    (h : ((s.core k).arrOf (arrKey (pktH p))).base.isSome ∨
      (((s.core k).ring ch).place b.size (64 * ((pktH p).len + 1))).isSome) : ∃ t, s.ringTake k ch p = some t := by
  rw [ringTake_eq hb]
  suffices hp : ∃ q, ringPlaced s k ch b p = some q by
    obtain ⟨q, hq⟩ := hp
    exact ⟨_, by rw [hq]; rfl⟩
  unfold ringPlaced
  cases hbase : ((s.core k).arrOf (arrKey (pktH p))).base with
  | some x => exact ⟨_, rfl⟩
  | none =>
    obtain ⟨r, hr⟩ := Option.isSome_iff_exists.mp (h.resolve_left (by simp [hbase]))
    exact ⟨_, by rw [hr]⟩

theorem ringTake_of_full {s : State} {k ch : Nat} {p : Packet} {b : Bnd} (hb : s.bindIn k ch = some b)
    (hbase : ((s.core k).arrOf (arrKey (pktH p))).base = none)
    (hfull : ((s.core k).ring ch).place b.size (64 * ((pktH p).len + 1)) = none) : s.ringTake k ch p = none := by
  simp [ringTake_eq hb, ringPlaced, hbase, hfull]

section
variable {s u : State} {k ch : Nat} {b : Bnd} {p : Packet} {l : List Packet} (hc : closed s u) (hk : okCore k = true)
  (hch : ch < 16) (hb : u.bindIn k ch = some b) (hw : ((u.core k).ring ch).waiting = p :: l)
include hc hk hch hb hw

theorem ringRecordPlace_takes (h : ((u.core k).arrOf (arrKey (pktH p))).base.isSome ∨
      (((u.core k).ring ch).place b.size (64 * ((pktH p).len + 1))).isSome) :
    answers (.ringRecordPlace k ch) s (fun t => (∃ n, ((t.core k).ring ch).waiting = l.drop n) ∧
      sameRegs (u.core k) (t.core k) ∧ t.hbm = u.hbm ∧ t.imem = u.imem ∧ sameOthers k u t) := by
  obtain ⟨t, ht⟩ := ringTake_of_room hb h
  have hexec := exec_ringRecordPlace hc hk hch
  rw [hw, List.length_cons, ringDrain_takes hw ht] at hexec
  obtain ⟨hat, hwait⟩ := frontTaken_ring hw ht
  obtain ⟨hat', m, hm⟩ := ringDrain_keeps k ch l.length (frontTaken t k ch)
  have h := hat.trans hat'
  exact answers_of_exec hexec ⟨⟨m, by rw [hm, hwait]⟩, h.regs, h.hbm, h.imem, h.others⟩

theorem ringRecordPlace_waits (hbase : ((u.core k).arrOf (arrKey (pktH p))).base = none)
    (hfull : ((u.core k).ring ch).place b.size (64 * ((pktH p).len + 1)) = none) :
    answers (.ringRecordPlace k ch) s (fun t => ((t.core k).ring ch).waiting = p :: l ∧
      sameRegs (u.core k) (t.core k) ∧ sameMem u t ∧ sameOthers k u t) := by
  have hexec := exec_ringRecordPlace hc hk hch
  rw [hw, List.length_cons, ringDrain_waits hw (ringTake_of_full hb hbase hfull)] at hexec
  obtain ⟨hspad, hwait⟩ := waitCounted_same u k ch
  have h := waitCounted_atCore u k ch
  exact answers_of_exec hexec ⟨hwait.trans hw, h.regs, ⟨hspad, h.hbm, h.imem⟩, h.others⟩

end

theorem exec_ringRecordPlace_idle {s u : State} {k ch : Nat} (hc : closed s u) (hk : okCore k = true) (hch : ch < 16)
    (hw : ((u.core k).ring ch).waiting = []) : exec (.ringRecordPlace k ch) s = .next u := by
  rw [exec_ringRecordPlace hc hk hch, hw]
  rfl

/-! ## B buffers (07 R180; log 62) -/

/-- A B buffer that begins to fill for a channel, if none is being filled. -/
def fillsInto (ch : Nat) (o : Option BBuf) : BBuf := o.getD { ch := ch, flits := [] }

/-- The flits that move into it in a cycle. -/
def fillCount (c : Core) (ch n : Nat) (o : Option BBuf) : Nat :=
  min 2 (min (c.land ch).length (n - (fillsInto ch o).flits.length))

/-- The buffer with those flits. -/
def filledBuf (c : Core) (ch n : Nat) (o : Option BBuf) : BBuf :=
  { fillsInto ch o with flits := (fillsInto ch o).flits ++ (c.land ch).take (fillCount c ch n o) }

/-- A core whose B buffer has taken flits from the front of a receive FIFO. -/
def bufFilled (c : Core) (ch n : Nat) (o : Option BBuf) : Core :=
  { c.setLand ch ((c.land ch).drop (fillCount c ch n o)) with
    bbufs := (match o with | some x => c.bbufs.erase x | none => c.bbufs) ++ [filledBuf c ch n o], openSlot := none }

theorem bufFilled_land (c : Core) (ch n : Nat) (o : Option BBuf) :
    (bufFilled c ch n o).land ch = (c.land ch).drop (fillCount c ch n o) := SMap.get_put_same ..

section
variable {s u : State} {k ch n : Nat} {b : Bnd} {o : Option BBuf} (hc : closed s u) (hk : okCore k = true)
  (ho : fillable (u.core k) ch n = some o) (hb : u.bindIn k ch = some b) (hkind : b.kind = 1)
include hc hk ho hb hkind

theorem exec_bBufferFill_fills (hm : 0 < fillCount (u.core k) ch n o) : exec (.bBufferFill ⟨k, ch, n⟩) s = .next
    ((u.setCore k (bufFilled (u.core k) ch n o)).sendCredit k b.peer b.peerCh (fillCount (u.core k) ch n o)) := by
  have hm' : (decide (min 2 (min ((u.core k).land ch).length (n - (o.getD { ch := ch, flits := [] }).flits.length)) = 0) ||
      b.kind != 1) = false := by
    rw [Bool.or_eq_false_iff, decide_eq_false_iff_not]
    exact ⟨Nat.ne_of_gt hm, by simp [hkind]⟩
  simp only [exec, execBBufferFill, onPart, hk, flushAll_of_closed hc, ho, hb, hm']
  rfl

omit hkind in
theorem exec_bBufferFill_empty (hm : fillCount (u.core k) ch n o = 0) :
    exec (.bBufferFill ⟨k, ch, n⟩) s = .next u := by
  have hm' : (decide (min 2 (min ((u.core k).land ch).length (n - (o.getD { ch := ch, flits := [] }).flits.length)) = 0) ||
      b.kind != 1) = true := by
    rw [Bool.or_eq_true, decide_eq_true_eq]
    exact Or.inl hm
  simp only [exec, execBBufferFill, onPart, hk, flushAll_of_closed hc, ho, hb, hm']
  rfl

theorem bBufferFill_answers : answers (.bBufferFill ⟨k, ch, n⟩) s (fun t => ∃ m,
    m = min 2 (min ((u.core k).land ch).length (n - (o.getD { ch := ch, flits := [] }).flits.length)) ∧
    (t.core k).land ch = ((u.core k).land ch).drop m ∧
    (0 < m → ∃ x ∈ (t.core k).bbufs, x.ch = (o.getD { ch := ch, flits := [] }).ch ∧
      x.flits = (o.getD { ch := ch, flits := [] }).flits ++ ((u.core k).land ch).take m) ∧
    sameMem u t ∧ sameRegs (u.core k) (t.core k) ∧ sameOthers k u t) := by
  rcases Nat.eq_zero_or_pos (fillCount (u.core k) ch n o) with hm | hm
  · refine answers_of_exec (exec_bBufferFill_empty hc hk ho hb hm)
      ⟨fillCount (u.core k) ch n o, rfl, by rw [hm]; rfl, fun h => absurd h (by omega), ⟨rfl, rfl, rfl⟩,
        ⟨rfl, rfl, rfl, rfl⟩, fun _ _ => rfl⟩
  · have h : AtCore k u ((u.setCore k (bufFilled (u.core k) ch n o)).sendCredit k b.peer b.peerCh
        (fillCount (u.core k) ch n o)) :=
      (AtCore.of_onCore (onCore_setCore (c := bufFilled (u.core k) ch n o) ⟨rfl, rfl, rfl, rfl⟩)).trans (sendCredit_atCore ..)
    refine answers_of_exec (exec_bBufferFill_fills hc hk ho hb hkind hm) ⟨fillCount (u.core k) ch n o, rfl, ?_, fun _ => ?_,
      ⟨(State.sendCredit_memSame ..).1, h.hbm, h.imem⟩, h.regs, h.others⟩
    · rw [sendCredit_core, State.core_setCore_same, bufFilled_land]
    · refine ⟨filledBuf (u.core k) ch n o, ?_, rfl, rfl⟩
      rw [sendCredit_core, State.core_setCore_same]
      exact List.mem_append_right _ (List.mem_singleton_self _)

end

/-- Settles O28: credits decide what leaves, waiting flits are taken from the front, a B buffer takes two flits a cycle. -/
theorem creditsDrains : Obligations.credits_drains := by
  unfold Obligations.credits_drains
  exact ⟨⟨fun _ _ _ _ _ _ _ hc hk hch hb hq hread hroom => flitInject_leaves hc hk hch hb hq hread hroom,
      fun _ _ _ _ _ hc hk hch hv hfull => flitInject_stays hc hk hch hv hfull⟩,
    fun _ _ _ _ _ _ _ hc hk hch hb hw h => ringRecordPlace_takes hc hk hch hb hw h,
    fun _ _ _ _ _ _ _ hc hk hch hb hw hbase hfull => ringRecordPlace_waits hc hk hch hb hw hbase hfull,
    fun _ _ _ _ hc hk hch hw => exec_ringRecordPlace_idle hc hk hch hw,
    fun _ _ _ _ _ _ _ hc hk ho hb hkind => bBufferFill_answers hc hk ho hb hkind⟩

end Sys2Proof.Proofs

end

section
/-! PROOFS. O30: what an accepted contribution adds to a ladle entry in exact mode, and what a refused one leaves (07 R186,
R189). -/

open Sys2Proof Sys2Proof.Machine Sys2Proof.Claims

namespace Sys2Proof.Proofs

/-! ## Numbers and byte strings (01 R4) -/

theorem natLE_bytesLE (n v : Nat) : natLE (bytesLE n v) = v % 256 ^ n := by
  induction n generalizing v with
  | zero => simp [bytesLE, natLE, Nat.mod_one]
  | succ n ih =>
    rw [bytesLE, natLE, ih, BitVec.toNat_ofNat, pow_succ' 256 n, Nat.mod_mul]

theorem slice_of_le {b : Bytes} {o n : Nat} (h : o + n ≤ b.length) : slice b o n = (b.drop o).take n := by
  have hlen : ((b.drop o).take n).length = n := by simp; omega
  rw [slice, hlen, Nat.sub_self, List.replicate_zero, List.append_nil]

/-- A part of a byte string that is put together of parts of one length. -/
theorem take_drop_flatMap {α : Type} {f : α → Bytes} {n : Nat} (hf : ∀ x, (f x).length = n) (l : List α) {i : Nat}
    (hi : i < l.length) : ((l.flatMap f).drop (n * i)).take n = f l[i] := by
  induction l generalizing i with
  | nil => exact absurd hi (by simp)
  | cons x l ih =>
    cases i with
    | zero => simp [← hf x]
    | succ i =>
      rw [List.flatMap_cons, Nat.mul_succ, Nat.add_comm, ← List.drop_drop, ← hf x, List.drop_left, hf x]
      exact ih (by simpa using hi)

theorem length_flatMap_of_length {α : Type} {f : α → Bytes} {n : Nat} (hf : ∀ x, (f x).length = n) (l : List α) :
    (l.flatMap f).length = n * l.length := by
  simp [List.length_flatMap, hf, mul_comm]

/-! ## The sum of an element, in the target and in the guard store (07 R186) -/

@[simp] theorem length_sumBytes (v : Int) : (sumBytes v).length = 32 := length_bytesLE ..

theorem exactAt_sumBytes (v : Int) : exactAt (sumBytes v) 0 = v.bmod (2 ^ 256) := by
  have hpos : 0 ≤ v % 2 ^ 256 := Int.emod_nonneg _ (by norm_num)
  have hlt : (v % 2 ^ 256).toNat < 256 ^ 32 := by
    have := Int.emod_lt_of_pos v (show (0 : Int) < 2 ^ 256 by norm_num)
    omega
  rw [exactAt, field, slice_of_le (by simp), List.drop_zero, List.take_of_length_le (by simp), sumBytes, natLE_bytesLE,
    Nat.mod_eq_of_lt hlt, BitVec.toInt_ofNat', Int.toNat_of_nonneg hpos]
  exact Int.emod_bmod v (2 ^ 256)

/-- What stands in the target and in the guard store is the sum. -/
theorem sumBytes_add_sumGuard (v : Int) : exactAt (sumBytes v) 0 + 2 ^ 256 * sumGuard v = v := by
  rw [exactAt_sumBytes, sumGuard, Int.bmod_def]
  split <;> omega

theorem ladleSum_congr {s t : State} (h : t.spad = s.spad) (k : Nat) (l : Ladle) (i : Nat) :
    t.ladleSum k l i = s.ladleSum k l i := by
  rw [State.ladleSum, spadRead_congr h, State.ladleSum]

theorem addExact_congr {s t : State} (h : t.spad = s.spad) (k : Nat) (l : Ladle) (c : Nat) (b : Bytes) :
    t.addExact k l c b = s.addExact k l c b := by
  simp only [State.addExact, ladleSum_congr h]

/-! ## A contribution in exact mode -/

/-- The first element of the entry that a contribution adds to. -/
def firstElem (l : Ladle) (b : Bytes) : Nat := 32 * ((xHdr b).row0 - l.r0)

/-- Element `i` of a contribution, truncated to the unit of the entry and clamped. -/
def contributed (l : Ladle) (b : Bytes) (i : Nat) : Int :=
  clamp256 (truncTo (exactAt b (64 + 32 * i)) ((xHdr b).eref - 160) (l.eref - 160)).1

/-- The sum that it leaves. -/
def addedSum (s : State) (k : Nat) (l : Ladle) (b : Bytes) (i : Nat) : Int :=
  s.ladleSum k l (firstElem l b + i) + contributed l b i

/-- The sums as the model lists them: over the elements of the contribution. -/
def addedSums (s : State) (k : Nat) (l : Ladle) (b : Bytes) : List Int :=
  (List.range (32 * (xHdr b).rows)).map (addedSum s k l b)

theorem getD_map_range {α : Type} (f : Nat → α) (d : α) {n i : Nat} (h : i < n) :
    ((List.range n).map f).getD i d = f i := by
  simp [List.getD, h]

theorem addedSums_eq (s : State) (k : Nat) (l : Ladle) (b : Bytes) :
    (List.range ((List.range (32 * (xHdr b).rows)).map
      (fun i => ladleElem (exactAt b (64 + 32 * i)) (xHdr b).eref l.eref)).length).map (fun i =>
        s.ladleSum k l (32 * ((xHdr b).row0 - l.r0) + i) + (((List.range (32 * (xHdr b).rows)).map
          (fun i => ladleElem (exactAt b (64 + 32 * i)) (xHdr b).eref l.eref)).getD i (0, false, false)).1) =
      addedSums s k l b := by
  rw [List.length_map, List.length_range]
  refine List.map_congr_left fun i hi => ?_
  rw [getD_map_range _ _ (List.mem_range.mp hi)]
  rfl

theorem addExact_bytes (s : State) (k : Nat) (l : Ladle) (c : Nat) (b : Bytes) :
    (s.addExact k l c b).2 = (addedSums s k l b).flatMap sumBytes :=
  congrArg (List.flatMap sumBytes) (addedSums_eq s k l b)

theorem get_foldl_put_range (g : Nat → Int) (first n i : Nat) (m : SMap Int) (hi : i < n) :
    SMap.get zeroI ((List.range n).foldl (fun m i => SMap.put zeroI m (first + i) (g i)) m) (first + i) = g i := by
  induction n with
  | zero => exact absurd hi (by simp)
  | succ n ih =>
    rw [List.range_succ, List.foldl_append, List.foldl_cons, List.foldl_nil, SMap.get_put]
    split
    next h => rw [Nat.add_left_cancel h]
    next h => exact ih (by omega)

theorem addExact_guard (s : State) (k : Nat) (l : Ladle) (c : Nat) (b : Bytes) {i : Nat} (hi : i < 32 * (xHdr b).rows) :
    SMap.get zeroI (s.addExact k l c b).1.guard (firstElem l b + i) = sumGuard (addedSum s k l b i) := by
  have hguard : (s.addExact k l c b).1.guard = (List.range (addedSums s k l b).length).foldl
      (fun m i => SMap.put zeroI m (firstElem l b + i) (sumGuard ((addedSums s k l b).getD i 0))) l.guard := by
    rw [← addedSums_eq]
    rfl
  have hlen : (addedSums s k l b).length = 32 * (xHdr b).rows := by simp [addedSums]
  rw [hguard, get_foldl_put_range _ _ _ _ _ (hlen ▸ hi), addedSums, getD_map_range _ _ hi]

theorem length_addExact_bytes (s : State) (k : Nat) (l : Ladle) (c : Nat) (b : Bytes) :
    (s.addExact k l c b).2.length = 32 * (32 * (xHdr b).rows) := by
  rw [addExact_bytes, length_flatMap_of_length length_sumBytes, addedSums, List.length_map, List.length_range]

theorem addExact_bytes_elem (s : State) (k : Nat) (l : Ladle) (c : Nat) (b : Bytes) {i : Nat}
    (hi : i < 32 * (xHdr b).rows) :
    ((s.addExact k l c b).2.drop (32 * i)).take 32 = sumBytes (addedSum s k l b i) := by
  rw [addExact_bytes, take_drop_flatMap length_sumBytes _ (by simpa [addedSums] using hi)]
  simp [addedSums]

/-- R186: low part and guard of an element after a contribution are its sum. -/
theorem addExact_sum (s : State) (k : Nat) (l : Ladle) (c i : Nat) (b : Bytes) (hrow : (xHdr b).row0 = l.r0)
    (hi : i < 32 * (xHdr b).rows) :
    exactAt (slice (s.addExact k l c b).2 (32 * i) 32) 0 + 2 ^ 256 * SMap.get zeroI (s.addExact k l c b).1.guard i =
      s.ladleSum k l i + contributed l b i := by
  have hfirst : firstElem l b = 0 := by simp [firstElem, hrow]
  have hguard := addExact_guard s k l c b hi
  rw [hfirst, Nat.zero_add] at hguard
  rw [slice_of_le (by rw [length_addExact_bytes]; omega), addExact_bytes_elem s k l c b hi, hguard,
    sumBytes_add_sumGuard, addedSum, hfirst, Nat.zero_add]

/-! ## A core at rest whose work is carried to cycle 0 -/

/-- No header of a ladle's target is due at cycle 0. -/
theorem ladleHeaders_zero (s : State) (k : Nat) : s.ladleHeaders k 0 = s := by
  have h : (s.core k).ladles.filter (fun e => e.2.hdrAt != 0 && decide (e.2.hdrAt ≤ 0)) = [] :=
    List.filter_eq_nil_iff.mpr fun e _ => by simp
  rw [State.ladleHeaders, h]
  rfl

theorem landDue_of_noPend {s : State} {k : Nat} (h : (s.core k).pend = []) (t : Nat) :
    s.landDue k t = s.updCore k (fun c => { c with pend := c.pend.filter (fun p => !due t p) }) := by
  rw [State.landDue, h]
  rfl

theorem settle_zero {s : State} {k : Nat} (h : atRest (s.core k)) :
    OnCore k s (s.settle k 0) ∧ ((s.settle k 0).core k).ladles = (s.core k).ladles := by
  obtain ⟨hpend, hmmas, hxfer, hmem⟩ := h
  have hb : beforeLand s k 0 = rangeStage (s.updCore k (fun c => { c with mmas := [] })) k 0 := by
    rw [beforeLand, mmaStage_of_nil hmmas, headerStage_of_none (by simpa using hxfer),
      xferStage_of_none (by simpa using hxfer), memStage_of_nil (by simpa using hmem)]
  have hp : ((beforeLand s k 0).core k).pend = [] := by simp [beforeLand_keeps, hpend]
  rw [settle_eq, ladleHeaders_zero, landDue_of_noPend hp, hb, rangeStage]
  exact ⟨((onCore_updCore ⟨rfl, rfl, rfl, rfl⟩).trans (onCore_updCore ⟨rfl, rfl, rfl, rfl⟩)).trans
    (onCore_updCore ⟨rfl, rfl, rfl, rfl⟩), by simp⟩

theorem ladle_congr {c d : Core} (h : d.ladles = c.ladles) (e : Nat) : d.ladle e = c.ladle e := by
  rw [Core.ladle, h, Core.ladle]

/-! ## A contribution refused (07 R189) -/

/-- The sender is frozen; nothing else of the cores changes. -/
theorem ladleRefuse_core {s : State} {h : Hdr} {x : Nat} (hx : s.coreOf h.epoch h.src = some x) (entry flits j : Nat) :
    (s.ladleRefuse h entry flits).core j =
      if j = x then frozenAs (s.core x) (((s.core x).pc + 2047) % 2048) .mov 7 else s.core j := by
  unfold State.ladleRefuse
  extract_lets s1 d s2
  have hx2 : s2.coreOf h.epoch h.src = some x := hx
  have hcore (j : Nat) : s2.core j = s.core j := rfl
  clear_value s2
  rw [hx2]
  simp only [State.fsr_aside, State.report_aside, State.core_setCore, hcore]
  rfl

theorem ladleRefuse_frozen {s : State} {h : Hdr} {x : Nat} (hx : s.coreOf h.epoch h.src = some x) (entry flits : Nat) :
    ((s.ladleRefuse h entry flits).core x).frozen.isSome = true := by
  rw [ladleRefuse_core hx, if_pos rfl]
  rfl

theorem ladleRefuse_ladles {s : State} {h : Hdr} {x : Nat} (hx : s.coreOf h.epoch h.src = some x) (entry flits j : Nat) :
    ((s.ladleRefuse h entry flits).core j).ladles = (s.core j).ladles := by
  rw [ladleRefuse_core hx]
  split
  next hj => rw [hj]; rfl
  · rfl

theorem ladleTake_refused {s : State} {k : Nat} {h : Hdr} {b : Bytes} (hrest : atRest (s.core k))
    (hhdr : ((s.core k).ladle (bits h.arg 10 6)).hdrAt = 0)
    (hno : ((s.core k).ladle (bits h.arg 10 6)).refuses (bits h.arg 5 0) b = true) :
    s.ladleTake k h b = (s.settle k 0).ladleRefuse h (bits h.arg 10 6) (b.length / 64) := by
  simp only [State.ladleTake, hhdr, ladle_congr (settle_zero hrest).2, hno, if_true]

theorem ladleTake_refusal {s : State} {k x : Nat} {h : Hdr} {b : Bytes} (hrest : atRest (s.core k))
    (hhdr : ((s.core k).ladle (bits h.arg 10 6)).hdrAt = 0)
    (hno : ((s.core k).ladle (bits h.arg 10 6)).refuses (bits h.arg 5 0) b = true)
    (hx : s.coreOf h.epoch h.src = some x) : ((s.ladleTake k h b).core x).frozen.isSome = true ∧
      sameMem s (s.ladleTake k h b) ∧ ∀ e, ((s.ladleTake k h b).core k).ladle e = (s.core k).ladle e := by
  obtain ⟨hon, hladles⟩ := settle_zero hrest
  have hx' : (s.settle k 0).coreOf h.epoch h.src = some x := by
    obtain ⟨⟨m, hm⟩, -, -⟩ := hon
    rw [hm]
    exact hx
  obtain ⟨hspad, hhbm, himem, -, -⟩ := State.ladleRefuse_memSame (s.settle k 0) h (bits h.arg 10 6) (b.length / 64)
  obtain ⟨hspad', hhbm', himem'⟩ := hon.sameMem
  rw [ladleTake_refused hrest hhdr hno]
  exact ⟨ladleRefuse_frozen hx' .., ⟨hspad.trans hspad', hhbm.trans hhbm', himem.trans himem'⟩,
    ladle_congr ((ladleRefuse_ladles hx' ..).trans hladles)⟩

/-- Settles O30: what a contribution adds, and what its refusal leaves. -/
theorem ladleContribution : Obligations.ladle_contribution := by
  unfold Obligations.ladle_contribution
  exact ⟨fun s k l c i b hrow hi => addExact_sum s k l c i b hrow hi,
    fun _ _ _ _ _ hrest hhdr hno hx => ladleTake_refusal hrest hhdr hno hx⟩

end Sys2Proof.Proofs

end

section
/-! PROOFS. O29: contributions that arrive at a ladle entry, and the completion of an entry (07 R184 to R188). -/

open Sys2Proof Sys2Proof.Machine Sys2Proof.Claims

namespace Sys2Proof.Proofs

/-! ## A contribution that an entry accepts (07 R186, R187) -/

/-- Where an entry writes a contribution. -/
def contributionAt (l : Ladle) (c : Nat) (b : Bytes) : Nat :=
  if l.ordered then l.base + l.len + c * l.len + l.nextOf c else l.base + 64 + 1024 * ((xHdr b).row0 - l.r0)

/-- The entry and the bytes that a contribution leaves. -/
def contributionOf (s : State) (k : Nat) (l : Ladle) (c : Nat) (b : Bytes) : Ladle × Bytes :=
  if l.ordered then (l.setNext c (l.nextOf c + b.length), b) else s.addExact k l c b

/-- The state of the entry's core with them. -/
def contributionPut (s : State) (k entry : Nat) (l : Ladle) (c : Nat) (b : Bytes) : State :=
  (s.spadWrite k (contributionAt l c b) (contributionOf s k l c b).2).updCore k
    (fun y => y.setLadle entry (contributionOf s k l c b).1)

theorem contributionOf_same (s : State) (k : Nat) (l : Ladle) (c : Nat) (b : Bytes) :
    (contributionOf s k l c b).1.st = l.st ∧ (contributionOf s k l c b).1.base = l.base := by
  unfold contributionOf
  split <;> exact ⟨rfl, rfl⟩

theorem contributionPut_atCore (s : State) (k entry : Nat) (l : Ladle) (c : Nat) (b : Bytes) :
    AtCore k s (contributionPut s k entry l c b) :=
  (spadWrite_atCore ..).trans (updCore_atCore _ _ ⟨rfl, rfl, rfl, rfl⟩)

theorem contributionPut_ladle (s : State) (k entry : Nat) (l : Ladle) (c : Nat) (b : Bytes) :
    ((contributionPut s k entry l c b).core k).ladle entry = (contributionOf s k l c b).1 := by
  rw [contributionPut, State.core_updCore_same, Core.ladle_setLadle_same]

/-- The sums that an accepted contribution leaves in exact mode. -/
theorem contributionPut_sum {s : State} {k entry i c : Nat} {l : Ladle} {b : Bytes} (hord : l.ordered = false)
    (hi : i < 32 * (xHdr b).rows) :
    (contributionPut s k entry l c b).ladleSum k (contributionOf s k l c b).1 (firstElem l b + i) =
      s.ladleSum k l (firstElem l b + i) + contributed l b i := by
  have hof : contributionOf s k l c b = s.addExact k l c b := by simp [contributionOf, hord]
  have hat : contributionAt l c b = l.base + 64 + 1024 * ((xHdr b).row0 - l.r0) := by simp [contributionAt, hord]
  have haddr : l.base + 64 + 32 * (firstElem l b + i) = contributionAt l c b + 32 * i := by
    rw [hat, firstElem]
    omega
  rw [State.ladleSum, (contributionOf_same s k l c b).2, hof, addExact_guard s k l c b hi, contributionPut,
    spadRead_congr (State.updCore_spad ..), haddr, hof, spadRead_spadWrite_within _ _ _ _ _
      (by rw [length_addExact_bytes]; omega), addExact_bytes_elem s k l c b hi, sumBytes_add_sumGuard, addedSum]

/-- What an accepted contribution leaves, at a core at rest. -/
theorem ladleTake_accepted {s : State} {k : Nat} {h : Hdr} {b : Bytes} {l : Ladle} (hrest : atRest (s.core k))
    (hl : (s.core k).ladle (bits h.arg 10 6) = l) (hhdr : l.hdrAt = 0) (hyes : l.refuses (bits h.arg 5 0) b = false) :
    ∃ t, AtCore k (contributionPut (s.settle k 0) k (bits h.arg 10 6) l (bits h.arg 5 0) b) t ∧
      (t.core k).ladle (bits h.arg 10 6) = (contributionOf s k l (bits h.arg 5 0) b).1 ∧
      t.spad = (contributionPut s k (bits h.arg 10 6) l (bits h.arg 5 0) b).spad ∧ s.ladleTake k h b = t := by
  obtain ⟨hon, hladles⟩ := settle_zero hrest
  have hspad : (s.settle k 0).spad = s.spad := hon.sameMem.1
  have hof : contributionOf (s.settle k 0) k l (bits h.arg 5 0) b = contributionOf s k l (bits h.arg 5 0) b := by
    rw [contributionOf, addExact_congr hspad, contributionOf]
  have htake : s.ladleTake k h b =
      if (contributionOf (s.settle k 0) k l (bits h.arg 5 0) b).1.full (bits h.arg 5 0) then
        (contributionPut (s.settle k 0) k (bits h.arg 10 6) l (bits h.arg 5 0) b).ledDestroy (k / 272) (k / 272) 3 1
      else contributionPut (s.settle k 0) k (bits h.arg 10 6) l (bits h.arg 5 0) b := by
    simp only [State.ladleTake, hl, hhdr, ladle_congr hladles, hyes]
    rfl
  have hput := contributionPut_ladle (s.settle k 0) k (bits h.arg 10 6) l (bits h.arg 5 0) b
  rw [hof] at hput
  have hmem : (contributionPut (s.settle k 0) k (bits h.arg 10 6) l (bits h.arg 5 0) b).spad =
      (contributionPut s k (bits h.arg 10 6) l (bits h.arg 5 0) b).spad := by
    rw [contributionPut, contributionPut, hof, State.updCore_spad, State.updCore_spad, State.spadWrite, State.spadWrite, hspad]
  generalize contributionPut (s.settle k 0) k (bits h.arg 10 6) l (bits h.arg 5 0) b = v at htake hput hmem
  refine ⟨_, ?_, ?_, ?_, htake⟩
  · exact .ite (ledDestroy_atCore ..) (.refl ..)
  · split <;> exact hput
  · split <;> exact hmem

/-! ## Flits of a contribution (07 R176, R184) -/

/-- The flits of a message whose arrival is noted, and their credit sent back. -/
def flitsNoted (s : State) (k : Nat) (p : Packet) : State :=
  (s.updCore k (fun c => { c.progress (arrKey (pktH p)) { (s.core k).arrOf (arrKey (pktH p)) with
    flits := ((s.core k).arrOf (arrKey (pktH p))).flits ++ p.payload } p.payload.length (pktH p).len with
      openSlot := none })).sendCredit k (pktH p).src (pktH p).sch p.payload.length

theorem flitsNoted_atCore (s : State) (k : Nat) (p : Packet) : AtCore k s (flitsNoted s k p) :=
  (updCore_atCore k s (by simp [sameRegs])).trans (sendCredit_atCore ..)

theorem flitsNoted_keeps (s : State) (k : Nat) (p : Packet) : KeepsFlight (s.core k) ((flitsNoted s k p).core k) ∧
    ((flitsNoted s k p).core k).ladles = (s.core k).ladles ∧ (flitsNoted s k p).spad = s.spad := by
  simp [flitsNoted]

theorem flitsNoted_atRest {s : State} {k : Nat} (h : atRest (s.core k)) (p : Packet) :
    atRest ((flitsNoted s k p).core k) := by
  obtain ⟨⟨-, hpend, hmmas, hxfer, hmem, -, -⟩, -, -⟩ := flitsNoted_keeps s k p
  obtain ⟨hpend', hmmas', hxfer', hmem'⟩ := h
  exact ⟨hpend.trans hpend', hmmas.trans hmmas', hxfer.trans hxfer', hmem.trans hmem'⟩

theorem ladleFlits_whole {s : State} {k : Nat} {p : Packet}
    (hlen : (pktH p).len ≤ (((s.core k).arrOf (arrKey (pktH p))).flits ++ p.payload).length) :
    s.ladleFlits k p = (flitsNoted s k p).ladleTake k (pktH p)
      ((((s.core k).arrOf (arrKey (pktH p))).flits ++ p.payload).flatMap flitBytes) := by
  simp only [State.ladleFlits, if_pos hlen]
  rfl

/-! ## LADLE (07 R184) -/

/-- A mismatch of the duplicated adders told, if there is one (07 R190). -/
def addersTold (d : Bool) (k : Nat) (s : State) : State :=
  if d then (s.coreFault k noOp 0x02 6).count Obj.DUP_MISMATCHES else s

theorem addersTold_aside (d : Bool) (k : Nat) (s : State) : Aside s (addersTold d k s) := by
  cases d
  · exact aside_of ⟨⟨rfl, rfl, rfl⟩, rfl, rfl, rfl, rfl, rfl⟩
  · rw [addersTold, if_pos rfl]
    have hfault := State.coreFault_aside s k noOp 0x02 6
    generalize s.coreFault k noOp 0x02 6 = t at hfault
    exact hfault.trans (aside_of ⟨⟨rfl, rfl, rfl⟩, rfl, rfl, rfl, rfl, rfl⟩)

section
variable {s u : State} {k : Nat} {p : Packet} (d : Bool) (hc : closed s u) (ha : arrives u p 4 k)
  (hs : seqOk (u.core k) (pktH p) = true)
  (hnew : ∀ x, s.coreOf (pktH p).epoch (pktH p).dst = some x → p ∉ ((s.core x).ladle (bits (pktH p).arg 10 6)).waiting)
include hc ha hs hnew

/-- The command of a packet that does not wait yet is an arrival. -/
theorem exec_ladle_arrives {l : Ladle} (hl : (u.core k).ladle (bits (pktH p).arg 10 6) = l) : exec (.ladle p d) s = .next
    (if l.st = .armed ∧ (!l.waiting.any (fun x => (pktH x).src == (pktH p).src && (pktH x).sch == (pktH p).sch)) = true
     then addersTold d k ((u.eject p).ladleFlits k p)
     else (u.eject p).evCore k (fun c => c.setLadle (bits (pktH p).arg 10 6) { l with waiting := l.waiting ++ [p] })) := by
  have harr := arriveAt_of_arrives hc ha
  cases hx : s.coreOf (pktH p).epoch (pktH p).dst with
  | none =>
    simp only [exec, execLadle, hx, harr, hs, hl]
    rfl
  | some x =>
    have hw : ((s.core x).ladle (bits (pktH p).arg 10 6)).waiting.contains p = false := by simpa using hnew x hx
    simp only [exec, execLadle, hx, hw, harr, hs, hl]
    rfl

theorem ladle_waits (hst : ((u.core k).ladle (bits (pktH p).arg 10 6)).st ≠ .armed) :
    answers (.ladle p d) s (fun t =>
      ((t.core k).ladle (bits (pktH p).arg 10 6)).waiting = ((u.core k).ladle (bits (pktH p).arg 10 6)).waiting ++ [p] ∧
      sameRegs (u.core k) (t.core k) ∧ sameMem u t ∧ sameOthers k u t) := by
  have hexec := exec_ladle_arrives d hc ha hs hnew rfl
  rw [if_neg fun h => hst h.1, State.evCore] at hexec
  have hat := (eject_atCore k u p).trans (updCore_atCore k (u.eject p) (f := fun c =>
    { c.setLadle (bits (pktH p).arg 10 6) { (u.core k).ladle (bits (pktH p).arg 10 6) with
        waiting := ((u.core k).ladle (bits (pktH p).arg 10 6)).waiting ++ [p] } with openSlot := none })
    ⟨rfl, rfl, rfl, rfl⟩)
  refine answers_of_exec hexec ⟨?_, hat.regs, ⟨(eject_sameMem u p).1, hat.hbm, hat.imem⟩, hat.others⟩
  rw [State.core_updCore_same, Core.ladle]
  exact congrArg Ladle.waiting (SMap.get_put_same ..)

theorem exec_ladle_accepts {l : Ladle} (hl : (u.core k).ladle (bits (pktH p).arg 10 6) = l) (hst : l.st = .armed)
    (hw : l.waiting = []) : exec (.ladle p d) s = .next (addersTold d k ((u.eject p).ladleFlits k p)) := by
  rw [exec_ladle_arrives d hc ha hs hnew hl, if_pos ⟨hst, by rw [hw]; rfl⟩]

theorem ladle_accepts {l : Ladle} {b : Bytes} (hl : (u.core k).ladle (bits (pktH p).arg 10 6) = l) (hst : l.st = .armed)
    (hw : l.waiting = []) (hhdr : l.hdrAt = 0) (hrest : atRest (u.core k))
    (hb : b = (((u.core k).arrOf (arrKey (pktH p))).flits ++ p.payload).flatMap flitBytes)
    (hlen : (pktH p).len ≤ (((u.core k).arrOf (arrKey (pktH p))).flits ++ p.payload).length)
    (hyes : l.refuses (bits (pktH p).arg 5 0) b = false) :
    answers (.ladle p d) s (fun t =>
      (l.ordered = true → t.spad = writeBytes u.spad
        (spadKey k (l.base + l.len + bits (pktH p).arg 5 0 * l.len + l.nextOf (bits (pktH p).arg 5 0))) b) ∧
      (l.ordered = false → ∀ i, i < 32 * (xHdr b).rows →
        t.ladleSum k ((t.core k).ladle (bits (pktH p).arg 10 6)) (32 * ((xHdr b).row0 - l.r0) + i) =
          u.ladleSum k l (32 * ((xHdr b).row0 - l.r0) + i) +
            clamp256 (truncTo (exactAt b (64 + 32 * i)) ((xHdr b).eref - 160) (l.eref - 160)).1) ∧
      ((t.core k).ladle (bits (pktH p).arg 10 6)).st = .armed ∧
      sameRegs (u.core k) (t.core k) ∧ t.hbm = u.hbm ∧ t.imem = u.imem ∧ sameOthers k u t) := by
  have hexec := exec_ladle_accepts d hc ha hs hnew hl hst hw
  have hcore : (u.eject p).core k = u.core k := eject_core ..
  rw [ladleFlits_whole (by rwa [hcore]), hcore, ← hb] at hexec
  generalize hv : flitsNoted (u.eject p) k p = v at hexec
  have hat : AtCore k u v := hv ▸ (eject_atCore ..).trans (flitsNoted_atCore ..)
  obtain ⟨-, hladles, hspad⟩ := flitsNoted_keeps (u.eject p) k p
  rw [hv, hcore] at hladles
  rw [hv, (eject_sameMem u p).1] at hspad
  have hrest' : atRest (v.core k) := hv ▸ flitsNoted_atRest (hcore ▸ hrest) p
  obtain ⟨t, hput, hladle, hmem, ht⟩ := ladleTake_accepted (s := v) (h := pktH p) hrest'
    ((ladle_congr hladles _).trans hl) hhdr hyes
  rw [ht] at hexec
  have hall : AtCore k u t :=
    ((hat.trans (.of_onCore (settle_zero hrest').1)).trans (contributionPut_atCore ..)).trans hput
  obtain ⟨⟨-, htold, -, hspad'⟩, himem, hhbm, -, -, -⟩ := addersTold_aside d k t
  refine answers_of_exec hexec ⟨fun hord => ?_, fun hord i hi => ?_, ?_, ?_, hhbm.trans hall.hbm, himem.trans hall.imem,
    fun j hj => (htold j).trans (hall.others j hj)⟩
  · rw [hspad', hmem, ← hspad]
    simp [contributionPut, contributionAt, contributionOf, hord, State.spadWrite]
  · rw [ladleSum_congr (hspad'.trans hmem), htold, hladle, ← ladleSum_congr hspad]
    exact contributionPut_sum hord hi
  · rw [htold, hladle, (contributionOf_same ..).1, hst]
  · rw [htold]
    exact hall.regs

end

/-! ## Where the virtual cores lie after a report (15 R413, R414) -/

/-- Every die of `t` has the number and the spare columns that it has in `s`. -/
structure SamePlaces (s t : State) : Prop where
  vd : ∀ i, (t.die i).vd = (s.die i).vd
  spares : ∀ i, (t.die i).spares = (s.die i).spares
  prog : t.prog = s.prog

section
variable {s t u : State}

theorem SamePlaces.trans (h : SamePlaces s t) (h' : SamePlaces t u) : SamePlaces s u :=
  ⟨fun i => (h'.vd i).trans (h.vd i), fun i => (h'.spares i).trans (h.spares i), h'.prog.trans h.prog⟩

theorem SamePlaces.vcoreOf (h : SamePlaces s t) (j : Nat) : t.vcoreOf j = s.vcoreOf j := by
  have hwidth : t.gridW = s.gridW := by rw [State.gridW, h.prog, State.gridW]
  simp only [State.vcoreOf, Die.spare, h.vd, h.spares, hwidth]
  rfl

theorem SamePlaces.of_dies (hdies : t.dies = s.dies) (hprog : t.prog = s.prog) : SamePlaces s t :=
  ⟨fun i => by rw [State.die, hdies, State.die], fun i => by rw [State.die, hdies, State.die], hprog⟩

theorem SamePlaces.refl (s : State) : SamePlaces s s := .of_dies rfl rfl

theorem updDie_places (s : State) (site : Nat) {f : Die → Die} (hvd : ∀ d, (f d).vd = d.vd)
    (hspares : ∀ d, (f d).spares = d.spares) : SamePlaces s (s.updDie site f) := by
  have hdie (i : Nat) : ((s.updDie site f).die i).vd = (s.die i).vd ∧ ((s.updDie site f).die i).spares = (s.die i).spares := by
    by_cases hi : i = site
    · rw [hi, State.die_updDie_same]
      exact ⟨hvd _, hspares _⟩
    · rw [State.die_updDie_other s f hi]
      exact ⟨rfl, rfl⟩
  exact ⟨fun i => (hdie i).1, fun i => (hdie i).2, rfl⟩

end

section
variable (s : State)

theorem count_places (o : Nat) : SamePlaces s (s.count o) := .of_dies rfl rfl

theorem setNum_places (o v : Nat) : SamePlaces s (s.setNum o v) := .of_dies rfl rfl

theorem mapWrite_places : SamePlaces s s.mapWrite := .of_dies rfl rfl

theorem dieEnter_places (site : Nat) (st : DieSt) : SamePlaces s (s.dieEnter site st) :=
  updDie_places s site (fun _ => rfl) (fun _ => rfl)

theorem reqMig_places (site prio : Nat) : SamePlaces s (s.reqMig site prio) := by
  unfold State.reqMig
  extract_lets old reqs
  split
  · exact .refl s
  · exact .of_dies rfl rfl

theorem joinTest_places (site : Nat) : SamePlaces s (s.joinTest site) := by
  unfold State.joinTest
  extract_lets d q q'
  split
  · exact .refl s
  · exact .of_dies rfl rfl

theorem fsr_places (r : FsrIn) : SamePlaces s (s.fsr r) := by
  unfold State.fsr
  extract_lets seq body rec' s1 log _ s2
  have h2 : SamePlaces s s2 := .of_dies rfl rfl
  clear_value s2
  split
  · exact h2.trans (updDie_places s2 r.index (fun _ => rfl) (fun _ => rfl))
  · exact h2

theorem coreFault_places (k op det unit : Nat) : SamePlaces s (s.coreFault k op det unit) := by
  unfold State.coreFault
  extract_lets site
  have h1 : SamePlaces s (s.report det (s.die site).vd (some site) (some k)) := .of_dies rfl rfl
  exact h1.trans (fsr_places ..)

theorem quarantine_places (site det : Nat) : SamePlaces s (s.quarantine site det) := by
  unfold State.quarantine
  extract_lets d s1 s2
  have hmark := updDie_places s site (f := fun d => { d with quarantined := true }) (fun _ => rfl) (fun _ => rfl)
  have h1 : SamePlaces s s1 := hmark.trans (mapWrite_places _)
  have h2 : SamePlaces s s2 := h1.trans (fsr_places s1 _)
  clear_value s2
  split
  · exact .refl s
  split
  · have hafter := updDie_places s2 site (f := fun d => { d with after := 3 }) (fun _ => rfl) (fun _ => rfl)
    exact (h2.trans hafter).trans (reqMig_places ..)
  · exact (h2.trans (dieEnter_places s2 site _)).trans (updDie_places _ site (fun _ => rfl) (fun _ => rfl))
  · exact (h2.trans (dieEnter_places s2 site _)).trans (updDie_places _ site (fun _ => rfl) (fun _ => rfl))
  all_goals exact h2

theorem lastingFault_places (site det unit : Nat) (core : Option Nat) :
    SamePlaces s (s.lastingFault site det unit core) := by
  unfold State.lastingFault
  extract_lets row col s1
  have hdie := updDie_places s site (f := fun d => { d.fieldEntry det unit row col with lasting := d.lasting ++ [s.time] })
    (fun _ => rfl) (fun _ => rfl)
  have h1 : SamePlaces s s1 := (hdie.trans (mapWrite_places _)).trans (count_places _ _)
  clear_value s1
  split
  · exact h1.trans (quarantine_places ..)
  · exact h1.trans (joinTest_places ..)

theorem corrected_places (site : Nat) : SamePlaces s (s.corrected site) := by
  unfold State.corrected
  extract_lets d fresh n s1 _ s2
  have h1 : SamePlaces s s1 := updDie_places s site (fun _ => rfl) (fun _ => rfl)
  have h2 : SamePlaces s s2 := h1.trans (.of_dies rfl rfl)
  clear_value s2
  split
  · exact (h2.trans (lastingFault_places ..)).trans (fsr_places ..)
  · exact h2

theorem spadEcc_places (k op : Nat) (e : Ecc) : SamePlaces s (s.spadEcc k op e) := by
  cases e with
  | clean => exact .refl s
  | single =>
    have hdie := updDie_places s (k / 272) (f := fun d => { d with spadSbe := d.spadSbe + 1 }) (fun _ => rfl) (fun _ => rfl)
    exact (hdie.trans (count_places _ _)).trans (corrected_places ..)
  | double =>
    have hdie := updDie_places s (k / 272) (f := fun d => { d with spadDbe := d.spadDbe + 1 }) (fun _ => rfl) (fun _ => rfl)
    exact ((hdie.trans (count_places _ _)).trans (setNum_places ..)).trans (coreFault_places ..)

end

/-! ## LADLE_COMPLETE (07 R186 to R188) -/

/-- The bytes of an ordered sum; those of an exact one. -/
def orderedBytes (s : State) (k : Nat) (l : Ladle) : Bytes :=
  (List.range (l.len / 4)).flatMap (fun i => bytesLE 4 (orderedSum s k l i).toNat)
def exactBytes (s : State) (k : Nat) (l : Ladle) : Bytes :=
  (List.range (32 * l.rows)).flatMap (fun i => sumBytes (l.written (s.ladleSum k l i)))

/-- The result written: in exact mode with the flags and the row count of its header line. -/
def resultPut (s : State) (k : Nat) (l : Ladle) (ovf : Bool) : State :=
  if l.ordered then s.spadWrite k l.base (orderedBytes s k l)
  else ((s.spadWrite k (l.base + 64) (exactBytes s k l)).spadWrite k (l.base + 2)
    (bytesLE 1 ((if l.nonfinite then 8 else 0) + (if ovf then 2 else 0) + (if l.inexact then 1 else 0)))).spadWrite
      k (l.base + 4) (bytesLE 1 l.rows)

/-- The result noted for a sample's capture, the transfers of the NET engine, the words that it read. -/
def resultMoved (s : State) (k : Nat) (l : Ladle) (e : Ecc) : State :=
  ((s.noteCapture k (s.spadRead k l.base (l.len + (if l.ordered then 0 else 64)))).xferBy k .net l.base
    (if l.ordered then l.len / 64 * (l.n + 2) else 2 * (l.len / 64) + 1)).spadEcc k noOp e

/-- The entry COMPLETE, its counter incremented. -/
def entryClosed (s : State) (k entry : Nat) (l : Ladle) : State :=
  s.evCore k (fun c => (c.setLadle entry { l with st := .complete }).incAc (s.ladleCounter k entry))

/-- The completion counted; an OVERFLOW reported. -/
def completionTold (s : State) (k entry : Nat) (l : Ladle) (ovf : Bool) : State :=
  let s := s.count Obj.LADLE_COMPLETIONS
  let s := if !l.ordered && l.inexact then s.count Obj.LADLE_INEXACT else s
  if ovf then ((s.count Obj.LADLE_OVERFLOW).report 0x03 (s.die (k / 272)).vd none).fsr
    { part := 0, index := k / 272, unit := 6, det := 0x03, vcore := (s.vcoreOf k).getD 0xFFFF, detail := bytesLE 2 entry }
  else s

theorem exec_ladleComplete {s u : State} {k e : Nat} (d : Bool) (c : Ecc) {l : Ladle} (hc : closed s u)
    (hk : okCore k = true) (hl : (u.core k).ladle e = l) (hready : l.ready = true) : ∃ ovf,
    exec (.ladleComplete k e ⟨d, c⟩) s = .next (addersTold d k (completionTold
      (entryClosed (resultMoved (resultPut u k l ovf) k l c) k e l) k e l ovf)) := by
  simp only [exec, execLadleComplete, onPart, hk, flushAll_of_closed hc, hl, hready]
  exact ⟨_, rfl⟩

section
variable (s : State) (k entry : Nat) (l : Ladle) (ovf : Bool) (c : Ecc)

theorem completionTold_aside : Aside s (completionTold s k entry l ovf) := by
  unfold completionTold
  extract_lets s1 s2
  have h2 : Aside s s2 := aside_of (by unfold s2; split <;> exact ⟨⟨rfl, rfl, rfl⟩, rfl, rfl, rfl, rfl, rfl⟩)
  clear_value s2
  split
  · refine h2.trans (Aside.trans ?_ (State.fsr_aside ..))
    exact aside_of ⟨⟨rfl, rfl, rfl⟩, rfl, rfl, rfl, rfl, rfl⟩
  · exact h2

theorem resultPut_atCore : AtCore k s (resultPut s k l ovf) := by
  unfold resultPut
  exact .ite (spadWrite_atCore ..) (((spadWrite_atCore ..).trans (spadWrite_atCore ..)).trans (spadWrite_atCore ..))

theorem resultPut_core (j : Nat) : (resultPut s k l ovf).core j = s.core j := by
  unfold resultPut
  split <;> rfl

variable {l}

theorem resultPut_ordered (h : l.ordered = true) {i : Nat} (hi : i < l.len / 4) :
    (resultPut s k l ovf).spadRead k (l.base + 4 * i) 4 = bytesLE 4 (orderedSum s k l i).toNat := by
  have hlen : (orderedBytes s k l).length = 4 * (l.len / 4) := by
    rw [orderedBytes, length_flatMap_of_length fun _ => length_bytesLE .., List.length_range]
  rw [resultPut, if_pos h, spadRead_spadWrite_within _ _ _ _ _ (by rw [hlen]; omega), orderedBytes,
    take_drop_flatMap (fun _ => length_bytesLE ..) _ (by simpa using hi), List.getElem_range]

theorem resultPut_exact (h : l.ordered = false) {i : Nat} (hi : i < 32 * l.rows) :
    (resultPut s k l ovf).spadRead k (l.base + 64 + 32 * i) 32 = sumBytes (l.written (s.ladleSum k l i)) := by
  have hlen : (exactBytes s k l).length = 32 * (32 * l.rows) := by
    rw [exactBytes, length_flatMap_of_length fun _ => length_sumBytes _, List.length_range]
  rw [resultPut, if_neg (by simp [h]), spadRead_spadWrite_other (by rw [length_bytesLE]; omega),
    spadRead_spadWrite_other (by rw [length_bytesLE]; omega),
    spadRead_spadWrite_within _ _ _ _ _ (by rw [hlen]; omega), exactBytes,
    take_drop_flatMap (fun _ => length_sumBytes _) _ (by simpa using hi), List.getElem_range]

variable (l)

theorem resultMoved_atCore : AtCore k s (resultMoved s k l c) :=
  ((noteCapture_atCore ..).trans (xferBy_atCore ..)).trans (.of_aside (State.spadEcc_aside ..) (spadEcc_places ..).vcoreOf)

theorem resultMoved_same : (resultMoved s k l c).spad = s.spad ∧ ((resultMoved s k l c).core k).acs = (s.core k).acs := by
  simp [resultMoved]

theorem entryClosed_atCore : AtCore k s (entryClosed s k entry l) := by
  rw [entryClosed, State.evCore]
  exact updCore_atCore k s (by simp [sameRegs])

theorem entryClosed_ladle : ((entryClosed s k entry l).core k).ladle entry = { l with st := .complete } := by
  rw [entryClosed, State.evCore, State.core_updCore_same]
  exact (ladle_congr (incAc_keeps ..).2 entry).trans (Core.ladle_setLadle_same ..)

theorem entryClosed_ac (j : Nat) : ((entryClosed s k entry l).core k).ac j =
    if j = s.ladleCounter k entry ∧ j < 64 then (s.core k).ac j + 1 else (s.core k).ac j := by
  rw [entryClosed, State.evCore, State.core_updCore_same]
  exact ac_incAc ((s.core k).setLadle entry { l with st := .complete }) _ j

end

theorem ladleComplete_answers {s u : State} {k e : Nat} (d : Bool) (c : Ecc) {l : Ladle} (hc : closed s u)
    (hk : okCore k = true) (hl : (u.core k).ladle e = l) (hready : l.ready = true) :
    answers (.ladleComplete k e ⟨d, c⟩) s (fun t => ((t.core k).ladle e).st = .complete ∧
      (l.ordered = true → ∀ i, i < l.len / 4 → t.spadRead k (l.base + 4 * i) 4 = bytesLE 4 (orderedSum u k l i).toNat) ∧
      (l.ordered = false → ∀ i, i < 32 * l.rows →
        t.spadRead k (l.base + 64 + 32 * i) 32 = sumBytes (l.written (u.ladleSum k l i))) ∧
      (∀ j, (t.core k).ac j = if j = u.ladleCounter k e ∧ j < 64 then (u.core k).ac j + 1 else (u.core k).ac j) ∧
      sameRegs (u.core k) (t.core k) ∧ t.hbm = u.hbm ∧ t.imem = u.imem ∧ sameOthers k u t) := by
  obtain ⟨ovf, hexec⟩ := exec_ladleComplete d c hc hk hl hready
  have hput := resultPut_atCore u k l ovf
  have hmoved := hput.trans (resultMoved_atCore (resultPut u k l ovf) k l c)
  obtain ⟨hspad, hacs⟩ := resultMoved_same (resultPut u k l ovf) k l c
  rw [resultPut_core] at hacs
  generalize resultMoved (resultPut u k l ovf) k l c = v at hexec hmoved hspad hacs
  have hclosed := hmoved.trans (entryClosed_atCore v k e l)
  obtain ⟨⟨-, hcore, -, hspad'⟩, himem, hhbm, -, -, -⟩ := (completionTold_aside (entryClosed v k e l) k e l ovf).trans
    (addersTold_aside d k _)
  have hmem : (addersTold d k (completionTold (entryClosed v k e l) k e l ovf)).spad = (resultPut u k l ovf).spad :=
    hspad'.trans hspad
  refine answers_of_exec hexec ⟨?_, fun hord i hi => ?_, fun hord i hi => ?_, fun j => ?_, ?_, hhbm.trans hclosed.hbm,
    himem.trans hclosed.imem, fun j hj => (hcore j).trans (hclosed.others j hj)⟩
  · rw [hcore, entryClosed_ladle]
  · rw [spadRead_congr hmem, resultPut_ordered u k ovf hord hi]
  · rw [spadRead_congr hmem, resultPut_exact u k ovf hord hi]
  · rw [hcore, entryClosed_ac, hmoved.ladleCounter, Core.ac, hacs, Core.ac]
  · rw [hcore]
    exact hclosed.regs

/-- Settles O29: a contribution waits or is accepted; a ready entry completes. -/
theorem ladleArrivalCompletion : Obligations.ladle_arrival_completion := by
  unfold Obligations.ladle_arrival_completion
  exact ⟨fun _ _ _ _ d hc ha hs hnew hst => ladle_waits d hc ha hs hnew hst,
    fun _ _ _ _ d _ _ hc ha hs hnew hl hst hw hhdr hrest hb hlen hyes =>
      ladle_accepts d hc ha hs hnew hl hst hw hhdr hrest hb hlen hyes,
    fun _ _ _ _ d c _ hc hk hl hready => ladleComplete_answers d c hc hk hl hready⟩

end Sys2Proof.Proofs

end

section
/-! PROOFS. O23: queue operations and LD.ARM where they issue (07 R184, 08 R210, R216). -/

open Sys2Proof Sys2Proof.Machine Sys2Proof.Claims

namespace Sys2Proof.Proofs

/-! ## The queue that an operation names (08 R210) -/

theorem IssueNoted.queue {c d : Core} (h : IssueNoted c d) (q : Nat) : d.queue q = c.queue q := by
  obtain ⟨_, _, _, _, _, rfl⟩ := h
  rfl

theorem IssueNoted.qCount {c d : Core} (h : IssueNoted c d) : d.qCount = c.qCount := by
  obtain ⟨_, _, _, _, _, rfl⟩ := h
  rfl

/-- An entry allocated stands last in its queue, with the queue's count for its number. -/
theorem queue_alloc (c : Core) (q : Nat) (e : QEnt) :
    (alloc c q e).queue q = c.queue q ++ [{ e with num := SMap.get zeroD c.qCount q, issueTime := c.cycle }] :=
  Core.queue_setQueue_same ..

theorem qCount_alloc (c : Core) (q : Nat) (e : QEnt) :
    SMap.get zeroD (alloc c q e).qCount q = SMap.get zeroD c.qCount q + 1 :=
  SMap.get_put_same zeroD c.qCount q (SMap.get zeroD c.qCount q + 1)

/-- Entries allocated one after another number on from the queue's count. -/
theorem foldl_alloc {α : Type} (q : Nat) (e : Core → α → QEnt) (l : List α) (c : Core) :
    ((l.foldl (fun c i => alloc c q (e c i)) c).queue q).length = (c.queue q).length + l.length ∧
      SMap.get zeroD (l.foldl (fun c i => alloc c q (e c i)) c).qCount q = SMap.get zeroD c.qCount q + l.length := by
  induction l generalizing c with
  | nil => simp
  | cons i l ih =>
    obtain ⟨hlen, hcount⟩ := ih (alloc c q (e c i))
    rw [queue_alloc] at hlen
    rw [qCount_alloc] at hcount
    simp only [List.length_append, List.length_cons, List.length_nil] at hlen ⊢
    simp only [List.foldl_cons]
    omega

/-- The entry that Q.RD or Q.WR allocates where it issues. -/
def queued (k : Nat) (f : MovF) (wr : Bool) (s : State) : QEnt :=
  let a := s.phys k (alignTo 64 (movEa (s.core k) f))
  { num := SMap.get zeroD (s.core k).qCount f.x.toNat, write := wr, lines := cnt f, spad := a, haddr := qAddr (s.core k) f
    issueTime := (s.core k).cycle, pc := (s.snap k).pc, after := s.waitsFor k a (64 * cnt f) (!wr) }

theorem queue_effQRd (k : Nat) (f : MovF) (s : State) :
    ((effQRd k f s).core k).queue f.x.toNat = (s.core k).queue f.x.toNat ++ [queued k f false s] := by
  rw [effQRd, State.core_setCore_same]
  exact queue_alloc ..

theorem queue_effQWr (k : Nat) (f : MovF) (s : State) :
    ((effQWr k f s).core k).queue f.x.toNat = (s.core k).queue f.x.toNat ++ [queued k f true s] := by
  rw [effQWr, State.core_setCore_same]
  exact queue_alloc ..

/-- What a transfer of a queue leaves where it issues, once its effect is known to allocate one entry. -/
theorem queue_answers {c : Instr} {io : Issue} {f : MovF} {wr : Bool} {info : State → Op} {eff : State → State}
    (hc : slotOf c = some (io, info, eff))
    (heff : ∀ s, ((eff s).core io.core).queue f.x.toNat =
      (s.core io.core).queue f.x.toNat ++ [queued io.core f wr s])
    {s : State} (hi : s.issues io info = true) : answers c s (fun t =>
      ∃ e, (t.core io.core).queue f.x.toNat = (before s io).queue f.x.toNat ++ [e] ∧ e.write = wr ∧ e.lines = cnt f ∧
        e.haddr = qAddr (before s io) f ∧ e.num = SMap.get zeroD (before s io).qCount f.x.toNat ∧ e.done = false ∧
        sameRegs (before s io) (t.core io.core) ∧ sameMem (s.atIssue io) t) :=
  answers_of_issues hc hi fun _ hnoted hregs hmem _ =>
    ⟨queued io.core f wr (s.atIssue io), (hnoted.queue _).trans (heff _), rfl, rfl, rfl, rfl, rfl, hregs, hmem⟩

theorem qGath_answers (io : Issue) (f : MovF) (s : State) (hi : s.issues io (infoQGath io.core f) = true) :
    answers (.qGath io f) s (fun t =>
      ((t.core io.core).queue f.x.toNat).length = ((before s io).queue f.x.toNat).length + cnt f ∧
      SMap.get zeroD (t.core io.core).qCount f.x.toNat = SMap.get zeroD (before s io).qCount f.x.toNat + cnt f ∧
      sameRegs (before s io) (t.core io.core) ∧ sameMem (s.atIssue io) t) := by
  refine answers_of_issues rfl hi fun t hnoted hregs hmem _ => ?_
  rw [hnoted.queue, hnoted.qCount, effQGath, State.core_setCore_same]
  obtain ⟨hlen, hcount⟩ := foldl_alloc f.x.toNat (fun _ i => _) (List.range (cnt f)) (before s io)
  rw [List.length_range] at hlen hcount
  exact ⟨hlen, hcount, hregs, hmem⟩

/-! ## LD.ARM (07 R184) -/

/-- The entry is armed for the operation's contributors, whatever its mode and whether its target's header is read yet. -/
theorem armed_st (s : State) (k : Nat) (f : MovF) : (armed s k f).st = .armed ∧ (armed s k f).n = armN f := by
  unfold armed
  extract_lets c a l l' t
  split
  · exact ⟨rfl, rfl⟩
  split
  · exact ⟨rfl, rfl⟩
  · exact ⟨rfl, rfl⟩

theorem ldArm_answers (io : Issue) (f : MovF) (s : State) (hi : s.issues io (infoLdArm io.core f) = true) :
    answers (.ldArm io f) s (fun t =>
      ((before s io).ladle f.x.toNat).st ≠ .armed ∧ ((t.core io.core).ladle f.x.toNat).st = .armed ∧
      ((t.core io.core).ladle f.x.toNat).n = armN f ∧ (t.core io.core).armed = (before s io).armed + armN f ∧
      sameRegs (before s io) (t.core io.core) ∧ sameMem (s.atIssue io) t) := by
  obtain ⟨-, -, hholds⟩ := legal_of_issues hi
  obtain ⟨hst, hn⟩ := armed_st (s.atIssue io) io.core f
  refine answers_of_issues rfl hi fun t hnoted hregs hmem _ => ⟨not_of_no_hold hholds, ?_⟩
  obtain ⟨_, _, _, _, _, ht⟩ := hnoted
  have hladle : (t.core io.core).ladle f.x.toNat = armed (s.atIssue io) io.core f := by
    rw [ht, effLdArm, State.core_updCore_same]
    exact Core.ladle_setLadle_same ..
  rw [hladle]
  refine ⟨hst, hn, ?_, hregs, hmem⟩
  rw [ht, effLdArm, State.core_updCore_same]
  rfl

/-- Settles O23: one entry for Q.RD and Q.WR, one for each descriptor of Q.GATH; LD.ARM arms an entry that is not armed. -/
theorem queueLadleOps : Obligations.queue_ladle_ops := by
  unfold Obligations.queue_ladle_ops
  refine ⟨fun c io f wr h s hi => ?_, qGath_answers, ldArm_answers⟩
  rcases h with ⟨rfl, rfl⟩ | ⟨rfl, rfl⟩
  · exact queue_answers rfl (queue_effQRd io.core f) hi
  · exact queue_answers rfl (queue_effQWr io.core f) hi

end Sys2Proof.Proofs

end

section
/-! PROOFS. Lines of HBM (08 R201 to R205, R224): what a write of lines leaves, and that it reaches HBM and the stored checks
alone. -/

open Sys2Proof Sys2Proof.Machine Sys2Proof.Claims

namespace Sys2Proof.Proofs

/-! ## Byte strings in parts -/

/-- Parts of length `w`, taken one after another, make up the list. -/
theorem flatMap_parts {α : Type} (l : List α) (w n : Nat) :
    (List.range n).flatMap (fun i => (l.drop (w * i)).take w) = l.take (w * n) := by
  induction n with
  | zero => simp
  | succ n ih => rw [List.range_succ, List.flatMap_append, ih, Nat.mul_succ, List.take_add]; simp

theorem flatMap_slices {b : Bytes} {n : Nat} (h : b.length = 64 * n) :
    (List.range n).flatMap (fun i => slice b (64 * i) 64) = b := by
  calc (List.range n).flatMap (fun i => slice b (64 * i) 64)
      = (List.range n).flatMap (fun i => (b.drop (64 * i)).take 64) := List.flatMap_congr fun i hi => by
        have := List.mem_range.mp hi
        exact slice_of_le (by omega)
    _ = b := by rw [flatMap_parts, ← h, List.take_length]

theorem bytesLE_natLE (b : Bytes) : bytesLE b.length (natLE b) = b := by
  induction b with
  | nil => rfl
  | cons x b ih =>
    have hx : x.toNat < 256 := x.isLt
    have hrest : (x.toNat + 256 * natLE b) / 256 = natLE b := by omega
    have hlow : BitVec.ofNat 8 (x.toNat + 256 * natLE b) = x := BitVec.eq_of_toNat_eq (by simp; omega)
    rw [List.length_cons, natLE, bytesLE, hrest, ih, hlow]

theorem natLE_lt (b : Bytes) : natLE b < 2 ^ (8 * b.length) := by
  induction b with
  | nil => simp [natLE]
  | cons x b ih =>
    have hx : x.toNat < 256 := x.isLt
    rw [natLE, List.length_cons, Nat.mul_succ, pow_add]
    omega

theorem toNat_ofNat_natLE {b : Bytes} {w : Nat} (h : 8 * b.length = w) : (BitVec.ofNat w (natLE b)).toNat = natLE b := by
  subst h
  rw [BitVec.toNat_ofNat, Nat.mod_eq_of_lt (natLE_lt b)]

theorem flitBytes_bytesFlit {b : Bytes} (h : b.length = 64) : flitBytes (bytesFlit b) = b := by
  rw [flitBytes, bytesFlit, toNat_ofNat_natLE (by omega), ← h]
  exact bytesLE_natLE b

/-- Whole lines cut into flits are the flits' bytes. -/
theorem flatMap_flitBytes_toFlits {b : Bytes} {n : Nat} (h : b.length = 64 * n) : (toFlits n b).flatMap flitBytes = b := by
  have hflit (i : Nat) : flitBytes (bytesFlit (slice b (64 * i) 64)) = slice b (64 * i) 64 :=
    flitBytes_bytesFlit (length_slice ..)
  simp only [toFlits, List.flatMap_map, hflit]
  exact flatMap_slices h

theorem writeBytes_append (m : SMap Byte) (a : Nat) (b c : Bytes) :
    writeBytes m a (b ++ c) = writeBytes (writeBytes m a b) (a + b.length) c := by
  induction b generalizing m a with
  | nil => rfl
  | cons x b ih =>
    rw [List.cons_append, writeBytes, ih, writeBytes, List.length_cons]
    congr 1
    omega

@[simp] theorem length_hbmRead (s : State) (st a n : Nat) : (s.hbmRead st a n).length = n := by
  simp [State.hbmRead, readBytes]

/-- Lines read one after another are the bytes from the first on. -/
theorem flatMap_hbmRead (s : State) (st a n : Nat) :
    (List.range n).flatMap (fun i => s.hbmRead st (a + 64 * i) 64) = s.hbmRead st a (64 * n) := by
  induction n with
  | zero => rfl
  | succ n ih =>
    rw [List.range_succ, List.flatMap_append, ih, Nat.mul_succ]
    simp [State.hbmRead, readBytes, List.range_add, hbmKey, Nat.add_assoc]

/-! ## What writes of lines reach -/

/-- Only HBM and the stored checks of its lines change from `s` to `t`. -/
def OnlyHbm (s t : State) : Prop := ∃ m b, t = { s with hbm := m, hbmBad := b }

theorem OnlyHbm.refl (s : State) : OnlyHbm s s := ⟨_, _, rfl⟩

theorem OnlyHbm.trans {s t u : State} (h : OnlyHbm s t) (h' : OnlyHbm t u) : OnlyHbm s u := by
  obtain ⟨_, _, rfl⟩ := h
  obtain ⟨_, _, rfl⟩ := h'
  exact ⟨_, _, rfl⟩

theorem OnlyHbm.spad {s t : State} (h : OnlyHbm s t) : t.spad = s.spad := by
  obtain ⟨_, _, rfl⟩ := h
  rfl

theorem foldl_onlyHbm {α : Type} {f : State → α → State} (h : ∀ s x, OnlyHbm s (f s x)) (l : List α) (s : State) :
    OnlyHbm s (l.foldl f s) :=
  List.foldlRecOn l f (motive := OnlyHbm s) (.refl s) fun t ht x _ => ht.trans (h t x)

section
variable (s : State) (stack : Nat)

theorem hbmWrite_onlyHbm (a : Nat) (b : Bytes) : OnlyHbm s (s.hbmWrite stack a b) := ⟨_, _, rfl⟩
theorem markLine_onlyHbm (off v : Nat) : OnlyHbm s (s.markLine stack off v) := ⟨_, _, rfl⟩
theorem markOwn_onlyHbm (g v : Nat) : OnlyHbm s (s.markOwn stack g v) := ⟨_, _, rfl⟩

theorem putLines_onlyHbm (off : Nat) (d : Nat → Nat) (b : Bytes) (n : Nat) : OnlyHbm s (s.putLines stack off d b n) :=
  foldl_onlyHbm (fun _ _ => (hbmWrite_onlyHbm ..).trans (markLine_onlyHbm ..)) _ s

/-- The hub's work on check lines writes no byte of HBM. -/
theorem hubChecks_marks (l n : Nat) : ∃ b, (s.hubChecks stack l n).1 = { s with hbmBad := b } := by
  refine List.foldlRecOn (groupsOf l n) _ (motive := fun r : State × Bool => ∃ b, r.1 = { s with hbmBad := b })
    ⟨_, rfl⟩ fun r ⟨b, hr⟩ g _ => ?_
  have hrest (rest : List Nat) : ∃ b, rest.foldl (fun s x =>
      if s.lineDiff stack (64 * x) = 0 then s.markLine stack (64 * x) 1 else s) r.1 = { s with hbmBad := b } := by
    refine List.foldlRecOn rest _ (motive := fun t : State => ∃ b, t = { s with hbmBad := b }) ⟨b, hr⟩ ?_
    rintro _ ⟨b', rfl⟩ x -
    split
    · exact ⟨_, rfl⟩
    · exact ⟨_, rfl⟩
  dsimp only
  split
  · obtain ⟨b', h⟩ := hrest (groupRest l n g)
    exact ⟨_, by rw [h]; rfl⟩
  · exact ⟨_, by rw [hr]; rfl⟩

theorem hubChecks_onlyHbm (l n : Nat) : OnlyHbm s (s.hubChecks stack l n).1 := by
  obtain ⟨b, h⟩ := hubChecks_marks s stack l n
  exact ⟨_, _, h⟩

theorem writeLines_onlyHbm (off : Nat) (b : Bytes) (n : Nat) : OnlyHbm s (s.writeLines stack off b n) :=
  (hubChecks_onlyHbm ..).trans (putLines_onlyHbm ..)

theorem writeStripe_onlyHbm (p : Prog) (kind slot total n : Nat) (b : Bytes) :
    OnlyHbm s (s.writeStripe p kind slot total n b) := by
  refine foldl_onlyHbm (fun s j => ?_) _ s
  split
  · exact writeLines_onlyHbm ..
  · exact .refl s

theorem writeStripes_onlyHbm (p : Prog) (kind slot : Nat) (b : Bytes) : OnlyHbm s (s.writeStripes p kind slot b) :=
  foldl_onlyHbm (fun _ _ => writeStripe_onlyHbm ..) _ s

theorem retainWrite_onlyHbm (p : Prog) (slot : Nat) (b : Bytes) : OnlyHbm s (s.retainWrite p slot b) :=
  writeStripes_onlyHbm ..

/-- A write of whole lines leaves their bytes from the first line on (08 R203). -/
theorem putLines_hbm (off : Nat) (d : Nat → Nat) {b : Bytes} {n : Nat} (h : b.length = 64 * n) :
    (s.putLines stack off d b n).hbm = writeBytes s.hbm (hbmKey stack off) b := by
  have hlines (m : Nat) (hm : m ≤ n) :
      (s.putLines stack off d b m).hbm = writeBytes s.hbm (hbmKey stack off) (b.take (64 * m)) := by
    induction m with
    | zero => rfl
    | succ m ih =>
      have hlen : (b.take (64 * m)).length = 64 * m := by simp; omega
      have hstep : (s.putLines stack off d b (m + 1)).hbm =
          writeBytes (s.putLines stack off d b m).hbm (hbmKey stack (off + 64 * m)) (slice b (64 * m) 64) := by
        simp [State.putLines, List.range_succ, State.markLine]
      rw [hstep, ih (by omega), slice_of_le (by omega), Nat.mul_succ, List.take_add, writeBytes_append, hlen, hbmKey,
        Nat.add_assoc]
      rfl
  rw [hlines n le_rfl, ← h, List.take_length]

end

end Sys2Proof.Proofs

end

section
/-! PROOFS. HBM requests at a stack controller, and their completions at the core that asked (08 R203 to R211). -/

open Sys2Proof Sys2Proof.Machine Sys2Proof.Claims

namespace Sys2Proof.Proofs

/-! ## What packets carry away -/

/-- From `s` to `t` packets have been sent, whose payloads make up `b`. -/
def Sends (s t : State) (b : Bytes) : Prop :=
  ∃ l, t.net.flight = s.net.flight ++ l ∧ l.flatMap (fun x => x.pkt.payload.flatMap flitBytes) = b

theorem Sends.refl (s : State) : Sends s s [] := ⟨[], by simp, rfl⟩

theorem Sends.trans {s t u : State} {b c : Bytes} (h : Sends s t b) (h' : Sends t u c) : Sends s u (b ++ c) := by
  obtain ⟨l, hl, rfl⟩ := h
  obtain ⟨l', hl', rfl⟩ := h'
  exact ⟨l ++ l', by rw [hl', hl, List.append_assoc], List.flatMap_append⟩

theorem inject_sends {s : State} {p : Packet} {b : Bytes} (h : p.payload.flatMap flitBytes = b) : Sends s (s.inject p) b :=
  ⟨[{ time := s.time, pkt := p }], rfl, by simp [h]⟩

theorem foldl_sends {α : Type} {f : State → α → State} {g : α → Bytes} (l : List α) (s : State)
    (h : ∀ s, ∀ x ∈ l, Sends s (f s x) (g x)) : Sends s (l.foldl f s) (l.flatMap g) := by
  induction l generalizing s with
  | nil => exact .refl s
  | cons x l ih =>
    exact (h s x List.mem_cons_self).trans (ih _ fun s y hy => h s y (List.mem_cons_of_mem x hy))

/-! ## The lines that a read answers with (08 R203, R206) -/

/-- Outside the retained inputs a program's address reaches the lines of its stack as they stand. -/
theorem hbmLines_plain {s : State} {epoch : Bool} {a n : Nat} (h : ∀ i, i < n → s.inputAt (a + 64 * i) = none) :
    s.hbmLines epoch a n = (List.range n).map (fun i =>
      (s.hbmRead ((s.net.route epoch).stackOf (a / 2 ^ 37)) (a % 2 ^ 37 + 64 * i) 64,
        s.lineDiff ((s.net.route epoch).stackOf (a / 2 ^ 37)) (a % 2 ^ 37 + 64 * i))) := by
  unfold State.hbmLines
  refine List.map_congr_left fun i hi => ?_
  rw [h i (List.mem_range.mp hi)]

/-- The numbers of the lines, of `n`, that completion `i` carries. -/
def cmpPart (n i : Nat) : List Nat := ((List.range n).drop (64 * i)).take (min 64 (n - 64 * i))

/-- The completions share out the lines in order. -/
theorem flatMap_cmpPart (n : Nat) : (List.range ((n + 63) / 64)).flatMap (cmpPart n) = List.range n := by
  have hpart : cmpPart n = fun i => ((List.range n).drop (64 * i)).take 64 := funext fun i => by
    rw [cmpPart, ← List.take_take, List.take_of_length_le (i := n - 64 * i) (by simp)]
  rw [hpart, flatMap_parts, List.take_of_length_le]
  rw [List.length_range]
  omega

/-- The completions of a read carry its lines, in order. -/
theorem readCmps_sends {s : State} {h : Hdr} {stack lo n : Nat} {f : Nat → Bytes × Nat}
    (hlines : s.hbmLines h.epoch lo n = (List.range n).map f) (hlen : ∀ i, (f i).1.length = 64) :
    Sends s (s.readCmps h stack lo n) ((List.range n).flatMap (fun i => (f i).1)) := by
  rw [← flatMap_cmpPart n, List.flatMap_assoc, State.readCmps, hlines]
  refine foldl_sends _ s fun t i _ => ?_
  have hbytes : ((((List.range n).map f).drop (64 * i)).take (min 64 (n - 64 * i))).flatMap Prod.fst =
      (cmpPart n i).flatMap (fun i => (f i).1) := by
    rw [← List.map_drop, ← List.map_take, List.flatMap_map, cmpPart]
  have hlength := length_flatMap_of_length hlen (cmpPart n i)
  rw [← hbytes] at hlength ⊢
  exact inject_sends (flatMap_flitBytes_toFlits (Nat.mul_div_cancel' ⟨_, hlength⟩).symm)

theorem readCmps_aside (s : State) (h : Hdr) (stack lo n : Nat) : Aside s (s.readCmps h stack lo n) :=
  foldl_aside (fun _ _ => State.inject_aside ..) _ s

/-! ## A request accepted (08 R203, R205, R209) -/

/-- Stack, offset and lines that a request names. -/
def reqStack (u : State) (p : Packet) : Nat := (u.net.route (pktH p).epoch).stackOf (bits (pktH p).arg 42 0 / 2 ^ 37)
def reqOff (p : Packet) : Nat := bits (pktH p).arg 42 0 % 2 ^ 37
def reqLines (p : Packet) : Nat := bits (pktH p).arg 62 51 + 1

/-- The request out of the mesh, after its wait for a refresh, the check lines marked that fail from here on. -/
def reqAccepted (u : State) (p : Packet) (rot : List Nat) : State :=
  (rot.filter (fun g => (groupsOf (reqOff p / 64) (reqLines p)).contains g)).foldl
    (fun s g => s.markOwn (reqStack (u.eject p) p) g 1)
    ((u.eject p).waitRefresh (reqStack (u.eject p) p) (reqOff p / 64) (reqLines p))

/-- How the checks that came with the lines of a write differ from the right ones. -/
def reqDiff (p : Packet) (err : List (BitVec 32)) (i : Nat) : Nat :=
  (match p.chk[i]? with
    | some c => c.toNat ^^^ lineCheck (slice (p.payload.flatMap flitBytes) (64 * i) 64) (bits (pktH p).arg 42 0 + 64 * i)
    | none => 0) ^^^ (err.getD i 0).toNat

/-- The lines of a write put, and its completion sent. -/
def reqWritten (v : State) (stack : Nat) (p : Packet) (err : List (BitVec 32)) : State :=
  let r := v.hubChecks stack (reqOff p / 64) (reqLines p)
  (r.1.putLines stack (reqOff p) (reqDiff p err) (p.payload.flatMap flitBytes) (reqLines p)).inject
    (v.qCmpPkt (pktH p) stack true r.2 0 [])

/-- The request credit that goes back to the die, and its sending (09 R234). -/
def reqCreditPkt (v : State) (stack : Nat) (p : Packet) : Packet :=
  { hdr := ({ type := 9, vc := 1, epoch := v.net.epochB, dkind := 0, skind := 3, att := (pktH p).att, dst := (pktH p).src
              src := cellOfStack stack, arg := 65536 + 256 } : Hdr).flit, payload := [] }
def reqCredit (v : State) (stack : Nat) (p : Packet) : State := v.inject (reqCreditPkt v stack p)

theorem reqCredit_aside (v : State) (stack : Nat) (p : Packet) : Aside v (reqCredit v stack p) := State.inject_aside ..

theorem reqCredit_sends (v : State) (stack : Nat) (p : Packet) : Sends v (reqCredit v stack p) [] := inject_sends rfl

theorem waitRefresh_eq (s : State) (stack l n : Nat) : ∃ t, s.waitRefresh stack l n = { s with time := t } := by
  unfold State.waitRefresh
  split
  · exact ⟨_, rfl⟩
  · exact ⟨_, rfl⟩

theorem foldl_markOwn_eq (stack v : Nat) (l : List Nat) (s : State) :
    ∃ b, l.foldl (fun s g => s.markOwn stack g v) s = { s with hbmBad := b } := by
  induction l generalizing s with
  | nil => exact ⟨_, rfl⟩
  | cons g l ih => exact ih (s.markOwn stack g v)

theorem reqAccepted_eq (u : State) (p : Packet) (rot : List Nat) :
    ∃ t b, reqAccepted u p rot = { u.eject p with time := t, hbmBad := b } := by
  obtain ⟨t, ht⟩ := waitRefresh_eq (u.eject p) (reqStack (u.eject p) p) (reqOff p / 64) (reqLines p)
  rw [reqAccepted, ht]
  exact ⟨t, foldl_markOwn_eq ..⟩

theorem eject_route (u : State) (p : Packet) (epoch : Bool) : (u.eject p).net.route epoch = u.net.route epoch := by
  have hun (i : Nat) : (u.unflight i p).net.route epoch = u.net.route epoch := by
    unfold State.unflight
    split <;> rfl
  simp only [State.eject]
  (repeat' split) <;> exact hun _

theorem reqStack_eject (u : State) (p : Packet) : reqStack (u.eject p) p = reqStack u p := by
  rw [reqStack, eject_route, reqStack]

/-- The request taken leaves cores, memories and program alone, and nothing but its flits leaves the mesh. -/
theorem reqAccepted_same (u : State) (p : Packet) (rot : List Nat) :
    sameMem u (reqAccepted u p rot) ∧ (reqAccepted u p rot).cores = u.cores ∧ (reqAccepted u p rot).prog = u.prog ∧
      (reqAccepted u p rot).net = (u.eject p).net := by
  obtain ⟨t, b, h⟩ := reqAccepted_eq u p rot
  rw [h]
  exact ⟨eject_sameMem u p, eject_cores u p, eject_prog u p, rfl⟩

/-- R203, R206: the completions of a read taken carry the lines that it asks for. -/
theorem reqAccepted_readCmps {u : State} {p : Packet} (rot : List Nat)
    (hplain : ∀ i, i < reqLines p → u.inputAt (bits (pktH p).arg 42 0 + 64 * i) = none) :
    Sends (u.eject p) ((reqAccepted u p rot).readCmps (pktH p) (reqStack u p) (bits (pktH p).arg 42 0) (reqLines p))
      (u.hbmRead (reqStack u p) (reqOff p) (64 * reqLines p)) := by
  obtain ⟨⟨-, hhbm, -⟩, -, hprog, hnet⟩ := reqAccepted_same u p rot
  generalize reqAccepted u p rot = v at hhbm hprog hnet
  have hinput (a : Nat) : v.inputAt a = u.inputAt a := by rw [State.inputAt, hprog, State.inputAt]
  have hstack : (v.net.route (pktH p).epoch).stackOf (bits (pktH p).arg 42 0 / 2 ^ 37) = reqStack u p := by
    rw [hnet]
    exact reqStack_eject u p
  have hlines := hbmLines_plain (s := v) (epoch := (pktH p).epoch) fun i hi => (hinput _).trans (hplain i hi)
  rw [hstack] at hlines
  obtain ⟨l, hl, hbytes⟩ := readCmps_sends (stack := reqStack u p) hlines fun i => length_hbmRead ..
  rw [flatMap_hbmRead, State.hbmRead, hhbm] at hbytes
  exact ⟨l, by rw [hl, hnet], hbytes⟩

/-- R203, R205: a write puts its lines in HBM and reaches no other memory and no core. -/
theorem reqWritten_leaves (v : State) (stack : Nat) {p : Packet} (err : List (BitVec 32))
    (hlen : p.payload.length = reqLines p) :
    (reqWritten v stack p err).hbm = writeBytes v.hbm (hbmKey stack (reqOff p)) (p.payload.flatMap flitBytes) ∧
      (reqWritten v stack p err).spad = v.spad ∧ (reqWritten v stack p err).imem = v.imem ∧
      (reqWritten v stack p err).cores = v.cores := by
  obtain ⟨b, hchecks⟩ := hubChecks_marks v stack (reqOff p / 64) (reqLines p)
  rw [reqWritten, hchecks]
  generalize State.qCmpPkt _ _ _ _ _ _ _ = q
  have hput := putLines_hbm { v with hbmBad := b } stack (reqOff p) (reqDiff p err) (b := p.payload.flatMap flitBytes)
    (n := reqLines p) (by rw [length_flatMap_flitBytes, hlen])
  obtain ⟨m, b', heq⟩ := putLines_onlyHbm { v with hbmBad := b } stack (reqOff p) (reqDiff p err)
    (p.payload.flatMap flitBytes) (reqLines p)
  rw [heq] at hput ⊢
  exact ⟨hput, rfl, rfl, rfl⟩

section
variable {s u : State} {p : Packet} (err : List (BitVec 32)) (rot : List Nat) (hc : closed s u) (hok : arrivesOk p = true)
  (hty : (pktH p).type = 7) (hkind : (pktH p).dkind = 1) (hord : u.inOrder p = true) (hfirst : u.qBefore p = false)
  (hatt : (pktH p).att = u.slots.tag.toNat)
include hc hok hty hkind hord hfirst hatt

theorem exec_qReq_read (hrd : bits (pktH p).arg 63 63 = 0) : exec (.qReq p err rot) s =
    .next (reqCredit ((reqAccepted u p rot).readCmps (pktH p) (reqStack u p) (bits (pktH p).arg 42 0) (reqLines p))
      (reqStack u p) p) := by
  rw [← reqStack_eject u p]
  simp only [exec, execQReq, flushAll_of_closed hc, hok, hty, hkind, hord, hfirst, hrd, ← hatt, bne_self_eq_false,
    Bool.not_true, Bool.or_self, Bool.false_eq_true, if_false, -Nat.reducePow]
  rfl

theorem exec_qReq_write (hwr : bits (pktH p).arg 63 63 = 1) : exec (.qReq p err rot) s =
    .next (reqCredit (reqWritten (reqAccepted u p rot) (reqStack u p) p err) (reqStack u p) p) := by
  rw [← reqStack_eject u p]
  simp only [exec, execQReq, flushAll_of_closed hc, hok, hty, hkind, hord, hfirst, hwr, ← hatt, bne_self_eq_false,
    Bool.not_true, Bool.or_self, Bool.false_eq_true, if_false, if_true, -Nat.reducePow]
  rfl

/-- A read leaves every memory as it is, and its lines go back to the core. -/
theorem qReq_reads (hrd : bits (pktH p).arg 63 63 = 0)
    (hplain : ∀ i, i < reqLines p → u.inputAt (bits (pktH p).arg 42 0 + 64 * i) = none) :
    answers (.qReq p err rot) s (fun t => sameMem u t ∧ t.cores = u.cores ∧
      Sends (u.eject p) t (u.hbmRead (reqStack u p) (reqOff p) (64 * reqLines p))) := by
  obtain ⟨⟨hspad, hhbm, himem⟩, hcores, -⟩ := reqAccepted_same u p rot
  obtain ⟨⟨hcores', -, -, hspad'⟩, himem', hhbm', -⟩ := (readCmps_aside (reqAccepted u p rot) (pktH p) (reqStack u p)
    (bits (pktH p).arg 42 0) (reqLines p)).trans (reqCredit_aside _ (reqStack u p) p)
  have hsends := (reqAccepted_readCmps rot hplain).trans (reqCredit_sends _ (reqStack u p) p)
  rw [List.append_nil] at hsends
  exact answers_of_exec (exec_qReq_read err rot hc hok hty hkind hord hfirst hatt hrd)
    ⟨⟨hspad'.trans hspad, hhbm'.trans hhbm, himem'.trans himem⟩, hcores'.trans hcores, hsends⟩

/-- A write leaves its lines in HBM, and nothing else in a memory. -/
theorem qReq_writes (hwr : bits (pktH p).arg 63 63 = 1) (hlen : p.payload.length = reqLines p) :
    answers (.qReq p err rot) s (fun t => t.spad = u.spad ∧ t.imem = u.imem ∧ t.cores = u.cores ∧
      t.hbm = writeBytes u.hbm (hbmKey (reqStack u p) (reqOff p)) (p.payload.flatMap flitBytes)) := by
  obtain ⟨⟨hspad, hhbm, himem⟩, hcores, -⟩ := reqAccepted_same u p rot
  obtain ⟨hhbm', hspad', himem', hcores'⟩ := reqWritten_leaves (reqAccepted u p rot) (reqStack u p) err hlen
  obtain ⟨⟨hcores'', -, -, hspad''⟩, himem'', hhbm'', -⟩ :=
    reqCredit_aside (reqWritten (reqAccepted u p rot) (reqStack u p) p err) (reqStack u p) p
  exact answers_of_exec (exec_qReq_write err rot hc hok hty hkind hord hfirst hatt hwr)
    ⟨hspad''.trans (hspad'.trans hspad), himem''.trans (himem'.trans himem), hcores''.trans (hcores'.trans hcores),
      hhbm''.trans (hhbm'.trans (by rw [hhbm]))⟩

end

/-! ## Completions (08 R206, R210) -/

/-- The entry of a queue when a completion of `n` lines has been taken, of which the check failed or did not. -/
def cmpEntry (e : QEnt) (n : Nat) (bad : Bool) : QEnt :=
  let got := e.got + (if e.write then 1 else n)
  { e with got := got, check := e.check || bad, done := decide ((if e.write then (e.lines + 63) / 64 else e.lines) ≤ got) }

/-- The core with it in the entry's place. -/
def cmpNoted (s : State) (k q : Nat) (e e' : QEnt) : State :=
  s.evCore k (fun c => c.setQueue q ((c.queue q).map (fun x => if x = e then e' else x)))

/-- Lines of a read written by QIN (06 R154, 08 R206). -/
def linesIn (s : State) (k a : Nat) (p : Packet) : State :=
  ((s.noteCapture k (pktBytes p)).spadWrite k a (p.payload.flatMap flitBytes)).xferBy k .qin a p.payload.length

/-- Line credits of a write given back to the die (09 R234). -/
def linesFreed (s : State) (k : Nat) (e : QEnt) : State :=
  { s with net := { s.net with
    reqTaken := SMap.upd zeroD s.net.reqTaken (2 * s.reqKey k e.haddr + 1) (fun x => x - min 64 (e.lines - 64 * e.got)) } }

/-- What is told of a completion: lines that failed their check, and the time of an entry that is done. -/
def cmpTold (s : State) (k : Nat) (e : QEnt) (bad : Bool) (a n : Nat) (done : Bool) : State :=
  let t := if bad then s.e2eFault k a n else s
  if done then t.noteDone k e else t

theorem e2eFault_aside (s : State) (k a n : Nat) : Aside s (s.e2eFault k a n) := aside_of (by simp [State.e2eFault])

theorem noteDone_aside (s : State) (k : Nat) (e : QEnt) : Aside s (s.noteDone k e) := aside_of (by simp [State.noteDone])

theorem cmpTold_aside (s : State) (k : Nat) (e : QEnt) (bad : Bool) (a n : Nat) (done : Bool) :
    Aside s (cmpTold s k e bad a n done) := by
  unfold cmpTold
  extract_lets t
  have ht : Aside s t := by
    unfold t
    split
    · exact e2eFault_aside ..
    · exact aside_of ⟨⟨rfl, rfl, rfl⟩, rfl, rfl, rfl, rfl, rfl⟩
  split
  · exact ht.trans (noteDone_aside ..)
  · exact ht

theorem linesFreed_aside (s : State) (k : Nat) (e : QEnt) : Aside s (linesFreed s k e) :=
  aside_of ⟨⟨rfl, rfl, rfl⟩, rfl, rfl, rfl, rfl, rfl⟩

theorem cmpNoted_atCore (s : State) (k q : Nat) (e e' : QEnt) : AtCore k s (cmpNoted s k q e e') := by
  rw [cmpNoted, State.evCore]
  exact updCore_atCore k s ⟨rfl, rfl, rfl, rfl⟩

theorem mem_cmpNoted {s : State} {k q : Nat} {e : QEnt} (h : e ∈ (s.core k).queue q) (e' : QEnt) :
    e' ∈ ((cmpNoted s k q e e').core k).queue q := by
  have hqueue : ((cmpNoted s k q e e').core k).queue q = ((s.core k).queue q).map (fun x => if x = e then e' else x) := by
    rw [cmpNoted, State.evCore, State.core_updCore_same]
    exact Core.queue_setQueue_same ..
  rw [hqueue]
  exact List.mem_map.mpr ⟨e, h, if_pos rfl⟩

theorem mem_of_slotEnt {c : Core} {q sl : Nat} {e : QEnt} (h : slotEnt c q sl = some e) : e ∈ c.queue q :=
  List.mem_of_find?_eq_some h

theorem linesIn_atCore (s : State) (k a : Nat) (p : Packet) : AtCore k s (linesIn s k a p) :=
  ((noteCapture_atCore ..).trans (spadWrite_atCore ..)).trans (xferBy_atCore ..)

theorem linesIn_spad (s : State) (k a : Nat) (p : Packet) :
    (linesIn s k a p).spad = writeBytes s.spad (spadKey k a) (p.payload.flatMap flitBytes) := by
  simp [linesIn]

theorem linesIn_queue (s : State) (k a : Nat) (p : Packet) (q : Nat) :
    ((linesIn s k a p).core k).queue q = (s.core k).queue q := by
  obtain ⟨f, l, h⟩ := xferBy_core k ((s.noteCapture k (pktBytes p)).spadWrite k a (p.payload.flatMap flitBytes)) .qin a
    p.payload.length
  rw [linesIn, h, State.spadWrite_core, noteCapture_core]
  rfl

section
variable {s u : State} {k : Nat} {p : Packet} (err : List (BitVec 32)) {e : QEnt} (hc : closed s u) (ha : arrives u p 8 k)
  (he : slotEnt (u.core k) (bits (pktH p).arg 50 49) (bits (pktH p).arg 48 43) = some e)
include hc ha he

theorem exec_qCmp_read (hrd : e.write = false) (hfirst : olderRead (u.core k) e (bits (pktH p).arg 50 49) = false) :
    ∃ bad a n, exec (.qCmp p err) s = .next (cmpTold
      (cmpNoted (linesIn (u.eject p) k (e.spad + 64 * bits (pktH p).arg 11 0) p) k (bits (pktH p).arg 50 49) e
        (cmpEntry e p.payload.length bad)) k e bad a n (cmpEntry e p.payload.length bad).done) := by
  simp only [exec, execQCmp, arriveAt_of_arrives hc ha, he, hrd, hfirst, Bool.not_false, Bool.and_false, Bool.false_eq_true,
    if_false, cmpEntry]
  exact ⟨_, _, _, rfl⟩

theorem exec_qCmp_write (hwr : e.write = true) :
    ∃ bad a n, exec (.qCmp p err) s = .next (cmpTold
      (linesFreed (cmpNoted (u.eject p) k (bits (pktH p).arg 50 49) e (cmpEntry e p.payload.length bad)) k e)
      k e bad a n (cmpEntry e p.payload.length bad).done) := by
  simp only [exec, execQCmp, arriveAt_of_arrives hc ha, he, hwr, Bool.not_true, Bool.false_and, Bool.false_eq_true,
    if_false, if_true, cmpEntry]
  exact ⟨_, _, _, rfl⟩

/-- A completion of a read writes its lines at their place; the entry is done with its last line. -/
theorem qCmp_reads (hrd : e.write = false) (hfirst : olderRead (u.core k) e (bits (pktH p).arg 50 49) = false) :
    answers (.qCmp p err) s (fun t =>
      t.spad = writeBytes u.spad (spadKey k (e.spad + 64 * bits (pktH p).arg 11 0)) (p.payload.flatMap flitBytes) ∧
      (∃ e', e' ∈ (t.core k).queue (bits (pktH p).arg 50 49) ∧ e'.num = e.num ∧ e'.got = e.got + p.payload.length ∧
        (e'.done = true ↔ e.lines ≤ e.got + p.payload.length)) ∧
      sameRegs (u.core k) (t.core k) ∧ t.hbm = u.hbm ∧ t.imem = u.imem ∧ sameOthers k u t) := by
  obtain ⟨bad, a, n, hexec⟩ := exec_qCmp_read err hc ha he hrd hfirst
  have hin := (eject_atCore k u p).trans (linesIn_atCore (u.eject p) k (e.spad + 64 * bits (pktH p).arg 11 0) p)
  have hspad := linesIn_spad (u.eject p) k (e.spad + 64 * bits (pktH p).arg 11 0) p
  rw [(eject_sameMem u p).1] at hspad
  have hqueue := linesIn_queue (u.eject p) k (e.spad + 64 * bits (pktH p).arg 11 0) p (bits (pktH p).arg 50 49)
  rw [eject_core] at hqueue
  generalize linesIn (u.eject p) k (e.spad + 64 * bits (pktH p).arg 11 0) p = v at hexec hin hspad hqueue
  have hat := hin.trans (cmpNoted_atCore v k (bits (pktH p).arg 50 49) e (cmpEntry e p.payload.length bad))
  have hmem := mem_cmpNoted (hqueue ▸ mem_of_slotEnt he) (cmpEntry e p.payload.length bad)
  obtain ⟨⟨-, hcore, -, hspad'⟩, himem, hhbm, -⟩ := cmpTold_aside
    (cmpNoted v k (bits (pktH p).arg 50 49) e (cmpEntry e p.payload.length bad)) k e bad a n
      (cmpEntry e p.payload.length bad).done
  refine answers_of_exec hexec ⟨hspad'.trans hspad, ⟨cmpEntry e p.payload.length bad, ?_, rfl, ?_, ?_⟩, ?_,
    hhbm.trans hat.hbm, himem.trans hat.imem, fun j hj => (hcore j).trans (hat.others j hj)⟩
  · rw [hcore]
    exact hmem
  · simp [cmpEntry, hrd]
  · simp [cmpEntry, hrd]
  · rw [hcore]
    exact hat.regs

/-- A completion of a write reaches no memory; the entry is done with the completion of its last request (log 80). -/
theorem qCmp_writes (hwr : e.write = true) :
    answers (.qCmp p err) s (fun t =>
      (∃ e', e' ∈ (t.core k).queue (bits (pktH p).arg 50 49) ∧ e'.num = e.num ∧
        (e'.done = true ↔ (e.lines + 63) / 64 ≤ e.got + 1)) ∧
      sameRegs (u.core k) (t.core k) ∧ sameMem u t ∧ sameOthers k u t) := by
  obtain ⟨bad, a, n, hexec⟩ := exec_qCmp_write err hc ha he hwr
  have hat := (eject_atCore k u p).trans
    (cmpNoted_atCore (u.eject p) k (bits (pktH p).arg 50 49) e (cmpEntry e p.payload.length bad))
  have hmem := mem_cmpNoted (s := u.eject p) (by rw [eject_core]; exact mem_of_slotEnt he) (cmpEntry e p.payload.length bad)
  have hspad : (cmpNoted (u.eject p) k (bits (pktH p).arg 50 49) e (cmpEntry e p.payload.length bad)).spad = u.spad :=
    (eject_sameMem u p).1
  generalize cmpNoted (u.eject p) k (bits (pktH p).arg 50 49) e (cmpEntry e p.payload.length bad) = v at *
  obtain ⟨⟨-, hcore, -, hspad'⟩, himem, hhbm, -⟩ :=
    (linesFreed_aside v k e).trans (cmpTold_aside _ k e bad a n (cmpEntry e p.payload.length bad).done)
  refine answers_of_exec hexec ⟨⟨cmpEntry e p.payload.length bad, ?_, rfl, ?_⟩, ?_,
    ⟨hspad'.trans hspad, hhbm.trans hat.hbm, himem.trans hat.imem⟩, fun j hj => (hcore j).trans (hat.others j hj)⟩
  · rw [hcore]
    exact hmem
  · simp [cmpEntry, hwr]
  · rw [hcore]
    exact hat.regs

end

/-- Settles O32: what an accepted request reads or writes, and what a completion leaves at the core that asked. -/
theorem hbmTraffic : Obligations.hbm_traffic := by
  unfold Obligations.hbm_traffic
  exact ⟨fun _ _ _ err rot hc hok hty hkind hord hfirst hatt =>
      ⟨qReq_reads err rot hc hok hty hkind hord hfirst hatt, qReq_writes err rot hc hok hty hkind hord hfirst hatt⟩,
    fun _ _ _ _ err _ hc ha he => ⟨qCmp_reads err hc ha he, qCmp_writes err hc ha he⟩⟩

end Sys2Proof.Proofs

end

section
/-! PROOFS. Inputs sealed, checkpoints, the restore, the scratchpad mode (01 R29, 06 R160, R161, 08 R222 to R228). -/

open Sys2Proof Sys2Proof.Machine Sys2Proof.Claims

namespace Sys2Proof.Proofs

/-! ## What the larder's work reaches -/

/-- Only scratchpads, HBM with its checks and the larder change from `s` to `t`. -/
def OnlyData (s t : State) : Prop := ∃ m h b l, t = { s with spad := m, hbm := h, hbmBad := b, larder := l }

theorem OnlyData.refl (s : State) : OnlyData s s := ⟨_, _, _, _, rfl⟩

theorem OnlyData.trans {s t u : State} (h : OnlyData s t) (h' : OnlyData t u) : OnlyData s u := by
  obtain ⟨_, _, _, _, rfl⟩ := h
  obtain ⟨_, _, _, _, rfl⟩ := h'
  exact ⟨_, _, _, _, rfl⟩

theorem OnlyHbm.onlyData {s t : State} (h : OnlyHbm s t) : OnlyData s t := by
  obtain ⟨_, _, rfl⟩ := h
  exact ⟨_, _, _, _, rfl⟩

theorem foldl_onlyData {α : Type} {f : State → α → State} (h : ∀ s x, OnlyData s (f s x)) (l : List α) (s : State) :
    OnlyData s (l.foldl f s) :=
  List.foldlRecOn l f (motive := OnlyData s) (.refl s) fun t ht x _ => ht.trans (h t x)

theorem foldl_fst_onlyData {α β : Type} {f : State × β → α → State × β} (h : ∀ r x, OnlyData r.1 (f r x).1)
    (l : List α) (r : State × β) : OnlyData r.1 (l.foldl f r).1 :=
  List.foldlRecOn l f (motive := fun q => OnlyData r.1 q.1) (.refl r.1) fun q hq x _ => hq.trans (h q x)

theorem spadWrite_onlyData (s : State) (k a : Nat) (b : Bytes) : OnlyData s (s.spadWrite k a b) := ⟨_, _, _, _, rfl⟩

/-! ## Inputs sealed (08 R219, R222) -/

theorem pageWrite_onlyData (s : State) (p : Prog) (w : PageWrite) : OnlyData s (s.pageWrite p w) := by
  simp only [State.pageWrite]
  split
  · exact .refl s
  split
  · exact ⟨_, _, _, _, rfl⟩
  · exact ⟨_, _, _, _, rfl⟩

/-- What the batching service has written when it seals a frame: page tables, then the retained inputs. -/
def sealedData (s : State) (p : Prog) (n : Nat) (inputs : Bytes) (tab : List PageWrite) : State :=
  let u := tab.foldl (fun s w => s.pageWrite p w) (s.atTime (s.tickOf (s.slots.slot + 1) - 25000))
  u.retainWrite p (n % max 1 p.rd) (overlay (inputs.take p.input) (u.retainRead p (n % max 1 p.rd)))

/-- The frame noted as sealed, with its requests and the pages that it frees. -/
def sealNoted (v : State) (p : Prog) (n : Nat) (adm : List Nat) (freed : Nat) : State :=
  { v with
    larder := { v.larder with
      sealed := some n
      retained := SMap.put zeroD v.larder.retained (n % max 1 p.rd) (n + 1)
      kvPending := if freed = 0 then v.larder.kvPending else v.larder.kvPending ++ [(n, freed)] }
    fabric := { v.fabric with held := v.fabric.held.map (fun r =>
      if adm.contains r.id && r.frame.isNone then { r with frame := some n } else r) } }

section
variable {s : State} {p : Prog} {n : Nat} (inputs : Bytes) (adm : List Nat) (tab : List PageWrite) (freed : Nat)
  (hp : s.prog = some p) (hn : s.sealFrame = some n)
include hp hn

theorem exec_batchSeal (hnew : ∀ m, s.larder.sealed = some m → m < n) :
    exec (.batchSeal inputs adm tab freed) s = .next (sealNoted (sealedData s p n inputs tab) p n adm freed) := by
  cases hm : s.larder.sealed with
  | none =>
    simp only [exec, execBatchSeal, hp, hn, hm]
    rfl
  | some m =>
    simp only [exec, execBatchSeal, hp, hn, hm, Nat.not_le.mpr (hnew m hm), decide_false]
    rfl

/-- A frame is sealed once. -/
theorem exec_batchSeal_again {m : Nat} (hm : s.larder.sealed = some m) (hle : n ≤ m) :
    exec (.batchSeal inputs adm tab freed) s = .next s := by
  simp only [exec, execBatchSeal, hp, hn, hm, hle, decide_true, if_true]

end

theorem sealedData_onlyData (s : State) (p : Prog) (n : Nat) (inputs : Bytes) (tab : List PageWrite) :
    OnlyData (s.atTime (s.tickOf (s.slots.slot + 1) - 25000)) (sealedData s p n inputs tab) :=
  (foldl_onlyData (fun s w => pageWrite_onlyData s p w) tab _).trans (retainWrite_onlyHbm ..).onlyData

theorem batchSeal_answers {s : State} {p : Prog} {n : Nat} (inputs : Bytes) (adm : List Nat) (tab : List PageWrite)
    (freed : Nat) (hp : s.prog = some p) (hn : s.sealFrame = some n) (hnew : ∀ m, s.larder.sealed = some m → m < n) :
    answers (.batchSeal inputs adm tab freed) s (fun t =>
      t.larder.sealed = some n ∧ SMap.get zeroD t.larder.retained (n % max 1 p.rd) = n + 1 ∧
      t.fabric.held = s.fabric.held.map (fun r => if r.id ∈ adm ∧ r.frame = none then { r with frame := some n } else r) ∧
      (tab = [] → t.spad = s.spad ∧ ∀ u, u = s.atTime (s.tickOf (s.slots.slot + 1) - 25000) →
        t.hbm = (u.retainWrite p (n % max 1 p.rd) (overlay (inputs.take p.input) (u.retainRead p (n % max 1 p.rd)))).hbm) ∧
      t.imem = s.imem ∧ t.cores = s.cores) := by
  refine answers_of_exec (exec_batchSeal inputs adm tab freed hp hn hnew) ⟨rfl, ?_, ?_, ?_, ?_⟩
  · exact SMap.get_put_same zeroD _ _ (n + 1)
  · obtain ⟨_, _, _, _, h⟩ := sealedData_onlyData s p n inputs tab
    rw [sealNoted, h]
    simp
  · rintro rfl
    refine ⟨(retainWrite_onlyHbm (s.atTime _) p _ _).spad, ?_⟩
    rintro _ rfl
    rfl
  · obtain ⟨_, _, _, _, h⟩ := sealedData_onlyData s p n inputs tab
    rw [sealNoted, h]
    exact ⟨rfl, rfl⟩

/-! ## Copies of a checkpoint's buffers (08 R225, R226) -/

/-- A checkpoint that is being copied replaced by `c'`, and the hold that ends noted. -/
def copyNoted (v : State) (c c' : Ck) (h : Nat) : State :=
  { v with larder := { v.larder with
    copying := v.larder.copying.map (fun x => if x = c then c' else x)
    holdHist := match v.larder.holdHist with | m :: t => max m h :: t | [] => [h] } }

/-- The checkpoint with one buffer fewer to wait for. -/
def bufCopied (c : Ck) (buf : CkBuf) : Ck := { c with wait := c.wait.filter (fun b => b != buf) }

section
variable {s : State} {p : Prog} {pre post : List Ck} {c : Ck} {buf : CkBuf} (hp : s.prog = some p)
  (hcopy : s.larder.copying = pre ++ c :: post) (hpre : ∀ x ∈ pre, buf ∉ x.wait) (hc : buf ∈ c.wait)
include hcopy hpre hc

/-- The copy is of the oldest checkpoint that waits for the buffer. -/
theorem oldest_waiting : s.larder.copying.find? (fun c => c.wait.contains buf) = some c := by
  have hnone : pre.find? (fun c => c.wait.contains buf) = none := List.find?_eq_none.mpr fun x hx => by
    simpa using hpre x hx
  rw [hcopy, List.find?_append, hnone, Option.none_or, List.find?_cons_of_pos (by simpa using hc)]

include hp

theorem checkpointCopy_more (hmore : ∃ b ∈ c.wait, b ≠ buf) :
    exec (.checkpointCopyComplete buf) s = .next (copyNoted s c (bufCopied c buf) (s.holdNs buf)) := by
  have hrest : (c.wait.filter (fun b => b != buf)).isEmpty = false := by
    simpa using hmore
  simp only [exec, execCheckpointCopyComplete, hp, oldest_waiting hcopy hpre hc, hrest]
  rfl

theorem checkpointCopy_last (hlast : ∀ b ∈ c.wait, b = buf) :
    exec (.checkpointCopyComplete buf) s = .next (copyNoted (s.writeCk p c) c (c.coded p) (s.holdNs buf)) := by
  have hrest : (c.wait.filter (fun b => b != buf)).isEmpty = true := by
    simpa using hlast
  simp only [exec, execCheckpointCopyComplete, hp, oldest_waiting hcopy hpre hc, hrest]
  obtain ⟨m, b, h⟩ := writeStripes_onlyHbm s p 16 (p.ckSlot c) (ckBytes p c)
  rw [State.writeCk, h]
  rfl

theorem checkpointCopy_more_answers (hmore : ∃ b ∈ c.wait, b ≠ buf) : answers (.checkpointCopyComplete buf) s (fun t =>
    t.larder.copying = s.larder.copying.map (fun x =>
      if x = c then { c with wait := c.wait.filter (fun b => b != buf) } else x) ∧ sameMem s t ∧ t.cores = s.cores) :=
  answers_of_exec (checkpointCopy_more hp hcopy hpre hc hmore) ⟨rfl, ⟨rfl, rfl, rfl⟩, rfl⟩

theorem checkpointCopy_last_answers (hlast : ∀ b ∈ c.wait, b = buf) : answers (.checkpointCopyComplete buf) s (fun t =>
    (∃ x ∈ t.larder.copying, x.resume = c.resume ∧ x.wait = [] ∧ x.written = true ∧ x.digest = ckDigest (ckBytes p c)) ∧
    t.hbm = (s.writeStripes p 16 (p.ckSlot c) (ckBytes p c)).hbm ∧ t.spad = s.spad ∧ t.imem = s.imem ∧
    t.cores = s.cores) := by
  refine answers_of_exec (checkpointCopy_last hp hcopy hpre hc hlast) ?_
  obtain ⟨m, b, h⟩ := writeStripes_onlyHbm s p 16 (p.ckSlot c) (ckBytes p c)
  rw [State.writeCk, h]
  refine ⟨⟨c.coded p, List.mem_map.mpr ⟨c, ?_, if_pos rfl⟩, rfl, rfl, rfl, rfl⟩, rfl, rfl, rfl, rfl⟩
  rw [hcopy]
  exact List.mem_append_right pre List.mem_cons_self

end

/-! ## The commit (08 R225) -/

section
variable {s : State} {p : Prog} {f : Nat} (hp : s.prog = some p) (hf : s.slots.passed = some f)
include hp hf

theorem checkpointCommit_none (h : ∀ c ∈ s.larder.copying, c.wait ≠ [] ∨ f < c.resume) :
    exec .checkpointCommit s = .next s := by
  have hdue : s.ckDue = none := List.find?_eq_none.mpr fun c hc => by
    simpa [hf, imp_iff_not_or] using h c hc
  simp only [exec, execCheckpointCommit, hp, hdue]

theorem checkpointCommit_answers {c : Ck} {l : List Ck} (hcopy : s.larder.copying = c :: l) (hwait : c.wait = [])
    (hle : c.resume ≤ f) : answers .checkpointCommit s (fun t =>
      t.larder.committed = some (if c.written then c else c.coded p) ∧ c ∉ t.larder.copying ∧ t.spad = s.spad ∧
      t.imem = s.imem ∧ (c.written = true → t.hbm = s.hbm) ∧ t.cores = s.cores) := by
  have hdue : s.ckDue = some c := by
    simp [State.ckDue, hcopy, hwait, hf, hle]
  have hgone (v : State) (c' : Ck) (h : c'.resume = c.resume) : c ∉ (v.commit c').larder.copying := by
    simp [State.commit, h]
  cases hw : c.written with
  | true =>
    refine answers_of_exec (t := s.commit c) ?_ ⟨rfl, hgone s c rfl, rfl, rfl, fun _ => rfl, rfl⟩
    simp only [exec, execCheckpointCommit, hp, hdue, hw, if_true]
  | false =>
    obtain ⟨m, b, h⟩ := writeStripes_onlyHbm s p 16 (p.ckSlot c) (ckBytes p c)
    refine answers_of_exec (t := (s.writeCk p c).commit (c.coded p)) ?_ ?_
    · simp only [exec, execCheckpointCommit, hp, hdue, hw, Bool.false_eq_true, if_false]
    · rw [State.writeCk, h]
      exact ⟨rfl, hgone _ _ rfl, rfl, rfl, fun h => absurd h Bool.false_ne_true, rfl⟩

end

/-! ## The restore (08 R228) -/

theorem putBuf_onlyData (s : State) (p : Prog) (odd epoch : Bool) (b : CkBuf) (d : Bytes) :
    OnlyData s (s.putBuf p odd epoch b d) := by
  cases b with
  | spad v =>
    simp only [State.putBuf]
    split
    · exact spadWrite_onlyData ..
    · exact .refl s
  | hfs i =>
    simp only [State.putBuf]
    split
    · exact (writeLines_onlyHbm ..).onlyData
    · exact .refl s

theorem putData_onlyData (s : State) (p : Prog) (resume : Nat) (epoch : Bool) (data : Bytes) :
    OnlyData s (s.putData p resume epoch data) :=
  (foldl_fst_onlyData (fun r _ => putBuf_onlyData r.1 ..) p.buffers (s, data)).trans
    (foldl_fst_onlyData (fun r _ => (writeLines_onlyHbm r.1 ..).onlyData) _ _)

theorem putTables_onlyData (s : State) (epoch : Bool) (t : SMap (BitVec 32)) : OnlyData s (s.putTables epoch t) := by
  refine foldl_onlyData (fun s key => ?_) _ s
  split
  · exact spadWrite_onlyData ..
  · exact .refl s

/-- The data and the tables of a checkpoint written back, at the placement that the target will have. -/
def restored (s : State) (r : Rollback) (p : Prog) (c : Ck) (data : Bytes) : State :=
  s.restore p c (if r.flipped then s.net.epochB else !s.net.epochB) data

theorem restored_leaves (s : State) (r : Rollback) (p : Prog) (c : Ck) (data : Bytes) :
    (restored s r p c data).larder.tables = c.tables ∧ (restored s r p c data).larder.kvFree = c.kvFree ∧
      (restored s r p c data).imem = s.imem := by
  unfold restored
  generalize (if r.flipped then s.net.epochB else !s.net.epochB) = epoch
  obtain ⟨_, _, _, _, h⟩ := (putData_onlyData s p c.resume epoch data).trans (putTables_onlyData _ epoch c.tables)
  rw [State.restore, h]
  exact ⟨rfl, rfl, rfl⟩

theorem endHeld_recovery (s : State) : s.endHeld.recovery = s.recovery := by
  unfold State.endHeld
  extract_lets lost t
  unfold t
  split <;> rfl

/-- Stated of any log, so that no comparison of two states reaches into the one that is kept. -/
theorem withFsr_roll (s : State) (log : List Bytes) :
    ({ s with recovery := { s.recovery with fsr := log } } : State).recovery.roll = s.recovery.roll := rfl

theorem fsr_roll (s : State) (r : FsrIn) : (s.fsr r).recovery.roll = s.recovery.roll := by
  unfold State.fsr
  extract_lets seq body rec' s1 log _ s2
  have hroll : s2.recovery.roll = s.recovery.roll := withFsr_roll s1 _
  clear_value s2
  split <;> exact hroll

theorem toSafe_roll {s : State} (h : s.panel = .running) (cause : Nat) : (s.toSafe cause).recovery.roll = none := by
  rw [State.toSafe, if_pos (.inr (.inl h))]
  dsimp only
  split
  · rw [fsr_roll]
  · rw [endHeld_recovery, fsr_roll]

section
variable {s : State} {r : Rollback} {p : Prog} {c : Ck} (hr : s.recovery.roll = some r) (hp : s.prog = some p)
  (hc : s.larder.committed = some c) (hq : s.thermal.quench = none) (hmoved : ∀ v ∈ r.vds, ∃ m ∈ r.moves, m.1 = v)
  (una bad : List (Nat × Nat))
include hr hp hc hq hmoved

theorem exec_restoreDone : exec (.recoveryRestoreDone una bad) s = .next
    (match s.readStripes p 16 (p.ckSlot c) (stripesOf p.ckLen) (una ++ bad) with
      | none => s.toSafe 1
      | some data =>
        let t := restored s r p c data
        { t with
          larder := { t.larder with degraded := s.degradedIn p 16 (p.ckSlot c) (stripesOf p.ckLen) (una ++ bad) }
          recovery := { t.recovery with roll := some { r with restored := true } } }) := by
  have hall : r.vds.all (fun v => r.moves.any (fun m => m.1 == v)) = true := by
    simpa using hmoved
  simp only [exec, execRecoveryRestoreDone, hr, hp, hc, hq, hall]
  rfl

theorem restoreDone_answers {data : Bytes}
    (hdata : s.readStripes p 16 (p.ckSlot c) (stripesOf p.ckLen) (una ++ bad) = some data) :
    answers (.recoveryRestoreDone una bad) s (fun t =>
      t.recovery.roll = some { r with restored := true } ∧ t.larder.tables = c.tables ∧ t.larder.kvFree = c.kvFree ∧
      t.larder.degraded = s.degradedIn p 16 (p.ckSlot c) (stripesOf p.ckLen) (una ++ bad) ∧ t.imem = s.imem) := by
  have hexec := exec_restoreDone hr hp hc hq hmoved una bad
  rw [hdata] at hexec
  obtain ⟨htables, hfree, himem⟩ := restored_leaves s r p c data
  exact answers_of_exec hexec ⟨rfl, htables, hfree, rfl, himem⟩

/-- A stripe that has lost more than two shares sends the panel to SAFE. -/
theorem restoreDone_lost (hdata : s.readStripes p 16 (p.ckSlot c) (stripesOf p.ckLen) (una ++ bad) = none)
    (hrun : s.panel = .running) : answers (.recoveryRestoreDone una bad) s (fun t =>
      t.panel = .safe ∧ t.recovery.roll = none ∧ sameMem s t) := by
  have hexec := exec_restoreDone hr hp hc hq hmoved una bad
  rw [hdata] at hexec
  obtain ⟨hspad, hhbm, himem, -, -⟩ := State.toSafe_memSame s 1
  exact answers_of_exec hexec ⟨State.toSafe_of_running hrun 1, toSafe_roll hrun 1, hspad, hhbm, himem⟩

end

/-! ## Scratchpad mode (06 R160, R161) -/

theorem get_clearRange {α : Type} (d : Nat → α) (m : SMap α) (lo hi k : Nat) :
    SMap.get d (SMap.clearRange m lo hi) k = if lo ≤ k ∧ k < hi then d k else SMap.get d m k := by
  induction m with
  | nil => simp [SMap.clearRange, SMap.get]
  | cons x m ih =>
    obtain ⟨j, v⟩ := x
    rw [SMap.clearRange] at ih ⊢
    by_cases hj : lo ≤ j ∧ j < hi
    · rw [List.filter_cons_of_neg (by simpa using hj), ih, SMap.get]
      by_cases hk : j = k
      · rw [hk] at hj
        rw [if_pos hj, if_pos hj]
      · rw [if_neg hk]
    · rw [List.filter_cons_of_pos (by simpa [imp_iff_not_or] using hj), SMap.get, SMap.get, ih]
      by_cases hk : j = k
      · rw [hk] at hj
        rw [if_pos hk, if_pos hk, if_neg hj]
      · rw [if_neg hk, if_neg hk]

/-- A die's scratchpads cleared read zero; those of every other die read as before. -/
theorem spadRead_clearSpads (s : State) (site k : Nat) {a : Nat} (ha : a < 2 ^ 19) :
    (s.clearSpads site).spadRead k a 1 = if k / 272 = site then [0] else s.spadRead k a 1 := by
  have hin : (spadKey (site * 272) 0 ≤ spadKey k a ∧ spadKey k a < spadKey (site * 272 + 272) 0) ↔ k / 272 = site := by
    simp only [spadKey]
    omega
  simp only [State.spadRead, State.clearSpads, readBytes, List.range_one, List.map_singleton, Nat.add_zero, get_clearRange, hin]
  split <;> rfl

/-- A change of mode leaves zero in every word of the die and touches no other word. -/
theorem spadRead_setHashing (s : State) (site : Nat) (h : Bool) (k : Nat) {a : Nat} (ha : a < 2 ^ 19) :
    (s.setHashing site h).spadRead k a 1 =
      if k / 272 = site ∧ (s.die site).hashing ≠ h then [0] else s.spadRead k a 1 := by
  unfold State.setHashing
  split
  next hsame => rw [if_neg fun hk => hk.2 hsame]
  next hnew =>
    simp only [hnew, ne_eq, not_false_eq_true, and_true]
    exact spadRead_clearSpads s site k ha

theorem setHashing_die (s : State) (site : Nat) (h : Bool) : ((s.setHashing site h).die site).hashing = h := by
  unfold State.setHashing
  split
  next hsame => exact hsame
  next => rw [State.die_updDie_same]

theorem setHashing_leaves (s : State) (site : Nat) (h : Bool) : (s.setHashing site h).hbm = s.hbm ∧
    (s.setHashing site h).imem = s.imem ∧ (s.setHashing site h).cores = s.cores := by
  unfold State.setHashing
  split <;> exact ⟨rfl, rfl, rfl⟩

/-- Hashing mode is not allowed on the die (06 R160). -/
def hashBarred (s : State) (site : Nat) : Bool :=
  s.mustWheel site ||
    !(s.panel == .bringup || (s.die site).st == .test || (s.die site).st == .frozen || (s.die site).quarantined)

section
variable {s : State} {site : Nat} {h : Bool} (hsite : site < 144)
include hsite

theorem exec_spadModeChange : exec (.spadModeChange site h) s = .next
    (if h && hashBarred s site then s.updDie site (fun d => { d with modeAbort := 0x06 })
     else (s.setHashing site h).updDie site (fun d => { d with modeAbort := 0 })) :=
  onPart_next (decide_eq_true hsite) _

theorem spadModeChange_allowed (hok : h = true → s.mustWheel site = false ∧
      (s.panel = .bringup ∨ (s.die site).st = .test ∨ (s.die site).st = .frozen ∨ (s.die site).quarantined = true)) :
    answers (.spadModeChange site h) s (fun t => (t.die site).hashing = h ∧
      (∀ k a, a < 2 ^ 19 → t.spadRead k a 1 =
        if k / 272 = site ∧ (s.die site).hashing ≠ h then [0] else s.spadRead k a 1) ∧
      t.hbm = s.hbm ∧ t.imem = s.imem ∧ t.cores = s.cores) := by
  have hfree : (h && hashBarred s site) = false := by
    cases h with
    | false => rfl
    | true =>
      obtain ⟨hwheel, hstate⟩ := hok rfl
      simpa [hashBarred, hwheel, or_assoc, imp_iff_not_or] using hstate
  have hexec := exec_spadModeChange (s := s) (h := h) hsite
  rw [hfree] at hexec
  refine answers_of_exec hexec ⟨?_, fun k a ha => spadRead_setHashing s site h k ha, setHashing_leaves s site h⟩
  rw [if_neg Bool.false_ne_true, State.die_updDie_same]
  exact setHashing_die s site h

theorem spadModeChange_refused (hh : h = true) (hbar : s.mustWheel site = true ∨
      (s.panel ≠ .bringup ∧ (s.die site).st ≠ .test ∧ (s.die site).st ≠ .frozen ∧ (s.die site).quarantined = false)) :
    answers (.spadModeChange site h) s (fun t => (t.die site).modeAbort = 6 ∧
      (t.die site).hashing = (s.die site).hashing ∧ sameMem s t ∧ t.cores = s.cores) := by
  have hbarred : (h && hashBarred s site) = true := by
    simpa [hashBarred, hh, and_assoc] using hbar
  have hexec := exec_spadModeChange (s := s) (h := h) hsite
  rw [hbarred] at hexec
  refine answers_of_exec hexec ⟨?_, ?_, ⟨rfl, rfl, rfl⟩, rfl⟩
  · rw [if_pos rfl, State.die_updDie_same]
  · rw [if_pos rfl, State.die_updDie_same]

end

/-- Settles O36: the seal, the copies and the commit of a checkpoint, its restore, and the change of a die's mode. -/
theorem inputsCheckpoints : Obligations.inputs_checkpoints := by
  unfold Obligations.inputs_checkpoints
  exact ⟨fun _ _ _ inputs adm tab freed hp hn => ⟨batchSeal_answers inputs adm tab freed hp hn,
      fun _ => exec_batchSeal_again inputs adm tab freed hp hn⟩,
    fun _ _ _ _ _ _ hp hcopy hpre hc =>
      ⟨checkpointCopy_more_answers hp hcopy hpre hc, checkpointCopy_last_answers hp hcopy hpre hc⟩,
    fun _ _ _ hp hf => ⟨checkpointCommit_none hp hf, fun _ _ => checkpointCommit_answers hp hf⟩,
    fun _ _ _ _ hr hp hc hq hmoved => ⟨fun una bad _ => restoreDone_answers hr hp hc hq hmoved una bad,
      fun una bad => restoreDone_lost hr hp hc hq hmoved una bad⟩,
    fun _ _ _ hsite => ⟨spadModeChange_allowed hsite, spadModeChange_refused hsite⟩⟩

end Sys2Proof.Proofs

end

section
/-! PROOFS. Raw streams (09 R245, R246, R250): an entry's start, its segments as they leave and land, its credits. -/

open Sys2Proof Sys2Proof.Machine Sys2Proof.Claims

namespace Sys2Proof.Proofs

/-! ## Where a stream stands -/

@[simp] theorem stream_setStream_same (s : State) (i : Nat) (x : Stream) : (s.setStream i x).stream i = x :=
  SMap.get_put_same streamD s.net.streams i x

theorem setStream_atCore (k : Nat) (s : State) (i : Nat) (x : Stream) : AtCore k s (s.setStream i x) :=
  .of_same rfl rfl rfl rfl rfl

theorem stream_of_net {s t : State} (h : t.net.streams = s.net.streams) (i : Nat) : t.stream i = s.stream i := by
  rw [State.stream, h, State.stream]

theorem spadEcc_atCore (k j : Nat) (s : State) (op : Nat) (e : Ecc) : AtCore k s (s.spadEcc j op e) :=
  .of_aside (State.spadEcc_aside s j op e) (spadEcc_places s j op e).vcoreOf

/-- The event that closes the open bundle of a core (log 9). -/
theorem evCore_atCore (k : Nat) (s : State) {f : Core → Core} (h : sameRegs (s.core k) (f (s.core k))) :
    AtCore k s (s.evCore k f) := by
  obtain ⟨hs, hv, hp, ht⟩ := h
  exact updCore_atCore k s ⟨hs, hv, hp, ht⟩

/-! ## An entry starts (09 R245) -/

section
variable {s u : State} {st k : Nat} {e : StreamEnt} (hc : closed s u) (hcur : (u.stream st).cur = some e)
  (hk : u.endCore e.srcCore = some k) (hrun : u.streamRuns (u.stream st) e k = true)
include hc hcur hk hrun

theorem streamEntryStart_answers (hidle : (u.stream st).started = false)
    (hdue : e.threshold ≤ ((u.core k).ac e.trigger).toNat) :
    answers (.streamEntryStart st) s (fun t => (t.stream st).started = true ∧ (t.stream st).line = 0 ∧
      sameMem u t ∧ t.cores = u.cores) := by
  have hexec : exec (.streamEntryStart st) s =
      .next (u.setStream st { u.stream st with started := true, line := 0 }) := by
    simp [exec, execStreamEntryStart, flushAll_of_closed hc, hcur, hk, hidle, hrun, hdue]
  refine answers_of_exec hexec ⟨?_, ?_, ⟨rfl, rfl, rfl⟩, rfl⟩
  · rw [stream_setStream_same]
  · rw [stream_setStream_same]

end

/-! ## A segment leaves (09 R245, R246, R248) -/

/-- The lines of the next segment of an entry, and their bytes as the source core sees them. -/
def segLines (x : Stream) (e : StreamEnt) : Nat := min 16 (e.lines - x.line)
def segBytes (u : State) (k : Nat) (x : Stream) (e : StreamEnt) : Bytes :=
  u.viewRead k (e.srcAddr + 64 * x.line) (64 * segLines x e)

/-- The stream with the segment in flight. -/
def streamSent (x : Stream) (e : StreamEnt) (b : Bytes) : Stream :=
  { x with
    line := x.line + segLines x e, credits := x.credits - 1, flight := x.flight ++ [(x.entry, b)]
    txCrc := BitVec.ofNat 64 (crc64 x.txCrc.toNat b), txBytes := x.txBytes + 64 * segLines x e }

/-- The segment noted in stream and ledger. -/
def segNoted (u : State) (st k : Nat) (x : Stream) (e : StreamEnt) : State :=
  (u.setStream st (streamSent x e (segBytes u k x e))).ledCreate (k / 272) 5 (64 * segLines x e)

/-- Its lines read by the NET engine of the source core. -/
def segSent (u : State) (st k : Nat) (x : Stream) (e : StreamEnt) (c : Ecc) : State :=
  (((segNoted u st k x e).xferBy k .net ((segNoted u st k x e).phys k (e.srcAddr + 64 * x.line)) (segLines x e)).spadEcc k noOp
    c).evCore k (fun c => c)

theorem ledCreate_atCore (k : Nat) (s : State) (i cat v : Nat) : AtCore k s (s.ledCreate i cat v) :=
  .of_same rfl rfl rfl rfl rfl

theorem segNoted_atCore (u : State) (st k : Nat) (x : Stream) (e : StreamEnt) : AtCore k u (segNoted u st k x e) :=
  (setStream_atCore ..).trans (ledCreate_atCore ..)

theorem segSent_atCore (u : State) (st k : Nat) (x : Stream) (e : StreamEnt) (c : Ecc) :
    AtCore k u (segSent u st k x e c) := by
  unfold segSent
  exact (((segNoted_atCore u st k x e).trans (xferBy_atCore ..)).trans (spadEcc_atCore ..)).trans
    (evCore_atCore k _ ⟨rfl, rfl, rfl, rfl⟩)

theorem segSent_spad (u : State) (st k : Nat) (x : Stream) (e : StreamEnt) (c : Ecc) :
    (segSent u st k x e c).spad = u.spad := by
  simp [segSent, segNoted, State.setStream]

theorem segSent_stream (u : State) (st k : Nat) (x : Stream) (e : StreamEnt) (c : Ecc) :
    (segSent u st k x e c).stream st = streamSent x e (segBytes u k x e) := by
  have hnet : (segSent u st k x e c).net = (segNoted u st k x e).net := by simp [segSent, State.evCore]
  rw [State.stream, hnet]
  exact stream_setStream_same ..

section
variable {s u : State} {st k : Nat} {e : StreamEnt} (hc : closed s u) (hcur : (u.stream st).cur = some e)
  (hk : u.endCore e.srcCore = some k) (hrun : u.streamRuns (u.stream st) e k = true)
include hc hcur hk hrun

theorem exec_streamSegmentSend (c : Ecc) (hon : (u.stream st).started = true) (hcredit : 0 < (u.stream st).credits)
    (hmore : (u.stream st).line < e.lines) :
    exec (.streamSegmentSend ⟨st, c⟩) s = .next (segSent u st k (u.stream st) e c) := by
  have hgo : ((u.stream st).started && u.streamRuns (u.stream st) e k && decide (0 < (u.stream st).credits) &&
      decide ((u.stream st).line < e.lines)) = true := by simp [hrun, hon, hcredit, hmore]
  simp only [exec, execStreamSegmentSend, flushAll_of_closed hc, hcur, hk, hgo, if_true]
  rfl

theorem streamSegmentSend_answers (c : Ecc) (hon : (u.stream st).started = true) (hcredit : 0 < (u.stream st).credits)
    (hmore : (u.stream st).line < e.lines) :
    answers (.streamSegmentSend ⟨st, c⟩) s (fun t => (t.stream st).credits = (u.stream st).credits - 1 ∧
      (t.stream st).line = (u.stream st).line + min 16 (e.lines - (u.stream st).line) ∧
      (t.stream st).flight = (u.stream st).flight ++ [((u.stream st).entry,
        u.viewRead k (e.srcAddr + 64 * (u.stream st).line) (64 * min 16 (e.lines - (u.stream st).line)))] ∧
      sameRegs (u.core k) (t.core k) ∧ sameMem u t ∧ sameOthers k u t) := by
  have hat := segSent_atCore u st k (u.stream st) e c
  have hspad := segSent_spad u st k (u.stream st) e c
  have hstream := segSent_stream u st k (u.stream st) e c
  refine answers_of_exec (exec_streamSegmentSend hc hcur hk hrun c hon hcredit hmore)
    ⟨?_, ?_, ?_, hat.regs, ⟨hspad, hat.hbm, hat.imem⟩, hat.others⟩
  all_goals rw [hstream]; rfl

/-! ## The last line of an entry has been read (09 R245) -/

theorem streamEntryReadDone_answers (hon : (u.stream st).started = true) (hend : e.lines ≤ (u.stream st).line) :
    answers (.streamEntryReadDone st) s (fun t => (t.stream st).entry = (u.stream st).entry + 1 ∧
      (∀ j, (t.core k).ac j = if j = e.release ∧ j < 64 then (u.core k).ac j + 1 else (u.core k).ac j) ∧
      sameMem u t ∧ sameOthers k u t) := by
  let v := (u.setStream st { u.stream st with entry := (u.stream st).entry + 1, started := false, line := 0 }).evCore k
    (fun c => c.incAc e.release)
  let t := if e.arrival < 64 then v.ledCreate (k / 272) 4 1 else v
  have hexec : exec (.streamEntryReadDone st) s = .next t := by
    simp [exec, execStreamEntryReadDone, flushAll_of_closed hc, hcur, hk, hrun, hon, hend, t, v]
  have hcore (j : Nat) : t.core j = v.core j := by
    unfold t
    split <;> rfl
  have hv : v.core k = { (u.core k).incAc e.release with openSlot := none } := State.core_updCore_same ..
  have hstreams : t.net.streams = v.net.streams := by
    unfold t
    split <;> rfl
  refine answers_of_exec hexec ⟨?_, fun j => ?_, ?_, fun j hj => ?_⟩
  · rw [stream_of_net hstreams]
    exact congrArg Stream.entry (stream_setStream_same ..)
  · rw [hcore, hv]
    exact ac_incAc ..
  · simp [sameMem, t, v, State.setStream]
  · rw [hcore]
    exact State.core_updCore_other _ _ hj

end

/-! ## A segment lands, or is refused for an isolated die (09 R245, R246, R250) -/

/-- The stream once the segment in front, of entry `i`, is out of the mesh. -/
def streamTaken (x : Stream) (e : StreamEnt) (i n : Nat) (l : List (Nat × Bytes)) : Stream :=
  { x with
    flight := l, landed := if decide (e.lines ≤ x.landed + n) then 0 else x.landed + n
    landedEntry := if decide (e.lines ≤ x.landed + n) then i + 1 else x.landedEntry }

/-- It landed: a credit is owed, its bytes enter the digest. -/
def streamReceived (x : Stream) (e : StreamEnt) (i : Nat) (b : Bytes) (l : List (Nat × Bytes)) : Stream :=
  { streamTaken x e i (b.length / 64) l with
    owed := x.owed + 1, rxCrc := BitVec.ofNat 64 (crc64 x.rxCrc.toNat b), rxBytes := x.rxBytes + b.length }

/-- The ledger after the segment has left the mesh at interface `port`. -/
def segDestroyed (u : State) (x : Stream) (e : StreamEnt) (b : Bytes) (port : Nat) : State :=
  let s := u.ledDestroy port (u.vdSite x.srcVd) 5 b.length
  if decide (e.lines ≤ x.landed + b.length / 64) && decide (e.arrival < 64) then s.ledDestroy port (u.vdSite x.srcVd) 4 1 else s

/-- The segment written by the NET engine of the destination core. -/
def segWritten (v : State) (st k i : Nat) (x : Stream) (e : StreamEnt) (b : Bytes) (l : List (Nat × Bytes)) : State :=
  ((((v.noteCapture k b).setStream st (streamReceived x e i b l)).spadWrite k (e.dstAddr + 64 * x.landed) b).xferBy k .net
    (e.dstAddr + 64 * x.landed) (b.length / 64)).evCore k
      (fun c => if decide (e.lines ≤ x.landed + b.length / 64) then c.incAc e.arrival else c)

theorem segDestroyed_same (u : State) (x : Stream) (e : StreamEnt) (b : Bytes) (port : Nat) :
    (segDestroyed u x e b port).cores = u.cores ∧ (segDestroyed u x e b port).dies = u.dies ∧
      (segDestroyed u x e b port).prog = u.prog ∧ sameMem u (segDestroyed u x e b port) := by
  unfold segDestroyed
  extract_lets v
  have hv : v.cores = u.cores ∧ v.dies = u.dies ∧ v.prog = u.prog ∧ sameMem u v := by simp [v, sameMem]
  split
  · simpa [sameMem] using hv
  · exact hv

theorem segWritten_atCore (v : State) (st k i : Nat) (x : Stream) (e : StreamEnt) (b : Bytes) (l : List (Nat × Bytes)) :
    AtCore k v (segWritten v st k i x e b l) := by
  refine ((((noteCapture_atCore k v k b).trans (setStream_atCore ..)).trans (spadWrite_atCore ..)).trans
    (xferBy_atCore ..)).trans (evCore_atCore k _ ?_)
  split
  · exact incAc_sameRegs ..
  · exact ⟨rfl, rfl, rfl, rfl⟩

theorem segWritten_spad (v : State) (st k i : Nat) (x : Stream) (e : StreamEnt) (b : Bytes) (l : List (Nat × Bytes)) :
    (segWritten v st k i x e b l).spad = writeBytes v.spad (spadKey k (e.dstAddr + 64 * x.landed)) b := by
  simp [segWritten, State.setStream]

theorem segWritten_stream (v : State) (st k i : Nat) (x : Stream) (e : StreamEnt) (b : Bytes) (l : List (Nat × Bytes)) :
    (segWritten v st k i x e b l).stream st = streamReceived x e i b l := by
  have hnet : (segWritten v st k i x e b l).net = ((v.noteCapture k b).setStream st (streamReceived x e i b l)).net := by
    simp [segWritten, State.evCore]
  rw [State.stream, hnet]
  exact stream_setStream_same ..

section
variable {s u : State} {st i k : Nat} {e : StreamEnt} {b : Bytes} {l : List (Nat × Bytes)} (hc : closed s u)
  (hfl : (u.stream st).flight = (i, b) :: l) (he : (u.stream st).list[i]? = some e) (hk : u.endCore e.dstCore = some k)
include hc hfl he hk

theorem exec_streamSegmentReceive (hiso : (u.die (k / 272)).isolated = false) : exec (.streamSegmentReceive st) s =
    .next (segWritten (segDestroyed u (u.stream st) e b (k / 272)) st k i (u.stream st) e b l) := by
  simp only [exec, execStreamSegmentReceive, flushAll_of_closed hc, hfl, he, hk, hiso, Bool.false_eq_true, if_false]
  rfl

theorem exec_streamSegmentReceive_isolated (hiso : (u.die (k / 272)).isolated = true) :
    exec (.streamSegmentReceive st) s = .next ((segDestroyed u (u.stream st) e b (144 + 32 * cellOf (k / 272) + k / 272 % 9)).setStream
      st (streamTaken (u.stream st) e i (b.length / 64) l)) := by
  simp only [exec, execStreamSegmentReceive, flushAll_of_closed hc, hfl, he, hk, hiso, if_true]
  rfl

theorem streamSegmentReceive_answers (hiso : (u.die (k / 272)).isolated = false) :
    answers (.streamSegmentReceive st) s (fun t => (t.stream st).flight = l ∧
      (t.stream st).owed = (u.stream st).owed + 1 ∧
      t.spad = writeBytes u.spad (spadKey k (e.dstAddr + 64 * (u.stream st).landed)) b ∧
      t.hbm = u.hbm ∧ t.imem = u.imem ∧ sameRegs (u.core k) (t.core k) ∧ sameOthers k u t) := by
  have hexec := exec_streamSegmentReceive hc hfl he hk hiso
  obtain ⟨hcores, hdies, hprog, hspad, hhbm, himem⟩ := segDestroyed_same u (u.stream st) e b (k / 272)
  generalize segDestroyed u (u.stream st) e b (k / 272) = v at hexec hcores hdies hprog hspad hhbm himem
  have hat := (AtCore.of_same (k := k) hcores hhbm himem hprog hdies).trans
    (segWritten_atCore v st k i (u.stream st) e b l)
  have hstream := segWritten_stream v st k i (u.stream st) e b l
  refine answers_of_exec hexec ⟨?_, ?_, ?_, hat.hbm, hat.imem, hat.regs, hat.others⟩
  · rw [hstream]
    rfl
  · rw [hstream]
    rfl
  · rw [segWritten_spad, hspad]

theorem streamSegmentReceive_isolated (hiso : (u.die (k / 272)).isolated = true) :
    answers (.streamSegmentReceive st) s (fun t => (t.stream st).flight = l ∧ sameMem u t ∧ t.cores = u.cores) := by
  obtain ⟨hcores, -, -, hmem⟩ :=
    segDestroyed_same u (u.stream st) e b (144 + 32 * cellOf (k / 272) + k / 272 % 9)
  exact answers_of_exec (exec_streamSegmentReceive_isolated hc hfl he hk hiso)
    ⟨congrArg Stream.flight (stream_setStream_same ..), hmem, hcores⟩

end

/-! ## The credit comes back (09 R246) -/

theorem streamCreditReturn_answers (s : State) (st : Nat) (h : 0 < (s.stream st).owed) :
    answers (.streamCreditReturn st) s (fun t => (t.stream st).credits = (s.stream st).credits + 1 ∧
      (t.stream st).owed = (s.stream st).owed - 1 ∧ sameMem s t ∧ t.cores = s.cores) := by
  have hexec : exec (.streamCreditReturn st) s =
      .next (s.setStream st { s.stream st with owed := (s.stream st).owed - 1, credits := (s.stream st).credits + 1 }) := by
    simp [exec, execStreamCreditReturn, h]
  exact answers_of_exec hexec ⟨congrArg Stream.credits (stream_setStream_same ..),
    congrArg Stream.owed (stream_setStream_same ..), ⟨rfl, rfl, rfl⟩, rfl⟩

/-- Settles O34: one lemma for each command of a stream; what the die at the end of the way refuses is the second of the two for
a segment that lands. -/
theorem streams : Obligations.streams := by
  unfold Obligations.streams
  exact ⟨fun _ _ _ _ _ hc hcur hk hrun => ⟨streamEntryStart_answers hc hcur hk hrun,
      streamSegmentSend_answers hc hcur hk hrun, streamEntryReadDone_answers hc hcur hk hrun⟩,
    fun _ _ _ _ _ _ _ _ hc hfl he hk =>
      ⟨streamSegmentReceive_answers hc hfl he hk, streamSegmentReceive_isolated hc hfl he hk⟩,
    streamCreditReturn_answers⟩

end Sys2Proof.Proofs

end

section
/-! PROOFS. Credits that come back (09 R234, R238), control-core requests and replies (03 R81, R82), route-version entries (09
R249, R251), COPY packets (09 R236). -/

open Sys2Proof Sys2Proof.Machine Sys2Proof.Claims

namespace Sys2Proof.Proofs

/-! ## What a packet's way through the mesh reaches -/

/-- Only flits, ledger, link counts, latencies, waiting requests and counter objects change from `s` to `t`. -/
def OnlyTraffic (s t : State) : Prop := ∃ f l k m w o,
  t = { s with od := o, net := { s.net with flight := f, ledger := l, links := k, latMax := m, ccWait := w } }

theorem OnlyTraffic.refl (s : State) : OnlyTraffic s s := ⟨_, _, _, _, _, _, rfl⟩

theorem OnlyTraffic.trans {s t u : State} (h : OnlyTraffic s t) (h' : OnlyTraffic t u) : OnlyTraffic s u := by
  obtain ⟨_, _, _, _, _, _, rfl⟩ := h
  obtain ⟨_, _, _, _, _, _, rfl⟩ := h'
  exact ⟨_, _, _, _, _, _, rfl⟩

section
variable {s t : State} (h : OnlyTraffic s t)
include h

theorem OnlyTraffic.atCore (k : Nat) : AtCore k s t := by
  obtain ⟨_, _, _, _, _, _, rfl⟩ := h
  exact .of_same rfl rfl rfl rfl rfl

theorem OnlyTraffic.sameMem : sameMem s t := by
  obtain ⟨_, _, _, _, _, _, rfl⟩ := h
  exact ⟨rfl, rfl, rfl⟩

theorem OnlyTraffic.cores : t.cores = s.cores := by
  obtain ⟨_, _, _, _, _, _, rfl⟩ := h
  rfl

theorem OnlyTraffic.coreOf (b : Bool) (v : Nat) : t.coreOf b v = s.coreOf b v := by
  obtain ⟨_, _, _, _, _, _, rfl⟩ := h
  rfl

theorem OnlyTraffic.ccMay (g : Hdr) (hbm wr : Bool) (part a n : Nat) : t.ccMay g hbm wr part a n = s.ccMay g hbm wr part a n := by
  obtain ⟨_, _, _, _, _, _, rfl⟩ := h
  rfl

theorem OnlyTraffic.toIsolated (p : Packet) : t.toIsolated p = s.toIsolated p := by
  obtain ⟨_, _, _, _, _, _, rfl⟩ := h
  rfl

theorem OnlyTraffic.routeHolder (g : Hdr) : t.routeHolder g = s.routeHolder g := by
  obtain ⟨_, _, _, _, _, _, rfl⟩ := h
  rfl

theorem OnlyTraffic.routes :
    t.net.writes = s.net.writes ∧ t.net.a = s.net.a ∧ t.net.b = s.net.b ∧ t.routeFree = s.routeFree := by
  obtain ⟨_, _, _, _, _, _, rfl⟩ := h
  exact ⟨rfl, rfl, rfl, rfl⟩

theorem OnlyTraffic.reqTaken : t.net.reqTaken = s.net.reqTaken := by
  obtain ⟨_, _, _, _, _, _, rfl⟩ := h
  rfl

end

theorem ledDestroy_onlyTraffic (s : State) (i j cat v : Nat) : OnlyTraffic s (s.ledDestroy i j cat v) :=
  ⟨_, _, _, _, _, _, rfl⟩

theorem ledSpurious_onlyTraffic (s : State) (i cat v : Nat) : OnlyTraffic s (s.ledSpurious i cat v) :=
  ⟨_, _, _, _, _, _, rfl⟩

theorem cross_onlyTraffic (s : State) (i : Nat) (h : Hdr) (n : Nat) : OnlyTraffic s (s.cross i h n) :=
  ⟨_, _, _, _, _, _, rfl⟩

theorem flight_onlyTraffic (s : State) (l : List Flying) : OnlyTraffic s { s with net := { s.net with flight := l } } :=
  ⟨_, _, _, _, _, _, rfl⟩

theorem unflight_onlyTraffic (s : State) (i : Nat) (p : Packet) : OnlyTraffic s (s.unflight i p) := by
  unfold State.unflight
  split
  · exact ((ledDestroy_onlyTraffic ..).trans (cross_onlyTraffic ..)).trans (flight_onlyTraffic ..)
  · exact ledSpurious_onlyTraffic ..

theorem eject_onlyTraffic (s : State) (p : Packet) : OnlyTraffic s (s.eject p) := by
  unfold State.eject
  extract_lets h t
  have ht : OnlyTraffic s t := unflight_onlyTraffic ..
  clear_value t
  split
  · split
    · extract_lets lat v
      have hv : OnlyTraffic t v := by
        unfold v
        split
        · exact ⟨_, _, _, _, _, _, rfl⟩
        · exact .refl t
      exact (ht.trans hv).trans ⟨_, _, _, _, _, _, rfl⟩
    · exact ht
  · exact ht

theorem inject_onlyTraffic (s : State) (p : Packet) : OnlyTraffic s (s.inject p) := ⟨_, _, _, _, _, _, rfl⟩

theorem firmware_onlyTraffic (s : State) (p : Packet) : OnlyTraffic s (s.firmware p) := by
  unfold State.firmware
  split
  · exact .refl s
  · exact inject_onlyTraffic ..

theorem ccReply_onlyTraffic (s : State) (h : Hdr) (refused : Bool) (data : Bytes) :
    OnlyTraffic s (s.ccReply h refused data) := inject_onlyTraffic ..

/-- The reply to a request is in the mesh with its lines. -/
theorem ccReply_sent (s : State) (h : Hdr) (refused : Bool) (data : Bytes) :
    ∃ x ∈ (s.ccReply h refused data).net.flight, x.pkt.payload = toFlits (data.length / 64) data :=
  ⟨_, List.mem_append_right _ List.mem_cons_self, rfl⟩

/-! ## Credits (09 R234, R238) -/

theorem takenOf_setTaken_same (c : Core) (ch v n : Nat) : (c.setTaken ch v n).takenOf ch v = n :=
  SMap.get_put_same zeroD c.taken _ n

/-- A credit that has come back for a channel of the core. -/
def creditTaken (u : State) (k : Nat) (p : Packet) : State :=
  (u.eject p).evCore k (fun c => c.setTaken (bits (pktH p).arg 3 0) (pktH p).src
    (c.takenOf (bits (pktH p).arg 3 0) (pktH p).src - bits (pktH p).arg 15 8))

/-- A request credit that has come back to the die of core `k`. -/
def reqCreditTaken (u : State) (k : Nat) (p : Packet) : State :=
  let v := u.eject p
  let key := 2 * (k / 272 * 16 + (pktH p).src)
  { v with net := { v.net with reqTaken := SMap.upd zeroD v.net.reqTaken key (fun x => x - bits (pktH p).arg 15 8) } }

theorem credit_channel {s u : State} {k : Nat} {p : Packet} (hc : closed s u) (ha : arrives u p 9 k)
    (hch : bits (pktH p).arg 16 16 = 0) :
    answers (.credit p) s (fun t =>
      (t.core k).takenOf (bits (pktH p).arg 3 0) (pktH p).src =
        (u.core k).takenOf (bits (pktH p).arg 3 0) (pktH p).src - bits (pktH p).arg 15 8 ∧
      sameRegs (u.core k) (t.core k) ∧ sameMem u t ∧ sameOthers k u t) := by
  have hexec : exec (.credit p) s = .next (creditTaken u k p) := by
    simp only [exec, execCredit, hch, arriveAt_of_arrives hc ha]
    rfl
  have hat : AtCore k u (creditTaken u k p) := (eject_atCore k u p).trans (evCore_atCore k _ ⟨rfl, rfl, rfl, rfl⟩)
  have hspad : (creditTaken u k p).spad = u.spad := (eject_sameMem u p).1
  refine answers_of_exec hexec ⟨?_, hat.regs, ⟨hspad, hat.hbm, hat.imem⟩, hat.others⟩
  rw [creditTaken, State.evCore, State.core_updCore_same, eject_core]
  exact takenOf_setTaken_same ..

/-- Log 84: a request credit is taken whatever its attempt tag. -/
theorem credit_request {s u : State} {k : Nat} {p : Packet} (hc : closed s u) (hreq : bits (pktH p).arg 16 16 = 1)
    (hok : arrivesOk p = true) (hty : (pktH p).type = 9) (hk : u.coreOf (pktH p).epoch (pktH p).dst = some k)
    (hord : u.inOrder p = true) (hiso : (u.die (k / 272)).isolated = false) :
    answers (.credit p) s (fun t =>
      SMap.get zeroD t.net.reqTaken (2 * (k / 272 * 16 + (pktH p).src)) =
        SMap.get zeroD u.net.reqTaken (2 * (k / 272 * 16 + (pktH p).src)) - bits (pktH p).arg 15 8 ∧
      t.cores = u.cores ∧ sameMem u t) := by
  have hexec : exec (.credit p) s = .next (reqCreditTaken u k p) := by
    simp only [exec, execCredit, hreq, hok, hty, flushAll_of_closed hc, hk, hord, hiso, decide_true, beq_self_eq_true,
      Bool.and_self, Bool.not_true, Bool.false_eq_true, if_true, if_false]
    rfl
  refine answers_of_exec hexec ⟨?_, eject_cores u p, eject_sameMem u p⟩
  rw [← (eject_onlyTraffic u p).reqTaken]
  exact SMap.get_put_same ..

/-! ## A packet of the firmware that is accepted (09 R239 to R241, R250) -/

/-- It is put into the mesh where no core has, and leaves it. -/
def firmwareIn (u : State) (p : Packet) : State := (u.firmware p).eject p

theorem firmwareIn_onlyTraffic (u : State) (p : Packet) : OnlyTraffic u (firmwareIn u p) :=
  (firmware_onlyTraffic u p).trans (eject_onlyTraffic ..)

/-- A whole packet with nothing of its own kind ahead of it is the next one of its order. -/
theorem firmware_inOrder {u : State} {p : Packet} (hty : 4 < (pktH p).type) (h : u.inOrder p = true) :
    (u.firmware p).inOrder p = true := by
  unfold State.firmware
  split
  · exact h
  next hany =>
    have hnone (x : Flying) (hx : x ∈ u.net.flight) : ¬ x.holds p = true := fun hh =>
      hany (List.any_eq_true.mpr ⟨x, hx, hh⟩)
    have hself : ({ time := u.time, pkt := p } : Flying).holds p = true := by
      simp [Flying.holds, Nat.not_le.mpr hty]
    have hflight : (u.inject p).net.flight = u.net.flight ++ [{ time := u.time, pkt := p }] := rfl
    simp only [State.inOrder, hflight, List.find?_append] at h ⊢
    split at h
    next x hx => exact absurd h (hnone x (List.mem_of_find?_eq_some hx))
    next hx =>
      rw [hx, Option.none_or]
      simp [hself]

section
variable {s u : State} {p : Packet} (hc : closed s u) (hw : u.withheld (pktH p) = false) (hok : arrivesOk p = true)
  (hord : u.inOrder p = true) (hiso : u.toIsolated p = false)

/-! ## Requests and replies of control cores (03 R81, R82) -/

theorem ccReq_withheld (hc : closed s u) (c : Ecc) (hw : u.withheld (pktH p) = true) :
    exec (.ccReq ⟨p, c⟩) s = .next u := by
  simp only [exec, execCcReq, flushAll_of_closed hc, hw, if_true]

/-- A request accepted waits for its reply. -/
def ccNoted (u : State) (p : Packet) : State :=
  { firmwareIn u p with net := { (firmwareIn u p).net with
    ccWait := ((pktH p).src, bits (pktH p).arg 52 45) :: (firmwareIn u p).net.ccWait } }

theorem ccNoted_onlyTraffic (u : State) (p : Packet) : OnlyTraffic u (ccNoted u p) :=
  (firmwareIn_onlyTraffic u p).trans ⟨_, _, _, _, _, _, rfl⟩

/-- Lines written by a request, and a line read by one, by the NET engine of core `k`. -/
def ccWritten (v : State) (k a : Nat) (p : Packet) : State :=
  ((v.spadWrite k a (p.payload.flatMap flitBytes)).xferBy k .net a p.payload.length).evCore k (fun c => c)
def ccRead (v : State) (k a : Nat) (c : Ecc) : State :=
  ((v.xferBy k .net a 1).spadEcc k noOp c).evCore k (fun c => c)

theorem ccWritten_atCore (v : State) (k a : Nat) (p : Packet) : AtCore k v (ccWritten v k a p) :=
  ((spadWrite_atCore ..).trans (xferBy_atCore ..)).trans (evCore_atCore k _ ⟨rfl, rfl, rfl, rfl⟩)

theorem ccRead_atCore (v : State) (k a : Nat) (c : Ecc) : AtCore k v (ccRead v k a c) :=
  ((xferBy_atCore ..).trans (spadEcc_atCore ..)).trans (evCore_atCore k _ ⟨rfl, rfl, rfl, rfl⟩)

section
variable {k a : Nat} (c : Ecc) (hty : (pktH p).type = 10) (hspace : bits (pktH p).arg 43 43 = 0) (hkind : (pktH p).dkind = 0)
  (hk : u.coreOf (pktH p).epoch (pktH p).dst = some k) (ha : a = alignTo 64 (bits (pktH p).arg 42 0))
include hc hw hok hord hiso hty hspace hkind hk ha

theorem exec_ccReq_write (hwr : bits (pktH p).arg 44 44 = 1) (hfit : a + 64 * p.payload.length ≤ 393216)
    (hmay : u.ccMay (pktH p) false true (pktH p).dst a (64 * p.payload.length) = true) :
    exec (.ccReq ⟨p, c⟩) s = .next ((ccWritten (ccNoted u p) k a p).ccReply (pktH p) false []) := by
  have hgo := ccNoted_onlyTraffic u p
  have hk' := (hgo.coreOf ..).trans hk
  have hmay' := (hgo.ccMay ..).trans hmay
  unfold ccNoted firmwareIn at hk' hmay'
  subst ha
  simp only [exec, execCcReq, flushAll_of_closed hc, hw, hok, hty, firmware_inOrder (by omega) hord,
    (firmware_onlyTraffic u p).toIsolated p, hiso, hspace, hkind, hwr, hk', hmay', Nat.not_lt.mpr hfit, if_true, if_false,
    decide_true, Bool.not_true, bne_self_eq_false, Bool.false_eq_true, Bool.or_self, decide_false]
  rfl

theorem exec_ccReq_read (hrd : bits (pktH p).arg 44 44 = 0) (hfit : a + 64 ≤ 393216)
    (hmay : u.ccMay (pktH p) false false (pktH p).dst a 64 = true) :
    exec (.ccReq ⟨p, c⟩) s =
      .next ((ccRead (ccNoted u p) k a c).ccReply (pktH p) false ((ccNoted u p).spadRead k a 64)) := by
  have hgo := ccNoted_onlyTraffic u p
  have hk' := (hgo.coreOf ..).trans hk
  have hmay' := (hgo.ccMay ..).trans hmay
  unfold ccNoted firmwareIn at hk' hmay'
  subst ha
  simp only [exec, execCcReq, flushAll_of_closed hc, hw, hok, hty, firmware_inOrder (by omega) hord,
    (firmware_onlyTraffic u p).toIsolated p, hiso, hspace, hkind, hrd, hk', hmay', Nat.not_lt.mpr hfit, if_true, if_false,
    mul_one, zero_ne_one, Bool.not_true, bne_self_eq_false, Bool.false_eq_true, Bool.or_self, decide_false]
  rfl

theorem ccReq_writes (hwr : bits (pktH p).arg 44 44 = 1) (hfit : a + 64 * p.payload.length ≤ 393216)
    (hmay : u.ccMay (pktH p) false true (pktH p).dst a (64 * p.payload.length) = true) :
    answers (.ccReq ⟨p, c⟩) s (fun t => t.spad = writeBytes u.spad (spadKey k a) (p.payload.flatMap flitBytes) ∧
      t.hbm = u.hbm ∧ t.imem = u.imem ∧ sameRegs (u.core k) (t.core k) ∧ sameOthers k u t) := by
  have hexec := exec_ccReq_write hc hw hok hord hiso c hty hspace hkind hk ha hwr hfit hmay
  have hgo := ccNoted_onlyTraffic u p
  generalize ccNoted u p = v at hexec hgo
  have hreply := ccReply_onlyTraffic (ccWritten v k a p) (pktH p) false []
  have hat := ((hgo.atCore k).trans (ccWritten_atCore v k a p)).trans (hreply.atCore k)
  have hspad : (ccWritten v k a p).spad = writeBytes v.spad (spadKey k a) (p.payload.flatMap flitBytes) := by
    simp [ccWritten]
  refine answers_of_exec hexec ⟨?_, hat.hbm, hat.imem, hat.regs, hat.others⟩
  rw [hreply.sameMem.1, hspad, hgo.sameMem.1]

theorem ccReq_reads (hrd : bits (pktH p).arg 44 44 = 0) (hfit : a + 64 ≤ 393216)
    (hmay : u.ccMay (pktH p) false false (pktH p).dst a 64 = true) :
    answers (.ccReq ⟨p, c⟩) s (fun t => sameMem u t ∧ sameRegs (u.core k) (t.core k) ∧ sameOthers k u t ∧
      ∃ x ∈ t.net.flight, x.pkt.payload = toFlits 1 (u.spadRead k a 64)) := by
  have hexec := exec_ccReq_read hc hw hok hord hiso c hty hspace hkind hk ha hrd hfit hmay
  have hgo := ccNoted_onlyTraffic u p
  generalize ccNoted u p = v at hexec hgo
  rw [spadRead_congr hgo.sameMem.1] at hexec
  have hreply := ccReply_onlyTraffic (ccRead v k a c) (pktH p) false (u.spadRead k a 64)
  have hat := ((hgo.atCore k).trans (ccRead_atCore v k a c)).trans (hreply.atCore k)
  have hspad : (ccRead v k a c).spad = v.spad := by simp [ccRead]
  have hsent := ccReply_sent (ccRead v k a c) (pktH p) false (u.spadRead k a 64)
  have hlen : (u.spadRead k a 64).length = 64 := by simp [State.spadRead, readBytes]
  rw [hlen] at hsent
  exact answers_of_exec hexec
    ⟨⟨hreply.sameMem.1.trans (hspad.trans hgo.sameMem.1), hat.hbm, hat.imem⟩, hat.regs, hat.others, hsent⟩

end

/-- The request that a reply answers waits no longer. -/
def ccAnswered (u : State) (p : Packet) : State :=
  { firmwareIn u p with net := { (firmwareIn u p).net with
    ccWait := (firmwareIn u p).net.ccWait.filter (fun x => x != ((pktH p).dst, bits (pktH p).arg 52 45)) } }

include hc hok hord hiso

theorem ccRep_answers (hty : (pktH p).type = 11) :
    answers (.ccRep p) s (fun t => ((pktH p).dst, bits (pktH p).arg 52 45) ∉ t.net.ccWait ∧
      sameMem u t ∧ t.cores = u.cores) := by
  have hexec : exec (.ccRep p) s = .next (ccAnswered u p) := by
    simp only [exec, execCcRep, flushAll_of_closed hc, hok, hty, firmware_inOrder (by omega) hord,
      (firmware_onlyTraffic u p).toIsolated p, hiso, if_false, Bool.not_true, bne_self_eq_false, Bool.false_eq_true,
      Bool.or_self]
    rfl
  have hgo : OnlyTraffic u (ccAnswered u p) := (firmwareIn_onlyTraffic u p).trans ⟨_, _, _, _, _, _, rfl⟩
  exact answers_of_exec hexec ⟨by simp [ccAnswered], hgo.sameMem, hgo.cores⟩

/-! ## Route-version entries (09 R249, R251) -/

include hw

theorem admin_dieMap (vd site : Nat) (hty : (pktH p).type = 12) (hfree : u.routeFree = true) :
    answers (.admin p (.dieMap vd site)) s (fun t =>
      t.net.writes = u.net.writes ++ [(u.routeHolder (pktH p), .dieMap vd site)] ∧ t.net.a = u.net.a ∧ t.net.b = u.net.b ∧
      sameMem u t ∧ t.cores = u.cores) := by
  have hexec : exec (.admin p (.dieMap vd site)) s = .next ((firmwareIn u p).adminRoute (pktH p) (.dieMap vd site)) := by
    simp only [exec, execAdmin, flushAll_of_closed hc, hw, hok, hty, firmware_inOrder (by omega) hord,
      (firmware_onlyTraffic u p).toIsolated p, hiso, if_false, Bool.not_true, bne_self_eq_false, Bool.false_eq_true,
      Bool.or_self]
    rfl
  have hgo := firmwareIn_onlyTraffic u p
  generalize firmwareIn u p = v at hexec hgo
  obtain ⟨hwrites, hroutea, hrouteb, hfree'⟩ := hgo.routes
  rw [State.adminRoute, if_pos (hfree'.trans hfree), hwrites, hgo.routeHolder] at hexec
  exact answers_of_exec hexec ⟨rfl, hroutea, hrouteb, hgo.sameMem, hgo.cores⟩

/-! ## COPY (09 R236) -/

/-- The lines of a COPY packet written from address `a` of core `k` on, as far as its scratchpad reaches. -/
def copyLanded (v : State) (k a : Nat) (p : Packet) : State :=
  ((v.spadWrite k a ((p.payload.flatMap flitBytes).take (393216 - a))).xferBy k .net a p.payload.length).evCore k (fun c => c)

theorem copyPacket_answers {k : Nat} (hty : (pktH p).type = 13) (hspace : bits (pktH p).arg 43 43 = 1)
    (hkind : (pktH p).dkind = 0) (hk : u.coreOf (pktH p).epoch (pktH p).dst = some k) :
    answers (.copyPacket p) s (fun t => t.spad = writeBytes u.spad (spadKey k (alignTo 64 (bits (pktH p).arg 42 0)))
        ((p.payload.flatMap flitBytes).take (393216 - alignTo 64 (bits (pktH p).arg 42 0))) ∧
      t.hbm = u.hbm ∧ t.imem = u.imem ∧ sameRegs (u.core k) (t.core k) ∧ sameOthers k u t) := by
  have hgo := firmwareIn_onlyTraffic u p
  have hexec : exec (.copyPacket p) s = .next (copyLanded (firmwareIn u p) k (alignTo 64 (bits (pktH p).arg 42 0)) p) := by
    have hk' := (hgo.coreOf ..).trans hk
    unfold firmwareIn at hk'
    simp only [exec, execCopyPacket, flushAll_of_closed hc, hw, hok, hty, firmware_inOrder (by omega) hord,
      (firmware_onlyTraffic u p).toIsolated p, hiso, hspace, hkind, hk', if_true, if_false, Bool.not_true, bne_self_eq_false,
      Bool.false_eq_true, Bool.or_self]
    rfl
  generalize firmwareIn u p = v at hexec hgo
  generalize alignTo 64 (bits (pktH p).arg 42 0) = a at hexec ⊢
  have hland : AtCore k v (copyLanded v k a p) :=
    ((spadWrite_atCore ..).trans (xferBy_atCore ..)).trans (evCore_atCore k _ ⟨rfl, rfl, rfl, rfl⟩)
  have hat := (hgo.atCore k).trans hland
  refine answers_of_exec hexec ⟨?_, hat.hbm, hat.imem, hat.regs, hat.others⟩
  rw [← hgo.sameMem.1]
  simp [copyLanded]

end

/-- Settles O33: one lemma for each packet; all but a credit are put into the mesh as they arrive, and leave it. -/
theorem creditsControl : Obligations.credits_control := by
  unfold Obligations.credits_control
  exact ⟨⟨fun _ _ _ _ => credit_channel, fun _ _ _ _ => credit_request⟩,
    fun _ _ _ c hc hw => ccReq_withheld hc c hw,
    fun _ _ _ _ _ c hc hw hok hty hord hiso hspace hkind hk ha =>
      ⟨ccReq_writes hc hw hok hord hiso c hty hspace hkind hk ha, ccReq_reads hc hw hok hord hiso c hty hspace hkind hk ha⟩,
    fun _ _ _ hc hok hty hord hiso => ccRep_answers hc hok hord hiso hty,
    fun _ _ _ vd site hc hw hok hty hord hiso hfree => admin_dieMap hc hw hok hord hiso vd site hty hfree,
    fun _ _ _ _ hc hw hok hty hord hiso hspace hkind hk => copyPacket_answers hc hw hok hord hiso hty hspace hkind hk⟩

end Sys2Proof.Proofs

end

section
/-! PROOFS. The audit of a boundary (09 R254, R255) and the verdict on its frame (02 R45, R50). -/

open Sys2Proof Sys2Proof.Machine Sys2Proof.Claims

namespace Sys2Proof.Proofs

/-! ## Counter objects (17 R462) -/

theorem num_of_od {s t : State} (h : t.od = s.od) (k : Nat) : t.num k = s.num k := by
  rw [State.num, State.obj, h, State.num, State.obj]

/-- A fault signature record takes the next number, and no other object. -/
@[simp] theorem num_fsr (s : State) (r : FsrIn) {k : Nat} (h : k ≠ Obj.FSR_LAST_SEQ) : (s.fsr r).num k = s.num k := by
  have hseq : (s.fsr r).od = (s.setNum Obj.FSR_LAST_SEQ (s.num Obj.FSR_LAST_SEQ + 1)).od := by
    simp only [State.fsr]
    split <;> rfl
  rw [num_of_od hseq, State.num_setNum_other _ _ h]

@[simp] theorem fsr_slots (s : State) (r : FsrIn) : (s.fsr r).slots = s.slots := by
  simp only [State.fsr]
  split <;> rfl

/-! ## The audit (09 R254, R255) -/

/-- LEDGER.IMBALANCE as the two roots make it out; bit 10 says that they disagree. -/
def rootsImbalance (n : Snap) (r0 r15 : Nat) : Nat := (field n.summary 32 2 ||| r0 ||| r15) + (if r0 = r15 then 0 else 1024)

theorem rootsImbalance_eq_zero (n : Snap) (r0 r15 : Nat) :
    rootsImbalance n r0 r15 = 0 ↔ field n.summary 32 2 = 0 ∧ r0 = 0 ∧ r15 = 0 := by
  unfold rootsImbalance
  rw [Nat.add_eq_zero_iff, Nat.or_eq_zero_iff, Nat.or_eq_zero_iff]
  constructor
  · rintro ⟨⟨⟨hf, h0⟩, h15⟩, -⟩
    exact ⟨hf, h0, h15⟩
  · rintro ⟨hf, rfl, rfl⟩
    exact ⟨⟨⟨hf, rfl⟩, rfl⟩, rfl⟩

/-- The ended attempt with the audit's result, its reports and the ledger summary. -/
def auditedEnd (e : Ended) (n : Snap) (imb : Nat) : Ended :=
  { e with
    audit := some (imb == 0), ledger := slice n.summary 0 32 ++ bytesLE 2 imb ++ slice n.summary 34 30
    reports := e.reports ++ (if imb &&& 0x43F = 0 then [] else [({ det := 0x0A } : Report)]) ++
      (if imb / 512 % 2 = 0 then [] else [({ det := 0x08 } : Report)])
    tokensOnly := imb &&& 0x43F == 8 }

/-- The snapshot closed, and the attempt of its boundary judged. -/
def auditJudged (s : State) (n : Snap) (imb : Nat) : State :=
  let s := { s with slots := { s.slots with snap := none } }
  match s.slots.ended with
  | some e => if e.boundary = n.boundary then { s with slots := { s.slots with ended := some (auditedEnd e n imb) } } else s
  | none => s

/-- The result in its objects, and the record of a failed audit. -/
def auditTold (s : State) (n : Snap) (imb : Nat) : State :=
  if imb = 0 then s.setNum Obj.AUDIT_LAST_RESULT 0
  else
    let s := (((s.setNum Obj.AUDIT_LAST_RESULT 1).count Obj.AUDIT_FAIL_COUNT).setNum Obj.AUDIT_LAST_IMBALANCE imb).setNum
      Obj.AUDIT_LAST_FAIL_SLOT (field n.summary 0 8)
    if imb &&& 0x43F = 0 then s
    else s.fsr { part := 4, unit := 0x0F, det := 0x0A, detail := bytesLE 2 imb, frame := s.slots.ended.map (fun e => e.att.frame) }

theorem exec_audit {s : State} {n : Snap} (h : s.slots.snap = some n) (err0 err15 : List (Nat × Int)) :
    exec (.audit ⟨err0, err15⟩) s =
      .next (auditTold (auditJudged (s.atTime (n.boundary + 20000)) n
        (rootsImbalance n (rootBits n.cells err0) (rootBits n.cells err15))) n
        (rootsImbalance n (rootBits n.cells err0) (rootBits n.cells err15))) := by
  simp only [exec, execAudit, h]
  rfl

section
variable (s : State) (n : Snap) (imb : Nat)

theorem auditJudged_frame : (auditJudged s n imb).slots.snap = none ∧ (auditJudged s n imb).time = s.time ∧
    (auditJudged s n imb).cores = s.cores ∧ sameMem s (auditJudged s n imb) := by
  unfold auditJudged
  extract_lets v
  split
  · split <;> exact ⟨rfl, rfl, rfl, rfl, rfl, rfl⟩
  · exact ⟨rfl, rfl, rfl, rfl, rfl, rfl⟩

theorem auditJudged_ended {e : Ended} (he : s.slots.ended = some e) (hb : e.boundary = n.boundary) :
    (auditJudged s n imb).slots.ended = some (auditedEnd e n imb) := by
  simp only [auditJudged, he, hb, if_true]

theorem auditTold_frame : (auditTold s n imb).slots = s.slots ∧ (auditTold s n imb).time = s.time ∧
    (auditTold s n imb).cores = s.cores ∧ sameMem s (auditTold s n imb) := by
  unfold auditTold
  extract_lets v
  split
  · exact ⟨rfl, rfl, rfl, rfl, rfl, rfl⟩
  have hv : v.slots = s.slots ∧ v.time = s.time ∧ v.cores = s.cores ∧ sameMem s v := by simp [v, sameMem]
  split
  · exact hv
  · simpa [sameMem] using hv

theorem auditTold_result : (auditTold s n imb).num Obj.AUDIT_LAST_RESULT = if imb = 0 then 0 else 1 := by
  have hv (m k : Nat) : ((((s.setNum Obj.AUDIT_LAST_RESULT 1).count Obj.AUDIT_FAIL_COUNT).setNum Obj.AUDIT_LAST_IMBALANCE
      m).setNum Obj.AUDIT_LAST_FAIL_SLOT k).num Obj.AUDIT_LAST_RESULT = 1 := by
    rw [State.num_setNum_other _ _ (by decide), State.num_setNum_other _ _ (by decide),
      State.num_count_other _ _ (by decide), State.num_setNum_same]
  unfold auditTold
  split
  · exact State.num_setNum_same ..
  extract_lets v
  split
  · exact hv ..
  · rw [num_fsr _ _ (by decide)]
    exact hv ..

end

theorem audit_answers {s : State} {n : Snap} (h : s.slots.snap = some n) (err0 err15 : List (Nat × Int)) :
    answers (.audit ⟨err0, err15⟩) s (fun t =>
      t.slots.snap = none ∧ t.time = max s.time (n.boundary + 20000) ∧
      t.num Obj.AUDIT_LAST_RESULT =
        (if field n.summary 32 2 = 0 ∧ rootBits n.cells err0 = 0 ∧ rootBits n.cells err15 = 0 then 0 else 1) ∧
      (∀ e, s.slots.ended = some e → e.boundary = n.boundary → ∃ e', t.slots.ended = some e' ∧ e'.att = e.att ∧
        e'.audit = some (decide (field n.summary 32 2 = 0 ∧ rootBits n.cells err0 = 0 ∧ rootBits n.cells err15 = 0))) ∧
      sameMem s t ∧ t.cores = s.cores) := by
  have hexec := exec_audit h err0 err15
  have hzero := rootsImbalance_eq_zero n (rootBits n.cells err0) (rootBits n.cells err15)
  generalize rootsImbalance n (rootBits n.cells err0) (rootBits n.cells err15) = imb at hexec hzero
  simp only [← hzero]
  have hended {e : Ended} := auditJudged_ended (s.atTime (n.boundary + 20000)) n imb (e := e)
  obtain ⟨hsnap, htime, hcores, hspad, hhbm, himem⟩ := auditJudged_frame (s.atTime (n.boundary + 20000)) n imb
  generalize auditJudged (s.atTime (n.boundary + 20000)) n imb = v at hexec hended hsnap htime hcores hspad hhbm himem
  obtain ⟨hslots, htime', hcores', hspad', hhbm', himem'⟩ := auditTold_frame v n imb
  refine answers_of_exec hexec ⟨?_, htime'.trans htime, auditTold_result v n imb, fun e he hb => ?_,
    ⟨hspad'.trans hspad, hhbm'.trans hhbm, himem'.trans himem⟩, hcores'.trans hcores⟩
  · rw [hslots, hsnap]
  · refine ⟨auditedEnd e n imb, ?_, rfl, ?_⟩
    · rw [hslots]
      exact hended he hb
    · exact congrArg some (by simp [beq_eq_decide])

end Sys2Proof.Proofs

end

section
/-! PROOFS. The verdict on a frame (02 R45, R50): what a frame that passed leaves, and one that failed (15 R412). -/

open Sys2Proof Sys2Proof.Machine Sys2Proof.Claims

namespace Sys2Proof.Proofs

/-! ## The attempt in progress, the one that has ended, the frame that failed -/

/-- The attempt in progress, the ended one and the failed frame of `t` are those of `s`. -/
@[simp] abbrev KeepsRun (s t : State) : Prop :=
  t.slots.att = s.slots.att ∧ t.slots.ended = s.slots.ended ∧ t.slots.failed = s.slots.failed

theorem KeepsRun.trans {s t u : State} (h : KeepsRun s t) (h' : KeepsRun t u) : KeepsRun s u := by
  simp [h, h']

theorem KeepsRun.of_slots {s t : State} (h : t.slots = s.slots) : KeepsRun s t := by
  simp [h]

theorem foldl_keepsRun {α : Type} {f : State → α → State} (h : ∀ s x, KeepsRun s (f s x)) (l : List α) (s : State) :
    KeepsRun s (l.foldl f s) :=
  List.foldlRecOn l f (motive := KeepsRun s) ⟨rfl, rfl, rfl⟩ fun t ht x _ => ht.trans (h t x)

@[simp] theorem classify_slots (s : State) (f retry kind action : Nat) : (s.classify f retry kind action).slots = s.slots :=
  List.foldlRecOn _ _ (motive := fun t : State => t.slots = s.slots) rfl fun _ ht _ _ => ht

@[simp] theorem reqMig_slots (s : State) (site prio : Nat) : (s.reqMig site prio).slots = s.slots := by
  unfold State.reqMig
  split <;> rfl

section
variable (s : State)

theorem holdNext_keepsRun (cause : Nat) : KeepsRun s (s.holdNext cause) := by
  unfold State.holdNext
  split <;> exact ⟨rfl, rfl, rfl⟩

theorem fault_keepsRun (frame cause retry : Nat) : KeepsRun s (s.fault frame cause retry) := by
  unfold State.fault
  extract_lets v
  have hv : KeepsRun s v := ⟨rfl, rfl, rfl⟩
  exact (hv.trans (.of_slots (classify_slots v ..))).trans (holdNext_keepsRun ..)

theorem postReplay_keepsRun (frame : Nat) (late : Bool) : KeepsRun s (s.postReplay frame late) := ⟨rfl, rfl, rfl⟩

theorem swapOut_keepsRun (frame site det : Nat) : KeepsRun s (s.swapOut frame site det) := by
  unfold State.swapOut
  extract_lets going _ v _ w _
  split
  · split
    · exact ⟨rfl, rfl, rfl⟩
    · have hw : KeepsRun v w := .of_slots (reqMig_slots ..)
      exact hw
  · exact fault_keepsRun ..

theorem freezeAt_keepsRun (k pc : Nat) (slot : Slot) (opc viol operation related : Nat) :
    KeepsRun s (s.freezeAt k pc slot opc viol operation related) := by
  simp only [State.freezeAt, KeepsRun, fsr_slots]
  exact ⟨rfl, rfl, rfl⟩

@[simp] theorem endHeld_slots : s.endHeld.slots = s.slots := by
  unfold State.endHeld
  extract_lets lost t
  unfold t
  split <;> rfl

@[simp] theorem dropCmd_slots (p : Bool) : (s.dropCmd p).slots = s.slots := by
  unfold State.dropCmd
  split <;> rfl

theorem cancelFlips_keepsRun : KeepsRun s s.cancelFlips := by
  unfold State.cancelFlips
  extract_lets v
  have hv : KeepsRun s v := by
    unfold v
    split <;> exact ⟨rfl, rfl, rfl⟩
  exact hv

/-- A failed attempt with nothing after it goes through SAFE as it is. -/
theorem toSafe_keepsRun (cause : Nat) (hatt : s.slots.att = none) (hended : s.slots.ended = none) :
    KeepsRun s (s.toSafe cause) := by
  have hstop : s.stopAttempt = s := by simp [State.stopAttempt, hatt]
  unfold State.toSafe
  split
  · rw [hstop]
    extract_lets v w x _ _ y z
    have hw : KeepsRun s w := by
      refine KeepsRun.trans (.of_slots ?_) (cancelFlips_keepsRun _)
      simp [v]
    have hy : KeepsRun w y := by
      have hnone : w.slots.ended = none := hw.2.1.trans hended
      refine ⟨rfl, hnone.symm, ?_⟩
      simp [y, x, hnone]
    have hz : KeepsRun y z := .of_slots (fsr_slots ..)
    refine ((hw.trans hy).trans hz).trans ?_
    split
    · exact ⟨rfl, rfl, rfl⟩
    · exact .of_slots (endHeld_slots _)
  split
  · exact .of_slots (endHeld_slots _)
  · exact ⟨rfl, rfl, rfl⟩

/-- The frame of an attempt noted as failed. -/
def frameFailed (a : Attempt) : State := { s with slots := { s.slots with failed := some a.frame, ran := a.no } }

theorem failAttempt_keepsRun (a : Attempt) (sig : Sig) (inexact late : Bool) (hatt : s.slots.att = none)
    (hended : s.slots.ended = none) : KeepsRun (frameFailed s a) (s.failAttempt a sig inexact late) := by
  unfold State.failAttempt
  extract_lets _ v _ w n first x
  have hw : KeepsRun (frameFailed s a) w := ⟨rfl, rfl, rfl⟩
  have hx : KeepsRun (frameFailed s a) x := ⟨rfl, rfl, rfl⟩
  have hxatt : x.slots.att = none := hatt
  have hxended : x.slots.ended = none := hended
  clear_value first x
  split
  · split
    · exact hw.trans (postReplay_keepsRun ..)
    · exact hw
  refine hx.trans ?_
  split
  · exact ⟨rfl, rfl, rfl⟩
  split
  · exact postReplay_keepsRun ..
  split
  · split
    · exact postReplay_keepsRun ..
    split
    · exact toSafe_keepsRun x 2 hxatt hxended
    split
    · extract_lets both y
      have hy : KeepsRun x y := foldl_keepsRun (fun _ _ => freezeAt_keepsRun ..) _ x
      exact hy.trans (fault_keepsRun ..)
    split
    · split
      · exact swapOut_keepsRun ..
      · exact fault_keepsRun ..
    · split
      · exact swapOut_keepsRun ..
      · exact fault_keepsRun ..
  · exact fault_keepsRun ..

end

@[simp] theorem discard_slots (s : State) : s.discard.slots = s.slots := by
  unfold State.discard
  extract_lets gone n t
  exact List.foldlRecOn gone _ (motive := fun t : State => t.slots = s.slots) rfl fun _ ht _ _ => ht

theorem stopAttempt_leaves (s : State) :
    s.stopAttempt.slots.att = none ∧ s.stopAttempt.slots.ended = s.slots.ended := by
  unfold State.stopAttempt
  split
  case h_1 h => exact ⟨h, rfl⟩
  case h_2 => simp

/-! ## A frame that passes (02 R45) -/

/-- The state once its open bundles are closed and TIME has come to the verdict. -/
def verdictDue (s : State) (e : Ended) : State := s.flushAll.atTime (e.boundary + 24000)

theorem verdictDue_time (s : State) (e : Ended) : e.boundary + 24000 ≤ (verdictDue s e).time := le_max_right ..

theorem keepsEntry_of_no_rollback {a : Attempt} (h : a.rollback = false) (s : State) : s.keepsEntry a = false := by
  simp [State.keepsEntry, h]

/-- A frame that passed is the last one that did, and waits for the chain (10 R289). -/
theorem passFrame_leaves (s : State) (e : Ended) (h : e.att.rollback = false) :
    (s.passFrame e).slots.passed = some e.att.frame ∧ (s.passFrame e).slots.ended = none ∧
      (s.passFrame e).slots.attempts = 0 ∧ (s.passFrame e).slots.failed = none ∧
      ∃ d ∈ (s.passFrame e).checks.done, d.att = e.att ∧ d.boundary = e.boundary := by
  unfold State.passFrame
  extract_lets f prov v d _ _ w
  clear_value v
  have hw : w.slots.passed = some e.att.frame ∧ w.slots.ended = none ∧ w.slots.attempts = 0 ∧ w.slots.failed = none ∧
      w.checks.done = v.checks.done ++ [d] := by
    simp [w, f, keepsEntry_of_no_rollback h]
  obtain ⟨hpassed, hended, hattempts, hfailed, hdone⟩ := hw
  have hd : d ∈ w.checks.done := by simp [hdone]
  split <;> exact ⟨hpassed, hended, hattempts, hfailed, d, hd, rfl, rfl⟩

section
variable {s : State} {e : Ended} (he : s.slots.ended = some e) (hpanel : s.panel = .running)
include he hpanel

theorem verdict_passes (haudit : e.audit = some true) (hreports : e.reports = []) (hroll : e.att.rollback = false) :
    answers .verdict s (fun t =>
      t.slots.passed = some e.att.frame ∧ t.slots.ended = none ∧ t.slots.attempts = 0 ∧ t.slots.failed = none ∧
      e.boundary + 24000 ≤ t.time ∧ ∃ d ∈ t.checks.done, d.att = e.att ∧ d.boundary = e.boundary) := by
  have hexec : exec .verdict s = .next ((verdictDue s e).passFrame e) := by
    simp only [exec, execVerdict, he, haudit, hpanel, hreports, keepsEntry_of_no_rollback hroll]
    rfl
  obtain ⟨hpassed, hended, hattempts, hfailed, hdone⟩ := passFrame_leaves (verdictDue s e) e hroll
  obtain ⟨-, -, htime⟩ := State.passFrame_keeps (verdictDue s e) e
  exact answers_of_exec hexec ⟨hpassed, hended, hattempts, hfailed, htime.symm ▸ verdictDue_time s e, hdone⟩

/-! ## A frame that fails (02 R50, 15 R412) -/

/-- The attempt in progress stopped; a replay among them waits behind the new one. -/
def redoDisplaced (s : State) : State :=
  let redo := match s.slots.att with | some a => if a.replay then some a else none | none => none
  let t := s.stopAttempt
  match redo with
  | some a => t.displace (framePair { kind := .replay, frame := a.frame, promoted := a.promoted
                                      two := a.promoted || a.stretched, roll := a.rollback })
  | none => t

omit he hpanel in
theorem redoDisplaced_leaves (s : State) : (redoDisplaced s).slots.att = none ∧
    (redoDisplaced s).slots.ended = s.slots.ended ∧ (redoDisplaced s).time = s.time := by
  have hstop := stopAttempt_leaves s
  obtain ⟨-, -, htime⟩ := State.stopAttempt_keeps s
  unfold redoDisplaced
  extract_lets redo t
  clear_value redo
  cases redo <;> exact ⟨hstop.1, hstop.2, htime⟩

/-- The reports of a frame whose outputs differ from those of its ledger entry, or of one as it is. -/
def verdictReports (e : Ended) (differs : Bool) : List Report :=
  if differs then e.reports ++ [({ det := 0x1F } : Report)] else e.reports

/-- The state in which a frame is failed: the difference recorded, the ended attempt taken, what follows displaced. -/
def verdictStopped (s : State) (e : Ended) (differs : Bool) : State :=
  let s := if differs then s.fsr { part := 4, det := 0x1F, frame := some e.att.frame } else s
  redoDisplaced { s with slots := { s.slots with ended := none } }

/-- The failure as the reports sign it. -/
def verdictSig (e : Ended) (reps : List Report) : Sig :=
  { pairs := pairsOf reps, cores := coresOf reps, tokensOnly := e.tokensOnly, hbm := e.hbm, stuck := [] }

omit he hpanel in
theorem verdictStopped_leaves (s : State) (e : Ended) (differs : Bool) : (verdictStopped s e differs).slots.att = none ∧
    (verdictStopped s e differs).slots.ended = none ∧ (verdictStopped s e differs).time = s.time := by
  unfold verdictStopped
  extract_lets v
  obtain ⟨hatt, hended, htime⟩ := redoDisplaced_leaves { v with slots := { v.slots with ended := none } }
  refine ⟨hatt, hended, htime.trans ?_⟩
  unfold v
  split
  · exact (State.fsr_keeps ..).2.2
  · rfl

theorem verdict_fails {ok : Bool} (haudit : e.audit = some ok) (hreports : e.reports ≠ []) :
    answers .verdict s (fun t =>
      t.slots.failed = some e.att.frame ∧ t.slots.ended = none ∧ t.slots.att = none ∧ e.boundary + 24000 ≤ t.time) := by
  obtain ⟨differs, hdiffers⟩ : ∃ d, d = ((verdictDue s e).keepsEntry e.att &&
      some ((verdictDue s e).outDigest e.att.frame) != (verdictDue s e).entryDigest e.att.frame) := ⟨_, rfl⟩
  have hreps : (ok && (verdictReports e differs).isEmpty) = false := by
    have : (verdictReports e differs).isEmpty = false := by
      unfold verdictReports
      split <;> simp [hreports]
    simp [this]
  obtain ⟨inexact, hinexact⟩ : ∃ b, b = ((verdictReports e differs).all (fun r => r.det == 0x100) && ok &&
      !(verdictReports e differs).isEmpty) := ⟨_, rfl⟩
  have hexec : exec .verdict s = .next ((verdictStopped (verdictDue s e) e differs).failAttempt e.att
      (verdictSig e (verdictReports e differs)) inexact false) := by
    unfold verdictReports at hreps hinexact
    unfold verdictDue at hdiffers
    simp only [exec, execVerdict, he, haudit, hpanel, ← hdiffers, hreps, ← hinexact]
    rfl
  obtain ⟨hatt, hended, htime⟩ := verdictStopped_leaves (verdictDue s e) e differs
  obtain ⟨katt, kended, kfailed⟩ := failAttempt_keepsRun _ e.att (verdictSig e (verdictReports e differs)) inexact false hatt hended
  obtain ⟨-, -, ktime⟩ := State.failAttempt_keeps (verdictStopped (verdictDue s e) e differs) e.att
    (verdictSig e (verdictReports e differs)) inexact false
  exact answers_of_exec hexec ⟨kfailed, kended.trans hended, katt.trans hatt,
    (ktime.trans htime).symm ▸ verdictDue_time s e⟩

end

end Sys2Proof.Proofs

end

section
/-! PROOFS. The chain, the outputs, the certificates and the notices (10 R286 to R290, 12 R359). -/

open Sys2Proof Sys2Proof.Machine Sys2Proof.Claims

namespace Sys2Proof.Proofs

/-! ## The chain (10 R286, R287) -/

/-- The frame record of a certified frame; `s` is the state at its TIME. -/
def chainRecord (s : State) (d : Done) : Bytes :=
  let final := if d.provisional then s.checks.finalFrame.getD 0 else d.att.frame
  let sum := slice d.summary 0 48 ++ bytesLE 8 final ++ bytesLE 8 s.checks.revokeSeq
  fit 48 s.chainHead ++ bytesLE 8 d.att.frame ++ s.outDigest d.att.frame ++ fit 64 sum ++ fit 64 d.ledger

/-- The chain with the record at its end. -/
def chained (s : State) (d : Done) (rest : List Done) : State :=
  let j := s.checks.entries
  let recs := s.checks.recs ++ [(j, chainRecord s d)]
  let due := decide (s.checks.certN ≤ j + 1 - s.certBase) || s.checks.onDemand
  { s with checks := { s.checks with
    done := rest, release := s.checks.release ++ [{ d with entry := j }], head := sha384 (chainRecord s d), entries := j + 1
    recs := recs.drop (recs.length - 65536)
    certDue := if due then s.checks.certDue ++ [(j, s.checks.onDemand)] else s.checks.certDue
    onDemand := if due then false else s.checks.onDemand } }

/-- A record holds the head before it, its frame and its outputs first. -/
theorem chainRecord_starts (s : State) (d : Done) :
    (fit 48 s.chainHead ++ bytesLE 8 d.att.frame ++ s.outDigest d.att.frame) <+: chainRecord s d :=
  ⟨_, (List.append_assoc ..).symm⟩

/-- A list cut at its front to a positive length keeps its last element. -/
theorem mem_drop_append_singleton {α : Type} (l : List α) (x : α) {n : Nat} (h : 0 < n) :
    x ∈ (l ++ [x]).drop ((l ++ [x]).length - n) := by
  rw [List.drop_append_of_le_length (by simp only [List.length_append, List.length_singleton]; omega)]
  simp

theorem chained_mem_recs (s : State) (d : Done) (rest : List Done) :
    (s.checks.entries, chainRecord s d) ∈ (chained s d rest).checks.recs := by
  simp only [chained]
  exact mem_drop_append_singleton s.checks.recs _ (n := 65536) (by norm_num)

/-- A higher final frame changes nothing of the chain and no core. -/
theorem advanceFinal_frame (s : State) (f : Nat) : (s.advanceFinal f).checks.done = s.checks.done ∧
    (s.advanceFinal f).checks.entries = s.checks.entries ∧ (s.advanceFinal f).checks.head = s.checks.head ∧
    (s.advanceFinal f).checks.recs = s.checks.recs ∧ (s.advanceFinal f).cores = s.cores := by
  unfold State.advanceFinal
  split_ifs <;> exact ⟨rfl, rfl, rfl, rfl, rfl⟩

theorem chainAppend_answers {s : State} {d : Done} {l : List Done} (h : s.checks.done = d :: l) :
    answers .chainAppend s (fun t =>
      t.checks.done = l ∧ t.checks.entries = s.checks.entries + 1 ∧
      (∃ rec', t.checks.head = sha384 rec' ∧ (s.checks.entries, rec') ∈ t.checks.recs ∧
        (fit 48 s.chainHead ++ bytesLE 8 d.att.frame ++ s.outDigest d.att.frame) <+: rec') ∧
      t.time = max s.time (d.boundary + 32000) ∧ sameMem s t ∧ t.cores = s.cores) := by
  obtain ⟨v, hv⟩ : ∃ v, v = s.atTime (d.boundary + 32000) := ⟨_, rfl⟩
  have hexec : exec .chainAppend s =
      .next (if d.provisional then chained v d l else (chained v d l).advanceFinal d.att.frame) := by
    subst hv
    simp only [exec, execChainAppend, h]
    rfl
  have hrec : ∃ rec', (chained v d l).checks.head = sha384 rec' ∧ (s.checks.entries, rec') ∈ (chained v d l).checks.recs ∧
      (fit 48 s.chainHead ++ bytesLE 8 d.att.frame ++ s.outDigest d.att.frame) <+: rec' := by
    subst hv
    exact ⟨chainRecord _ d, rfl, chained_mem_recs _ d l, chainRecord_starts (s.atTime (d.boundary + 32000)) d⟩
  obtain ⟨hdone, hentries, hhead, hrecs, hcores⟩ := advanceFinal_frame (chained v d l) d.att.frame
  obtain ⟨-, -, htime⟩ := State.advanceFinal_keeps (chained v d l) d.att.frame
  obtain ⟨hspad, hhbm, himem, -, -⟩ := State.advanceFinal_memSame (chained v d l) d.att.frame
  refine answers_of_exec hexec ?_
  split
  · subst hv
    exact ⟨rfl, rfl, hrec, rfl, ⟨rfl, rfl, rfl⟩, rfl⟩
  · rw [hdone, hentries, hhead, hrecs, hcores, htime, sameMem, hspad, hhbm, himem]
    subst hv
    exact ⟨rfl, rfl, hrec, rfl, ⟨rfl, rfl, rfl⟩, rfl⟩

/-! ## Outputs (10 R289) -/

/-- The outputs of a frame released; `s` is the state at its TIME. -/
def outputsReleased (s : State) (d : Done) (rest : List Done) : State :=
  let rs := s.responsesOf d
  let last := (rs.filter (fun r => r.flags / 2 % 2 == 1)).map (fun r => r.id)
  { s with
    checks := { s.checks with
      release := rest
      lastReleased := some (match s.checks.lastReleased with | some l => max l d.att.frame | none => d.att.frame) }
    fabric := { s.fabric with
      responses := s.fabric.responses ++ rs
      held := s.fabric.held.filter (fun r => !last.contains r.id) } }

section
variable {s : State} {d : Done} {l : List Done} (h : s.checks.release = d :: l)
include h

theorem outputRelease_waits (hwait : s.panel = .safe ∨ s.recovery.roll ≠ none) : exec .outputRelease s = .next s := by
  have hwait' : s.panel = .safe ∨ s.recovery.roll.isSome = true := by rwa [Option.isSome_iff_ne_none]
  simp only [exec, execOutputRelease, h, if_pos hwait']

theorem outputRelease_answers (hpanel : s.panel ≠ .safe) (hroll : s.recovery.roll = none) :
    answers .outputRelease s (fun t =>
      t.checks.release = l ∧ t.fabric.responses = s.fabric.responses ++ s.responsesOf d ∧
      (∃ f, t.checks.lastReleased = some f ∧ d.att.frame ≤ f) ∧ t.time = max s.time (d.boundary + 40000) ∧ sameMem s t) := by
  have hgo : ¬(s.panel = .safe ∨ s.recovery.roll.isSome = true) := by simp [hpanel, hroll]
  have hexec : exec .outputRelease s = .next (outputsReleased (s.atTime (d.boundary + 40000)) d l) := by
    simp only [exec, execOutputRelease, h, if_neg hgo]
    rfl
  refine answers_of_exec hexec ⟨rfl, rfl, ⟨_, rfl, ?_⟩, rfl, rfl, rfl, rfl⟩
  split
  · exact le_max_right ..
  · exact le_rfl

end

/-! ## Certificates (10 R290) -/

theorem certificateSign_answers {s : State} {n : Nat} {od : Bool} {l : List (Nat × Bool)} (h : s.checks.certDue = (n, od) :: l)
    (hhalves : s.access.halves ≠ 0) : answers .certificateSign s (fun t => (∃ f, t.checks.lastCertified = some (f, n)) ∧
      t.access.signCount = s.access.signCount + 1 ∧ t.checks.lastCert = s.certificate
        (match s.checks.lastCertified with | some c => c.2 + 1 | none => 0) n od ∧
      t.fabric.notices = s.fabric.notices ++ [(2, 0, t.checks.lastCert)] ∧ sameMem s t) := by
  have hexec : exec .certificateSign s = .next (s.signCert n od) := by
    simp only [exec, execCertificateSign, h, if_neg hhalves]
  exact answers_of_exec hexec ⟨⟨_, rfl⟩, rfl, rfl, rfl, rfl, rfl, rfl⟩

/-! ## Notices (12 R359) -/

/-- `t` holds the notices, their numbers, the cores and the memories of `s`. -/
@[simp] abbrev KeepsNotices (s t : State) : Prop :=
  t.fabric.notices = s.fabric.notices ∧ t.fabric.finalSeq = s.fabric.finalSeq ∧ t.fabric.revokeSeq = s.fabric.revokeSeq ∧
  t.fabric.certSeq = s.fabric.certSeq ∧ t.cores = s.cores ∧ sameMem s t

theorem KeepsNotices.refl (s : State) : KeepsNotices s s := ⟨rfl, rfl, rfl, rfl, rfl, rfl, rfl, rfl⟩

theorem updPort_keepsNotices (s : State) (k : Nat) (f : Port → Port) : KeepsNotices s (s.updPort k f) :=
  ⟨rfl, rfl, rfl, rfl, rfl, rfl, rfl, rfl⟩

theorem updDir_keepsNotices (s : State) (k : Nat) (f : Dir → Dir) : KeepsNotices s (s.updDir k f) :=
  ⟨rfl, rfl, rfl, rfl, rfl, rfl, rfl, rfl⟩

theorem KeepsNotices.trans {s t u : State} (h : KeepsNotices s t) (h' : KeepsNotices t u) : KeepsNotices s u := by
  obtain ⟨hn, hf, hr, hc, hcores, hspad, hhbm, himem⟩ := h
  obtain ⟨hn', hf', hr', hc', hcores', hspad', hhbm', himem'⟩ := h'
  exact ⟨hn'.trans hn, hf'.trans hf, hr'.trans hr, hc'.trans hc, hcores'.trans hcores, hspad'.trans hspad,
    hhbm'.trans hhbm, himem'.trans himem⟩

theorem portPump_keepsNotices (s : State) (port : Nat) : KeepsNotices s (s.portPump port) := by
  unfold State.portPump
  extract_lets _ _ _ _ r
  clear_value r
  split
  · exact .refl s
  · exact (updPort_keepsNotices ..).trans (updDir_keepsNotices ..)

theorem queueFrame_keepsNotices (s : State) (port : Nat) (f : GlpFrame) : KeepsNotices s (s.queueFrame port f) := by
  unfold State.queueFrame
  exact (updPort_keepsNotices ..).trans (portPump_keepsNotices ..)

theorem glpDiscard_keepsNotices (s : State) (n : Nat) : KeepsNotices s (s.glpDiscard n) :=
  ⟨rfl, rfl, rfl, rfl, rfl, rfl, rfl, rfl⟩

/-- A packet of the panel is queued at a port or discarded; no notice is touched. -/
theorem forward_keepsNotices (s : State) (f : GlpFrame) (came : Option Nat) : KeepsNotices s (s.forward f came) := by
  unfold State.forward
  split
  · exact .refl s
  extract_lets g
  split
  · split
    · exact queueFrame_keepsNotices ..
    · exact glpDiscard_keepsNotices ..
  · exact glpDiscard_keepsNotices ..

theorem glpSend_keepsNotices (s : State) (g : GlpSpec) : KeepsNotices s (s.glpSend g) := by
  unfold State.glpSend
  split
  · exact .refl s
  · exact forward_keepsNotices ..

theorem toHost_keepsNotices (s : State) (op arg sess tag : Nat) (payload : Bytes) :
    KeepsNotices s (s.toHost op arg sess tag payload) := by
  unfold State.toHost
  extract_lets g
  split
  · split
    · exact updPort_keepsNotices ..
    · exact .refl s
  · exact glpSend_keepsNotices ..

section
variable {s : State} {kind op : Nat}

theorem sendNotice_of_none (h : s.fabric.notices.find? (fun n => n.1 == kind) = none) : s.sendNotice kind op = s := by
  rw [State.sendNotice, h]

/-- The oldest notice of a kind leaves; where a destination is set it takes the next number of its kind. -/
theorem sendNotice_of_some {n : Nat × Nat × Bytes} (h : s.fabric.notices.find? (fun n => n.1 == kind) = some n) :
    (s.sendNotice kind op).fabric.notices = s.fabric.notices.erase n ∧ sameMem s (s.sendNotice kind op) ∧
    (s.sendNotice kind op).cores = s.cores ∧
    (kind = 0 → (s.sendNotice kind op).fabric.finalSeq =
      if (s.octets Obj.NOTICE_DEST).all (fun b => b == 0) then s.fabric.finalSeq else s.fabric.finalSeq + 1) ∧
    (kind = 1 → (s.sendNotice kind op).fabric.revokeSeq =
      if (s.octets Obj.NOTICE_DEST).all (fun b => b == 0) then s.fabric.revokeSeq else s.fabric.revokeSeq + 1) ∧
    (kind = 2 → (s.sendNotice kind op).fabric.certSeq =
      if (s.octets Obj.NOTICE_DEST).all (fun b => b == 0) then s.fabric.certSeq else s.fabric.certSeq + 1) := by
  obtain ⟨v, hv⟩ : ∃ v : State, v = { s with fabric := { s.fabric with notices := s.fabric.notices.erase n } } := ⟨_, rfl⟩
  have hdest : v.octets Obj.NOTICE_DEST = s.octets Obj.NOTICE_DEST := by rw [hv]; rfl
  have hv' : v.fabric.notices = s.fabric.notices.erase n ∧ v.fabric.finalSeq = s.fabric.finalSeq ∧
      v.fabric.revokeSeq = s.fabric.revokeSeq ∧ v.fabric.certSeq = s.fabric.certSeq ∧ v.cores = s.cores ∧ sameMem s v := by
    rw [hv]
    exact ⟨rfl, rfl, rfl, rfl, rfl, rfl, rfl, rfl⟩
  obtain ⟨hnotices, hfinal, hrevoke, hcert, hcores, hmem⟩ := hv'
  simp only [State.sendNotice, h, ← hv, hdest]
  clear hv
  split
  · exact ⟨hnotices, hmem, hcores, fun _ => hfinal, fun _ => hrevoke, fun _ => hcert⟩
  · generalize hseq : 1 + (if kind = 0 then s.fabric.finalSeq
        else if kind = 1 then s.fabric.revokeSeq else s.fabric.certSeq) = seq
    obtain ⟨tnotices, -, -, -, tcores, tspad, thbm, timem⟩ := toHost_keepsNotices v op seq 0 0 n.2.2
    refine ⟨tnotices.trans hnotices, ?_, tcores.trans hcores, ?_, ?_, ?_⟩
    · exact ⟨tspad.trans hmem.1, thbm.trans hmem.2.1, timem.trans hmem.2.2⟩
    all_goals
      rintro rfl
      simp [← hseq, Nat.add_comm]

end

theorem notice_answers (c : Instr) (kind : Nat) (q : Fabric → Nat) (hc : (c = .noticeFinal ∧ kind = 0 ∧ q = fun f => f.finalSeq) ∨
      (c = .noticeRevoke ∧ kind = 1 ∧ q = fun f => f.revokeSeq) ∨ (c = .noticeCert ∧ kind = 2 ∧ q = fun f => f.certSeq))
    (s : State) : (s.fabric.notices.find? (fun n => n.1 == kind) = none → exec c s = .next s) ∧
      (∀ n, s.fabric.notices.find? (fun n => n.1 == kind) = some n → answers c s (fun t =>
        t.fabric.notices = s.fabric.notices.erase n ∧ sameMem s t ∧ t.cores = s.cores ∧
        q t.fabric = if (s.octets Obj.NOTICE_DEST).all (fun b => b == 0) then q s.fabric else q s.fabric + 1)) := by
  have hexec : ∃ op, exec c s = .next (s.sendNotice kind op) := by
    obtain ⟨rfl, rfl, -⟩ | ⟨rfl, rfl, -⟩ | ⟨rfl, rfl, -⟩ := hc <;> exact ⟨_, rfl⟩
  obtain ⟨op, hexec⟩ := hexec
  refine ⟨fun h => hexec.trans (congrArg _ (sendNotice_of_none h)), fun n h => ?_⟩
  obtain ⟨hnotices, hmem, hcores, hfinal, hrevoke, hcert⟩ := sendNotice_of_some (op := op) h
  refine answers_of_exec hexec ⟨hnotices, hmem, hcores, ?_⟩
  obtain ⟨-, hkind, rfl⟩ | ⟨-, hkind, rfl⟩ | ⟨-, hkind, rfl⟩ := hc
  · exact hfinal hkind
  · exact hrevoke hkind
  · exact hcert hkind

/-- Settles O37: the audit, the verdict, the chain, the outputs, the certificates and the notices one after the other. -/
theorem auditToNotice : Obligations.audit_to_notice := by
  unfold Obligations.audit_to_notice
  refine ⟨fun s n err0 err15 h => audit_answers h err0 err15, ?_, fun s d l h => chainAppend_answers h, ?_, ?_, notice_answers⟩
  · exact fun s e he hpanel => ⟨verdict_passes he hpanel, fun ok => verdict_fails he hpanel⟩
  · exact fun s d l h => ⟨outputRelease_waits h, outputRelease_answers h⟩
  · intro s n od l h
    refine ⟨fun hhalves => ?_, certificateSign_answers h⟩
    simp only [exec, execCertificateSign, h, if_pos hhalves]

end Sys2Proof.Proofs

end

section
/-! PROOFS. Route flips (09 R251, R252) and what a flip leaves of the maps and memories. -/

open Sys2Proof Sys2Proof.Machine Sys2Proof.Claims

namespace Sys2Proof.Proofs

/-! ## The announcement of a flip (09 R251) -/

/-- The first boundary from a count on is a multiple of P less than P beyond it. -/
theorem boundary_spec {P : Nat} (hP : 0 < P) (c : Nat) :
    (c + P - 1) / P * P % P = 0 ∧ c ≤ (c + P - 1) / P * P ∧ (c + P - 1) / P * P < c + P := by
  have hdiv := Nat.div_add_mod (c + P - 1) P
  have hmod := Nat.mod_lt (c + P - 1) hP
  rw [Nat.mul_comm] at hdiv
  exact ⟨Nat.mul_mod_left .., by omega, by omega⟩

theorem flipCount_eq (s : State) (count : Nat) :
    s.flipCount count = if s.recovery.roll = none then count else s.time + 2 * s.period := by
  unfold State.flipCount
  cases s.recovery.roll <;> rfl

/-- The flip announced for the first boundary from `at'` on, with the version as it was written. -/
def flipAnnounced (s : State) (at' : Nat) : State :=
  let v := s.writeRoute (fun _ => s.written)
  { v with net := { v.net with invState := 2, flipAt := (at' + s.period - 1) / s.period * s.period, writes := [] } }

section
variable {s : State} {count at' : Nat} (hat : at' = if s.recovery.roll = none then count else s.time + 2 * s.period)
include hat

theorem routeFlipAnnounce_announces (hP : 0 < s.period) (hinv : s.net.invState = 1) (hagree : s.hubsAgree = true)
    (hquench : s.thermal.quench = none) (hfar : s.time + 2 * s.period ≤ at') :
    answers (.routeFlipAnnounce count) s (fun t =>
      t.net.invState = 2 ∧ t.net.writes = [] ∧
      t.net.flipAt % s.period = 0 ∧ at' ≤ t.net.flipAt ∧ t.net.flipAt < at' + s.period ∧
      sameMem s t ∧ t.cores = s.cores) := by
  obtain ⟨hmul, hle, hlt⟩ := boundary_spec hP at'
  rw [← flipCount_eq] at hat
  have hexec : exec (.routeFlipAnnounce count) s = .next (flipAnnounced s at') := by
    simp only [exec, execRouteFlipAnnounce, hinv, hagree, hquench, ← hat, hfar]
    rfl
  exact answers_of_exec hexec ⟨rfl, rfl, hmul, hle, hlt, ⟨rfl, rfl, rfl⟩, rfl⟩

omit hat in
theorem routeFlipAnnounce_busy (hinv : 2 ≤ s.net.invState) : answers (.routeFlipAnnounce count) s (fun t =>
    t.num Obj.ROUTE_FLIPS_REFUSED = s.num Obj.ROUTE_FLIPS_REFUSED + 1 ∧ t.net = s.net ∧ sameMem s t ∧ t.cores = s.cores) :=
  answers_of_exec (by simp only [exec, execRouteFlipAnnounce, if_pos hinv])
    ⟨State.num_count_same .., rfl, ⟨rfl, rfl, rfl⟩, rfl⟩

theorem routeFlipAnnounce_waits (h : s.net.invState = 0 ∨ (s.net.invState = 1 ∧
      (s.hubsAgree = false ∨ s.thermal.quench ≠ none ∨ at' < s.time + 2 * s.period))) :
    exec (.routeFlipAnnounce count) s = .next s := by
  rw [← flipCount_eq] at hat
  have hfree : ¬2 ≤ s.net.invState := by omega
  have hno : ¬(s.net.invState == 1 && s.hubsAgree && s.thermal.quench.isNone &&
      decide (s.time + 2 * s.period ≤ s.flipCount count)) = true := by
    simp only [Bool.and_eq_true, beq_iff_eq, Option.isNone_iff_eq_none, decide_eq_true_eq, ← hat]
    rintro ⟨⟨⟨hinv, hagree⟩, hquench⟩, hfar⟩
    obtain h0 | ⟨-, hdis | hq | hnear⟩ := h
    · omega
    · simp [hagree] at hdis
    · exact hq hquench
    · omega
  simp only [exec, execRouteFlipAnnounce, if_neg hfree, if_neg hno]

end

/-! ## What the moves of a flip leave unchanged (15 R418) -/

/-- The network, HBM, instruction memories and the count of flips of `t` are those of `s`. -/
@[simp] abbrev KeepsMaps (s t : State) : Prop :=
  t.net = s.net ∧ t.hbm = s.hbm ∧ t.imem = s.imem ∧ t.num Obj.ROUTE_FLIP_COUNT = s.num Obj.ROUTE_FLIP_COUNT

theorem KeepsMaps.refl (s : State) : KeepsMaps s s := ⟨rfl, rfl, rfl, rfl⟩

theorem KeepsMaps.trans {s t u : State} (h : KeepsMaps s t) (h' : KeepsMaps t u) : KeepsMaps s u := by
  simp [h, h']

theorem KeepsMaps.of_od {s t : State} (hnet : t.net = s.net) (hhbm : t.hbm = s.hbm) (himem : t.imem = s.imem)
    (hod : t.od = s.od) : KeepsMaps s t := ⟨hnet, hhbm, himem, num_of_od hod _⟩

theorem foldl_keepsMaps {α : Type} {f : State → α → State} (h : ∀ s x, KeepsMaps s (f s x)) (l : List α) (s : State) :
    KeepsMaps s (l.foldl f s) :=
  List.foldlRecOn l f (motive := KeepsMaps s) (.refl s) fun t ht x _ => ht.trans (h t x)

section
variable (s : State)

theorem setHashing_keepsMaps (site : Nat) (h : Bool) : KeepsMaps s (s.setHashing site h) := by
  unfold State.setHashing
  split
  · exact .refl s
  · exact .of_od rfl rfl rfl rfl

theorem updDie_keepsMaps (site : Nat) (f : Die → Die) : KeepsMaps s (s.updDie site f) := .of_od rfl rfl rfl rfl

theorem clearCores_keepsMaps (site : Nat) : KeepsMaps s (s.clearCores site) := .of_od rfl rfl rfl rfl

theorem count_keepsMaps {k : Nat} (h : Obj.ROUTE_FLIP_COUNT ≠ k) : KeepsMaps s (s.count k) :=
  ⟨rfl, rfl, rfl, State.num_count_other _ _ h⟩

theorem leave_keepsMaps (site : Nat) : KeepsMaps s (s.leave site) := by
  unfold State.leave
  extract_lets d fr st v w
  have hv : KeepsMaps s v := by
    unfold v
    split
    · exact .refl s
    · exact clearCores_keepsMaps ..
  have hw : KeepsMaps v w := by
    unfold w
    split
    · exact .refl v
    · exact (setHashing_keepsMaps ..).trans (updDie_keepsMaps ..)
  exact (hv.trans hw).trans (updDie_keepsMaps ..)

theorem startRoll_keepsMaps (vd : Nat) (att : Option Nat) : KeepsMaps s (s.startRoll vd att) := by
  have hcount : KeepsMaps s (s.count Obj.ROLLBACK_COUNT) := count_keepsMaps s (by decide)
  exact hcount.trans (.of_od rfl rfl rfl rfl)

theorem countMig_keepsMaps (prio : Nat) : KeepsMaps s (s.countMig prio) := by
  have hcount : KeepsMaps s (s.count Obj.MIGRATIONS) := count_keepsMaps s (by decide)
  refine hcount.trans ?_
  unfold State.countMig
  extract_lets v
  split
  · exact count_keepsMaps _ (by decide)
  split
  · exact count_keepsMaps _ (by decide)
  · exact .refl _

theorem moveVd_keepsMaps (m : Nat × Nat × Nat) : KeepsMaps s (s.moveVd m) := by
  unfold State.moveVd
  extract_lets _ _ _ _ _ _ t _ u _ _ y
  have ht : KeepsMaps s t := by
    unfold t
    split
    · exact (leave_keepsMaps ..).trans (updDie_keepsMaps ..)
    · exact .refl s
  have hu : KeepsMaps t u := by
    unfold u
    split
    · exact .of_od rfl rfl rfl rfl
    · exact .refl t
  refine (ht.trans hu).trans ?_
  split
  · exact .refl u
  split
  · exact startRoll_keepsMaps ..
  have hy : KeepsMaps u y := (clearCores_keepsMaps ..).trans ((updDie_keepsMaps ..).trans (updDie_keepsMaps ..))
  split
  · exact hy
  · exact hy.trans (countMig_keepsMaps ..)

end

/-! ## The flip (09 R251) -/

/-- The flip counted, and the recovery it belongs to. -/
def flipCounted (s : State) : State :=
  let s := s.count Obj.ROUTE_FLIP_COUNT
  { s with
    recovery := { s.recovery with roll := s.recovery.roll.map (fun (r : Rollback) =>
      if r.ready then { r with flipped := true, entered := s.slots.kind == SlotKind.blank } else r) } }

/-- The other version active, no migration left, and the flits of the old epoch counted. -/
def flipTurned (s : State) : State :=
  let s := { s with
    net := { s.net with epochB := !s.net.epochB, invState := 3, flipAt := 0, flipDue := false }
    recovery := { s.recovery with migs := [] } }
  let epoch : Byte := if s.net.epochB then 1 else 0
  let s := { s with
    net := { s.net with undrained := s.oldSites }
    slots := { s.slots with snap := s.slots.snap.map (fun (n : Snap) =>
      { n with summary := slice n.summary 0 34 ++ [epoch] ++ slice n.summary 35 29 }) } }
  s.foldEpoch

/-- The service points of the virtual dies that moved. -/
def flipServices (s : State) (mv : List (Nat × Nat × Nat)) : State :=
  match s.slots.att, s.prog with
  | some _, some p => p.services.pts.foldl (fun s t =>
      if mv.any (fun m => m.1 == vdOf s.gridW t.1) then
        match s.coreOf s.net.epochB t.1 with
        | some k => s.updCore k (fun c => c.incAc t.2.2)
        | none => s
      else s) s
  | _, _ => s

theorem exec_routeFlip {s : State} (hdue : s.net.flipDue = true) : exec .routeFlip s =
    .next (flipServices (flipTurned (s.flipMoves.foldl (fun s m => s.moveVd m) (flipCounted s))) s.flipMoves) := by
  simp only [exec, execRouteFlip, hdue]
  rfl

theorem flipCounted_leaves (s : State) : (flipCounted s).net = s.net ∧ (flipCounted s).hbm = s.hbm ∧
    (flipCounted s).imem = s.imem ∧ (flipCounted s).num Obj.ROUTE_FLIP_COUNT = s.num Obj.ROUTE_FLIP_COUNT + 1 :=
  ⟨rfl, rfl, rfl, State.num_count_same s Obj.ROUTE_FLIP_COUNT 1⟩

/-- The inactive version is free once no flit of the old epoch is left. -/
theorem flipTurned_invState (s : State) :
    (flipTurned s).net.invState = if (flipTurned s).net.oldFlits = 0 then 0 else 3 := by
  simp only [flipTurned, State.foldEpoch, true_and]

theorem flipTurned_leaves (s : State) : (flipTurned s).net.epochB = (!s.net.epochB) ∧ (flipTurned s).net.flipDue = false ∧
    (flipTurned s).recovery.migs = [] ∧ (flipTurned s).net.a = s.net.a ∧ (flipTurned s).net.b = s.net.b ∧
    (flipTurned s).od = s.od ∧ (flipTurned s).hbm = s.hbm ∧ (flipTurned s).imem = s.imem :=
  ⟨rfl, rfl, rfl, rfl, rfl, rfl, rfl, rfl⟩

/-- Service points are counters of cores. -/
theorem flipServices_leaves (s : State) (mv : List (Nat × Nat × Nat)) : (flipServices s mv).net = s.net ∧
    (flipServices s mv).recovery = s.recovery ∧ (flipServices s mv).od = s.od ∧ (flipServices s mv).hbm = s.hbm ∧
    (flipServices s mv).imem = s.imem := by
  unfold flipServices
  split
  case h_1 =>
    refine List.foldlRecOn _ _ (motive := fun t : State => t.net = s.net ∧ t.recovery = s.recovery ∧ t.od = s.od ∧
      t.hbm = s.hbm ∧ t.imem = s.imem) ⟨rfl, rfl, rfl, rfl, rfl⟩ fun t ht x _ => ?_
    split
    · split <;> exact ht
    · exact ht
  case h_2 => exact ⟨rfl, rfl, rfl, rfl, rfl⟩

theorem routeFlip_turns {s : State} (hdue : s.net.flipDue = true) : answers .routeFlip s (fun t =>
    t.net.epochB = (!s.net.epochB) ∧ t.net.invState = (if t.net.oldFlits = 0 then 0 else 3) ∧
    t.net.flipDue = false ∧ t.recovery.migs = [] ∧ t.net.a = s.net.a ∧ t.net.b = s.net.b ∧
    t.num Obj.ROUTE_FLIP_COUNT = s.num Obj.ROUTE_FLIP_COUNT + 1 ∧ t.hbm = s.hbm ∧ t.imem = s.imem) := by
  have hexec := exec_routeFlip hdue
  obtain ⟨cnet, chbm, cimem, cnum⟩ := flipCounted_leaves s
  obtain ⟨mnet, mhbm, mimem, mnum⟩ := foldl_keepsMaps (f := fun s m => s.moveVd m) moveVd_keepsMaps s.flipMoves (flipCounted s)
  generalize s.flipMoves.foldl (fun s m => s.moveVd m) (flipCounted s) = v at hexec mnet mhbm mimem mnum
  have hinv := flipTurned_invState v
  obtain ⟨tepoch, tdue, tmigs, ta, tb, tod, thbm, timem⟩ := flipTurned_leaves v
  generalize flipTurned v = w at hexec hinv tepoch tdue tmigs ta tb tod thbm timem
  obtain ⟨snet, srec, sod, shbm, simem⟩ := flipServices_leaves w s.flipMoves
  refine answers_of_exec hexec ?_
  rw [snet, srec, shbm, simem, num_of_od (sod.trans tod), mnum, cnum, tepoch, tdue, tmigs, ta, tb, thbm, timem, mnet, mhbm,
    mimem, cnet, chbm, cimem]
  exact ⟨rfl, hinv, rfl, rfl, rfl, rfl, rfl, rfl, rfl⟩

/-! ## The drained word (09 R252) -/

theorem drainedWord_answers (s : State) {site : Nat} (hsite : site < 144) : answers (.drainedWord site) s (fun t =>
    (∀ i, i ∈ t.net.undrained ↔ i ∈ s.net.undrained ∧ (i = site → site ∈ s.oldSites)) ∧ sameMem s t ∧ t.cores = s.cores) := by
  refine answers_of_exec (onPart_next (decide_eq_true hsite) _) ?_
  split
  next h =>
    simp only [Bool.and_eq_true, Bool.not_eq_true', List.contains_eq_mem, decide_eq_true_eq,
      decide_eq_false_iff_not] at h
    refine ⟨fun i => ?_, ⟨rfl, rfl, rfl⟩, rfl⟩
    simp [h.2]
  next h =>
    refine ⟨fun i => ⟨fun hi => ⟨hi, ?_⟩, And.left⟩, ⟨rfl, rfl, rfl⟩, rfl⟩
    rintro rfl
    simpa [hi] using h

end Sys2Proof.Proofs

end

section
/-! PROOFS. Migrations: the copy, the cancelled flip, retries (15 R418, 09 R258). -/

open Sys2Proof Sys2Proof.Machine Sys2Proof.Claims

namespace Sys2Proof.Proofs

/-! ## What a copy leaves (15 R418) -/

/-- The migrations of a virtual die changed. -/
def migsOf (s : State) (vd : Nat) (f : Mig → Mig) : State :=
  { s with recovery := { s.recovery with migs := s.recovery.migs.map (fun x => if x.vd = vd then f x else x) } }

theorem mem_migsOf {s : State} {vd : Nat} {f : Mig → Mig} {x : Mig}
    (hx : x ∈ (migsOf s vd f).recovery.migs) (hvd : x.vd = vd) : ∃ m, x = f m := by
  obtain ⟨m, -, rfl⟩ := List.mem_map.mp hx
  by_cases hm : m.vd = vd
  · exact ⟨m, by rw [if_pos hm]⟩
  · rw [if_neg hm] at hvd
    exact absurd hvd hm

theorem length_migsOf (s : State) (vd : Nat) (f : Mig → Mig) :
    (migsOf s vd f).recovery.migs.length = s.recovery.migs.length := List.length_map ..

/-- A copy of scratchpads touches the pairs of the target's die and its scratchpads. -/
theorem copySpads_leaves (s : State) (src dst vd : Nat) : (s.copySpads src dst vd).hbm = s.hbm ∧
    (s.copySpads src dst vd).imem = s.imem ∧ (s.copySpads src dst vd).cores = s.cores ∧
    (s.copySpads src dst vd).recovery = s.recovery ∧ (s.copySpads src dst vd).bringup = s.bringup ∧
    ((s.copySpads src dst vd).die dst).field = (s.die dst).field := by
  unfold State.copySpads
  extract_lets v
  have hv : (v.die dst).field = (s.die dst).field := by simp [v]
  exact List.foldlRecOn _ _ (motive := fun t : State => t.hbm = s.hbm ∧ t.imem = s.imem ∧ t.cores = s.cores ∧
    t.recovery = s.recovery ∧ t.bringup = s.bringup ∧ (t.die dst).field = (s.die dst).field)
    ⟨rfl, rfl, rfl, rfl, rfl, hv⟩ fun _ ht _ _ => ht

/-! ## What a cancelled flip leaves (15 R418) -/

theorem unswap_leaves (s : State) (src : Nat) : (s.unswap src).net = s.net ∧ (s.unswap src).od = s.od ∧
    (s.unswap src).recovery.migs = s.recovery.migs ∧ (s.unswap src).cores = s.cores := by
  unfold State.unswap
  split
  · split <;> exact ⟨rfl, rfl, rfl, rfl⟩
  · exact ⟨rfl, rfl, rfl, rfl⟩

theorem reqMig_leaves (s : State) (site prio : Nat) : (s.reqMig site prio).net = s.net ∧ (s.reqMig site prio).od = s.od ∧
    (s.reqMig site prio).recovery.migs = s.recovery.migs ∧ (s.reqMig site prio).cores = s.cores := by
  unfold State.reqMig
  split <;> exact ⟨rfl, rfl, rfl, rfl⟩

/-- No migration and no announced flip; the migrations counted. -/
def migsDropped (s : State) : State :=
  let s := s.count Obj.MIGRATIONS_CANCELLED s.recovery.migs.length
  { s with
    recovery := { s.recovery with migs := [] }
    net := { s.net with invState := if s.net.invState = 2 then 1 else s.net.invState, flipAt := 0, flipDue := false }
    slots := { s.slots with stretchEnd := none } }

/-- What is requested again leaves the flip and the migrations cancelled. -/
theorem cancelMigs_leaves (s : State) : s.cancelMigs.net = (migsDropped s).net ∧ s.cancelMigs.od = (migsDropped s).od ∧
    s.cancelMigs.recovery.migs = [] ∧ s.cancelMigs.cores = s.cores := by
  have hcancel : s.cancelMigs =
      s.recovery.migs.foldl (fun s m => (s.reqMig m.src m.prio).unswap m.src) (migsDropped s) := rfl
  rw [hcancel]
  refine List.foldlRecOn _ _ (motive := fun t : State => t.net = (migsDropped s).net ∧ t.od = (migsDropped s).od ∧
    t.recovery.migs = [] ∧ t.cores = s.cores) ⟨rfl, rfl, rfl, rfl⟩ fun t ht x _ => ?_
  obtain ⟨hnet, hod, hmigs, hcores⟩ := ht
  obtain ⟨rnet, rod, rmigs, rcores⟩ := reqMig_leaves t x.src x.prio
  obtain ⟨unet, uod, umigs, ucores⟩ := unswap_leaves (t.reqMig x.src x.prio) x.src
  exact ⟨(unet.trans rnet).trans hnet, (uod.trans rod).trans hod, (umigs.trans rmigs).trans hmigs,
    (ucores.trans rcores).trans hcores⟩

/-! ## The copy and the cancelled flip of a migration (15 R418) -/

section
variable {s : State} {vd : Nat} {m : Mig} (hm : s.recovery.migs.find? (fun m => m.vd == vd) = some m)
  (hblank : s.slots.kind = .blank) (hcopied : m.copied = false) (hload : m.fromLoad = false)
include hm hblank hcopied hload

section
variable (hdrained : m.src ∉ s.net.undrained) (hquench : s.thermal.quench = none)
include hdrained hquench

theorem migrationCopy_matches (htries : m.tries < 2) : answers (.migrationCopy vd true) s (fun t =>
    (∀ x ∈ t.recovery.migs, x.vd = vd → x.copied = true) ∧ t.recovery.migs.length = s.recovery.migs.length ∧
    t.spad = (s.copySpads m.src m.dst vd).spad ∧ t.hbm = s.hbm ∧ t.imem = s.imem ∧ t.cores = s.cores) := by
  have hexec : exec (.migrationCopy vd true) s =
      .next (migsOf (s.copySpads m.src m.dst vd) vd (fun x => { x with copied := true })) := by
    simp [exec, execMigrationCopy, hm, hblank, hcopied, hload, hdrained, hquench, Nat.not_le.mpr htries, migsOf]
  obtain ⟨hhbm, himem, hcores, hrec, -, -⟩ := copySpads_leaves s m.src m.dst vd
  generalize s.copySpads m.src m.dst vd = v at hexec hhbm himem hcores hrec
  refine answers_of_exec hexec ⟨fun x hx hvd => ?_, ?_, rfl, hhbm, himem, hcores⟩
  · obtain ⟨y, rfl⟩ := mem_migsOf hx hvd
    rfl
  · rw [length_migsOf, hrec]

/-- The second mismatch gives the target a field entry. -/
theorem migrationCopy_differs_again (htries : m.tries = 1) : answers (.migrationCopy vd false) s (fun t =>
    (∀ x ∈ t.recovery.migs, x.vd = vd → 0 < x.tries) ∧
    ((s.die m.dst).field.length < 4 → (t.die m.dst).field.length = (s.die m.dst).field.length + 1) ∧
    t.bringup.mapSeq = s.bringup.mapSeq + 1) := by
  have hexec : exec (.migrationCopy vd false) s =
      .next (((migsOf (s.copySpads m.src m.dst vd) vd (fun x => { x with tries := x.tries + 1 })).updDie m.dst
        (fun d => d.fieldEntry 0 0 0xFF 0xFF)).mapWrite) := by
    simp [exec, execMigrationCopy, hm, hblank, hcopied, hload, hdrained, hquench, htries, migsOf]
  obtain ⟨-, -, -, -, hbringup, hfield⟩ := copySpads_leaves s m.src m.dst vd
  generalize s.copySpads m.src m.dst vd = v at hexec hbringup hfield
  refine answers_of_exec hexec ⟨fun x hx hvd => ?_, fun hlen => ?_, ?_⟩
  · obtain ⟨y, rfl⟩ := mem_migsOf hx hvd
    exact Nat.succ_pos _
  · have hdie (t : State) : ((t.updDie m.dst (fun d => d.fieldEntry 0 0 0xFF 0xFF)).mapWrite.die m.dst).field =
        ((t.die m.dst).field ++ [(0, 0, 0xFF, 0xFF)]).take 4 :=
      congrArg Die.field (State.die_updDie_same t m.dst (fun d => d.fieldEntry 0 0 0xFF 0xFF))
    have hsame (f : Mig → Mig) : ((migsOf v vd f).die m.dst).field = (s.die m.dst).field := hfield
    rw [hdie, hsame, List.length_take, List.length_append, List.length_singleton]
    omega
  · exact congrArg (fun b : Bringup => b.mapSeq + 1) hbringup

end

theorem migrationCancel_answers : answers (.migrationCancel vd) s (fun t =>
    t.recovery.migs = [] ∧ t.net.flipDue = false ∧ t.net.flipAt = 0 ∧
    t.num Obj.MIGRATIONS_CANCELLED = s.num Obj.MIGRATIONS_CANCELLED + s.recovery.migs.length ∧
    t.time = max s.time (s.tickOf (s.slots.slot + 1) - 10000) ∧ sameMem s t ∧ t.cores = s.cores) := by
  have hexec : exec (.migrationCancel vd) s = .next (s.atTime (s.tickOf (s.slots.slot + 1) - 10000)).cancelMigs := by
    simp [exec, execMigrationCancel, hm, hblank, hcopied, hload]
  generalize hv : s.atTime (s.tickOf (s.slots.slot + 1) - 10000) = v at hexec
  obtain ⟨hnet, hod, hmigs, hcores⟩ := cancelMigs_leaves v
  obtain ⟨-, -, htime⟩ := State.cancelMigs_keeps v
  obtain ⟨hspad, hhbm, himem, -, -⟩ := State.cancelMigs_memSame v
  have hnum : v.cancelMigs.num Obj.MIGRATIONS_CANCELLED = v.num Obj.MIGRATIONS_CANCELLED + v.recovery.migs.length :=
    (num_of_od hod _).trans (State.num_count_same ..)
  refine answers_of_exec hexec ⟨hmigs, by rw [hnet]; rfl, by rw [hnet]; rfl, hnum.trans ?_, htime.trans ?_,
    ⟨hspad.trans ?_, hhbm.trans ?_, himem.trans ?_⟩, hcores.trans ?_⟩
  all_goals
    rw [← hv]
    rfl

end

/-! ## Retries (09 R258) -/

theorem linkRetry_answers (s : State) {site : Nat} (ns : Nat) (hsite : site < 144) :
    answers (.linkRetry (.dieToHub site) ns) s (fun t =>
      t.num Obj.D2D_RETRIES = s.num Obj.D2D_RETRIES + 1 ∧ (t.die site).stallNs = (s.die site).stallNs + ns ∧
      sameMem s t ∧ t.cores = s.cores) :=
  answers_of_exec (onPart_next (decide_eq_true hsite) _)
    ⟨State.num_count_same s Obj.D2D_RETRIES 1, congrArg Die.stallNs (State.die_updDie_same ..), ⟨rfl, rfl, rfl⟩, rfl⟩

/-- Settles O42: the announcement, the flip, the drained word, the copies of a migration, the cancelled flip, a retry. -/
theorem flipsMigrations : Obligations.flips_migrations := by
  unfold Obligations.flips_migrations
  refine ⟨fun s count at' hP hat => ?_, fun s => ⟨fun hdue => ?_, routeFlip_turns⟩, fun s site => drainedWord_answers s, ?_,
    fun s site ns => linkRetry_answers s ns⟩
  · exact ⟨routeFlipAnnounce_announces hat hP, routeFlipAnnounce_busy, routeFlipAnnounce_waits hat⟩
  · simp [exec, execRouteFlip, hdue]
  · intro s vd m hm hblank hcopied hload
    exact ⟨migrationCopy_matches hm hblank hcopied hload, migrationCopy_differs_again hm hblank hcopied hload,
      migrationCancel_answers hm hblank hcopied hload⟩

end Sys2Proof.Proofs

end

section
/-! PROOFS. FAULT words and the words of a sync link (09 R257, 15 R420, R423). -/

open Sys2Proof Sys2Proof.Machine Sys2Proof.Claims

namespace Sys2Proof.Proofs

/-! ## The attempt stopped (15 R420) -/

/-- Destroying at interfaces counts in the ledger alone. -/
theorem foldl_ledDestroy_leaves (l : List Flying) (i cat v : State → Flying → Nat) (s : State) :
    (l.foldl (fun s x => s.ledDestroy (i s x) (i s x) (cat s x) (v s x)) s).net.discards = s.net.discards ∧
    (l.foldl (fun s x => s.ledDestroy (i s x) (i s x) (cat s x) (v s x)) s).cores = s.cores ∧
    (l.foldl (fun s x => s.ledDestroy (i s x) (i s x) (cat s x) (v s x)) s).od = s.od :=
  List.foldlRecOn l _ (motive := fun t : State => t.net.discards = s.net.discards ∧ t.cores = s.cores ∧ t.od = s.od)
    ⟨rfl, rfl, rfl⟩ fun _ ht _ _ => ht

/-- The traffic of the attempt is gone, and counted as discarded. -/
theorem discard_leaves (s : State) : (∀ x ∈ s.discard.net.flight, ofAttempt x.pkt = false) ∧
    s.net.discards ≤ s.discard.net.discards ∧ s.discard.cores = s.cores ∧ s.discard.od = s.od := by
  unfold State.discard
  extract_lets gone n v
  obtain ⟨hdiscards, hcores, hod⟩ := foldl_ledDestroy_leaves gone (fun s x => s.srcIf (pktH x.pkt))
    (fun _ x => flitCat x.pkt) (fun _ x => x.flits) s
  refine ⟨fun x hx => ?_, hdiscards.symm.trans_le (Nat.le_add_right _ _), hcores, hod⟩
  simpa using (List.mem_filter.mp hx).2

theorem stopAttempt_of_some {s : State} {a : Attempt} (h : s.slots.att = some a) :
    s.stopAttempt.slots.kind = .abandoned ∧ s.stopAttempt.net = s.discard.net ∧ s.stopAttempt.cores = s.discard.cores := by
  simp [State.stopAttempt, h]

/-- A FAULT word stops the attempt, unless it is of an overrun whose replay waits for its start. -/
theorem exec_faultWord {s : State} {k : FaultKind} (h : ∀ a, s.slots.att = some a → k ≠ .overrun ∨ a.restartWait = false) :
    exec (.faultWord k) s = .next s.stopAttempt := by
  simp only [exec, execFaultWord]
  split
  next a hatt =>
    obtain hk | hwait := h a hatt
    · exact absurd rfl hk
    · simp [hwait]
  next => rfl

theorem faultWord_outside {s : State} (k : FaultKind) (h : s.slots.att = none) : exec (.faultWord k) s = .next s := by
  rw [exec_faultWord (by simp [h])]
  simp [State.stopAttempt, h]

theorem faultWord_answers {s : State} {k : FaultKind} {a : Attempt} (h : s.slots.att = some a)
    (hk : k ≠ .overrun ∨ a.restartWait = false) :
    answers (.faultWord k) s (fun t => t.slots.att = none ∧ t.slots.kind = .abandoned ∧
      (∀ x ∈ t.net.flight, ofAttempt x.pkt = false) ∧ s.net.discards ≤ t.net.discards ∧ sameMem s t ∧ t.cores = s.cores) := by
  have hexec : exec (.faultWord k) s = .next s.stopAttempt := exec_faultWord fun b hb => by
    obtain rfl : a = b := Option.some.inj (h.symm.trans hb)
    exact hk
  obtain ⟨hkind, hnet, hcores⟩ := stopAttempt_of_some h
  obtain ⟨hflight, hdiscards, hcores', -⟩ := discard_leaves s
  obtain ⟨hspad, hhbm, himem, -, -⟩ := State.stopAttempt_memSame s
  refine answers_of_exec hexec ⟨(stopAttempt_leaves s).1, hkind, ?_, ?_, ⟨hspad, hhbm, himem⟩, hcores.trans hcores'⟩
  · rwa [hnet]
  · rwa [hnet]

/-! ## The words of a sync link (09 R257) -/

/-- A word of which both copies fail. -/
def syncBadWord (s : State) (key : Nat) : State :=
  { s with net := { s.net with syncBad := SMap.upd zeroD s.net.syncBad key (fun n => n + 1) } }.count Obj.SYNC_WORD_ERRORS

section
variable {s : State} {key : Nat}

theorem syncWords_append_bad {l : List (BitVec 96 × BitVec 96)} {w : BitVec 96 × BitVec 96} (hw : syncTake w = none) :
    s.syncWords key (l ++ [w]) = (syncBadWord (s.syncWords key l).1 key,
      (s.syncWords key l).2 || decide (4 ≤ SMap.get zeroD (syncBadWord (s.syncWords key l).1 key).net.syncBad key)) := by
  simp only [State.syncWords, List.foldl_append, List.foldl_cons, List.foldl_nil, hw]
  rfl

theorem syncBadWord_run (s : State) (key : Nat) :
    SMap.get zeroD (syncBadWord s key).net.syncBad key = SMap.get zeroD s.net.syncBad key + 1 :=
  SMap.get_put_same zeroD s.net.syncBad key (SMap.get zeroD s.net.syncBad key + 1)

/-- Bad words in a row lengthen the run and are counted; with the fourth the link is down. -/
theorem syncWords_of_bad {l : List (BitVec 96 × BitVec 96)} (hl : ∀ w ∈ l, syncTake w = none) :
    (s.syncWords key l).1.num Obj.SYNC_WORD_ERRORS = s.num Obj.SYNC_WORD_ERRORS + l.length ∧
    SMap.get zeroD (s.syncWords key l).1.net.syncBad key = SMap.get zeroD s.net.syncBad key + l.length ∧
    ((s.syncWords key l).2 = true ↔ l ≠ [] ∧ 4 ≤ SMap.get zeroD s.net.syncBad key + l.length) ∧
    (s.syncWords key l).1.hubs = s.hubs ∧ sameMem s (s.syncWords key l).1 := by
  induction l using List.reverseRecOn with
  | nil => exact ⟨rfl, rfl, by simp [State.syncWords], rfl, rfl, rfl, rfl⟩
  | append_singleton l w ih =>
    obtain ⟨hnum, hrun, hdown, hhubs, hmem⟩ := ih fun x hx => hl x (List.mem_append_left _ hx)
    rw [syncWords_append_bad (hl w (by simp))]
    generalize s.syncWords key l = r at hnum hrun hdown hhubs hmem
    have hrun' : SMap.get zeroD (syncBadWord r.1 key).net.syncBad key = SMap.get zeroD s.net.syncBad key + (l.length + 1) := by
      rw [syncBadWord_run, hrun]
      omega
    refine ⟨?_, ?_, ?_, hhubs, hmem⟩
    · rw [syncBadWord, State.num_count_same, List.length_append, List.length_singleton, ← Nat.add_assoc, ← hnum]
      rfl
    · rw [hrun', List.length_append, List.length_singleton]
    · simp only [hrun', hdown, Bool.or_eq_true, decide_eq_true_eq, List.length_append, List.length_singleton]
      simp only [ne_eq, List.append_eq_nil_iff, List.cons_ne_self, and_false, not_false_eq_true, true_and]
      omega

theorem syncWords_of_good {w : BitVec 96 × BitVec 96} (hw : syncTake w ≠ none) : s.syncWords key [w] =
    ({ s with net := { s.net with syncBad := SMap.put zeroD s.net.syncBad key 0 } }, false) := by
  obtain ⟨x, hx⟩ := Option.ne_none_iff_exists'.mp hw
  simp only [State.syncWords, List.foldl_cons, List.foldl_nil, hx]

end

/-! ## A link between two hubs that is down (15 R423) -/

/-- The links that each hub of `t` holds for down, the bad sync words counted and the memories are those of `s`. -/
@[simp] abbrev KeepsLinks (s t : State) : Prop :=
  (∀ h, (t.hub h).linksDown = (s.hub h).linksDown) ∧ t.num Obj.SYNC_WORD_ERRORS = s.num Obj.SYNC_WORD_ERRORS ∧ sameMem s t

theorem KeepsLinks.refl (s : State) : KeepsLinks s s := ⟨fun _ => rfl, rfl, rfl, rfl, rfl⟩

theorem KeepsLinks.trans {s t u : State} (h : KeepsLinks s t) (h' : KeepsLinks t u) : KeepsLinks s u := by
  obtain ⟨hdown, hnum, hspad, hhbm, himem⟩ := h
  obtain ⟨hdown', hnum', hspad', hhbm', himem'⟩ := h'
  exact ⟨fun k => (hdown' k).trans (hdown k), hnum'.trans hnum, hspad'.trans hspad, hhbm'.trans hhbm, himem'.trans himem⟩

theorem KeepsLinks.of_hubs {s t : State} (hhubs : t.hubs = s.hubs) (hnum : t.num Obj.SYNC_WORD_ERRORS = s.num Obj.SYNC_WORD_ERRORS)
    (hmem : MemSame s t) : KeepsLinks s t := by
  obtain ⟨hspad, hhbm, himem, -, -⟩ := hmem
  exact ⟨fun h => by rw [State.hub, State.hub, hhubs], hnum, hspad, hhbm, himem⟩

section
variable (s : State)

theorem num_dropCmd (p : Bool) {k : Nat} (h : k ≠ Obj.COMMANDS_DROPPED) : (s.dropCmd p).num k = s.num k := by
  unfold State.dropCmd
  split
  · exact State.num_count_other _ _ h
  · rfl

theorem num_cancelFlips {k : Nat} (h : k ≠ Obj.MIGRATIONS_CANCELLED) : s.cancelFlips.num k = s.num k := by
  unfold State.cancelFlips
  extract_lets v
  have hv : v.num k = s.num k := by
    unfold v
    split
    · rfl
    · exact State.num_count_other _ _ h
  exact hv

theorem num_endHeld {k : Nat} (h : k ≠ Obj.KV_LOST_REQUESTS) : s.endHeld.num k = s.num k := by
  unfold State.endHeld
  extract_lets lost v
  have hv : v.num k = s.num k := by
    unfold v
    split
    · rfl
    · exact State.num_count_other _ _ h
  exact hv

theorem num_stopAttempt (k : Nat) : s.stopAttempt.num k = s.num k := by
  refine num_of_od ?_ k
  unfold State.stopAttempt
  split
  · rfl
  · exact (discard_leaves s).2.2.2

/-- SAFE counts no bad sync word. -/
theorem toSafe_syncErrors (cause : Nat) : (s.toSafe cause).num Obj.SYNC_WORD_ERRORS = s.num Obj.SYNC_WORD_ERRORS := by
  unfold State.toSafe
  split
  · extract_lets u v w _ _ y z
    have hu : u.num Obj.SYNC_WORD_ERRORS = s.num Obj.SYNC_WORD_ERRORS := num_stopAttempt s _
    have hv : v.num Obj.SYNC_WORD_ERRORS = u.num Obj.SYNC_WORD_ERRORS := by
      unfold v
      rw [num_cancelFlips _ (by decide), num_dropCmd _ _ (by decide), num_dropCmd _ _ (by decide),
        num_dropCmd _ _ (by decide), num_dropCmd _ _ (by decide)]
    have hw : w.num Obj.SYNC_WORD_ERRORS = v.num Obj.SYNC_WORD_ERRORS := by
      unfold w
      rw [State.num_setNum_other _ _ (by decide), State.enter, State.num_count_other _ _ (by decide)]
      rfl
    have hy : y.num Obj.SYNC_WORD_ERRORS = s.num Obj.SYNC_WORD_ERRORS := (hw.trans hv).trans hu
    have hz : z.num Obj.SYNC_WORD_ERRORS = s.num Obj.SYNC_WORD_ERRORS := (num_fsr y _ (by decide)).trans hy
    split
    · exact hz
    · rw [num_endHeld _ (by decide), hz]
  split
  · rw [num_endHeld _ (by decide), State.num_setNum_other _ _ (by decide)]
  · rfl

theorem toSafe_keepsLinks (cause : Nat) : KeepsLinks s (s.toSafe cause) :=
  .of_hubs (State.toSafe_hubs s cause) (toSafe_syncErrors s cause) (State.toSafe_memSame s cause)

theorem fsr_keepsLinks (r : FsrIn) : KeepsLinks s (s.fsr r) :=
  .of_hubs (State.fsr_keepsHubs s r).1 (num_fsr s r (by decide)) (State.fsr_memSame s r)

theorem updHub_keepsLinks (h : Nat) {f : Hub → Hub} (hf : ∀ x, (f x).linksDown = x.linksDown) : KeepsLinks s (s.updHub h f) := by
  refine ⟨fun j => ?_, rfl, rfl, rfl, rfl⟩
  by_cases hj : j = h
  · rw [hj, State.hub_updHub_same, hf]
  · rw [State.hub_updHub_other _ _ hj]

theorem updStack_keepsLinks (stack : Nat) (f : Stack → Stack) : KeepsLinks s (s.updStack stack f) :=
  .of_hubs rfl rfl ⟨rfl, rfl, rfl, rfl, rfl⟩

/-- A hub that is lost leaves the links that the others hold for down. -/
theorem hubLoss_keepsLinks (hub det : Nat) : KeepsLinks s (s.hubLoss hub det) := by
  unfold State.hubLoss
  extract_lets v w
  have hv : KeepsLinks s v :=
    (updHub_keepsLinks s hub (f := fun h => { h with lost := true }) fun _ => rfl).trans (fsr_keepsLinks ..)
  have hw : KeepsLinks v w :=
    List.foldlRecOn _ _ (motive := KeepsLinks v) (.refl v) fun _ ht _ _ => ht.trans (updStack_keepsLinks ..)
  exact (hv.trans hw).trans (toSafe_keepsLinks ..)

end

/-- The hub holds a link for down. -/
def linkNoted (s : State) (h other : Nat) : State :=
  s.updHub h (fun x => { x with linksDown := if x.linksDown.contains other then x.linksDown else x.linksDown ++ [other] })

theorem linkNoted_mem (s : State) (h other : Nat) : other ∈ ((linkNoted s h other).hub h).linksDown := by
  rw [linkNoted, State.hub_updHub_same]
  split
  next hin => simpa using hin
  next => simp

theorem linkNoted_mono {s : State} {j x : Nat} (hx : x ∈ (s.hub j).linksDown) (h other : Nat) :
    x ∈ ((linkNoted s h other).hub j).linksDown := by
  by_cases hj : j = h
  · subst hj
    rw [linkNoted, State.hub_updHub_same]
    split
    · exact hx
    · exact List.mem_append_left _ hx
  · rwa [linkNoted, State.hub_updHub_other _ _ hj]

/-- The records of a link that is down, one for each of its hubs. -/
def linkRecorded (s : State) (a b : Nat) : State :=
  (s.fsr { part := 1, index := a, unit := 0x0F, det := 0x18 }).fsr { part := 1, index := b, unit := 0x0F, det := 0x18 }

theorem linkRecorded_keepsLinks (s : State) (a b : Nat) : KeepsLinks s (linkRecorded s a b) :=
  (fsr_keepsLinks ..).trans (fsr_keepsLinks ..)

/-- A hub that no link reaches is lost. -/
def hubUnlinked (s : State) (h : Nat) : State :=
  if !(s.hub h).lost && (hubNeighbours h).all (fun n => (s.hub h).linksDown.contains n) then s.hubLoss h 0x19 else s

theorem hubUnlinked_keepsLinks (s : State) (h : Nat) : KeepsLinks s (hubUnlinked s h) := by
  unfold hubUnlinked
  split
  · exact hubLoss_keepsLinks ..
  · exact .refl s

theorem syncDown_hubHub_eq (s : State) (a b : Nat) : s.syncDown (.hubHub a b) =
    hubUnlinked (hubUnlinked (linkRecorded (linkNoted (linkNoted s a b) b a) a b) a) b := rfl

/-- Both hubs hold the link for down; bad words are not counted again, and no memory changes. -/
theorem syncDown_hubHub (s : State) (a b : Nat) :
    b ∈ ((s.syncDown (.hubHub a b)).hub a).linksDown ∧ a ∈ ((s.syncDown (.hubHub a b)).hub b).linksDown ∧
    (s.syncDown (.hubHub a b)).num Obj.SYNC_WORD_ERRORS = s.num Obj.SYNC_WORD_ERRORS ∧
    sameMem s (s.syncDown (.hubHub a b)) := by
  have hnoted : KeepsLinks (linkNoted (linkNoted s a b) b a) (s.syncDown (.hubHub a b)) := by
    rw [syncDown_hubHub_eq]
    exact (linkRecorded_keepsLinks ..).trans ((hubUnlinked_keepsLinks ..).trans (hubUnlinked_keepsLinks ..))
  obtain ⟨hdown, hnum, hspad, hhbm, himem⟩ := hnoted
  rw [hdown, hdown, hnum]
  exact ⟨linkNoted_mono (linkNoted_mem s a b) b a, linkNoted_mem .., rfl, hspad, hhbm, himem⟩

section
variable (s : State) {a b : Nat} (ha : a < 16) (hb : b < 16) (hab : b ∈ hubNeighbours a)
include ha hb hab

theorem exec_syncLinkDown_hubHub (l : List (BitVec 96 × BitVec 96)) : exec (.syncLinkDown ⟨.hubHub a b, l⟩) s =
    .next (if (s.syncWords (syncKey (.hubHub a b)) l).2 then
      (s.syncWords (syncKey (.hubHub a b)) l).1.syncDown (.hubHub a b) else (s.syncWords (syncKey (.hubHub a b)) l).1) := by
  have hreal : syncReal (.hubHub a b) = true := by simp [syncReal, ha, hb]
  simp only [exec, execSyncLinkDown, onPart_next hreal]
  simp [hab]

theorem syncLinkDown_bad {l : List (BitVec 96 × BitVec 96)} (hne : l ≠ []) (hl : ∀ w ∈ l, syncTake w = none) :
    answers (.syncLinkDown ⟨.hubHub a b, l⟩) s (fun t =>
      t.num Obj.SYNC_WORD_ERRORS = s.num Obj.SYNC_WORD_ERRORS + l.length ∧
      (4 ≤ SMap.get zeroD s.net.syncBad (syncKey (.hubHub a b)) + l.length → b ∈ (t.hub a).linksDown ∧ a ∈ (t.hub b).linksDown) ∧
      (SMap.get zeroD s.net.syncBad (syncKey (.hubHub a b)) + l.length < 4 → t.hubs = s.hubs) ∧ sameMem s t) := by
  have hexec := exec_syncLinkDown_hubHub s ha hb hab l
  obtain ⟨hnum, -, hdown, hhubs, hmem⟩ := syncWords_of_bad (s := s) (key := syncKey (.hubHub a b)) hl
  generalize s.syncWords (syncKey (.hubHub a b)) l = r at hexec hnum hdown hhubs hmem
  refine answers_of_exec hexec ?_
  by_cases hr : r.2 = true
  · obtain ⟨hb', ha', hnum', hspad, hhbm, himem⟩ := syncDown_hubHub r.1 a b
    have hfour := (hdown.mp hr).2
    rw [if_pos hr]
    exact ⟨hnum'.trans hnum, fun _ => ⟨hb', ha'⟩, fun hlt => absurd hfour (by omega),
      hspad.trans hmem.1, hhbm.trans hmem.2.1, himem.trans hmem.2.2⟩
  · rw [if_neg hr]
    exact ⟨hnum, fun hfour => absurd (hdown.mpr ⟨hne, hfour⟩) hr, fun _ => hhubs, hmem⟩

theorem syncLinkDown_good {w : BitVec 96 × BitVec 96} (hw : syncTake w ≠ none) :
    answers (.syncLinkDown ⟨.hubHub a b, [w]⟩) s (fun t =>
      SMap.get zeroD t.net.syncBad (syncKey (.hubHub a b)) = 0 ∧ t.hubs = s.hubs ∧
      t.num Obj.SYNC_WORD_ERRORS = s.num Obj.SYNC_WORD_ERRORS ∧ sameMem s t ∧ t.cores = s.cores) := by
  have hexec := exec_syncLinkDown_hubHub s ha hb hab [w]
  rw [syncWords_of_good hw, if_neg (by simp)] at hexec
  exact answers_of_exec hexec ⟨SMap.get_put_same zeroD s.net.syncBad _ 0, rfl, rfl, ⟨rfl, rfl, rfl⟩, rfl⟩

end

end Sys2Proof.Proofs

end

section
/-! PROOFS. A lockstep mismatch, a link that misses its counts, a lost panel (03 R82, R83, 15 R433, R434). -/

open Sys2Proof Sys2Proof.Machine Sys2Proof.Claims

namespace Sys2Proof.Proofs

/-! ## What a fault of a control core leaves of its die (03 R82) -/

/-- The virtual die, halted pairs and mismatches of a site of `t`, its TIME, cores and memories are those of `s`. -/
@[simp] abbrev KeepsPairs (site : Nat) (s t : State) : Prop :=
  ((t.die site).vd = (s.die site).vd ∧ (t.die site).haltedPairs = (s.die site).haltedPairs ∧
    (t.die site).lockstep = (s.die site).lockstep) ∧ t.time = s.time ∧ t.cores = s.cores ∧ sameMem s t

section
variable {site : Nat} {s t u : State}

theorem KeepsPairs.trans (h : KeepsPairs site s t) (h' : KeepsPairs site t u) : KeepsPairs site s u := by
  obtain ⟨⟨hvd, hpairs, hlock⟩, htime, hcores, hspad, hhbm, himem⟩ := h
  obtain ⟨⟨hvd', hpairs', hlock'⟩, htime', hcores', hspad', hhbm', himem'⟩ := h'
  exact ⟨⟨hvd'.trans hvd, hpairs'.trans hpairs, hlock'.trans hlock⟩, htime'.trans htime, hcores'.trans hcores,
    hspad'.trans hspad, hhbm'.trans hhbm, himem'.trans himem⟩

theorem KeepsPairs.of_dies (hdies : t.dies = s.dies) (htime : t.time = s.time) (hcores : t.cores = s.cores)
    (hmem : sameMem s t) : KeepsPairs site s t := by
  have hdie : t.die site = s.die site := by rw [State.die, State.die, hdies]
  rw [KeepsPairs, hdie]
  exact ⟨⟨rfl, rfl, rfl⟩, htime, hcores, hmem⟩

theorem KeepsPairs.refl : KeepsPairs site s s := .of_dies rfl rfl rfl ⟨rfl, rfl, rfl⟩

end

section
variable (s : State) (site : Nat)

theorem updDie_keepsPairs (i : Nat) {f : Die → Die}
    (hf : ∀ d, (f d).vd = d.vd ∧ (f d).haltedPairs = d.haltedPairs ∧ (f d).lockstep = d.lockstep) :
    KeepsPairs site s (s.updDie i f) := by
  refine ⟨?_, rfl, rfl, rfl, rfl, rfl⟩
  by_cases h : site = i
  · rw [h, State.die_updDie_same]
    exact hf _
  · rw [State.die_updDie_other _ _ h]
    exact ⟨rfl, rfl, rfl⟩

theorem dieEnter_keepsPairs (i : Nat) (st : DieSt) : KeepsPairs site s (s.dieEnter i st) :=
  updDie_keepsPairs s site i (f := fun d => { d with st := st, since := s.time }) fun _ => ⟨rfl, rfl, rfl⟩

theorem mapWrite_keepsPairs : KeepsPairs site s s.mapWrite := .of_dies rfl rfl rfl ⟨rfl, rfl, rfl⟩

theorem count_keepsPairs (k : Nat) : KeepsPairs site s (s.count k) := .of_dies rfl rfl rfl ⟨rfl, rfl, rfl⟩

theorem fsr_keepsPairs (r : FsrIn) : KeepsPairs site s (s.fsr r) := by
  unfold State.fsr
  extract_lets seq body rec' v log _ w
  have hw : KeepsPairs site s w := .of_dies rfl rfl rfl ⟨rfl, rfl, rfl⟩
  split
  · exact hw.trans (updDie_keepsPairs w site r.index (f := fun d => { d with lastFsr := seq }) fun _ => ⟨rfl, rfl, rfl⟩)
  · exact hw

theorem reqMig_keepsPairs (i prio : Nat) : KeepsPairs site s (s.reqMig i prio) := by
  unfold State.reqMig
  split
  · exact .refl
  · exact .of_dies rfl rfl rfl ⟨rfl, rfl, rfl⟩

theorem joinTest_keepsPairs (i : Nat) : KeepsPairs site s (s.joinTest i) := by
  unfold State.joinTest
  extract_lets d
  split
  · exact .refl
  · exact .of_dies rfl rfl rfl ⟨rfl, rfl, rfl⟩

theorem quarantine_keepsPairs (i det : Nat) : KeepsPairs site s (s.quarantine i det) := by
  unfold State.quarantine
  extract_lets d v w
  split
  · exact .refl
  have hv : KeepsPairs site s v := by
    refine KeepsPairs.trans ?_ (mapWrite_keepsPairs ..)
    exact updDie_keepsPairs s site i fun _ => ⟨rfl, rfl, rfl⟩
  have hw : KeepsPairs site v w := fsr_keepsPairs ..
  have hcold : KeepsPairs site s (w.dieEnter i .coldSpare) := (hv.trans hw).trans (dieEnter_keepsPairs ..)
  cases d.st
  case active =>
    refine (hv.trans hw).trans (KeepsPairs.trans ?_ (reqMig_keepsPairs ..))
    exact updDie_keepsPairs w site i fun _ => ⟨rfl, rfl, rfl⟩
  case warmSpare => exact hcold.trans (updDie_keepsPairs _ site i fun _ => ⟨rfl, rfl, rfl⟩)
  case test => exact hcold.trans (updDie_keepsPairs _ site i fun _ => ⟨rfl, rfl, rfl⟩)
  all_goals exact hv.trans hw

theorem lastingFault_keepsPairs (i det unit : Nat) (core : Option Nat) :
    KeepsPairs site s (s.lastingFault i det unit core) := by
  unfold State.lastingFault
  extract_lets row col v
  have hv : KeepsPairs site s v := by
    refine KeepsPairs.trans ?_ ((mapWrite_keepsPairs ..).trans (count_keepsPairs ..))
    exact updDie_keepsPairs s site i fun _ => ⟨rfl, rfl, rfl⟩
  split
  · exact hv.trans (quarantine_keepsPairs ..)
  · exact hv.trans (joinTest_keepsPairs ..)

theorem restartServices_keepsPairs (i pair : Nat) : KeepsPairs site s (s.restartServices i pair) := by
  unfold State.restartServices
  extract_lets v
  split
  · exact .refl
  split
  · refine KeepsPairs.trans ?_ (updDie_keepsPairs _ site _ fun _ => ⟨rfl, rfl, rfl⟩)
    exact updDie_keepsPairs s site i fun _ => ⟨rfl, rfl, rfl⟩
  · exact .refl

end

/-! ## A lockstep mismatch (03 R82, R83) -/

section
variable (s : State) (site pair : Nat)

/-- The pair halted and the mismatch counted. -/
def lockHalted : State :=
  s.updDie site (fun d => { d with
    haltedPairs := d.haltedPairs ++ [pair], lockstep := d.lockstep + 1, lockTimes := d.lockTimes ++ [s.time] })

/-- The record of the mismatch; a second one in the window is a lasting fault (15 R413, R414). -/
def lockRecorded (vd : Option Nat) (again : Bool) : State :=
  let s := s.fsr { part := 0, index := site, unit := 0x0A, det := 0x0D, kind := if again then 2 else 1
                   action := (if vd.isSome then 2 else 0) + (if again then 0x100 else 0) }
  if again then s.lastingFault site 0x0D 0x0A else s.count Obj.TRANSIENT_FAULTS

/-- The frame whose step was under way is not certified: the ended one, or that of the attempt. -/
def lockReported (step vd : Option Nat) : State :=
  let rep : Report := { det := 0x0D, vd := vd, site := some site }
  let s : State := match s.slots.ended with
    | some e => if pair != 3 && step == some e.att.frame then
        { s with slots := { s.slots with ended := some { e with reports := e.reports ++ [rep] } } } else s
    | none => s
  match s.slots.att with
  | some a => if pair != 3 && step == some a.frame then s.report 0x0D vd (some site) else s
  | none => s

/-- The telemetry of pair 3 taken over, or the services of the pair started elsewhere. -/
def lockServed : State :=
  if pair = 3 then s.updDie site (fun d => { d with hubTelemetry := d.hubTelemetry || d.st == .active })
  else s.restartServices site pair

theorem lockRecorded_keepsPairs (vd : Option Nat) (again : Bool) : KeepsPairs site s (lockRecorded s site vd again) := by
  unfold lockRecorded
  extract_lets v
  have hv : KeepsPairs site s v := fsr_keepsPairs ..
  split
  · exact hv.trans (lastingFault_keepsPairs ..)
  · exact hv.trans (count_keepsPairs ..)

theorem lockReported_keepsPairs (step vd : Option Nat) : KeepsPairs site s (lockReported s site pair step vd) := by
  unfold lockReported
  extract_lets rep _ v
  have hv : KeepsPairs site s v := by
    unfold v
    split
    · split
      · exact .of_dies rfl rfl rfl ⟨rfl, rfl, rfl⟩
      · exact .refl
    · exact .refl
  refine hv.trans ?_
  split
  · split
    · exact .of_dies rfl rfl rfl ⟨rfl, rfl, rfl⟩
    · exact .refl
  · exact .refl

theorem lockServed_keepsPairs : KeepsPairs site s (lockServed s site pair) := by
  unfold lockServed
  split
  · exact updDie_keepsPairs s site site fun _ => ⟨rfl, rfl, rfl⟩
  · exact restartServices_keepsPairs ..

/-- A site with a virtual die has a request once one is made. -/
theorem reqMig_mem (prio : Nat) (h : (s.die site).vd.isSome = true) : ∃ r ∈ (s.reqMig site prio).recovery.reqs, r.site = site := by
  have hvd : (s.die site).vd.isNone = false := by simpa using h
  rcases hold : s.recovery.reqs.find? (fun r => r.site == site) with _ | r
  · have hreqs : (s.reqMig site prio).recovery.reqs = s.recovery.reqs ++ [{ site := site, prio := prio }] := by
      simp [State.reqMig, hvd, hold]
    rw [hreqs]
    exact ⟨_, List.mem_append_right _ (List.mem_singleton_self _), rfl⟩
  · have hreqs : (s.reqMig site prio).recovery.reqs =
        s.recovery.reqs.map (fun x => if x.site = site then { x with prio := min r.prio prio } else x) := by
      simp [State.reqMig, hvd, hold]
    have hsite : r.site = site := by simpa using List.find?_some hold
    rw [hreqs]
    exact ⟨_, List.mem_map_of_mem (List.mem_of_find?_eq_some hold), by simp [hsite]⟩

end

theorem lockstepMismatch_answers {s : State} {site p : Nat} (w : Option Nat) (hsite : site < 144) (hp : p < 4)
    (hpowered : (s.die site).powered = true) (hfresh : p ∉ (s.die site).haltedPairs) :
    answers (.controlCoreLockstepMismatch site p w) s (fun t =>
      (t.die site).haltedPairs = (s.die site).haltedPairs ++ [p] ∧ (t.die site).lockstep = (s.die site).lockstep + 1 ∧
      ((s.die site).vd.isSome = true → ∃ r ∈ t.recovery.reqs, r.site = site) ∧ t.time = s.time ∧ sameMem s t ∧
      t.cores = s.cores) := by
  obtain ⟨again, hagain⟩ : ∃ b, b = (s.die site).lockTimes.any (fun t =>
      decide (s.time ≤ t + s.num Obj.QUARANTINE_WINDOW_H * 3600 * 10 ^ 9)) := ⟨_, rfl⟩
  have hexec : exec (.controlCoreLockstepMismatch site p w) s = .next ((lockServed (lockReported (lockRecorded
      (lockHalted s site p) site (s.die site).vd again) site p w (s.die site).vd) site p).reqMig site 2) := by
    have hok : (decide (site < 144) && decide (p < 4)) = true := by simp [hsite, hp]
    have hgo : ¬(!(s.die site).powered || (s.die site).haltedPairs.contains p) = true := by simp [hpowered, hfresh]
    simp only [exec, execControlCoreLockstepMismatch, onPart_next hok, if_neg hgo, ← hagain]
    rfl
  have hhalted : ((lockHalted s site p).die site).vd = (s.die site).vd ∧
      ((lockHalted s site p).die site).haltedPairs = (s.die site).haltedPairs ++ [p] ∧
      ((lockHalted s site p).die site).lockstep = (s.die site).lockstep + 1 ∧ (lockHalted s site p).time = s.time ∧
      (lockHalted s site p).cores = s.cores ∧ sameMem s (lockHalted s site p) := by
    rw [lockHalted, State.die_updDie_same]
    exact ⟨rfl, rfl, rfl, rfl, rfl, rfl, rfl, rfl⟩
  obtain ⟨hvd, hpairs, hlock, htime, hcores, hspad, hhbm, himem⟩ := hhalted
  have hkeeps : KeepsPairs site (lockHalted s site p) (lockServed (lockReported (lockRecorded
      (lockHalted s site p) site (s.die site).vd again) site p w (s.die site).vd) site p) :=
    ((lockRecorded_keepsPairs ..).trans (lockReported_keepsPairs ..)).trans (lockServed_keepsPairs ..)
  generalize lockServed (lockReported (lockRecorded (lockHalted s site p) site (s.die site).vd again) site p w
    (s.die site).vd) site p = v at hexec hkeeps
  generalize lockHalted s site p = u at hvd hpairs hlock htime hcores hspad hhbm himem hkeeps
  have hvd' : (v.die site).vd = (s.die site).vd := hkeeps.1.1.trans hvd
  obtain ⟨⟨-, kpairs, klock⟩, ktime, kcores, kspad, khbm, kimem⟩ := hkeeps.trans (reqMig_keepsPairs v site site 2)
  exact answers_of_exec hexec ⟨kpairs.trans hpairs, klock.trans hlock, fun h => reqMig_mem v site 2 (hvd' ▸ h),
    ktime.trans htime, ⟨kspad.trans hspad, khbm.trans hhbm, kimem.trans himem⟩, kcores.trans hcores⟩

/-! ## A link that misses its counts (15 R433) -/

/-- The flits of a link that are lost: unacknowledged ones and those that the peer sent and the panel did not receive. -/
def linkLoss (p : Port) : Nat :=
  if p.lost then 0
  else (p.retry.map GlpFrame.units).sum +
    ((List.range p.peerSent.length).map (fun i => p.peerSent.getD i 0 - SMap.get zeroD p.received i)).sum

/-- The link entered in the lost ledger, `n` flits with it. -/
def linkEntered (s : State) (port n : Nat) : State :=
  let s := s.count Obj.LOST_LEDGER_FLITS n
  let s := { s with recovery := { s.recovery with lostLedger := if n = 0 then s.recovery.lostLedger else s.recovery.lostLedger ++ [(port, n)] } }
  s.updPort port (fun p => { p with
    linked := p.up, lost := true, missed := p.missed + 1, retry := [], sent := [], received := [], peerSent := [] })

/-- The panel behind the port is lost where every link to it missed four boundaries. -/
def peerJudged (s : State) (port : Nat) : State :=
  let nb := s.neighbour (dirOf port)
  let links := (List.range 128).filter (fun i => (s.port i).up && s.neighbour (dirOf i) == nb)
  if links.all (fun i => decide (4 ≤ (s.port i).missed)) && !s.fabric.lostPanels.contains nb then
    (s.losePanel nb).setNum Obj.LOST_PANELS (setBit (s.num Obj.LOST_PANELS) nb)
  else s

theorem linkEntered_leaves (s : State) (port n : Nat) : (linkEntered s port n).num Obj.LOST_LEDGER_FLITS =
      s.num Obj.LOST_LEDGER_FLITS + n ∧ (linkEntered s port n).time = s.time ∧ (linkEntered s port n).cores = s.cores ∧
    sameMem s (linkEntered s port n) ∧ ((linkEntered s port n).port port).lost = true ∧
    ((linkEntered s port n).port port).missed = (s.port port).missed + 1 ∧ ((linkEntered s port n).port port).retry = [] := by
  refine ⟨State.num_count_same s Obj.LOST_LEDGER_FLITS n, rfl, rfl, ⟨rfl, rfl, rfl⟩, ?_⟩
  rw [linkEntered, State.port_updPort_same]
  exact ⟨rfl, rfl, rfl⟩

/-- A lost panel touches no port, no core and no memory. -/
theorem peerJudged_leaves (s : State) (port : Nat) : (peerJudged s port).num Obj.LOST_LEDGER_FLITS = s.num Obj.LOST_LEDGER_FLITS ∧
    (peerJudged s port).time = s.time ∧ (peerJudged s port).cores = s.cores ∧ sameMem s (peerJudged s port) ∧
    (peerJudged s port).port port = s.port port := by
  unfold peerJudged
  extract_lets nb links
  split
  · exact ⟨(State.num_setNum_other _ _ (by decide)).trans (num_of_od rfl _), rfl, rfl, ⟨rfl, rfl, rfl⟩, rfl⟩
  · exact ⟨rfl, rfl, rfl, ⟨rfl, rfl, rfl⟩, rfl⟩

section
variable {s : State} {p : Nat} (hp : p < 128)
include hp

theorem auditCountTimeout_counted (hgot : (s.port p).gotAudit = true) : exec (.auditCountTimeout p) s = .next s := by
  simp [exec, execAuditCountTimeout, onPart_next (decide_eq_true hp), hgot]

theorem auditCountTimeout_misses (hlinked : (s.port p).linked = true) (hgot : (s.port p).gotAudit = false) :
    answers (.auditCountTimeout p) s (fun t => (t.port p).lost = true ∧
      (t.port p).missed = (s.port p).missed + 1 ∧ (t.port p).retry = [] ∧ s.num Obj.LOST_LEDGER_FLITS ≤ t.num Obj.LOST_LEDGER_FLITS ∧
      t.time = max s.time (s.tickOf s.slots.slot + 15000) ∧ sameMem s t ∧ t.cores = s.cores) := by
  have hexec : exec (.auditCountTimeout p) s =
      .next (peerJudged (linkEntered (s.atTime (s.tickOf s.slots.slot + 15000)) p (linkLoss (s.port p))) p) := by
    have hgo : ¬(!(s.port p).linked || (s.port p).gotAudit) = true := by simp [hlinked, hgot]
    simp only [exec, execAuditCountTimeout, onPart_next (decide_eq_true hp), if_neg hgo]
    rfl
  obtain ⟨enum, etime, ecores, emem, elost, emissed, eretry⟩ :=
    linkEntered_leaves (s.atTime (s.tickOf s.slots.slot + 15000)) p (linkLoss (s.port p))
  generalize linkEntered (s.atTime (s.tickOf s.slots.slot + 15000)) p (linkLoss (s.port p)) = v at *
  obtain ⟨jnum, jtime, jcores, ⟨jspad, jhbm, jimem⟩, jport⟩ := peerJudged_leaves v p
  refine answers_of_exec hexec ⟨by rw [jport, elost], by rw [jport, emissed]; rfl, by rw [jport, eretry], ?_, jtime.trans etime,
    ⟨jspad.trans emem.1, jhbm.trans emem.2.1, jimem.trans emem.2.2⟩, jcores.trans ecores⟩
  rw [jnum, enum]
  exact Nat.le_add_right ..

end

/-! ## A lost panel (15 R434) -/

theorem toHold_of_running {s : State} (h : s.panel = .running) (cause : Nat) : (s.toHold cause).panel = .hold ∧
    (s.toHold cause).num Obj.HOLD_CAUSE = cause ∧ (s.toHold cause).cores = s.cores := by
  have hdrop (p : Bool) : (s.dropCmd p).cores = s.cores := by
    unfold State.dropCmd
    split <;> rfl
  rw [State.toHold, if_pos h]
  generalize (s.slots.pHold && cause != 1) = p
  have hnum : (((s.dropCmd p).enter .hold).setNum Obj.HOLD_CAUSE cause).num Obj.HOLD_CAUSE = cause :=
    State.num_setNum_same ..
  exact ⟨rfl, (num_of_od rfl _).trans hnum, hdrop p⟩

theorem lostPanelHold_answers {s : State} {n : Nat} (hsince : s.fabric.emptySince = some n) (hpanel : s.panel = .running)
    (hlost : s.fabric.lostPanels ≠ []) : answers .lostPanelHold s (fun t =>
      t.panel = .hold ∧ t.num Obj.HOLD_CAUSE = 7 ∧ t.time = max s.time (n + 1000000000) ∧ sameMem s t ∧ t.cores = s.cores) := by
  have hexec : exec .lostPanelHold s = .next ((s.atTime (n + 1000000000)).toHold 7) := by
    simp [exec, execLostPanelHold, hsince, hpanel, hlost]
  have hpanel' : (s.atTime (n + 1000000000)).panel = .running := hpanel
  obtain ⟨-, -, htime⟩ := State.toHold_keeps (s.atTime (n + 1000000000)) 7
  obtain ⟨hspad, hhbm, himem, -, -⟩ := State.toHold_memSame (s.atTime (n + 1000000000)) 7
  obtain ⟨hhold, hcause, hcores⟩ := toHold_of_running hpanel' 7
  exact answers_of_exec hexec ⟨hhold, hcause, htime, ⟨hspad, hhbm, himem⟩, hcores⟩

/-- Settles O43: a FAULT word, the words of a link between hubs, a lockstep mismatch, missed counts and a lost panel. -/
theorem faultsReported : Obligations.faults_reported := by
  unfold Obligations.faults_reported
  refine ⟨fun s k => faultWord_outside k, fun s k a => faultWord_answers, fun s a b l ha hb hab => ?_,
    fun s site p w => lockstepMismatch_answers w, fun s p hp hlinked => ?_, fun s n => lostPanelHold_answers⟩
  · exact ⟨syncLinkDown_bad s ha hb hab, fun w => syncLinkDown_good s ha hb hab⟩
  · exact ⟨auditCountTimeout_counted hp, auditCountTimeout_misses hp hlinked⟩

end Sys2Proof.Proofs

end

section
/-! PROOFS. Replays of a sample (10 R276 to R278). -/

open Sys2Proof Sys2Proof.Machine Sys2Proof.Claims

namespace Sys2Proof.Proofs

/-! ## A replay die written (10 R276, R277) -/

/-- Only scratchpads and dies change with the mode. -/
theorem setHashing_reaches (s : State) (site : Nat) (h : Bool) :
    ∃ m d, s.setHashing site h = { s with spad := m, dies := d } := by
  unfold State.setHashing
  split <;> exact ⟨_, _, rfl⟩

/-- Only scratchpads and instruction memories change from `s` to `t`. -/
def OnlyLoaded (s t : State) : Prop := ∃ m c, t = { s with spad := m, imem := c }

theorem OnlyLoaded.refl (s : State) : OnlyLoaded s s := ⟨_, _, rfl⟩

theorem OnlyLoaded.trans {s t u : State} (h : OnlyLoaded s t) (h' : OnlyLoaded t u) : OnlyLoaded s u := by
  obtain ⟨_, _, rfl⟩ := h
  obtain ⟨_, _, rfl⟩ := h'
  exact ⟨_, _, rfl⟩

theorem foldl_onlyLoaded {α : Type} {f : State → α → State} (h : ∀ s x, OnlyLoaded s (f s x)) (l : List α) (s : State) :
    OnlyLoaded s (l.foldl f s) :=
  List.foldlRecOn l f (motive := OnlyLoaded s) (.refl s) fun t ht x _ => ht.trans (h t x)

section
variable (s : State) (p : Prog) (site vd : Nat)

theorem writeCode_onlyLoaded : OnlyLoaded s (s.writeCode p site vd) := foldl_onlyLoaded (fun _ _ => ⟨_, _, rfl⟩) _ s

theorem writeLoadCopy_onlyLoaded : OnlyLoaded s (s.writeLoadCopy p site vd) :=
  OnlyLoaded.trans ⟨_, _, rfl⟩ (foldl_onlyLoaded (fun _ _ => ⟨_, _, rfl⟩) _ _)

theorem writeReadBuf_onlyLoaded : OnlyLoaded s (s.writeReadBuf site vd) :=
  foldl_onlyLoaded (fun _ _ => foldl_onlyLoaded (fun _ _ => ⟨_, _, rfl⟩) _ _) _ s

/-- A die with the program and the captured read buffer of a virtual die. -/
def replayWritten : State :=
  ((((s.setHashing site false).clearCores site).writeCode p site vd).writeLoadCopy p site vd).writeReadBuf site vd

theorem replayWritten_leaves : (replayWritten s p site vd).checks = s.checks ∧
    ((replayWritten s p site vd).die site).hashing = false ∧ (replayWritten s p site vd).hbm = s.hbm := by
  have hloaded : OnlyLoaded ((s.setHashing site false).clearCores site) (replayWritten s p site vd) :=
    ((writeCode_onlyLoaded ..).trans (writeLoadCopy_onlyLoaded ..)).trans (writeReadBuf_onlyLoaded ..)
  have hchecks : (s.setHashing site false).checks = s.checks := by
    obtain ⟨_, _, h⟩ := setHashing_reaches s site false
    rw [h]
  obtain ⟨_, _, hw⟩ := hloaded
  rw [hw]
  exact ⟨hchecks, setHashing_die s site false, (setHashing_leaves s site false).1⟩

end

/-! ## REPLAY_DIE_START (10 R276, R277) -/

theorem replayDieStart_refused {s : State} {site : Nat} (vd : Nat) (hsite : site < 144) (hmay : s.mayReplay site = false) :
    exec (.replayDieStart site vd) s = .next s := by
  simp only [exec, execReplayDieStart, onPart_next (decide_eq_true hsite), hmay]
  split <;> rfl

theorem replayDieStart_answers {s : State} {p : Prog} {site vd : Nat} (hsite : site < 144) (hprog : s.prog = some p)
    (hmay : s.mayReplay site = true) (hquench : s.thermal.quench = none) (hagain : s.checks.again = [])
    (hwait : vd ∈ s.checks.waitReplay) : answers (.replayDieStart site vd) s (fun t =>
      t.checks.reps = s.checks.reps ++ [{ site := site, vd := vd, since := s.slots.slot }] ∧
      t.checks.waitReplay = s.checks.waitReplay.erase vd ∧ (t.die site).hashing = false ∧ t.hbm = s.hbm) := by
  obtain ⟨v, hv⟩ : ∃ v : State, v = { s with checks := { s.checks with
    waitReplay := s.checks.waitReplay.erase vd } } := ⟨_, rfl⟩
  obtain ⟨w, hw⟩ : ∃ w, w = replayWritten v p site vd := ⟨_, rfl⟩
  have hexec : exec (.replayDieStart site vd) s = .next { w with checks := { w.checks with
      reps := w.checks.reps ++ [{ site := site, vd := vd, since := s.slots.slot }] } } := by
    rw [hw, hv]
    simp [exec, execReplayDieStart, onPart_next, hsite, hprog, hmay, hquench, hagain, hwait, replayWritten]
  obtain ⟨hchecks, hhashing, hhbm⟩ := replayWritten_leaves v p site vd
  rw [← hw] at hchecks hhashing hhbm
  refine answers_of_exec hexec ⟨?_, ?_, hhashing, hhbm.trans ?_⟩
  · rw [hchecks, hv]
  · rw [hchecks, hv]
  · rw [hv]

/-! ## REPLAY_COMPARE (10 R277, R278) -/

/-- The cores of a site cleared are what a core is that nothing has reached; every other core is the same. -/
theorem core_clearCores (s : State) (site k : Nat) :
    (s.clearCores site).core k = if k / 272 = site then {} else s.core k := by
  have hin : (site * 272 ≤ k ∧ k < site * 272 + 272) ↔ k / 272 = site := by omega
  simp only [State.core, State.clearCores, get_clearRange, hin]
  rfl

/-- A higher final frame changes neither the replays nor any other object. -/
theorem advanceFinal_leaves (s : State) (f : Nat) : (s.advanceFinal f).checks.reps = s.checks.reps ∧
    (s.advanceFinal f).checks.again = s.checks.again ∧
    (∀ k, k ≠ Obj.R_FINAL_FRAME → (s.advanceFinal f).num k = s.num k) := by
  unfold State.advanceFinal
  split_ifs
  · exact ⟨rfl, rfl, fun _ _ => rfl⟩
  · exact ⟨rfl, rfl, fun k hk => State.num_setNum_other s f hk⟩

/-- A die that has passed the sample advances the final frame at most. -/
theorem samplePassed_leaves (s : State) (vd : Nat) : (s.samplePassed vd).checks.reps = s.checks.reps ∧
    (s.samplePassed vd).checks.again = s.checks.again ∧ (s.samplePassed vd).cores = s.cores ∧
    (∀ k, k ≠ Obj.R_FINAL_FRAME → (s.samplePassed vd).num k = s.num k) := by
  unfold State.samplePassed
  split
  case h_1 => exact ⟨rfl, rfl, rfl, fun _ _ => rfl⟩
  case h_2 m _ =>
    extract_lets _ v
    split
    · obtain ⟨hreps, hagain, hnum⟩ := advanceFinal_leaves v m
      obtain ⟨-, -, -, -, hcores⟩ := advanceFinal_frame v m
      exact ⟨hreps, hagain, hcores, hnum⟩
    · exact ⟨rfl, rfl, rfl, fun _ _ => rfl⟩

/-- The die of a replay freed after its two slots. -/
def replayFreed (s : State) (site : Nat) : State :=
  let s := s.clearCores site
  { s with checks := { s.checks with reps := s.checks.reps.filter (fun x => x.site != site) } }

/-- A second replay asked for after a first unequal digest. -/
def replayAgain (s : State) (site vd : Nat) (b : Bytes) : State :=
  { s with checks := { s.checks with
    again := s.checks.again ++ [{ site := 144, vd := vd, since := 0, second := true, firstSite := site, firstDigest := b }] } }

section
variable {s : State} {site : Nat} {r : Rep} (b : Bytes) (hsite : site < 144)
  (hr : s.checks.reps.find? (fun r => r.site == site) = some r)
include hsite hr

theorem replayCompare_early (hslot : s.slots.slot < r.since + 2) : exec (.replayCompare site b) s = .next s := by
  simp [exec, execReplayCompare, onPart_next, hsite, hr, hslot]

theorem exec_replayCompare_first (hslot : r.since + 2 ≤ s.slots.slot) (hfirst : r.second = false) :
    exec (.replayCompare site b) s = .next (if b = SMap.get noB s.checks.transcripts r.vd
      then ((replayFreed s site).count Obj.R_REPLAYS_PASSED).samplePassed r.vd
      else replayAgain ((replayFreed s site).count Obj.R_REPLAYS_FAILED) site r.vd b) := by
  simp only [exec, execReplayCompare, onPart_next (decide_eq_true hsite), hr, if_neg (Nat.not_lt.mpr hslot), hfirst]
  rfl

theorem replayCompare_answers (hslot : r.since + 2 ≤ s.slots.slot) (hfirst : r.second = false) :
    answers (.replayCompare site b) s (fun t =>
      t.checks.reps = s.checks.reps.filter (fun x => x.site != site) ∧ sameMem s t ∧
      (∀ k, t.core k = if k / 272 = site then {} else s.core k) ∧
      (b = SMap.get noB s.checks.transcripts r.vd →
        t.num Obj.R_REPLAYS_PASSED = s.num Obj.R_REPLAYS_PASSED + 1 ∧ t.checks.again = s.checks.again) ∧
      (b ≠ SMap.get noB s.checks.transcripts r.vd → t.num Obj.R_REPLAYS_FAILED = s.num Obj.R_REPLAYS_FAILED + 1 ∧
        ∃ x, t.checks.again = s.checks.again ++ [x] ∧ x.vd = r.vd ∧ x.second = true ∧ x.firstSite = site ∧
          x.firstDigest = b)) := by
  refine answers_of_exec (exec_replayCompare_first b hsite hr hslot hfirst) ?_
  by_cases hb : b = SMap.get noB s.checks.transcripts r.vd
  · rw [if_pos hb]
    obtain ⟨hreps, hagain, hcores, hnum⟩ := samplePassed_leaves ((replayFreed s site).count Obj.R_REPLAYS_PASSED) r.vd
    obtain ⟨hspad, hhbm, himem, -, -⟩ :=
      State.samplePassed_memSame ((replayFreed s site).count Obj.R_REPLAYS_PASSED) r.vd
    refine ⟨hreps, ⟨hspad, hhbm, himem⟩, fun k => ?_, fun _ => ⟨?_, hagain⟩, fun hne => absurd hb hne⟩
    · rw [State.core, hcores]
      exact core_clearCores s site k
    · rw [hnum _ (by decide)]
      exact State.num_count_same (replayFreed s site) Obj.R_REPLAYS_PASSED 1
  · rw [if_neg hb]
    exact ⟨rfl, ⟨rfl, rfl, rfl⟩, core_clearCores s site, fun heq => absurd heq hb,
      fun _ => ⟨State.num_count_same (replayFreed s site) Obj.R_REPLAYS_FAILED 1, _, rfl, rfl, rfl, rfl, rfl⟩⟩

end

end Sys2Proof.Proofs

end

section
/-! PROOFS. O41: field tests (16 R456 to R459, 15 R414), with the replays of the section before. -/

open Sys2Proof Sys2Proof.Machine Sys2Proof.Claims

namespace Sys2Proof.Proofs

/-! ## What becomes of a die (06 R161, 15 R414, R435) -/

theorem die_setHashing (s : State) (site : Nat) (h : Bool) :
    (s.setHashing site h).die site = { s.die site with hashing := h } := by
  unfold State.setHashing
  split
  next hsame =>
    subst hsame
    rfl
  next => exact State.die_updDie_same ..

theorem die_dieEnter (s : State) (site : Nat) (st : DieSt) :
    (s.dieEnter site st).die site = { s.die site with st := st, since := s.time } :=
  State.die_updDie_same s site (fun d => { d with st := st, since := s.time })

/-- A record changes nothing of a die but the number of its last record. -/
theorem die_fsr (s : State) (r : FsrIn) (i : Nat) : ∃ q, (s.fsr r).die i = { s.die i with lastFsr := q } := by
  unfold State.fsr
  extract_lets seq _ _ _ _ _ v
  have hv (j : Nat) : v.die j = s.die j := rfl
  split
  · by_cases hi : i = r.index
    · subst hi
      rw [State.die_updDie_same]
      exact ⟨seq, congrArg (fun d : Die => { d with lastFsr := seq }) (hv r.index)⟩
    · rw [State.die_updDie_other _ _ hi, hv]
      exact ⟨_, rfl⟩
  · rw [hv]
    exact ⟨_, rfl⟩

theorem quarantine_marks (s : State) (site det : Nat) : ((s.quarantine site det).die site).quarantined = true := by
  unfold State.quarantine
  extract_lets d v w
  split
  next hmarked => exact hmarked
  have hw : (w.die site).quarantined = true := by
    obtain ⟨q, hq⟩ := die_fsr v { part := 0, index := site, det := det, kind := 2, action := 0x40 } site
    have hv : v.die site = { s.die site with quarantined := true } :=
      State.die_updDie_same s site (fun d => { d with quarantined := true })
    rw [hq, hv]
  clear_value w
  have hreq (u : State) (prio : Nat) : (u.reqMig site prio).die site = u.die site := by
    unfold State.reqMig
    split <;> rfl
  cases d.st
  case active => simp [hreq, hw]
  case warmSpare => simp [State.dieEnter, hw]
  case test => simp [State.dieEnter, hw]
  all_goals exact hw

/-- A quarantine is a record: no other object changes. -/
theorem num_quarantine (s : State) (site det : Nat) {k : Nat} (h : k ≠ Obj.FSR_LAST_SEQ) :
    (s.quarantine site det).num k = s.num k := by
  unfold State.quarantine
  extract_lets d v w
  split
  · rfl
  have hw : w.num k = s.num k := num_fsr v _ h
  clear_value w
  rw [← hw]
  cases d.st
  case active => exact num_of_od (reqMig_leaves ..).2.1 k
  all_goals rfl

/-- The floor concerns ACTIVE dies alone (02 R55). -/
theorem belowFloor_of_not_active {s : State} {site : Nat} (h : (s.die site).st ≠ .active) : s.belowFloor site = s := by
  unfold State.belowFloor
  split
  · rfl
  · exact if_neg fun hactive => h hactive.1

/-- The safe point of a die that is not ACTIVE concerns that die alone (02 R55). -/
theorem reSafe_of_not_active {s : State} {site : Nat} (h : (s.die site).st ≠ .active) :
    ∃ p, s.reSafe site = s.updDie site (fun d => { d with safe := p }) := by
  unfold State.reSafe
  extract_lets cal
  refine ⟨_, (belowFloor_of_not_active ?_).trans rfl⟩
  rwa [State.die_updDie_same]

/-! ## TEST_START (16 R456) -/

section
variable {s : State} {site : Nat} (hsite : site < 144)
include hsite

theorem testStart_refused (hadmits : s.admitsTest site = false) : exec (.testStart site) s = .next s := by
  simp [exec, execTestStart, onPart_next, hsite, hadmits]

theorem testStart_answers (hadmits : s.admitsTest site = true) (hst : (s.die site).st = .warmSpare) :
    answers (.testStart site) s (fun t => (t.die site).st = .test ∧ (t.die site).corner = 1 ∧ (t.die site).hashing = true ∧
      (t.die site).cornerAt = s.time ∧ site ∉ t.bringup.testQ ∧
      ((s.die site).hashing = false → ∀ k a, k / 272 = site → a < 2 ^ 19 → t.spadRead k a 1 = [0]) ∧
      t.hbm = s.hbm ∧ t.imem = s.imem) := by
  obtain ⟨v, hv⟩ : ∃ v, v = (((s.abandonRep site).unqueue site).dieEnter site .test).clearCores site := ⟨_, rfl⟩
  obtain ⟨w, hw⟩ : ∃ w, w = v.setHashing site true := ⟨_, rfl⟩
  have hexec : exec (.testStart site) s =
      .next (w.updDie site (fun d => { d with corner := 1, cornerAt := w.time })) := by
    rw [hw, hv]
    simp [exec, execTestStart, onPart_next, hsite, hadmits, hst]
  have hentered : v.die site = { s.die site with st := .test, since := s.time } := by
    rw [hv]
    exact die_dieEnter ((s.abandonRep site).unqueue site) site .test
  have hdie : w.die site = { s.die site with st := .test, since := s.time, hashing := true } := by
    rw [hw, die_setHashing, hentered]
  have htime : w.time = s.time := by
    obtain ⟨-, -, htime⟩ := State.setHashing_keeps v site true
    rw [hw, htime, hv]
    rfl
  have hqueue : w.bringup.testQ = s.bringup.testQ.filter (fun i => i != site) := by
    have hbringup : w.bringup = v.bringup := by
      obtain ⟨_, _, h⟩ := setHashing_reaches v site true
      rw [hw, h]
    rw [hbringup, hv]
    rfl
  obtain ⟨hhbm, himem, -⟩ := setHashing_leaves v site true
  refine answers_of_exec hexec ?_
  rw [State.die_updDie_same, hdie]
  refine ⟨rfl, rfl, rfl, htime, ?_, fun hwheel k a hk ha => ?_, ?_, ?_⟩
  · change site ∉ w.bringup.testQ
    simp [hqueue]
  · have hread := spadRead_setHashing v site true k ha
    have hmode : (v.die site).hashing ≠ true := by simp [hentered, hwheel]
    rw [← hw, if_pos ⟨hk, hmode⟩] at hread
    exact hread
  · rw [State.updDie_hbm, hw, hhbm, hv]
    rfl
  · rw [State.updDie_imem, hw, himem, hv]
    rfl

end

/-! ## TEST_CORNER_END (16 R457, R459) -/

/-- What a pass leaves of a die in TEST without a field entry, and of the objects (16 R459). -/
theorem testPass_leaves {s : State} {site : Nat} (hst : (s.die site).st = .test) (hfield : (s.die site).field = []) :
    ((s.testPass site).die site).st = .test ∧ ((s.testPass site).die site).lastPass = s.time ∧
    ((s.testPass site).die site).phases = [] ∧ ((s.testPass site).die site).marks = [] ∧
    (s.testPass site).od = s.od ∧ (s.testPass site).time = s.time := by
  simp only [State.testPass, hfield, applyField]
  generalize hv : State.mapWrite _ = v
  have hdie : (v.die site).st = .test ∧ (v.die site).lastPass = s.time ∧ (v.die site).phases = [] ∧
      (v.die site).marks = [] := by
    rw [← hv, State.die, State.mapWrite_dies, ← State.die, State.die_updDie_same]
    exact ⟨hst, rfl, rfl, rfl⟩
  obtain ⟨p, hp⟩ := reSafe_of_not_active (s := v) (site := site) (by simp [hdie.1])
  rw [hp, State.die_updDie_same]
  obtain ⟨hst', hpass, hphases, hmarks⟩ := hdie
  refine ⟨hst', hpass, hphases, hmarks, ?_, ?_⟩
  all_goals
    rw [← hv]
    rfl

/-- A sense point that warns again during a test takes its die to LOST (15 R414). -/
theorem connWarning_again {s : State} {site : Nat} (p : Nat) (hst : (s.die site).st = .test)
    (hconn : (s.die site).connTest = true) : ((s.connWarning site p).die site).st = .lost ∧
    ((s.connWarning site p).die site).powered = false ∧
    (s.connWarning site p).num Obj.CONN_WARNINGS = s.num Obj.CONN_WARNINGS + 1 ∧
    (s.connWarning site p).num Obj.CONN_LAST_SITE = site ∧ (s.connWarning site p).num Obj.CONN_LAST_POINT = p ∧
    (s.connWarning site p).cores = s.cores := by
  unfold State.connWarning
  extract_lets u d again v w _ x
  have hagain : again = true := by
    have hst' : d.st = .test := hst
    have hconn' : d.connTest = true := hconn
    simp [again, hst', hconn']
  have hnum {k : Nat} (hk : k ≠ Obj.FSR_LAST_SEQ) : w.num k = u.num k := num_fsr u _ hk
  have hcores : w.cores = s.cores := (State.fsr_aside u _).1.1
  clear_value w
  rw [if_pos hagain, State.die_updDie_same, die_dieEnter]
  refine ⟨rfl, rfl, (hnum (by decide)).trans ?_, (hnum (by decide)).trans ?_, (hnum (by decide)).trans ?_, hcores⟩
  · simp [u]
  · simp [u]
  · simp [u]

section
variable {s : State} {site : Nat} (heat : Nat) (hsite : site < 144) (hst : (s.die site).st = .test)
  (hcorner : (s.die site).corner ≠ 0)
include hsite hst hcorner

theorem testCornerEnd_fails : answers (.testCornerEnd site false ⟨heat, none⟩) s (fun t =>
    t.num Obj.TEST_FAILS = s.num Obj.TEST_FAILS + 1 ∧ (t.die site).quarantined = true ∧ sameMem s t) := by
  obtain ⟨at', hat⟩ : ∃ n, n =
    (s.die site).cornerAt + (if (s.die site).corner = 4 then min heat 60000000000 else 0) + 40000000000 := ⟨_, rfl⟩
  have hexec : exec (.testCornerEnd site false ⟨heat, none⟩) s =
      .next (((s.atTime at').count Obj.TEST_FAILS).quarantine site 0x1D) := by
    have hst' : ((s.atTime at').die site).st = .test := hst
    subst hat
    simp [exec, execTestCornerEnd, onPart_next, hsite, hst, hcorner, hst']
  obtain ⟨hspad, hhbm, himem, -, -⟩ := State.quarantine_memSame ((s.atTime at').count Obj.TEST_FAILS) site 0x1D
  refine answers_of_exec hexec ⟨?_, quarantine_marks .., hspad, hhbm, himem⟩
  rw [num_quarantine _ _ _ (by decide)]
  exact State.num_count_same (s.atTime at') Obj.TEST_FAILS 1

theorem testCornerEnd_next (hlast : (s.die site).corner < 4) : answers (.testCornerEnd site true ⟨heat, none⟩) s (fun t =>
    (t.die site).corner = (s.die site).corner + 1 ∧ (t.die site).st = .test ∧ (t.die site).cornerAt = t.time ∧
    t.time = max s.time ((s.die site).cornerAt + 40000000000) ∧ sameMem s t) := by
  have hexec : exec (.testCornerEnd site true ⟨heat, none⟩) s = .next
      ((s.atTime ((s.die site).cornerAt + 40000000000)).updDie site (fun d => { d with
        corner := d.corner + 1, cornerAt := (s.atTime ((s.die site).cornerAt + 40000000000)).time })) := by
    have hst' : ((s.atTime ((s.die site).cornerAt + 40000000000)).die site).st = .test := hst
    simp [exec, execTestCornerEnd, onPart_next, hsite, hst, hcorner, hst', hlast, hlast.ne]
  refine answers_of_exec hexec ?_
  rw [State.die_updDie_same]
  exact ⟨rfl, hst, rfl, rfl, rfl, rfl, rfl⟩

omit hcorner in
theorem testCornerEnd_passes (hlast : (s.die site).corner = 4) (hfield : (s.die site).field = []) :
    answers (.testCornerEnd site true ⟨heat, none⟩) s (fun t =>
      t.num Obj.TEST_PASSES = s.num Obj.TEST_PASSES + 1 ∧ (t.die site).st = .warmSpare ∧ (t.die site).corner = 0 ∧
      t.time = max s.time ((s.die site).cornerAt + min heat 60000000000 + 40000000000) ∧ (t.die site).hashing = false ∧
      (t.die site).lastPass = t.time ∧ (t.die site).phases = [] ∧ (t.die site).marks = []) := by
  obtain ⟨v, hv⟩ : ∃ v, v =
    (s.atTime ((s.die site).cornerAt + min heat 60000000000 + 40000000000)).count Obj.TEST_PASSES := ⟨_, rfl⟩
  have hst' : (v.die site).st = .test := by
    rw [hv]
    exact hst
  have hfield' : (v.die site).field = [] := by
    rw [hv]
    exact hfield
  obtain ⟨pst, ppass, pphases, pmarks, pod, ptime⟩ := testPass_leaves hst' hfield'
  have hexec : exec (.testCornerEnd site true ⟨heat, none⟩) s = .next
      ((((v.testPass site).setHashing site false).dieEnter site .warmSpare).updDie site (fun d => { d with corner := 0 })) := by
    have hst'' : ((s.atTime ((s.die site).cornerAt + min heat 60000000000 + 40000000000)).die site).st = .test := hst
    rw [hv] at pst ⊢
    simp [exec, execTestCornerEnd, onPart_next, hsite, hst, hst'', hlast, pst]
  obtain ⟨-, -, htime⟩ := State.setHashing_keeps (v.testPass site) site false
  have hod : ((v.testPass site).setHashing site false).od = v.od := by
    obtain ⟨_, _, h⟩ := setHashing_reaches (v.testPass site) site false
    rw [h]
    exact pod
  refine answers_of_exec hexec ?_
  rw [State.die_updDie_same, die_dieEnter, die_setHashing]
  refine ⟨(num_of_od hod _).trans ?_, rfl, rfl, (htime.trans ptime).trans ?_, rfl, ?_, pphases, pmarks⟩
  · rw [hv, State.num_count_same]
    rfl
  · rw [hv]
    rfl
  · exact ppass.trans (htime.trans ptime).symm

/-- A sense point that warns again ends the test with the die LOST (15 R414). -/
theorem testCornerEnd_warns (p : Nat) (hconn : (s.die site).connTest = true) :
    answers (.testCornerEnd site true ⟨heat, some p⟩) s (fun t => (t.die site).st = .lost ∧
      (t.die site).powered = false ∧ t.num Obj.CONN_WARNINGS = s.num Obj.CONN_WARNINGS + 1 ∧
      t.num Obj.CONN_LAST_SITE = site ∧ t.num Obj.CONN_LAST_POINT = p ∧ sameMem s t ∧ t.cores = s.cores) := by
  obtain ⟨v, hv⟩ : ∃ v, v = s.atTime
    ((s.die site).cornerAt + (if (s.die site).corner = 4 then min heat 60000000000 else 0) + 40000000000) := ⟨_, rfl⟩
  obtain ⟨wst, wpowered, wwarnings, wsite, wpoint, wcores⟩ :=
    connWarning_again (s := v) (site := site) p (by rw [hv]; exact hst) (by rw [hv]; exact hconn)
  have hexec : exec (.testCornerEnd site true ⟨heat, some p⟩) s = .next (v.connWarning site p) := by
    rw [hv] at wst ⊢
    simp [exec, execTestCornerEnd, onPart_next, hsite, hst, hcorner, wst]
  obtain ⟨hspad, hhbm, himem, -, -⟩ := State.connWarning_memSame v site p
  refine answers_of_exec hexec ⟨wst, wpowered, wwarnings.trans ?_, wsite, wpoint,
    ⟨hspad.trans ?_, hhbm.trans ?_, himem.trans ?_⟩, wcores.trans ?_⟩
  all_goals
    rw [hv]
    rfl

end

/-! ## FIELD_TEST_DUE (16 R456) -/

theorem joinTest_mem {s : State} {site : Nat} (hst : (s.die site).st = .warmSpare)
    (hquarantined : (s.die site).quarantined = false) : site ∈ (s.joinTest site).bringup.testQ := by
  by_cases hin : site ∈ s.bringup.testQ
  · simp [State.joinTest, hin]
  · simp [State.joinTest, hin, hst, hquarantined]

theorem fieldTestDue_answers {s : State} {site : Nat} (hsite : site < 144) (htesting : s.testing = true)
    (hst : (s.die site).st = .warmSpare) (hquarantined : (s.die site).quarantined = false) :
    answers (.fieldTestDue site) s (fun t => site ∈ t.bringup.testQ ∧ t.time = max s.time (s.die site).testDue ∧
      sameMem s t ∧ t.cores = s.cores) := by
  obtain ⟨v, hv⟩ : ∃ v, v = s.atTime (s.die site).testDue := ⟨_, rfl⟩
  have hexec : exec (.fieldTestDue site) s = .next (v.joinTest site) := by
    simp [exec, execFieldTestDue, onPart_next, hsite, htesting, hv]
  obtain ⟨-, -, htime⟩ := State.joinTest_keeps v site
  obtain ⟨⟨hcores, -, -, hspad⟩, himem, hhbm, -⟩ := State.joinTest_aside v site
  refine answers_of_exec hexec ⟨joinTest_mem (by rw [hv]; exact hst) (by rw [hv]; exact hquarantined), htime.trans ?_,
    ⟨hspad.trans ?_, hhbm.trans ?_, himem.trans ?_⟩, hcores.trans ?_⟩
  all_goals
    rw [hv]
    rfl

/-- Settles O41: the start of a replay and its first digest, the start of a test, the end of a corner, a test that is due. -/
theorem replaysTests : Obligations.replays_tests := by
  unfold Obligations.replays_tests
  refine ⟨⟨fun _ _ vd => replayDieStart_refused vd, fun _ _ _ _ => replayDieStart_answers, fun _ _ b _ hsite hr => ?_⟩,
    fun _ _ => testStart_refused, fun _ _ => testStart_answers, fun _ _ heat hsite hst hcorner => ?_,
    fun _ _ => fieldTestDue_answers⟩
  · exact ⟨replayCompare_early b hsite hr, replayCompare_answers b hsite hr⟩
  · exact ⟨testCornerEnd_fails heat hsite hst hcorner, testCornerEnd_next heat hsite hst hcorner,
      testCornerEnd_passes heat hsite hst, testCornerEnd_warns heat hsite hst hcorner⟩

end Sys2Proof.Proofs

end

section
/-! PROOFS. Frames that the panel sends (12 R332 to R337, R353): what putting them into the queues of its ports reaches, and what a
port keeps while it sends. -/

open Sys2Proof Sys2Proof.Machine Sys2Proof.Claims

namespace Sys2Proof.Proofs

/-! ## A port that sends (12 R333, R335) -/

/-- From `p` to `q` the port has only sent: its link stands as it stood, and frames that leave follow those that it kept. -/
structure PortSends (p q : Port) : Prop where
  up : q.up = p.up
  linked : q.linked = p.linked
  flight : q.flight = p.flight
  rxSeq : q.rxSeq = p.rxSeq
  idleAt : q.idleAt = p.idleAt
  retryAt : q.retryAt = p.retryAt
  retry : p.retry <+: q.retry

theorem PortSends.refl (p : Port) : PortSends p p := ⟨rfl, rfl, rfl, rfl, rfl, rfl, List.prefix_rfl⟩

theorem PortSends.trans {p q r : Port} (h : PortSends p q) (h' : PortSends q r) : PortSends p r :=
  ⟨h'.up.trans h.up, h'.linked.trans h.linked, h'.flight.trans h.flight, h'.rxSeq.trans h.rxSeq, h'.idleAt.trans h.idleAt,
    h'.retryAt.trans h.retryAt, h.retry.trans h'.retry⟩

/-- Frames that come to wait are sent later. -/
theorem portSends_wait (p : Port) (w : List GlpFrame) : PortSends p { p with wait := w } :=
  ⟨rfl, rfl, rfl, rfl, rfl, rfl, List.prefix_rfl⟩

theorem emit_portSends (p : Port) (f : GlpFrame) : PortSends p (p.emit f) := by
  unfold Port.emit
  extract_lets lack cr q g
  have hq : PortSends p q := by
    unfold q
    split
    · exact .refl p
    · exact ⟨rfl, rfl, rfl, rfl, rfl, rfl, List.prefix_rfl⟩
  refine hq.trans ?_
  split
  · exact ⟨rfl, rfl, rfl, rfl, rfl, rfl, List.prefix_rfl⟩
  · exact ⟨rfl, rfl, rfl, rfl, rfl, rfl, List.prefix_append ..⟩

theorem pumpList_portSends (cap : Nat → Nat) (me : Nat) (l : List GlpFrame) (blocked : List Nat) (q : Nat) (p : Port) :
    PortSends p (pumpList cap me l blocked q p).1 := by
  induction l generalizing blocked q p with
  | nil => exact .refl p
  | cons f l ih =>
    rw [pumpList]
    split
    · exact (emit_portSends p f).trans (ih ..)
    · exact (portSends_wait ..).trans (ih ..)

/-! ## What sending reaches -/

/-- From `s` to `t` frames have been sent: the ports and what their directions count, the directions that wait for the secure
element, its signatures, and what is discarded are all that has changed. -/
structure GlpSends (s t : State) : Prop where
  reach : ∃ ports dirs wait signs n, s.net.discards ≤ n ∧ t = { s with
    fabric := { s.fabric with ports := ports, dirs := dirs, bringWait := wait }
    access := { s.access with signCount := signs }
    net := { s.net with discards := n } }
  ports : ∀ k, PortSends (s.port k) (t.port k)

theorem GlpSends.refl (s : State) : GlpSends s s := ⟨⟨_, _, _, _, _, le_rfl, rfl⟩, fun k => .refl (s.port k)⟩

theorem GlpSends.trans {s t u : State} (h : GlpSends s t) (h' : GlpSends t u) : GlpSends s u := by
  refine ⟨?_, fun k => (h.ports k).trans (h'.ports k)⟩
  obtain ⟨_, _, _, _, n, hn, rfl⟩ := h.reach
  obtain ⟨_, _, _, _, m, hm, rfl⟩ := h'.reach
  exact ⟨_, _, _, _, m, hn.trans hm, rfl⟩

theorem foldl_glpSends {α : Type} {f : State → α → State} (h : ∀ s x, GlpSends s (f s x)) (l : List α) (s : State) :
    GlpSends s (l.foldl f s) :=
  List.foldlRecOn l f (motive := GlpSends s) (.refl s) fun t ht x _ => ht.trans (h t x)

section
variable {s t : State} (h : GlpSends s t)
include h

theorem GlpSends.sameMem : sameMem s t := by
  obtain ⟨_, _, _, _, _, _, rfl⟩ := h.reach
  exact ⟨rfl, rfl, rfl⟩

theorem GlpSends.cores : t.cores = s.cores := by
  obtain ⟨_, _, _, _, _, _, rfl⟩ := h.reach
  rfl

theorem GlpSends.time : t.time = s.time := by
  obtain ⟨_, _, _, _, _, _, rfl⟩ := h.reach
  rfl

theorem GlpSends.od : t.od = s.od := by
  obtain ⟨_, _, _, _, _, _, rfl⟩ := h.reach
  rfl

theorem GlpSends.discards : s.net.discards ≤ t.net.discards := by
  obtain ⟨_, _, _, _, _, hn, rfl⟩ := h.reach
  exact hn

end

/-! ## The functions that send -/

theorem updPort_glpSends {s : State} {k : Nat} {f : Port → Port} (h : PortSends (s.port k) (f (s.port k))) :
    GlpSends s (s.updPort k f) := by
  refine ⟨⟨_, _, _, _, _, le_rfl, rfl⟩, fun j => ?_⟩
  by_cases hj : j = k
  · rw [hj, State.port_updPort_same]
    exact h
  · rw [State.port_updPort_other _ _ hj]
    exact .refl _

theorem updDir_glpSends (s : State) (d : Nat) (f : Dir → Dir) : GlpSends s (s.updDir d f) :=
  ⟨⟨_, _, _, _, _, le_rfl, rfl⟩, fun k => .refl (s.port k)⟩

theorem glpDiscard_glpSends (s : State) (n : Nat) : GlpSends s (s.glpDiscard n) :=
  ⟨⟨_, _, _, _, _, Nat.le_add_right .., rfl⟩, fun k => .refl (s.port k)⟩

theorem portPump_glpSends (s : State) (port : Nat) : GlpSends s (s.portPump port) := by
  unfold State.portPump
  extract_lets d us q p r
  split
  · exact .refl s
  · exact (updPort_glpSends ((portSends_wait p []).trans (pumpList_portSends ..))).trans (updDir_glpSends ..)

theorem queueFrame_glpSends (s : State) (port : Nat) (f : GlpFrame) : GlpSends s (s.queueFrame port f) :=
  (updPort_glpSends (portSends_wait ..)).trans (portPump_glpSends ..)

theorem linkCtl_glpSends (s : State) (port op : Nat) : GlpSends s (s.linkCtl port op) := queueFrame_glpSends ..

theorem forward_glpSends (s : State) (f : GlpFrame) (came : Option Nat) : GlpSends s (s.forward f came) := by
  unfold State.forward
  split
  · exact .refl s
  extract_lets g
  split
  · split
    · exact queueFrame_glpSends ..
    · exact glpDiscard_glpSends ..
  · exact glpDiscard_glpSends ..

theorem glpSend_glpSends (s : State) (g : GlpSpec) : GlpSends s (s.glpSend g) := by
  unfold State.glpSend
  split
  · exact .refl s
  · exact forward_glpSends ..

theorem toHost_glpSends (s : State) (op arg sess tag : Nat) (payload : Bytes) :
    GlpSends s (s.toHost op arg sess tag payload) := by
  unfold State.toHost
  extract_lets g
  split
  · split
    · exact updPort_glpSends ⟨rfl, rfl, rfl, rfl, rfl, rfl, List.prefix_rfl⟩
    · exact .refl s
  · exact glpSend_glpSends ..

theorem sendColl_glpSends (s : State) (c : Coll) (entry frame : Nat) (b : Bytes) : GlpSends s (s.sendColl c entry frame b) :=
  foldl_glpSends (fun _ _ => glpSend_glpSends ..) _ s

theorem sendConcordOn_glpSends (s : State) (port : Nat) : GlpSends s (s.sendConcordOn port) := by
  unfold State.sendConcordOn
  extract_lets g a v
  have hv : GlpSends s v := ⟨⟨_, _, _, _, _, le_rfl, rfl⟩, fun k => .refl (s.port k)⟩
  exact hv.trans (queueFrame_glpSends ..)

theorem sendConcord_glpSends (s : State) (d : Nat) : GlpSends s (s.sendConcord d) := by
  unfold State.sendConcord
  split
  · exact ⟨⟨_, _, _, _, _, le_rfl, rfl⟩, fun k => .refl (s.port k)⟩
  · exact foldl_glpSends (fun _ _ => sendConcordOn_glpSends ..) _ s

end Sys2Proof.Proofs

end

section
/-! PROOFS. O45: ports that come up and go down, frames received, retries and the links between panels (12 R327, R332, R333, R340,
R352, R355, R362). -/

open Sys2Proof Sys2Proof.Machine Sys2Proof.Claims

namespace Sys2Proof.Proofs

/-! ## Records leave the ports as they are (15 R435) -/

@[simp] theorem fsr_fabric (s : State) (r : FsrIn) : (s.fsr r).fabric = s.fabric := by
  simp only [State.fsr]
  split <;> rfl

@[simp] theorem port_fsr (s : State) (r : FsrIn) (k : Nat) : (s.fsr r).port k = s.port k := by
  rw [State.port, fsr_fabric, State.port]

theorem fsr_cores (s : State) (r : FsrIn) : (s.fsr r).cores = s.cores := (State.fsr_aside s r).1.1

theorem fsr_sameMem (s : State) (r : FsrIn) : sameMem s (s.fsr r) := by
  obtain ⟨hspad, hhbm, himem, -, -⟩ := State.fsr_memSame s r
  exact ⟨hspad, hhbm, himem⟩

theorem sameMem_trans {s t u : State} (h : sameMem s t) (h' : sameMem t u) : sameMem s u := by
  obtain ⟨hspad, hhbm, himem⟩ := h
  obtain ⟨hspad', hhbm', himem'⟩ := h'
  exact ⟨hspad'.trans hspad, hhbm'.trans hhbm, himem'.trans himem⟩

/-! ## A port goes down (12 R327, R330, R333) -/

theorem port_glpDiscard (s : State) (n k : Nat) : (s.glpDiscard n).port k = s.port k := rfl

/-- The port down and emptied, what it kept for a retry discarded into the ledger. -/
def portEmptied (s : State) (port : Nat) : State :=
  (s.updPort port (fun p => { p with up := false, retry := [], wait := [], onLane := none })).glpDiscard
    ((s.port port).retry.map GlpFrame.units).sum

/-- A frame that waited at a port that went down goes to another port of the direction, where there is one. -/
def frameMoved (d : Nat) (s : State) (f : GlpFrame) : State :=
  match s.choosePort d f with
  | some q => s.queueFrame q f
  | none => s.glpDiscard f.units

theorem dropPort_eq (s : State) (port : Nat) : s.dropPort port =
    ((s.port port).wait.filter (fun f => f.cls != 15 && f.op != 0x12)).foldl (frameMoved (dirOf port)) (portEmptied s port) :=
  rfl

theorem frameMoved_glpSends (d : Nat) (s : State) (f : GlpFrame) : GlpSends s (frameMoved d s f) := by
  unfold frameMoved
  split
  · exact queueFrame_glpSends ..
  · exact glpDiscard_glpSends ..

theorem choosePort_up {s : State} {d q : Nat} {f : GlpFrame} (h : s.choosePort d f = some q) : (s.port q).up = true := by
  have hmem : q ∈ s.dirUp d := List.mem_of_getElem? h
  simp only [State.dirUp, State.dirPorts, List.mem_filter, Bool.and_eq_true] at hmem
  obtain ⟨⟨-, hup, -⟩, -⟩ := hmem
  exact hup

theorem queueFrame_port_other (s : State) {port k : Nat} (f : GlpFrame) (h : k ≠ port) :
    (s.queueFrame port f).port k = s.port k := by
  have hpump (v : State) : (v.portPump port).port k = v.port k := by
    unfold State.portPump
    extract_lets d us q p r
    split
    · rfl
    · exact State.port_updPort_other v (fun _ => r.1) h
  rw [State.queueFrame, hpump, State.port_updPort_other _ _ h]

theorem frameMoved_port_down {s : State} {k : Nat} (d : Nat) (f : GlpFrame) (hdown : (s.port k).up = false) :
    (frameMoved d s f).port k = s.port k := by
  unfold frameMoved
  split
  next q hq =>
    refine queueFrame_port_other s f fun hk => ?_
    rw [hk, choosePort_up hq] at hdown
    cases hdown
  next => rfl

theorem dropPort_glpSends (s : State) (port : Nat) : GlpSends (portEmptied s port) (s.dropPort port) := by
  rw [dropPort_eq]
  exact foldl_glpSends (frameMoved_glpSends _) ..

/-- None of the frames that waited comes back to the port that went down. -/
theorem dropPort_port (s : State) (port : Nat) : (s.dropPort port).port port =
    { s.port port with up := false, retry := [], wait := [], onLane := none } := by
  have hempty : (portEmptied s port).port port =
      { s.port port with up := false, retry := [], wait := [], onLane := none } := by
    rw [portEmptied, port_glpDiscard, State.port_updPort_same]
  rw [dropPort_eq, ← hempty]
  refine List.foldlRecOn _ _ (motive := fun t : State => t.port port = (portEmptied s port).port port) rfl fun t ht f _ => ?_
  rw [frameMoved_port_down, ht]
  rw [ht, hempty]

theorem portDown_down {s : State} {p : Nat} (hp : p < 128) (hdown : (s.port p).up = false) :
    exec (.portDown p) s = .next s := by
  simp [exec, execPortDown, onPart_next, hp, hdown]

theorem portDown_answers {s : State} {p : Nat} (hp : p < 128) (hup : (s.port p).up = true) :
    answers (.portDown p) s (fun t => (t.port p).up = false ∧ (t.port p).retry = [] ∧ (t.port p).wait = [] ∧
      s.net.discards ≤ t.net.discards ∧ sameMem s t ∧ t.cores = s.cores) := by
  obtain ⟨r, hexec⟩ : ∃ r, exec (.portDown p) s = .next ((s.dropPort p).fsr r) := by
    have hgo : ¬(!(s.port p).up) = true := by simp [hup]
    simp only [exec, execPortDown, onPart_next (decide_eq_true hp), if_neg hgo]
    exact ⟨_, rfl⟩
  have hdrop : GlpSends (portEmptied s p) (s.dropPort p) := dropPort_glpSends s p
  refine answers_of_exec hexec ?_
  rw [port_fsr, dropPort_port, fsr_net]
  refine ⟨rfl, rfl, rfl, ?_, sameMem_trans (sameMem_trans ?_ hdrop.sameMem) (fsr_sameMem ..),
    (fsr_cores ..).trans hdrop.cores⟩
  · exact (Nat.le_add_right ..).trans hdrop.discards
  · exact ⟨rfl, rfl, rfl⟩

/-! ## A port comes up (12 R327, R339, R362) -/

theorem portUp_refused {s : State} {p : Nat} (ns : Nat) (hp : p < 128) (h : (s.port p).up = true ∨ s.mayUp p = false) :
    exec (.portUp p ns) s = .next s := by
  have hgo : ((s.port p).up || !s.mayUp p) = true := by
    rcases h with h | h
    · simp [h]
    · simp [h]
  simp only [exec, execPortUp, onPart_next (decide_eq_true hp), if_pos hgo]

/-- The port as it comes up: its counts and sequence numbers start anew. -/
def portRisen (s : State) (p ns : Nat) : State := s.updPort p (fun _ => { up := true, linked := true, flight := ns })

theorem exchange_glpSends (s : State) (port : Nat) :
    GlpSends s (if s.access.halves = 0 then s.sendConcord (dirOf port) else s.sendConcordOn port) := by
  split
  · exact sendConcord_glpSends ..
  · exact sendConcordOn_glpSends ..

theorem portUp_answers {s : State} {p : Nat} (ns : Nat) (hp : p < 128) (hdown : (s.port p).up = false)
    (hmay : s.mayUp p = true) : answers (.portUp p ns) s (fun t => (t.port p).up = true ∧ (t.port p).linked = true ∧
      (t.port p).flight = ns ∧ (t.port p).rxSeq = 0 ∧ sameMem s t ∧ t.cores = s.cores) := by
  obtain ⟨t, hexec, ht⟩ : ∃ t, exec (.portUp p ns) s = .next t ∧ GlpSends (portRisen s p ns) t := by
    have hgo : ¬((s.port p).up || !s.mayUp p) = true := by simp [hdown, hmay]
    simp only [exec, execPortUp, onPart_next (decide_eq_true hp), if_neg hgo]
    refine ⟨_, rfl, ?_⟩
    split
    · exact exchange_glpSends (portRisen s p ns) p
    · exact .refl _
  have hport : (portRisen s p ns).port p = { up := true, linked := true, flight := ns } := State.port_updPort_same ..
  have hsends := ht.ports p
  rw [hport] at hsends
  exact answers_of_exec hexec ⟨hsends.up, hsends.linked, hsends.flight, hsends.rxSeq, ht.sameMem, ht.cores⟩

/-- The lane that SIMMER uses falls back to the next port's, up to the fourth (12 R362). -/
theorem laneFallback_answers {s : State} {d : Nat} (hd : d < 8) (hpanel : s.panel = .simmer)
    (hlane : (s.portDie d).laneDown = false) (hoff : (s.portDie d).off = false) :
    answers (.lowRateLaneFallback d) s (fun t =>
      (t.portDie d).lane = (if (s.portDie d).lane < 3 then (s.portDie d).lane + 1 else (s.portDie d).lane) ∧
      (t.portDie d).laneDown = !decide ((s.portDie d).lane < 3) ∧ sameMem s t ∧ t.cores = s.cores) := by
  obtain ⟨v, hv⟩ : ∃ v, v = s.dropPort (16 * d + (s.portDie d).lane) := ⟨_, rfl⟩
  have hdrop : GlpSends (portEmptied s (16 * d + (s.portDie d).lane)) v := hv ▸ dropPort_glpSends ..
  have hdie : v.portDie d = s.portDie d := by
    obtain ⟨_, _, _, _, _, _, h⟩ := hdrop.reach
    rw [h]
    rfl
  have hexec : exec (.lowRateLaneFallback d) s = .next (v.updPortDie d (fun d =>
      if d.lane < 3 then { d with lane := d.lane + 1 } else { d with laneDown := true })) := by
    rw [hv]
    simp [exec, execLowRateLaneFallback, onPart_next, hd, hpanel, hlane, hoff]
  refine answers_of_exec hexec ?_
  rw [State.portDie_updPortDie_same, hdie]
  refine ⟨?_, ?_, sameMem_trans ⟨rfl, rfl, rfl⟩ hdrop.sameMem, hdrop.cores⟩
  · split <;> rfl
  · split
    next h => simp [h, hlane]
    next h => simp [h]

/-! ## Frames received (12 R332, R333, R343) -/

/-- The next sequence number that port `p` expects, the cores and the memories of `t` are those of `s`. -/
structure KeepsRx (p : Nat) (s t : State) : Prop where
  rxSeq : (t.port p).rxSeq = (s.port p).rxSeq
  cores : t.cores = s.cores
  mem : sameMem s t

theorem KeepsRx.trans {p : Nat} {s t u : State} (h : KeepsRx p s t) (h' : KeepsRx p t u) : KeepsRx p s u :=
  ⟨h'.rxSeq.trans h.rxSeq, h'.cores.trans h.cores, sameMem_trans h.mem h'.mem⟩

theorem KeepsRx.refl (p : Nat) (s : State) : KeepsRx p s s := ⟨rfl, rfl, rfl, rfl, rfl⟩

theorem GlpSends.keepsRx {s t : State} (h : GlpSends s t) (p : Nat) : KeepsRx p s t :=
  ⟨(h.ports p).rxSeq, h.cores, h.sameMem⟩

theorem fsr_keepsRx (p : Nat) (s : State) (r : FsrIn) : KeepsRx p s (s.fsr r) :=
  ⟨by rw [port_fsr], fsr_cores s r, fsr_sameMem s r⟩

theorem setNum_keepsRx (p : Nat) (s : State) (k n : Nat) : KeepsRx p s (s.setNum k n) := ⟨rfl, rfl, rfl, rfl, rfl⟩

theorem glpHeaderFault_keepsRx (p : Nat) (s : State) (port n : Nat) : KeepsRx p s (s.glpHeaderFault port n) :=
  KeepsRx.trans (t := (s.glpDiscard n).report 0x07 none none) ⟨rfl, rfl, rfl, rfl, rfl⟩ (fsr_keepsRx ..)

/-- The frame's acknowledgement and credits taken, and what they let go sent. -/
def frameTaken (s : State) (p : Nat) (f : GlpFrame) : State := (s.updPort p (fun p => p.take f)).portPump p

/-- The frame counted: the next sequence number is expected, its credits are owed. -/
def frameCounted (s : State) (p : Nat) (f : GlpFrame) : State :=
  (frameTaken s p f).updPort p (fun p => { p with
    rxSeq := (p.rxSeq + 1) % 4096
    received := SMap.upd zeroD p.received f.chan (fun v => v + f.units)
    owed := SMap.upd zeroD p.owed f.chan (fun v => v + f.units) })

theorem frameTaken_keepsRx (s : State) (p : Nat) (f : GlpFrame) : KeepsRx p s (frameTaken s p f) := by
  refine KeepsRx.trans (t := s.updPort p (fun p => p.take f)) ⟨?_, rfl, rfl, rfl, rfl⟩ ((portPump_glpSends ..).keepsRx p)
  rw [State.port_updPort_same]
  rfl

theorem frameTaken_num (s : State) (p : Nat) (f : GlpFrame) (k : Nat) : (frameTaken s p f).num k = s.num k :=
  num_of_od (portPump_glpSends (s.updPort p (fun p => p.take f)) p).od k

theorem portPump_net (s : State) (port : Nat) : (s.portPump port).net = s.net := by
  unfold State.portPump
  extract_lets d us q p r
  split <;> rfl

theorem frameCounted_leaves (s : State) (p : Nat) (f : GlpFrame) :
    ((frameCounted s p f).port p).rxSeq = ((s.port p).rxSeq + 1) % 4096 ∧ (frameCounted s p f).cores = s.cores ∧
    sameMem s (frameCounted s p f) ∧ (frameCounted s p f).net = s.net := by
  obtain ⟨hrx, hcores, hmem⟩ := frameTaken_keepsRx s p f
  refine ⟨?_, hcores, hmem, portPump_net ..⟩
  rw [frameCounted, State.port_updPort_same, ← hrx]

section
variable {s : State} {p : Nat} {f : GlpFrame} (hp : p < 128) (hup : (s.port p).up = true) (hrole : s.portRole p = 0)
include hp hup hrole

/-- A frame with a bad LCRC or out of sequence is asked for again (12 R332, R333). -/
theorem glpFrameReceive_bad (hbad : f.lcrc.toNat = f.lcrcOf → f.cls ≠ 15 ∧ f.lseq ≠ (s.port p).rxSeq) :
    exec (.glpFrameReceive p f) s = .next (s.linkCtl p 0x21) := by
  by_cases hlcrc : f.lcrc.toNat = f.lcrcOf
  · obtain ⟨hcls, hseq⟩ := hbad hlcrc
    simp [exec, execGlpFrameReceive, onPart_next, hp, hup, hrole, hlcrc, hcls, hseq]
  · simp [exec, execGlpFrameReceive, onPart_next, hp, hup, hrole, hlcrc]

theorem glpFrameReceive_control (hlcrc : f.lcrc.toNat = f.lcrcOf) (hcls : f.cls = 15) :
    ∃ t, exec (.glpFrameReceive p f) s = .next t ∧ KeepsRx p s t := by
  simp only [exec, execGlpFrameReceive, onPart_next (decide_eq_true hp), hup, hrole, hlcrc, hcls, Bool.not_true,
    Bool.false_or, Nat.reduceBEq, bne_self_eq_false, Bool.false_and, Bool.false_eq_true, if_false, if_true]
  refine ⟨_, rfl, (frameTaken_keepsRx s p f).trans ?_⟩
  change KeepsRx p (frameTaken s p f) (if [0x20, 0x21, 0x22].contains f.op then frameTaken s p f else _)
  split
  · exact .refl ..
  · exact (setNum_keepsRx ..).trans (fsr_keepsRx ..)

/-- A frame in sequence is counted; what becomes of it then is no matter of the link. -/
theorem glpFrameReceive_data (hlcrc : f.lcrc.toNat = f.lcrcOf) (hcls : f.cls ≠ 15) (hseq : f.lseq = (s.port p).rxSeq) :
    ∃ t, exec (.glpFrameReceive p f) s = .next t ∧ KeepsRx p (frameCounted s p f) t ∧
      (f.cls ≠ 4 → s.panelFrozen f.srcp = true → t.net.discards = s.net.discards + f.units) := by
  have hfrozen : (frameCounted s p f).panelFrozen f.srcp = s.panelFrozen f.srcp := by
    unfold State.panelFrozen
    rw [← frameTaken_num s p f]
    rfl
  obtain ⟨-, -, -, hnet⟩ := frameCounted_leaves s p f
  simp only [exec, execGlpFrameReceive, onPart_next (decide_eq_true hp), hup, hrole, hlcrc, hcls, hseq,
    Bool.not_true, Bool.false_or, Nat.reduceBEq, bne_self_eq_false, Bool.and_false, Bool.false_eq_true, if_false]
  refine ⟨_, rfl, ?_, fun hexp hfr => ?_⟩
  · change KeepsRx p (frameCounted s p f) (if (frameCounted s p f).panelFrozen f.srcp && f.cls != 4 then _ else _)
    split
    · exact (glpDiscard_glpSends ..).keepsRx p
    split
    · exact ((glpDiscard_glpSends ..).keepsRx p).trans ((setNum_keepsRx ..).trans (fsr_keepsRx ..))
    split
    · split
      · exact .refl ..
      · exact glpHeaderFault_keepsRx ..
    · exact (forward_glpSends ..).keepsRx p
  · change (if (frameCounted s p f).panelFrozen f.srcp && f.cls != 4 then (frameCounted s p f).glpDiscard f.units
      else _).net.discards = _
    rw [if_pos (by simp [hfrozen, hfr, hexp]), ← hnet]
    rfl

theorem glpFrameReceive_answers : answers (.glpFrameReceive p f) s (fun t => sameMem s t ∧ t.cores = s.cores ∧
    (t.port p).rxSeq = (if f.lcrc.toNat = f.lcrcOf ∧ f.cls ≠ 15 ∧ f.lseq = (s.port p).rxSeq
      then ((s.port p).rxSeq + 1) % 4096 else (s.port p).rxSeq) ∧
    (f.lcrc.toNat = f.lcrcOf → f.cls ≠ 15 → f.cls ≠ 4 → f.lseq = (s.port p).rxSeq → s.panelFrozen f.srcp = true →
      t.net.discards = s.net.discards + f.units)) := by
  by_cases hdata : f.lcrc.toNat = f.lcrcOf ∧ f.cls ≠ 15 ∧ f.lseq = (s.port p).rxSeq
  · obtain ⟨hlcrc, hcls, hseq⟩ := hdata
    obtain ⟨t, hexec, hkeeps, hdisc⟩ := glpFrameReceive_data hp hup hrole hlcrc hcls hseq
    obtain ⟨hrx, hcores, hmem, -⟩ := frameCounted_leaves s p f
    rw [if_pos ⟨hlcrc, hcls, hseq⟩]
    exact ⟨t, hexec, sameMem_trans hmem hkeeps.mem, hkeeps.cores.trans hcores, hkeeps.rxSeq.trans hrx,
      fun _ _ hexp _ => hdisc hexp⟩
  · obtain ⟨t, hexec, hkeeps⟩ : ∃ t, exec (.glpFrameReceive p f) s = .next t ∧ KeepsRx p s t := by
      by_cases hctl : f.lcrc.toNat = f.lcrcOf ∧ f.cls = 15
      · exact glpFrameReceive_control hp hup hrole hctl.1 hctl.2
      · refine ⟨_, glpFrameReceive_bad hp hup hrole fun hlcrc => ?_, (linkCtl_glpSends ..).keepsRx p⟩
        have hcls : f.cls ≠ 15 := fun h => hctl ⟨hlcrc, h⟩
        exact ⟨hcls, fun h => hdata ⟨hlcrc, hcls, h⟩⟩
    rw [if_neg hdata]
    exact ⟨t, hexec, hkeeps.mem, hkeeps.cores, hkeeps.rxSeq, fun hlcrc hcls _ hseq _ => absurd ⟨hlcrc, hcls, hseq⟩ hdata⟩

end

/-! ## What a port in use is told (12 R333, R340, R352, R355) -/

/-- The answer that a host-mode port sends to an address: 0 an advertisement, 1 an echo (12 R355). -/
def icmpAnswered (s : State) (p kind : Nat) (addr : Bytes) : State :=
  { s with fabric := { s.fabric with icmp := SMap.put (fun _ => (0, [])) s.fabric.icmp p (kind, addr) } }

theorem icmpAnswered_leaves (s : State) (p kind : Nat) (addr : Bytes) :
    SMap.get (fun _ => (0, [])) (icmpAnswered s p kind addr).fabric.icmp p = (kind, addr) ∧
    sameMem s (icmpAnswered s p kind addr) ∧ (icmpAnswered s p kind addr).cores = s.cores :=
  ⟨SMap.get_put_same .., ⟨rfl, rfl, rfl⟩, rfl⟩

section
variable {s : State} {p : Nat} (hp : p < 128) (hup : (s.port p).up = true)
include hp hup

/-- The frames after the acknowledged one stand first in the queue of those that were sent. -/
theorem nak_answers (n : Nat) : answers (.nak p n) s (fun t =>
    (s.port p).retry.filter (fun g => decide (2048 ≤ (n % 4096 + 4096 - g.lseq) % 4096)) <+: (t.port p).retry ∧
    sameMem s t ∧ t.cores = s.cores) := by
  generalize hkept : (s.port p).retry.filter (fun g => decide (2048 ≤ (n % 4096 + 4096 - g.lseq) % 4096)) = kept
  obtain ⟨v, hv⟩ : ∃ v, v = s.updPort p (fun p => { p with
    retry := kept, onLane := match kept.getLast? with | some g => some g | none => p.onLane }) := ⟨_, rfl⟩
  have hretry : (v.port p).retry = kept := by rw [hv, State.port_updPort_same]
  have hsends : GlpSends v (v.portPump p) := portPump_glpSends v p
  have hmem : sameMem s (v.portPump p) := sameMem_trans (by rw [hv]; exact ⟨rfl, rfl, rfl⟩) hsends.sameMem
  have hcores : (v.portPump p).cores = s.cores := hsends.cores.trans (by rw [hv]; rfl)
  have hprefix : kept <+: ((v.portPump p).port p).retry := hretry ▸ (hsends.ports p).retry
  have hexec : exec (.nak p n) s = .next (if kept.isEmpty then v.portPump p
      else ((v.portPump p).count Obj.FABRIC_RETRIES).updPortDie (p / 16)
        (fun d => { d with retries := SMap.upd zeroD d.retries (p % 16) (fun x => x + 1) })) := by
    simp only [exec, execNak, onPart_next (decide_eq_true hp), hup, hkept, hv]
    rfl
  refine answers_of_exec hexec ?_
  split <;> exact ⟨hprefix, hmem, hcores⟩

/-- A port that is idle says so at its time; whether a frame leaves or a link-control frame, it only sends. -/
theorem idle_answers (hrole : s.portRole p = 0) : answers (.idle p) s (fun t => (t.port p).idleAt = t.time ∧
    t.time = (s.nextSample (s.port p).idleAt 100).time ∧ sameMem s t ∧ t.cores = s.cores) := by
  generalize hv : s.nextSample (s.port p).idleAt 100 = v
  obtain ⟨w, hw⟩ : ∃ w, w = v.updPort p (fun p => { p with idleAt := v.time }) := ⟨_, rfl⟩
  have hidle : (w.port p).idleAt = v.time := by rw [hw, State.port_updPort_same]
  have htime : w.time = v.time := by rw [hw]; rfl
  have hmem : sameMem s w := by rw [hw, ← hv]; exact ⟨rfl, rfl, rfl⟩
  have hcores : w.cores = s.cores := by rw [hw, ← hv]; rfl
  obtain ⟨t, hexec, ht⟩ : ∃ t, exec (.idle p) s = .next t ∧ GlpSends w t := by
    simp only [exec, execIdle, onPart_next (decide_eq_true hp), hup, hrole, hv, ← hw]
    refine ⟨_, rfl, ?_⟩
    change GlpSends w (if ((w.portPump p).port p).txSeq = _ then _ else _)
    split
    · exact (portPump_glpSends ..).trans (linkCtl_glpSends ..)
    · exact portPump_glpSends ..
  exact answers_of_exec hexec ⟨(ht.ports p).idleAt.trans (hidle.trans (htime.symm.trans ht.time.symm)),
    ht.time.trans htime, sameMem_trans hmem ht.sameMem, ht.cores.trans hcores⟩

/-- The record's row sets the mode of the link, keeps the peer's program and sets the next try (12 R340). -/
theorem concord_answers (hrole : s.portRole p = 0) (r c : Bytes) : answers (.concord p r c) s (fun t =>
    (t.port p).base = (if s.concordRow p r c ≤ 3 then 0 else if s.concordRow p r c ≤ 6 then 1 else 2) ∧
    (t.port p).retryAt = (if s.concordRow p r c = 1 then s.time + 10000000000 else 0) ∧
    (3 < s.concordRow p r c → (t.port p).peerProgram = slice r 76 48) ∧
    (s.concordRow p r c < 8 → t.num Obj.CONCORD_LAST_FINDING = 256 * dirOf p + s.concordRow p r c) ∧ sameMem s t ∧
    t.cores = s.cores) := by
  generalize hrow : s.concordRow p r c = row
  obtain ⟨v, hv⟩ : ∃ v, v = s.updPort p (fun p => { p with
    base := if row ≤ 3 then 0 else if row ≤ 6 then 1 else 2
    peerProgram := if row ≤ 3 then p.peerProgram else slice r 76 48
    retryAt := if row = 1 then s.time + 10000000000 else 0 }) := ⟨_, rfl⟩
  obtain ⟨w, hw⟩ : ∃ w : State, w = if row = 8 then
    { v with fabric := { v.fabric with fwDiffs := v.fabric.fwDiffs ++ [(v.time, p)] } } else v := ⟨_, rfl⟩
  have hwv : w.port p = v.port p ∧ sameMem v w ∧ w.cores = v.cores := by
    rw [hw]
    split <;> exact ⟨rfl, ⟨rfl, rfl, rfl⟩, rfl⟩
  have hexec : exec (.concord p r c) s = .next
      (if row < 8 then w.setNum Obj.CONCORD_LAST_FINDING (256 * dirOf p + row) else w) := by
    simp only [exec, execConcord, onPart_next (decide_eq_true hp), hup, hrole, hrow, hw, hv]
    rfl
  obtain ⟨hport, hmem, hcores⟩ := hwv
  have hlast : (if row < 8 then w.setNum Obj.CONCORD_LAST_FINDING (256 * dirOf p + row) else w).port p = v.port p := by
    split <;> exact hport
  refine answers_of_exec hexec ?_
  rw [hlast, hv, State.port_updPort_same]
  refine ⟨rfl, rfl, fun h => if_neg (by omega), fun h => ?_, ?_⟩
  · rw [if_pos h, State.num_setNum_same]
  · rw [hv] at hmem hcores
    split <;> exact ⟨hmem, hcores⟩

theorem concordRetry_answers (hretry : (s.port p).retryAt ≠ 0) : answers (.concordRetry p) s (fun t =>
    (t.port p).retryAt = 0 ∧ t.time = max s.time (s.port p).retryAt ∧ sameMem s t ∧ t.cores = s.cores) := by
  obtain ⟨v, hv⟩ : ∃ v, v = (s.atTime (s.port p).retryAt).updPort p (fun p => { p with retryAt := 0 }) := ⟨_, rfl⟩
  have hport : (v.port p).retryAt = 0 := by rw [hv, State.port_updPort_same]
  have hexec : exec (.concordRetry p) s =
      .next (if v.access.halves = 0 then v.sendConcord (dirOf p) else v.sendConcordOn p) := by
    rw [hv]
    simp [exec, execConcordRetry, onPart_next, hp, hup, hretry]
  have hsends := exchange_glpSends v p
  refine answers_of_exec hexec ⟨(hsends.ports p).retryAt.trans hport, hsends.time.trans ?_,
    sameMem_trans ?_ hsends.sameMem, hsends.cores.trans ?_⟩
  all_goals rw [hv]
  · rfl
  · exact ⟨rfl, rfl, rfl⟩
  · rfl

/-- The counts that the peer sent for the boundary of this slot are kept (12 R352). -/
theorem auditCount_answers (l : List Nat) : answers (.auditCount p s.slots.slot l) s (fun t => (t.port p).peerSent = l ∧
    (t.port p).gotAudit = true ∧ (t.port p).missed = 0 ∧ sameMem s t ∧ t.cores = s.cores) := by
  have hexec : exec (.auditCount p s.slots.slot l) s =
      .next (s.updPort p (fun p => { p with peerSent := l, gotAudit := true, missed := 0 })) := by
    simp [exec, execAuditCount, onPart_next, hp, hup]
  refine answers_of_exec hexec ?_
  rw [State.port_updPort_same]
  exact ⟨rfl, rfl, rfl, ⟨rfl, rfl, rfl⟩, rfl⟩

theorem neighborSolicitation_answers (hrole : s.portRole p = 1) :
    answers (.neighborSolicitation p (fit 16 (s.effOct Obj.HOST_ADDR))) s (fun t =>
      SMap.get (fun _ => (0, [])) t.fabric.icmp p = (0, fit 16 (s.effOct Obj.HOST_ADDR)) ∧ sameMem s t ∧ t.cores = s.cores) := by
  refine answers_of_exec (t := icmpAnswered s p 0 (fit 16 (s.effOct Obj.HOST_ADDR))) ?_ (icmpAnswered_leaves ..)
  simp [exec, execNeighborSolicitation, onPart_next, hp, hup, hrole, icmpAnswered]

theorem echoRequest_answers (hrole : s.portRole p = 1) (a : Bytes) : answers (.echoRequest p a) s (fun t =>
    SMap.get (fun _ => (0, [])) t.fabric.icmp p = (1, a) ∧ sameMem s t ∧ t.cores = s.cores) := by
  refine answers_of_exec (t := icmpAnswered s p 1 a) ?_ (icmpAnswered_leaves ..)
  simp [exec, execEchoRequest, onPart_next, hp, hup, hrole, icmpAnswered]

end

theorem faultFlag_answers (s : State) (p k : Nat) : answers (.faultFlag p k) s (fun t =>
    t.fabric.flags = s.fabric.flags ++ [(p, k)] ∧ sameMem s t ∧ t.cores = s.cores) :=
  ⟨_, rfl, rfl, ⟨rfl, rfl, rfl⟩, rfl⟩

/-- Settles O45: ports down and up, the lane of SIMMER, frames received, and what a port in use is told. -/
theorem portsLinks : Obligations.ports_links := by
  unfold Obligations.ports_links
  refine ⟨fun s p hp => ⟨portDown_down hp, portDown_answers hp, fun ns => ⟨portUp_refused ns hp, portUp_answers ns hp⟩⟩,
    fun s d => laneFallback_answers, fun s p f => glpFrameReceive_answers, fun s p hp hup => ?_, faultFlag_answers⟩
  exact ⟨nak_answers hp hup, fun hrole _ => idle_answers hp hup hrole, concord_answers hp hup,
    concordRetry_answers hp hup, auditCount_answers hp hup, neighborSolicitation_answers hp hup,
    echoRequest_answers hp hup⟩

end Sys2Proof.Proofs

end

section
/-! PROOFS. O46: requests of the host are assembled, held and answered, responses leave (12 R356 to R358, 17 R469). -/

open Sys2Proof Sys2Proof.Machine Sys2Proof.Claims

namespace Sys2Proof.Proofs

/-! ## Sessions that a packet finds (12 R355) -/

theorem inband_leaves {s u : State} {n : Nat} (h : s.inband n = some u) : sameMem s u ∧ u.cores = s.cores := by
  obtain ⟨a, rfl⟩ := inband_eq h
  exact ⟨⟨rfl, rfl, rfl⟩, rfl⟩

theorem submit_dropped {s : State} {n : Nat} (g off : Nat) (l : Bool) (b : Bytes) (h : s.inband n = none) :
    answers (.submit n g off l b) s (fun t => t.num Obj.HOST_DROPS = s.num Obj.HOST_DROPS + 1 ∧ t.fabric = s.fabric ∧
      sameMem s t ∧ t.cores = s.cores) := by
  have hexec : exec (.submit n g off l b) s = .next (s.count Obj.HOST_DROPS) := by
    simp [exec, execSubmit, State.hostPacket, h]
  exact answers_of_exec hexec ⟨State.num_count_same .., rfl, ⟨rfl, rfl, rfl⟩, rfl⟩

/-! ## Answers (12 R357, R358) -/

/-- The response of a status alone. -/
def bareResponse (r : Request) (status flags : Nat) : Response :=
  { sess := r.sess, tag := r.tag, id := r.id, status := status, flags := flags, frame := 0, entry := 0, body := [] }

theorem answer_fabric (s : State) (r : Request) (status flags : Nat) : (s.answer r status flags).fabric =
    { s.fabric with responses := s.fabric.responses ++ [bareResponse r status flags] } := by
  unfold State.answer
  extract_lets x v
  split <;> rfl

theorem answer_malformed (s : State) (r : Request) (flags : Nat) :
    (s.answer r 5 flags).num Obj.REQUESTS_MALFORMED = s.num Obj.REQUESTS_MALFORMED + 1 := by
  simp only [State.answer, if_pos, State.num_count_same]
  rfl

theorem answer_leaves (s : State) (r : Request) (status flags : Nat) :
    sameMem s (s.answer r status flags) ∧ (s.answer r status flags).cores = s.cores ∧
    (s.answer r status flags).time = s.time := by
  unfold State.answer
  extract_lets x v
  split <;> exact ⟨⟨rfl, rfl, rfl⟩, rfl, rfl⟩

/-! ## A request whose last packet has arrived (12 R356, R358) -/

section
variable {s : State} {r : Request}

/-- The request with the id and the target that its record names. -/
def recorded (r : Request) : Request := { r with id := field r.data 0 8, panel := field r.data 16 1 }

theorem complete_held (hheld : ∃ h ∈ s.fabric.held, h.id = field r.data 0 8) (hid : field r.data 0 8 ≠ 0) :
    s.complete r = s.answer (recorded r) 1 0 := by
  have hany : s.fabric.held.any (fun h => h.id == field r.data 0 8) = true := by simpa using hheld
  simp only [State.complete, if_pos (And.intro hid hany)]
  rfl

theorem not_held (hheld : ∀ h ∈ s.fabric.held, h.id ≠ field r.data 0 8) :
    ¬(field r.data 0 8 ≠ 0 ∧ s.fabric.held.any (fun h => h.id == field r.data 0 8) = true) := by
  rintro ⟨-, hany⟩
  obtain ⟨h, hmem, hid⟩ := List.any_eq_true.mp hany
  exact hheld h hmem (beq_iff_eq.mp hid)

theorem complete_malformed (hheld : ∀ h ∈ s.fabric.held, h.id ≠ field r.data 0 8)
    (hbad : s.requestOk (recorded r) = false) : s.complete r = s.answer (recorded r) 5 2 := by
  have hbad' : (!s.requestOk (recorded r)) = true := by rw [hbad]; rfl
  unfold recorded at hbad'
  simp only [State.complete, if_neg (not_held hheld), if_pos hbad']
  rfl

/-- The request held in the ring of this panel's program. -/
def ringed (s : State) (r : Request) : State :=
  { s with fabric := { s.fabric with held := s.fabric.held ++ [{ recorded r with panel := s.panelIndex, ring := true }] } }

theorem complete_taken {p : Prog} (hprog : s.prog = some p)
    (hroom : (s.fabric.held.filter (fun h => h.ring)).length < p.services.capacity)
    (hbridge : s.effNum Obj.GROUP_BRIDGE = s.panelIndex) (hpanel : field r.data 16 1 = 0xFF)
    (hheld : ∀ h ∈ s.fabric.held, h.id ≠ field r.data 0 8) (hok : s.requestOk (recorded r) = true) :
    s.complete r = (ringed s r).answer (recorded r) 1 0 := by
  have hok' : ¬(!s.requestOk (recorded r)) = true := by rw [hok]; exact Bool.false_ne_true
  unfold recorded at hok'
  simp only [State.complete, if_neg (not_held hheld), if_neg hok', if_pos hpanel, hbridge, ne_eq,
    not_true_eq_false, if_false]
  split
  next q hq =>
    cases hprog.symm.trans hq
    rw [if_pos hroom]
    rfl
  next hq => cases hprog.symm.trans hq

end

/-! ## SUBMIT (12 R356) -/

/-- What the panel has of a request that came in one packet. -/
def oneRequest (u : State) (n g : Nat) (b : Bytes) : Request := { id := 0, sess := n, tag := g, data := b, last := u.time }

/-- The state without the parts of a request. -/
def partsTaken (u : State) (n g : Nat) : State :=
  { u with fabric := { u.fabric with partials := u.fabric.partials.filter (fun r => !(r.sess == n && r.tag == g)) } }

section
variable {s u : State} {n g : Nat} {x : Session} (hin : s.inband n = some u) (hsess : u.session n = some x)
  (hfrozen : u.sessFrozen x = false)
include hin hsess hfrozen

theorem hostPacket_taken : s.hostPacket n = (u, true) := by
  simp only [State.hostPacket, hin, hsess, hfrozen]
  rfl

/-- A packet that is not the last adds its bytes to what the panel has of the request. -/
theorem submit_part (off : Nat) (b : Bytes) : answers (.submit n g off false b) s (fun t => ∃ r ∈ t.fabric.partials,
    r.sess = n ∧ r.tag = g ∧ r.data = (match u.fabric.partials.find? (fun r => r.sess == n && r.tag == g) with
      | some o => o.data | none => []) ++ b ∧ sameMem s t ∧ t.cores = s.cores) := by
  obtain ⟨hmem, hcores⟩ := inband_leaves hin
  simp only [answers, exec, execSubmit, hostPacket_taken hin hsess hfrozen]
  refine ⟨_, rfl, _, List.mem_append_right _ (List.mem_singleton_self _), ?_⟩
  cases hold : u.fabric.partials.find? (fun r => r.sess == n && r.tag == g) with
  | none => exact ⟨rfl, rfl, rfl, hmem, hcores⟩
  | some o =>
    have hnames := List.find?_some hold
    simp only [Bool.and_eq_true, beq_iff_eq] at hnames
    exact ⟨hnames.1, hnames.2, rfl, hmem, hcores⟩

variable (hnone : u.fabric.partials.find? (fun r => r.sess == n && r.tag == g) = none)
include hnone

theorem submit_whole (b : Bytes) :
    exec (.submit n g 0 true b) s = .next ((partsTaken u n g).complete (oneRequest u n g b)) := by
  simp [exec, execSubmit, hostPacket_taken hin hsess hfrozen, hnone, partsTaken, oneRequest]

/-- A request that the panel holds already is answered and not held again. -/
theorem submit_again {b : Bytes} (hheld : ∃ h ∈ u.fabric.held, h.id = field b 0 8) (hid : field b 0 8 ≠ 0) :
    answers (.submit n g 0 true b) s (fun t => t.fabric.held = u.fabric.held ∧
      ∃ p, t.fabric.responses = u.fabric.responses ++ [p] ∧ p.id = field b 0 8 ∧ p.sess = n ∧ p.tag = g ∧ p.status = 1 ∧
        p.body = []) := by
  refine answers_of_exec (submit_whole hin hsess hfrozen hnone b) ?_
  rw [complete_held (s := partsTaken u n g) (r := oneRequest u n g b) hheld hid, answer_fabric]
  exact ⟨rfl, _, rfl, rfl, rfl, rfl, rfl, rfl⟩

/-- A request without a whole record is answered 5 and counted. -/
theorem submit_short {b : Bytes} (hshort : b.length < 64) (hheld : ∀ h ∈ u.fabric.held, h.id ≠ field b 0 8) :
    answers (.submit n g 0 true b) s (fun t => t.fabric.held = u.fabric.held ∧
      t.num Obj.REQUESTS_MALFORMED = u.num Obj.REQUESTS_MALFORMED + 1 ∧
      ∃ p, t.fabric.responses = u.fabric.responses ++ [p] ∧ p.sess = n ∧ p.tag = g ∧ p.status = 5) := by
  have hbad : (partsTaken u n g).requestOk (recorded (oneRequest u n g b)) = false := by
    have hlen : decide (64 ≤ (recorded (oneRequest u n g b)).data.length) = false :=
      decide_eq_false (Nat.not_le_of_lt hshort)
    simp only [State.requestOk, hlen, Bool.and_false, Bool.false_and]
  refine answers_of_exec (submit_whole hin hsess hfrozen hnone b) ?_
  rw [complete_malformed (s := partsTaken u n g) (r := oneRequest u n g b) hheld hbad, answer_fabric]
  exact ⟨rfl, answer_malformed (partsTaken u n g) _ 2, _, rfl, rfl, rfl, rfl⟩

/-- A request for this panel that passes its checks is held in the ring and answered 1. -/
theorem submit_taken {b : Bytes} {p : Prog} (hprog : u.prog = some p)
    (hroom : (u.fabric.held.filter (fun h => h.ring)).length < p.services.capacity)
    (hbridge : u.effNum Obj.GROUP_BRIDGE = u.panelIndex) (hpanel : field b 16 1 = 0xFF)
    (hheld : ∀ h ∈ u.fabric.held, h.id ≠ field b 0 8)
    (hok : u.requestOk { id := field b 0 8, sess := n, tag := g, data := b, last := u.time, panel := 255 } = true) :
    answers (.submit n g 0 true b) s (fun t => ∃ h, t.fabric.held = u.fabric.held ++ [h] ∧ h.id = field b 0 8 ∧
      h.sess = n ∧ h.data = b ∧ h.ring = true ∧
      ∃ p, t.fabric.responses = u.fabric.responses ++ [p] ∧ p.id = field b 0 8 ∧ p.status = 1) := by
  have hok' : (partsTaken u n g).requestOk (recorded (oneRequest u n g b)) = true := by
    rw [← hpanel] at hok
    exact hok
  refine answers_of_exec (submit_whole hin hsess hfrozen hnone b) ?_
  rw [complete_taken (s := partsTaken u n g) (r := oneRequest u n g b) hprog hroom hbridge hpanel hheld hok', answer_fabric]
  exact ⟨_, rfl, rfl, rfl, rfl, rfl, _, rfl, rfl, rfl⟩

end

/-! ## REQUEST_TIMEOUT (12 R358) -/

theorem requestTimeout_answers {s : State} {n g : Nat} {r : Request}
    (h : s.fabric.partials.find? (fun r => r.sess == n && r.tag == g) = some r) :
    answers (.requestTimeout n g) s (fun t => (∀ x ∈ t.fabric.partials, ¬ (x.sess = n ∧ x.tag = g)) ∧
      t.time = max s.time (r.last + 10000000000) ∧
      (∃ p, t.fabric.responses = s.fabric.responses ++ [p] ∧ p.status = 5 ∧ p.sess = r.sess ∧ p.tag = r.tag) ∧ sameMem s t ∧
      t.cores = s.cores) := by
  have hexec : exec (.requestTimeout n g) s = .next
      ((partsTaken (s.atTime (r.last + 10000000000)) n g).answer { r with id := field r.data 0 8 } 5 2) := by
    simp only [exec, execRequestTimeout, h]
    rfl
  obtain ⟨hmem, hcores, htime⟩ :=
    answer_leaves (partsTaken (s.atTime (r.last + 10000000000)) n g) { r with id := field r.data 0 8 } 5 2
  refine answers_of_exec hexec ?_
  rw [answer_fabric]
  refine ⟨fun x hx hnames => ?_, htime, ⟨_, rfl, rfl, rfl, rfl⟩, hmem, hcores⟩
  have hx' := (List.mem_filter.mp hx).2
  simp [hnames] at hx'

/-! ## Responses leave (12 R357, 17 R469) -/

theorem response_last {s : State} {n g : Nat} {r : Response} {b : Bytes}
    (h : s.fabric.responses.find? (fun r => r.sess == n && r.tag == g) = some r) (hb : b ≠ [])
    (hend : r.sent + b.length = (s.rspBytes r).length) (hbytes : b = slice (s.rspBytes r) r.sent b.length)
    (hmax : b.length ≤ s.rspMax) : answers (.response n g r.sent true b) s (fun t =>
      t.fabric.responses = s.fabric.responses.erase r ∧ sameMem s t ∧ t.cores = s.cores) := by
  obtain ⟨v, hv⟩ : ∃ v, v = s.toHost 0x02 (r.sent + 2 ^ 63) n g b := ⟨_, rfl⟩
  have hexec : exec (.response n g r.sent true b) s =
      .next { v with fabric := { v.fabric with responses := v.fabric.responses.erase r } } := by
    have hgo : ¬(r.sent ≠ r.sent ∨ b ≠ slice (s.rspBytes r) r.sent b.length ∨ b.isEmpty ∨ s.rspMax < b.length ∨
        (s.rspBytes r).length < r.sent + b.length ∨ true ≠ decide (r.sent + b.length = (s.rspBytes r).length)) := by
      simp [← hbytes, hb, hend, hmax]
    simp only [exec, execResponse, h, if_neg hgo, hv]
    rfl
  have hsends : GlpSends s v := hv ▸ toHost_glpSends ..
  refine answers_of_exec hexec ⟨?_, hsends.sameMem, hsends.cores⟩
  obtain ⟨_, _, _, _, _, _, h⟩ := hsends.reach
  rw [h]

theorem objRsp_answers {s : State} {n : Nat} {x : Nat × Bytes} (h : s.fabric.objOut.find? (fun x => x.1 == n) = some x) :
    answers (.objRsp n) s (fun t => t.fabric.objOut = s.fabric.objOut.erase x ∧ sameMem s t ∧ t.cores = s.cores) := by
  obtain ⟨v, hv⟩ : ∃ v : State, v = { s with fabric := { s.fabric with objOut := s.fabric.objOut.erase x } } := ⟨_, rfl⟩
  have hexec : exec (.objRsp n) s = .next (v.toHost 0x07 0 n 0 x.2) := by
    simp only [exec, execObjRsp, h, hv]
  obtain ⟨_, _, _, _, _, _, hreach⟩ := (toHost_glpSends v 0x07 0 n 0 x.2).reach
  refine answers_of_exec hexec ?_
  rw [hreach, hv]
  exact ⟨rfl, ⟨rfl, rfl, rfl⟩, rfl⟩

/-- Settles O46: a request refused, in parts, whole, stopped; responses that leave. -/
theorem hostRequests : Obligations.host_requests := by
  unfold Obligations.host_requests
  refine ⟨fun s n g off l b => submit_dropped g off l b, fun s u n g off b x hin hsess hfrozen => ?_,
    fun s n g r => requestTimeout_answers, fun s n g r b => response_last, fun s n x => objRsp_answers⟩
  refine ⟨submit_part hin hsess hfrozen off b, fun hnone => ⟨?_, ?_, ?_⟩⟩
  · exact submit_again hin hsess hfrozen hnone
  · exact submit_short hin hsess hfrozen hnone
  · exact fun p => submit_taken hin hsess hfrozen hnone

end Sys2Proof.Proofs

end

section
/-! PROOFS. O47: bulk writes and the collectives between panels (12 R350, R351, R361). -/

open Sys2Proof Sys2Proof.Machine Sys2Proof.Claims

namespace Sys2Proof.Proofs

/-! ## Bulk writes (12 R361) -/

/-- Whole lines that are written leave their bytes from the first line on (08 R203, R205). -/
theorem writeLines_hbm (s : State) (stack off : Nat) {b : Bytes} {n : Nat} (h : b.length = 64 * n) :
    (s.writeLines stack off b n).hbm = writeBytes s.hbm (hbmKey stack off) b := by
  obtain ⟨marks, hmarks⟩ := hubChecks_marks s stack (off / 64) n
  rw [State.writeLines, putLines_hbm _ _ _ _ h, hmarks]

theorem bulkWrite_answers {s u : State} {n a : Nat} {b : Bytes} {x : Session} (hin : s.inband n = some u)
    (hsess : u.session n = some x) (hfrozen : u.sessFrozen x = false) (hrole : 1 ≤ x.role) (hpanel : u.panel = .ready)
    (hstack : a / 2 ^ 37 < 48) (hend : a % 2 ^ 37 + b.length ≤ 0x1670000000) (hline : a % 64 = 0)
    (hlines : b.length % 64 = 0) (hsome : 0 < b.length) (hmax : b.length ≤ 4096) :
    answers (.bulkWrite n a b) s (fun t =>
      t.hbm = writeBytes u.hbm (hbmKey ((u.net.route u.net.epochB).stackOf (a / 2 ^ 37)) (a % 2 ^ 37)) b ∧
      t.fabric.acks = u.fabric.acks ++ [(n, a, 0)] ∧ t.spad = s.spad ∧ t.imem = s.imem ∧ t.cores = s.cores) := by
  obtain ⟨stack, hstackOf⟩ : ∃ k, k = (u.net.route u.net.epochB).stackOf (a / 2 ^ 37) := ⟨_, rfl⟩
  obtain ⟨v, hv⟩ : ∃ v, v = u.writeLines stack (a % 2 ^ 37) b (b.length / 64) := ⟨_, rfl⟩
  have hexec : exec (.bulkWrite n a b) s = .next { v with fabric := { v.fabric with acks := v.fabric.acks ++ [(n, a, 0)] } } := by
    have hrole' : ¬ x.role < 1 := by omega
    have hargs : ¬(48 ≤ a / 2 ^ 37 ∨ 0x1670000000 < a % 2 ^ 37 + b.length ∨ a % 64 ≠ 0 ∨ b.length % 64 ≠ 0 ∨
        4096 < b.length ∨ b.isEmpty = true) := by
      have hempty : ¬ b.isEmpty = true := by simpa [← List.length_pos_iff] using hsome
      rw [eq_false hempty, or_false]
      omega
    simp only [exec, execBulkWrite, hin, hsess, hfrozen, if_neg hrole', if_neg hargs, hpanel, hv, hstackOf]
    rfl
  have hhbm : v.hbm = writeBytes u.hbm (hbmKey stack (a % 2 ^ 37)) b :=
    hv ▸ writeLines_hbm u stack (a % 2 ^ 37) (by omega)
  obtain ⟨⟨hspad, -, himem⟩, hcores⟩ := inband_leaves hin
  obtain ⟨m, marks, hrest⟩ : OnlyHbm u v := hv ▸ writeLines_onlyHbm ..
  refine answers_of_exec hexec ⟨hstackOf ▸ hhbm, ?_⟩
  rw [hrest]
  exact ⟨rfl, hspad, himem, hcores⟩

theorem bulkAck_answers {s : State} {n a c : Nat} (h : (n, a, c) ∈ s.fabric.acks) : answers (.bulkAck n a c) s (fun t =>
    t.fabric.acks = s.fabric.acks.erase (n, a, c) ∧ sameMem s t ∧ t.cores = s.cores) := by
  obtain ⟨v, hv⟩ : ∃ v : State, v = { s with fabric := { s.fabric with acks := s.fabric.acks.erase (n, a, c) } } := ⟨_, rfl⟩
  have hexec : exec (.bulkAck n a c) s = .next (v.toHost 0x09 a n 0 (bytesLE 2 c)) := by
    simp [exec, execBulkAck, h, hv]
  obtain ⟨_, _, _, _, _, _, hreach⟩ := (toHost_glpSends v 0x09 a n 0 (bytesLE 2 c)).reach
  refine answers_of_exec hexec ?_
  rw [hreach, hv]
  exact ⟨rfl, ⟨rfl, rfl, rfl⟩, rfl⟩

/-! ## Collectives (12 R350, R351) -/

section
variable {s : State} {p : Prog} {i : Nat} {c : Coll} (hprog : s.prog = some p) (hcoll : p.colls[i]? = some c)
include hprog hcoll

theorem collSend_waits (hfinal : s.isFinal (SMap.get zeroD s.fabric.collNext i) = false) :
    exec (.collSend i) s = .next s := by
  simp [exec, execCollSend, hprog, hcoll, hfinal]

/-- The entry sends its next frame and waits for the acknowledgement of it. -/
theorem collSend_answers (hfinal : s.isFinal (SMap.get zeroD s.fabric.collNext i) = true) :
    answers (.collSend i) s (fun t =>
      SMap.get zeroD t.fabric.collNext i = SMap.get zeroD s.fabric.collNext i + 1 ∧
      (∃ e, t.fabric.collSent = s.fabric.collSent ++ [e] ∧ e.entry = i ∧ e.frame = SMap.get zeroD s.fabric.collNext i ∧
        e.data = slice (s.outputOf e.frame) c.src c.len) ∧ sameMem s t ∧ t.cores = s.cores) := by
  generalize hn : SMap.get zeroD s.fabric.collNext i = n at *
  obtain ⟨v, hv⟩ : ∃ v, v = s.sendColl c i n (slice (s.outputOf n) c.src c.len) := ⟨_, rfl⟩
  have hexec : exec (.collSend i) s = .next { v with fabric := { v.fabric with
      collNext := SMap.put zeroD v.fabric.collNext i (n + 1)
      collSent := v.fabric.collSent ++ [{ entry := i, frame := n, time := v.time, acked := 0
                                          data := slice (s.outputOf n) c.src c.len }] } } := by
    simp [exec, execCollSend, hprog, hcoll, hn, hfinal, hv]
  have hsends : GlpSends s v := hv ▸ sendColl_glpSends ..
  refine answers_of_exec hexec ⟨SMap.get_put_same zeroD v.fabric.collNext i (n + 1), ?_, hsends.sameMem, hsends.cores⟩
  obtain ⟨_, _, _, _, _, _, h⟩ := hsends.reach
  rw [h]
  exact ⟨_, rfl, rfl, rfl, rfl⟩

/-- What lies past the end of its entry is discarded (12 R343). -/
theorem collData_discarded (f : Nat) {off : Nat} {b : Bytes} (hlen : c.len < off + b.length) :
    answers (.collData i f off b) s (fun t => t.net.discards = s.net.discards + ((b.length + 63) / 64 + 1) ∧
      t.larder = s.larder ∧ sameMem s t ∧ t.cores = s.cores) := by
  have hexec : exec (.collData i f off b) s = .next (s.glpDiscard ((b.length + 63) / 64 + 1)) := by
    simp [exec, execCollData, hprog, hcoll, hlen]
  exact answers_of_exec hexec ⟨rfl, rfl, ⟨rfl, rfl, rfl⟩, rfl⟩

/-- The retention slot of frame `f + L` with the bytes of a packet in their place (12 R350). -/
def collLanded (s : State) (p : Prog) (c : Coll) (f off : Nat) (b : Bytes) : State :=
  let key := (f + c.lag) % max 1 p.rd
  let old := fit p.input (s.retainRead p key)
  s.retainWrite p key (slice old 0 (c.dst + off) ++ b ++ old.drop (c.dst + off + b.length))

theorem collData_lands (f : Nat) {off : Nat} {b : Bytes} (hlen : off + b.length ≤ c.len) :
    answers (.collData i f off b) s (fun t =>
      (∀ old, old = fit p.input (s.retainRead p ((f + c.lag) % max 1 p.rd)) →
        t.hbm = (s.retainWrite p ((f + c.lag) % max 1 p.rd)
          (slice old 0 (c.dst + off) ++ b ++ old.drop (c.dst + off + b.length))).hbm) ∧
      (∃ x ∈ t.fabric.landed, x.1 = i ∧ x.2.1 = f) ∧ t.spad = s.spad ∧ t.imem = s.imem ∧ t.cores = s.cores) := by
  obtain ⟨v, hv⟩ : ∃ v, v = collLanded s p c f off b := ⟨_, rfl⟩
  obtain ⟨t, w, hexec, ht, hw⟩ : ∃ t, ∃ w : State, exec (.collData i f off b) s = .next t ∧ GlpSends w t ∧
      ∃ l got, w = { v with fabric := { v.fabric with landed := l ++ [(i, f, got)] } } := by
    simp only [exec, execCollData, hprog, hcoll, if_neg (Nat.not_lt.mpr hlen), hv]
    exact ⟨_, _, rfl, glpSend_glpSends .., _, _, rfl⟩
  obtain ⟨l, got, hw⟩ := hw
  obtain ⟨_, _, hrest⟩ : OnlyHbm s v := hv ▸ retainWrite_onlyHbm ..
  obtain ⟨_, _, _, _, _, _, h⟩ := ht.reach
  refine answers_of_exec hexec ?_
  rw [h]
  refine ⟨?_, ⟨(i, f, got), ?_, rfl, rfl⟩, ?_⟩
  · rintro old rfl
    rw [hw, hv]
    rfl
  · rw [hw]
    exact List.mem_append_right _ (List.mem_singleton_self _)
  · rw [hw, hrest]
    exact ⟨rfl, rfl, rfl⟩

/-- What an acknowledgement of `n` bytes makes of what an entry has sent. -/
def collAcked (i f n : Nat) (e : CollSent) : CollSent :=
  if e.entry = i ∧ e.frame = f then { e with acked := max e.acked n } else e

/-- An entry that its receiver has whole is done; no other is touched (12 R351). -/
theorem collAck_answers (f n : Nat) : answers (.collAck i f n) s (fun t =>
    (c.len ≤ n → ∀ e ∈ t.fabric.collSent, ¬ (e.entry = i ∧ e.frame = f)) ∧
    (∀ e ∈ s.fabric.collSent, ¬ (e.entry = i ∧ e.frame = f) → e ∈ t.fabric.collSent) ∧ sameMem s t ∧ t.cores = s.cores) := by
  have hexec : exec (.collAck i f n) s = .next { s with fabric := { s.fabric with
      collSent := (s.fabric.collSent.map (collAcked i f n)).filter (fun e =>
        !(e.entry == i && e.frame == f && decide (c.len ≤ e.acked))) } } := by
    simp only [exec, execCollAck, hprog, hcoll]
    rfl
  refine answers_of_exec hexec ⟨fun hlen e he hnames => ?_, fun e he hother => ?_, ⟨rfl, rfl, rfl⟩, rfl⟩
  · obtain ⟨hmem, hkept⟩ := List.mem_filter.mp he
    obtain ⟨d, -, rfl⟩ := List.mem_map.mp hmem
    have hfew : ¬ c.len ≤ (collAcked i f n d).acked := by simpa [hnames] using hkept
    unfold collAcked at hnames hfew
    split at hnames
    next hd =>
      rw [if_pos hd] at hfew
      exact hfew (hlen.trans (le_max_right ..))
    next hd => exact hd hnames
  · refine List.mem_filter.mpr ⟨List.mem_map.mpr ⟨e, he, if_neg hother⟩, ?_⟩
    have hnames : (e.entry == i && e.frame == f) = false := by simpa using hother
    simp [hnames]

/-- What was sent and not acknowledged whole is sent again 1 ms later (12 R351). -/
theorem collResend_answers {f : Nat} {e : CollSent}
    (hsent : s.fabric.collSent.find? (fun e => e.entry == i && e.frame == f) = some e) :
    answers (.collResend i f) s (fun t => t.num Obj.COLL_RESENDS = s.num Obj.COLL_RESENDS + 1 ∧
      t.time = max s.time (e.time + 1000000) ∧ sameMem s t ∧ t.cores = s.cores) := by
  obtain ⟨v, hv⟩ : ∃ v, v = (s.atTime (e.time + 1000000)).sendColl c i f e.data := ⟨_, rfl⟩
  have hsends : GlpSends (s.atTime (e.time + 1000000)) v := hv ▸ sendColl_glpSends ..
  have hexec : ∃ l, exec (.collResend i f) s =
      .next { v.count Obj.COLL_RESENDS with fabric := { v.fabric with collSent := l } } := by
    simp only [exec, execCollResend, hsent, hprog, hcoll, hv]
    exact ⟨_, rfl⟩
  obtain ⟨l, hexec⟩ := hexec
  refine answers_of_exec hexec ⟨?_, hsends.time, hsends.sameMem, hsends.cores⟩
  calc (v.count Obj.COLL_RESENDS).num Obj.COLL_RESENDS = v.num Obj.COLL_RESENDS + 1 := State.num_count_same ..
    _ = s.num Obj.COLL_RESENDS + 1 := congrArg (· + 1) (num_of_od hsends.od _)

end

/-- Settles O47: bulk writes and their answers; an entry's frames sent, landed, acknowledged and sent again. -/
theorem bulkCollectives : Obligations.bulk_collectives := by
  unfold Obligations.bulk_collectives
  refine ⟨fun s u n a b x => bulkWrite_answers, fun s n a c => bulkAck_answers, fun s p i c hprog hcoll => ?_⟩
  exact ⟨collSend_waits hprog hcoll, collSend_answers hprog hcoll, fun f off b => collData_lands hprog hcoll f,
    fun f off b => collData_discarded hprog hcoll f, collAck_answers hprog hcoll, fun f e => collResend_answers hprog hcoll⟩

end Sys2Proof.Proofs

end

section
/-! PROOFS. The state after power-on reset (16 R440, 17 R466) and the alert pins (14 R409, 19 R516). -/

open Sys2Proof Sys2Proof.Machine Sys2Proof.Claims

namespace Sys2Proof.Proofs

/-! ## Power-on reset (16 R440, 17 R466) -/

/-- Nothing is listed in the object dictionary, so an object of the table reads its row's Default. -/
theorem obj_reset {k : Nat} {row : ObjRow} (h : objRow k = some row) : State.reset.obj k = row.dflt := by
  change odDefault k = row.dflt
  rw [odDefault, h]

/-- Settles O4: each field holds its initial value, and each part and object that no map lists its default. -/
theorem resetState : Obligations.reset_state := by
  unfold Obligations.reset_state
  refine ⟨State.memWf_reset, rfl, rfl, rfl, rfl, rfl, rfl, fun _ _ => obj_reset, fun k r => ?_, fun _ => rfl⟩
  change (if r = 0 then 0 else 0) = (0 : BitVec 64)
  exact ite_self _

/-! ## The alert pins (14 R409, 19 R516) -/

theorem faultLow_iff (s : State) : s.faultLow = true ↔
    s.panel = .safe ∨ (s.panel = .bringup ∧ s.bringup.halted = true) ∨ (s.panel = .hold ∧ s.num Obj.HOLD_CAUSE ≠ 1) := by
  simp [State.faultLow, or_assoc]

/-- A part is at its throttle limit: a powered die, a hub, a port die or a stack. -/
theorem anyHot_iff (s : State) : s.anyHot = true ↔
    (∃ i, i < 144 ∧ (s.die i).powered = true ∧ 9500 ≤ (s.die i).control) ∨
    (∃ i, i < 16 ∧ ∃ c ∈ (s.hub i).temps, 9500 ≤ c) ∨ (∃ i, i < 8 ∧ ∃ c ∈ (s.portDie i).temps, 9500 ≤ c) ∨
    (∃ i, i < 48 ∧ 8500 ≤ (s.stack i).temp) := by
  simp [State.anyHot, allSites, or_assoc]

theorem thermAlertLow_iff {s : State} (h : s.panel ≠ .cold) : s.thermAlertLow = true ↔
    s.anyHot = true ∨ s.thermal.degraded = true ∨ s.thermal.quench ≠ none := by
  simp [State.thermAlertLow, h, or_assoc, Option.isSome_iff_ne_none]

/-- A panel as after reset, in READY or SAFE, its cooling degraded or not: each pin is driven by one of the two. -/
def pinState (a b : Bool) : State :=
  { State.reset with panel := if b then .safe else .ready, thermal := { degraded := a } }

theorem anyHot_pinState (a b : Bool) : (pinState a b).anyHot = false := by
  rw [← Bool.not_eq_true, anyHot_iff]
  rintro (⟨i, -, hp, -⟩ | ⟨i, -, c, hc, -⟩ | ⟨i, -, c, hc, -⟩ | ⟨i, -, ht⟩)
  · cases hp
  · cases hc
  · cases hc
  · exact absurd ht (by change ¬ (8500 : Int) ≤ 0; decide)

theorem pinState_pins (a b : Bool) : (pinState a b).thermAlertLow = a ∧ (pinState a b).faultLow = b := by
  have hhot := anyHot_pinState a b
  cases a <;> cases b <;> simp [State.thermAlertLow, State.faultLow, hhot] <;> simp [pinState]

/-- Settles O60: each pin read off the state, independently of the other; a quench in HOLD with cause 4 drives both. -/
theorem alertsLow : Obligations.alerts_low := by
  unfold Obligations.alerts_low
  refine ⟨faultLow_iff, fun s hcold => ?_, fun a b => ⟨pinState a b, pinState_pins a b⟩, fun s hhold hcause hquench => ⟨?_, ?_⟩⟩
  · rw [thermAlertLow_iff hcold, anyHot_iff]
    simp only [or_assoc]
  · exact (thermAlertLow_iff (by simp [hhold])).mpr (.inr (.inr hquench))
  · exact (faultLow_iff s).mpr (.inr (.inr ⟨hhold, by simp [hcause]⟩))

end Sys2Proof.Proofs

end

section
/-! PROOFS. Sessions open and close (17 R472, R475, 12 R355), and the halves of the secure element (18 R496). -/

open Sys2Proof Sys2Proof.Machine Sys2Proof.Claims

namespace Sys2Proof.Proofs

/-! ## Sessions of a state (17 R475) -/

section
variable {s : State} {n : Nat} {x : Session}

theorem session_num (h : s.session n = some x) : x.num = n := by
  simpa using List.find?_some h

theorem session_mem (h : s.session n = some x) : x ∈ s.access.sessions := List.mem_of_find?_eq_some h

theorem session_closeSession (s : State) (n : Nat) : (s.closeSession n).session n = none := by
  simp [State.session, State.closeSession]

/-- A change that leaves the number of a session leaves it the one that its number finds. -/
theorem session_updSession (h : s.session n = some x) {f : Session → Session} (hf : ∀ y, (f y).num = y.num) :
    (s.updSession n f).session n = some (f x) := by
  have hcond : ((fun y : Session => y.num == n) ∘ fun y : Session => if y.num = n then f y else y) =
      fun y : Session => y.num == n := by
    funext y
    simp only [Function.comp_apply]
    split
    · rw [hf]
    · rfl
  simp only [State.session, State.updSession, List.find?_map, hcond]
  rw [show s.access.sessions.find? (fun y => y.num == n) = some x from h, Option.map_some, if_pos (session_num h)]

end

/-! ## A handshake (17 R468, R475) -/

theorem exec_sessionHandshake {path : Nat} (hpath : path < 2) (cert : Bytes) (s : State) :
    exec (.sessionHandshake path cert) s = .next (if s.panel = .cold then s
      else match s.certRole cert, s.freeNum 1 32 with
      | some r, some n => s.addSession { num := n, role := r.1, path := path, cred := Config.certKey cert, credKey := true, keyEntry := r.2 }
      | _, _ => s) :=
  onPart_next (decide_eq_true hpath) _

theorem sessionHandshake_answers {s : State} {path n : Nat} {cert : Bytes} {r : Nat × Option Nat} (hpath : path < 2)
    (hcold : s.panel ≠ .cold) (hrole : s.certRole cert = some r) (hfree : s.freeNum 1 32 = some n) :
    answers (.sessionHandshake path cert) s (fun t => ∃ x,
      t.access.sessions = s.access.sessions ++ [x] ∧ x.num = n ∧ x.role = r.1 ∧ x.path = path ∧ x.opened = s.time ∧
      x.cred = Config.certKey cert ∧ x.frozenFirst = (decide (256 ≤ s.access.frozen.length) && decide (r.1 < 2)) ∧
      sameMem s t ∧ t.cores = s.cores) := by
  have hexec := exec_sessionHandshake hpath cert s
  rw [if_neg hcold, hrole, hfree] at hexec
  exact answers_of_exec hexec ⟨_, rfl, rfl, rfl, rfl, rfl, rfl, rfl, ⟨rfl, rfl, rfl⟩, rfl⟩

theorem sessionHandshake_none {s : State} {path : Nat} {cert : Bytes} (hpath : path < 2)
    (h : s.panel = .cold ∨ s.certRole cert = none ∨ s.freeNum 1 32 = none) :
    exec (.sessionHandshake path cert) s = .next s := by
  rw [exec_sessionHandshake hpath]
  obtain hcold | hrole | hfree := h
  · rw [if_pos hcold]
  · simp [hrole]
  · simp only [hfree]
    split
    · rfl
    · split
      next h => cases h
      next => rfl

/-! ## Sessions that fall silent (17 R472, R475, 12 R355) -/

section
variable {s : State} {n : Nat} {x : Session} (hx : s.session n = some x)
include hx

theorem mgmtSessionIdleClose_answers (hpath : x.path < 2) : answers (.mgmtSessionIdleClose n) s (fun t => t.session n = none ∧
    t.time = max s.time (x.last + 1000000000 * s.num Obj.SESSION_IDLE_S) ∧ sameMem s t ∧ t.cores = s.cores) := by
  have hexec : exec (.mgmtSessionIdleClose n) s =
      .next ((s.atTime (x.last + 1000000000 * s.num Obj.SESSION_IDLE_S)).closeSession n) := by
    simp only [exec, execMgmtSessionIdleClose, hx, if_pos hpath]
  exact answers_of_exec hexec ⟨session_closeSession .., rfl, ⟨rfl, rfl, rfl⟩, rfl⟩

theorem hostSessionIdleClose_answers (hpath : x.path = 2) : answers (.hostSessionIdleClose n) s (fun t => t.session n = none ∧
    t.time = max s.time (x.last + 60000000000) ∧ (∀ r ∈ t.fabric.partials, r.sess ≠ n) ∧ sameMem s t ∧ t.cores = s.cores) := by
  have hexec : exec (.hostSessionIdleClose n) s = .next ((s.atTime (x.last + 60000000000)).closeSession n) := by
    simp only [exec, execHostSessionIdleClose, hx, if_pos hpath]
  refine answers_of_exec hexec ⟨session_closeSession .., rfl, fun r hr => ?_, ⟨rfl, rfl, rfl⟩, rfl⟩
  simpa using (List.mem_filter.mp hr).2

theorem segmentTimeout_answers {p : PartVal} (hparts : x.parts = [p]) : answers (.segmentTimeout n) s (fun t =>
    t.time = max s.time (p.time + 10000000000) ∧ (∃ y, t.session n = some y ∧ y.parts = []) ∧ sameMem s t ∧
    t.cores = s.cores) := by
  have hexec : exec (.segmentTimeout n) s = .next ((s.atTime (p.time + 10000000000)).updSession n (fun x => { x with
      parts := x.parts.filter (fun q => decide (max s.time (p.time + 10000000000) < q.time + 10000000000)) })) := by
    simp only [exec, execSegmentTimeout, hx, hparts]
    rfl
  refine answers_of_exec hexec ⟨rfl, ⟨_, session_updSession (s := s.atTime _) hx fun _ => rfl, ?_⟩, ⟨rfl, rfl, rfl⟩, rfl⟩
  simp [hparts]

end

/-! ## The halves of the secure element (18 R496) -/

theorem seHalfFail_answers (s : State) {h : Nat} (hh : h < 2) : answers (.seHalfFail h) s (fun t =>
    t.access.halves.testBit h = false ∧ t.access.halves.testBit (1 - h) = s.access.halves.testBit (1 - h) ∧ sameMem s t ∧
    t.cores = s.cores) := by
  have hexec : exec (.seHalfFail h) s = .next { s with access := { s.access with halves := s.access.halves &&& (3 - 2 ^ h) } } :=
    onPart_next (decide_eq_true hh) _
  have hmask : (3 - 2 ^ h).testBit h = false ∧ (3 - 2 ^ h).testBit (1 - h) = true := by
    interval_cases h <;> decide
  obtain ⟨hlost, hother⟩ := hmask
  refine answers_of_exec hexec ⟨?_, ?_, ⟨rfl, rfl, rfl⟩, rfl⟩
  · rw [Nat.testBit_and, hlost, Bool.and_false]
  · rw [Nat.testBit_and, hother, Bool.and_true]

/-- The halves that serve and the link bring-ups that wait for one are those of `s`. -/
@[simp] abbrev KeepsWait (s t : State) : Prop :=
  t.access.halves = s.access.halves ∧ t.fabric.bringWait = s.fabric.bringWait

theorem portPump_keepsWait (s : State) (port : Nat) : KeepsWait s (s.portPump port) := by
  unfold State.portPump
  extract_lets d us q p r
  split <;> exact ⟨rfl, rfl⟩

theorem sendConcordOn_keepsWait (s : State) (port : Nat) : KeepsWait s (s.sendConcordOn port) := portPump_keepsWait ..

/-- While a half serves, an exchange is sent and none comes to wait. -/
theorem sendConcord_keepsWait {s : State} (h : s.access.halves ≠ 0) (d : Nat) : KeepsWait s (s.sendConcord d) := by
  rw [State.sendConcord, if_neg h]
  exact List.foldlRecOn _ _ (motive := KeepsWait s) ⟨rfl, rfl⟩ fun t ⟨hhalves, hwait⟩ p _ => by
    obtain ⟨hhalves', hwait'⟩ := sendConcordOn_keepsWait t p
    exact ⟨hhalves'.trans hhalves, hwait'.trans hwait⟩

theorem foldl_sendConcord_keepsWait {s : State} (h : s.access.halves ≠ 0) (l : List Nat) :
    KeepsWait s (l.foldl (fun s d => s.sendConcord d) s) :=
  List.foldlRecOn _ _ (motive := KeepsWait s) ⟨rfl, rfl⟩ fun t ⟨hhalves, hwait⟩ d _ => by
    obtain ⟨hhalves', hwait'⟩ := sendConcord_keepsWait (hhalves ▸ h) d
    exact ⟨hhalves'.trans hhalves, hwait'.trans hwait⟩

theorem seHalfRecover_answers (s : State) {h : Nat} (hh : h < 2) : answers (.seHalfRecover h) s (fun t =>
    t.access.halves = s.access.halves ||| 2 ^ h ∧ t.fabric.bringWait = [] ∧ sameMem s t ∧ t.cores = s.cores) := by
  obtain ⟨v, hv⟩ : ∃ v : State, v = { s with
    access := { s.access with halves := s.access.halves ||| 2 ^ h }, fabric := { s.fabric with bringWait := [] } } := ⟨_, rfl⟩
  have hexec : exec (.seHalfRecover h) s = .next (s.fabric.bringWait.foldl (fun s d => s.sendConcord d) v) :=
    (onPart_next (decide_eq_true hh) _).trans (by rw [hv])
  have hserves : v.access.halves ≠ 0 := by
    rw [hv]
    exact fun hzero => (Nat.two_pow_pos h).ne' (Nat.or_eq_zero_iff.mp hzero).2
  obtain ⟨hhalves, hwait⟩ := foldl_sendConcord_keepsWait hserves s.fabric.bringWait
  have hsends : GlpSends v (s.fabric.bringWait.foldl (fun s d => s.sendConcord d) v) :=
    foldl_glpSends (fun _ _ => sendConcord_glpSends ..) _ v
  have hmem := hsends.sameMem
  have hcores := hsends.cores
  rw [hv] at hhalves hwait hmem hcores
  subst hv
  exact answers_of_exec hexec ⟨hhalves, hwait, hmem, hcores⟩

/-- Settles O53: sessions open with the role of their certificate, close when they fall silent, and a half that fails serves
nothing until it recovers. -/
theorem sessionsElements : Obligations.sessions_elements := by
  unfold Obligations.sessions_elements
  exact ⟨fun _ _ _ _ _ => sessionHandshake_answers, fun _ _ _ => sessionHandshake_none,
    fun _ _ _ hx => ⟨mgmtSessionIdleClose_answers hx, hostSessionIdleClose_answers hx, fun _ => segmentTimeout_answers hx⟩,
    fun s _ hh => ⟨seHalfFail_answers s hh, seHalfRecover_answers s hh⟩⟩

end Sys2Proof.Proofs

end

section
/-! PROOFS. The quench (14 R402 to R406): what it stops, the state and the cause that it leaves. -/

open Sys2Proof Sys2Proof.Machine Sys2Proof.Claims

namespace Sys2Proof.Proofs

/-! ## Every die at OP0 with no allowance (14 R404) -/

/-- What a change gives every value, and every unlisted value has, the changed map has at each key. -/
theorem get_mapV_of {α : Type} [DecidableEq α] {d : Nat → α} {f : α → α} {p : α → Prop} (hd : ∀ k, p (d k)) (hf : ∀ x, p (f x))
    (m : SMap α) (k : Nat) : p (SMap.get d (SMap.mapV d f m) k) := by
  induction m with
  | nil => exact hd k
  | cons e m ih =>
    unfold SMap.mapV at ih ⊢
    rw [List.filterMap_cons]
    split
    next => exact ih
    next x hx =>
      obtain rfl : (e.1, f e.2) = x := by
        split at hx
        · cases hx
        · exact Option.some.inj hx
      rw [SMap.get]
      split
      · exact hf e.2
      · exact ih

/-- Every die stands at OP0 with no allowance. -/
def diesIdle (s : State) : Prop := ∀ i, (s.die i).allow = 0 ∧ (s.die i).op = 0

theorem diesIdle_updDie {s : State} (h : diesIdle s) (site : Nat) {f : Die → Die}
    (hf : ∀ d, (f d).allow = d.allow ∧ (f d).op = d.op) : diesIdle (s.updDie site f) := by
  intro i
  obtain ⟨hallow, hop⟩ := h i
  by_cases hi : i = site
  · obtain ⟨hallow', hop'⟩ := hf (s.die i)
    rw [← hi, State.die_updDie_same]
    exact ⟨hallow'.trans hallow, hop'.trans hop⟩
  · rw [State.die_updDie_other _ _ hi]
    exact ⟨hallow, hop⟩

/-! ## What the steps of a quench leave -/

/-- Panel state, cores, pins, TIME and the count of quenches of `t` are those of `s`. -/
structure KeepsAround (s t : State) : Prop where
  panel : t.panel = s.panel
  cores : t.cores = s.cores
  pins : t.pins = s.pins
  time : t.time = s.time
  count : t.num Obj.QUENCH_COUNT = s.num Obj.QUENCH_COUNT

theorem KeepsAround.refl (s : State) : KeepsAround s s := ⟨rfl, rfl, rfl, rfl, rfl⟩

theorem KeepsAround.trans {s t u : State} (h : KeepsAround s t) (h' : KeepsAround t u) : KeepsAround s u :=
  ⟨h'.panel.trans h.panel, h'.cores.trans h.cores, h'.pins.trans h.pins, h'.time.trans h.time, h'.count.trans h.count⟩

/-- No attempt runs, no die waits for power or starts, and every die is idle. -/
def standsStill (s : State) : Prop := s.slots.att = none ∧ s.power.queue = [] ∧ s.power.soft = none ∧ diesIdle s

section
variable (s : State)

theorem fsr_keepsAround (r : FsrIn) : KeepsAround s (s.fsr r) :=
  ⟨(State.fsr_keepsHubs s r).2, (State.fsr_aside s r).1.1, by unfold State.fsr; split <;> rfl, (State.fsr_keeps s r).2.2, num_fsr s r (by decide)⟩

theorem discard_eq : ∃ n, s.discard = { s with net := n } := by
  have hdestroyed : ∃ n, (s.net.flight.filter (fun x => ofAttempt x.pkt)).foldl (fun s x =>
      s.ledDestroy (s.srcIf (pktH x.pkt)) (s.srcIf (pktH x.pkt)) (flitCat x.pkt) x.flits) s = { s with net := n } :=
    List.foldlRecOn _ _ (motive := fun t : State => ∃ n, t = { s with net := n }) ⟨_, rfl⟩ fun t ht x _ => by
      obtain ⟨n, rfl⟩ := ht
      exact ⟨_, rfl⟩
  obtain ⟨n, hn⟩ := hdestroyed
  rw [State.discard, hn]
  exact ⟨_, rfl⟩

theorem stopAttempt_keepsAround : KeepsAround s s.stopAttempt := by
  refine ⟨(State.stopAttempt_keepsHubs s).2, ?_, ?_, (State.stopAttempt_keeps s).2.2, num_stopAttempt s _⟩ <;>
  · unfold State.stopAttempt
    split
    · rfl
    · obtain ⟨n, hn⟩ := discard_eq s
      rw [hn]

theorem cancelFlips_keepsAround : KeepsAround s s.cancelFlips := by
  refine ⟨(State.cancelFlips_keepsHubs s).2, ?_, ?_, (State.cancelFlips_keeps s).2.2, num_cancelFlips s (by decide)⟩ <;>
  · unfold State.cancelFlips
    extract_lets v
    unfold v
    split <;> rfl

/-- A die switched off to COLD-SPARE. -/
def dieOff (f : Die → Die) (site : Nat) : State := (s.dieEnter site .coldSpare).updDie site f

theorem dieOff_standsStill {s : State} (h : standsStill s) {f : Die → Die} (hf : ∀ d, (f d).allow = d.allow ∧ (f d).op = d.op)
    (site : Nat) : standsStill (dieOff s f site) := by
  obtain ⟨hatt, hqueue, hsoft, hdies⟩ := h
  have hspare : diesIdle (s.dieEnter site .coldSpare) :=
    diesIdle_updDie hdies site (f := fun d => { d with st := .coldSpare, since := s.time }) fun _ => ⟨rfl, rfl⟩
  exact ⟨hatt, hqueue, hsoft, diesIdle_updDie hspare site hf⟩

theorem dropCmd_keepsAround (p : Bool) : KeepsAround s (s.dropCmd p) := by
  refine ⟨?_, ?_, ?_, ?_, num_dropCmd s p (by decide)⟩ <;>
  · unfold State.dropCmd
    split <;> rfl

theorem toHold_eq (cause : Nat) (h : s.panel = .running) : ∃ v, KeepsAround s v ∧ v.slots = s.slots ∧ v.power = s.power ∧
    v.dies = s.dies ∧ s.toHold cause = { (v.enter .hold).setNum Obj.HOLD_CAUSE cause with
      slots := { s.slots with pHold := false, wantHold := 0, posted := s.slots.posted.map Desc.emptied }
      recovery := { v.recovery with waitFrame := none } } := by
  refine ⟨s.dropCmd (s.slots.pHold && cause != 1), dropCmd_keepsAround .., ?_⟩
  rw [State.toHold, if_pos h]
  unfold State.dropCmd
  split <;> exact ⟨rfl, rfl, rfl, rfl⟩

end

/-! ## The quench step by step (14 R403 to R406) -/

/-- The quench counted, its record written, the attempt stopped. -/
def quenchCounted (s : State) : State :=
  ((s.count Obj.QUENCH_COUNT).fsr { part := 4, det := 0x1B, kind := 6, action := 8 })

/-- The frame that has ended without its audit has failed, and the announcements are dropped. -/
def quenchDropped (s : State) : State :=
  { s with slots := { s.slots with
    failed := match s.slots.ended with
      | some e => if e.audit.isSome then s.slots.failed else some e.att.frame
      | none => s.slots.failed
    ended := match s.slots.ended with | some e => if e.audit.isSome then some e else none | none => none
    opAt := 0, opNew := [], opDue := false, stretchFrom := 0 } }

/-- Dies at OP0 with no allowance, stacks in self-refresh, and nothing that waits for power. -/
def quenchCooled (s : State) : State :=
  { s with
    dies := SMap.mapV dieD (fun (x : Die) => { x with op := 0, allow := 0, allowAt := if x.allow = 0 then x.allowAt else s.time, steps := [] }) s.dies
    hbmStacks := SMap.mapV stackD (fun (x : Stack) => if x.st = 0 then { x with st := 2 } else x) s.hbmStacks
    net := { s.net with flight := s.net.flight.filter (fun x => (pktH x.pkt).type != 7) }
    recovery := { s.recovery with roll := s.recovery.roll.map (fun (r : Rollback) => { r with restored := false, entered := false }) }
    power := { s.power with queue := [], soft := none }
    thermal := { s.thermal with release := true } }

/-- A test that a quench cuts short goes back to the head of the test queue. -/
def testCut (s : State) (i : Nat) : State :=
  let s := (s.dieEnter i .coldSpare).updDie i (fun d => { d with powered := false, corner := 0 })
  { s with bringup := { s.bringup with testQ := i :: s.bringup.testQ.filter (fun x => x != i) } }

def quenchTests (s : State) : State := (allSites.filter (fun i => (s.die i).st == .test)).foldl testCut s

def quenchBringup (s : State) : State :=
  if s.panel == .bringup then
    (allSites.filter (fun i => (s.die i).powered)).foldl (fun s i =>
      (s.dieEnter i .coldSpare).updDie i (fun d => { d with powered := false })) s
  else s

/-- A quench up to the dies that are switched off: all that runs stands still. -/
def quenchCalm (s : State) : State := quenchCooled (quenchDropped (quenchCounted s).stopAttempt).cancelFlips

def quenchHeld (s : State) : State := if s.panel == .running then s.toHold 4 else s

theorem num_sendQuench (s : State) (q : Quench) {k : Nat} (h : k ≠ Obj.QUENCH_RECORD) : (s.sendQuench q).num k = s.num k := by
  have hobj : (s.setOct Obj.QUENCH_RECORD (s.quenchRecord q)).obj k = s.obj k := State.obj_setObj_other _ _ h
  change (match (s.setOct Obj.QUENCH_RECORD (s.quenchRecord q)).obj k with | .num n => n | .oct b => natLE b) = _
  rw [hobj]
  rfl

/-- What is recorded of a quench at its detection. -/
def quenchSeen (s : State) (cause : Nat) : Quench := { cause := cause, time := s.time, slot := s.slots.slot, hot := s.hotDies }

theorem quench_eq {s : State} (h : ¬ (s.thermal.quench.isSome ∨ s.panel = .cold ∨ s.panel = .aux)) (cause : Nat) :
    ∃ v, v = quenchHeld (quenchBringup (quenchTests (quenchCalm s))) ∧
    s.quench cause = { v with slots := { v.slots with posted := if v.prog.isSome then [] else v.slots.posted } }.sendQuench
      (quenchSeen (quenchCounted s) cause) := by
  obtain ⟨v, hv⟩ : ∃ v, v = quenchHeld (quenchBringup (quenchTests (quenchCalm s))) := ⟨_, rfl⟩
  refine ⟨v, hv, ?_⟩
  rw [State.quench, if_neg h]
  extract_lets s1 q s2 _ s3 s4 _ _ _ _ s5 s6 s7 s8
  have h8 : s8 = quenchHeld s7 := rfl
  clear_value s8
  have h7 : s7 = quenchBringup s6 := rfl
  clear_value s7
  have h6 : s6 = quenchTests s5 := rfl
  clear_value s6
  have h5 : s5 = quenchCooled s4 := rfl
  clear_value s5
  have h4 : s4 = (quenchDropped s2).cancelFlips := rfl
  clear_value s4
  have hheld : s8 = v := by
    rw [hv, h8, h7, h6, h5, h4]
    rfl
  subst hheld
  rfl

theorem dieOff_keepsAround (s : State) (f : Die → Die) (i : Nat) : KeepsAround s (dieOff s f i) := ⟨rfl, rfl, rfl, rfl, rfl⟩

theorem testCut_keepsAround (s : State) (i : Nat) : KeepsAround s (testCut s i) :=
  (dieOff_keepsAround s (fun d => { d with powered := false, corner := 0 }) i).trans ⟨rfl, rfl, rfl, rfl, rfl⟩

theorem testCut_standsStill {s : State} (h : standsStill s) (i : Nat) : standsStill (testCut s i) :=
  dieOff_standsStill (f := fun d => { d with powered := false, corner := 0 }) h (fun _ => ⟨rfl, rfl⟩) i

theorem quenchTests_leaves (s : State) : KeepsAround s (quenchTests s) ∧ (standsStill s → standsStill (quenchTests s)) :=
  List.foldlRecOn _ testCut (motive := fun t => KeepsAround s t ∧ (standsStill s → standsStill t)) ⟨.refl s, id⟩
    fun t ⟨hkeeps, hstill⟩ i _ => ⟨hkeeps.trans (testCut_keepsAround t i), fun h => testCut_standsStill (hstill h) i⟩

theorem quenchBringup_leaves (s : State) :
    KeepsAround s (quenchBringup s) ∧ (standsStill s → standsStill (quenchBringup s)) := by
  unfold quenchBringup
  split
  · exact List.foldlRecOn _ _ (motive := fun t => KeepsAround s t ∧ (standsStill s → standsStill t)) ⟨.refl s, id⟩
      fun t ⟨hkeeps, hstill⟩ i _ => ⟨hkeeps.trans (dieOff_keepsAround t _ i), fun h =>
        dieOff_standsStill (f := fun d => { d with powered := false }) (hstill h) (fun _ => ⟨rfl, rfl⟩) i⟩
  · exact ⟨.refl s, id⟩

theorem quenchCooled_leaves (s : State) :
    KeepsAround s (quenchCooled s) ∧ (s.slots.att = none → standsStill (quenchCooled s)) :=
  ⟨⟨rfl, rfl, rfl, rfl, rfl⟩, fun h => ⟨h, rfl, rfl, fun i =>
    get_mapV_of (d := dieD) (p := fun d : Die => d.allow = 0 ∧ d.op = 0)
      (f := fun x => { x with op := 0, allow := 0, allowAt := if x.allow = 0 then x.allowAt else s.time, steps := [] })
      (fun _ => ⟨rfl, rfl⟩) (fun _ => ⟨rfl, rfl⟩) s.dies i⟩⟩

theorem quenchDropped_leaves (s : State) :
    KeepsAround s (quenchDropped s).cancelFlips ∧ (quenchDropped s).cancelFlips.slots.att = s.slots.att := by
  have hdropped : KeepsAround s (quenchDropped s) := ⟨rfl, rfl, rfl, rfl, rfl⟩
  obtain ⟨hatt, -⟩ := cancelFlips_keepsRun (quenchDropped s)
  exact ⟨hdropped.trans (cancelFlips_keepsAround _), hatt⟩

theorem quenchCalm_leaves (s : State) : KeepsAround (s.count Obj.QUENCH_COUNT) (quenchCalm s) ∧ standsStill (quenchCalm s) := by
  obtain ⟨hdropped, hatt⟩ := quenchDropped_leaves (quenchCounted s).stopAttempt
  obtain ⟨hcooled, hstill⟩ := quenchCooled_leaves (quenchDropped (quenchCounted s).stopAttempt).cancelFlips
  exact ⟨(((fsr_keepsAround ..).trans (stopAttempt_keepsAround _)).trans hdropped).trans hcooled,
    hstill (hatt.trans (stopAttempt_leaves _).1)⟩

/-- RUNNING becomes HOLD with cause 4, and every other state stays. -/
theorem quenchHeld_leaves (s : State) : (quenchHeld s).cores = s.cores ∧ (quenchHeld s).pins = s.pins ∧
    (quenchHeld s).num Obj.QUENCH_COUNT = s.num Obj.QUENCH_COUNT ∧ (standsStill s → standsStill (quenchHeld s)) ∧
    (s.panel = .running → (quenchHeld s).panel = .hold ∧ (quenchHeld s).num Obj.HOLD_CAUSE = 4) := by
  by_cases h : s.panel = .running
  · obtain ⟨v, ⟨-, hcores, hpins, -, hnum⟩, -, hpower, hdies, heq⟩ := toHold_eq s 4 h
    have hheld : quenchHeld s = s.toHold 4 := by simp [quenchHeld, h]
    rw [hheld, heq]
    refine ⟨hcores, hpins, ?_, fun ⟨hatt, hqueue, hsoft, hidle⟩ => ⟨hatt, ?_, ?_, fun i => ?_⟩, fun _ => ⟨rfl, ?_⟩⟩
    · calc ((v.enter .hold).setNum Obj.HOLD_CAUSE 4).num Obj.QUENCH_COUNT
          = (v.enter .hold).num Obj.QUENCH_COUNT := State.num_setNum_other _ _ (by decide)
        _ = v.num Obj.QUENCH_COUNT := State.num_count_other _ _ (by decide)
        _ = s.num Obj.QUENCH_COUNT := hnum
    · exact (congrArg Power.queue hpower).trans hqueue
    · exact (congrArg Power.soft hpower).trans hsoft
    · have hdie : v.die i = s.die i := by rw [State.die, State.die, hdies]
      have := hidle i
      rwa [← hdie] at this
    · change ((v.enter .hold).setNum Obj.HOLD_CAUSE 4).num Obj.HOLD_CAUSE = 4
      exact State.num_setNum_same ..
  · have hheld : quenchHeld s = s := by simp [quenchHeld, h]
    rw [hheld]
    exact ⟨rfl, rfl, rfl, id, fun hr => absurd hr h⟩

/-- What a quench leaves, whatever its cause. -/
theorem quench_leaves {s : State} (hq : s.thermal.quench = none) (hcold : s.panel ≠ .cold) (haux : s.panel ≠ .aux) (n : Nat) :
    (∃ q, (s.quench n).thermal.quench = some q ∧ q.cause = n ∧ q.time = s.time) ∧ standsStill (s.quench n) ∧
    (s.panel = .running → (s.quench n).panel = .hold ∧ (s.quench n).num Obj.HOLD_CAUSE = 4) ∧
    (s.quench n).num Obj.QUENCH_COUNT = s.num Obj.QUENCH_COUNT + 1 ∧ (s.quench n).cores = s.cores ∧
    (s.quench n).pins = s.pins := by
  obtain ⟨v, hv, heq⟩ := quench_eq (s := s) (by simp [hq, hcold, haux]) n
  have hcounted : KeepsAround (s.count Obj.QUENCH_COUNT) (quenchCounted s) := fsr_keepsAround ..
  obtain ⟨hcalm, hstill⟩ := quenchCalm_leaves s
  obtain ⟨htests, hstillT⟩ := quenchTests_leaves (quenchCalm s)
  obtain ⟨hbring, hstillB⟩ := quenchBringup_leaves (quenchTests (quenchCalm s))
  obtain ⟨hcores, hpins, hnum, hstillH, hhold⟩ := quenchHeld_leaves (quenchBringup (quenchTests (quenchCalm s)))
  obtain ⟨hpanel', hcores', hpins', -, hnum'⟩ := (hcalm.trans htests).trans hbring
  rw [← hv] at hcores hpins hnum hstillH hhold
  have hstills : standsStill v := hstillH (hstillB (hstillT hstill))
  rw [heq]
  refine ⟨⟨_, rfl, rfl, hcounted.time⟩, hstills, fun hr => ?_, ?_, hcores.trans hcores', hpins.trans hpins'⟩
  · obtain ⟨hp, hc⟩ := hhold (hpanel'.trans hr)
    exact ⟨hp, (num_sendQuench _ _ (by decide)).trans hc⟩
  · calc _ = v.num Obj.QUENCH_COUNT := num_sendQuench _ _ (by decide)
      _ = (s.count Obj.QUENCH_COUNT).num Obj.QUENCH_COUNT := hnum.trans hnum'
      _ = s.num Obj.QUENCH_COUNT + 1 := State.num_count_same ..

/-! ## COOL_OK (14 R402, 19 R519) -/

theorem quench_cores_pins (s : State) (n : Nat) : (s.quench n).cores = s.cores ∧ (s.quench n).pins = s.pins := by
  by_cases h : s.thermal.quench.isSome ∨ s.panel = .cold ∨ s.panel = .aux
  · rw [State.quench, if_pos h]
    exact ⟨rfl, rfl⟩
  · obtain ⟨hq, hcold, haux⟩ : s.thermal.quench = none ∧ s.panel ≠ .cold ∧ s.panel ≠ .aux := by simpa using h
    obtain ⟨-, -, -, -, hkeeps⟩ := quench_leaves hq hcold haux n
    exact hkeeps

theorem exec_coolOkLow (s : State) : exec .coolOkLow s = .next (if s.prog.isSome
    then (s.setPins (fun p => { p with coolOk := false })).quench 1 else s.setPins (fun p => { p with coolOk := false })) := rfl

theorem coolOkLow_answers (s : State) : answers .coolOkLow s (fun t => t.pins.coolOk = false ∧
    (s.prog = none → t.thermal = s.thermal) ∧ (∀ p, s.prog = some p → s.thermal.quench = none → s.panel = .running →
      ∃ q, t.thermal.quench = some q ∧ q.cause = 1) ∧ sameMem s t ∧ t.cores = s.cores) := by
  refine answers_of_exec (exec_coolOkLow s) ?_
  obtain ⟨u, hu⟩ : ∃ u, u = s.setPins (fun p => { p with coolOk := false }) := ⟨_, rfl⟩
  have hlow : u.pins.coolOk = false ∧ u.thermal = s.thermal ∧ u.panel = s.panel ∧ sameMem s u ∧ u.cores = s.cores := by
    rw [hu]
    exact ⟨rfl, rfl, rfl, ⟨rfl, rfl, rfl⟩, rfl⟩
  obtain ⟨hpin, hthermal, hpanel, hmem, hcores⟩ := hlow
  rw [← hu]
  cases hprog : s.prog with
  | none => exact ⟨hpin, fun _ => hthermal, fun _ h => absurd h (Option.some_ne_none _).symm, hmem, hcores⟩
  | some p =>
    obtain ⟨hspad, hhbm, himem⟩ := hmem
    obtain ⟨hspad', hhbm', himem', -, -⟩ := State.quench_memSame u 1
    obtain ⟨hcores', hpins'⟩ := quench_cores_pins u 1
    refine ⟨(congrArg Pins.coolOk hpins').trans hpin, fun h => absurd h (Option.some_ne_none p), fun _ _ hquench hrun => ?_,
      ⟨hspad'.trans hspad, hhbm'.trans hhbm, himem'.trans himem⟩, hcores'.trans hcores⟩
    have hrun' : u.panel = .running := hpanel.trans hrun
    obtain ⟨⟨q, hq, hcause, -⟩, -⟩ :=
      quench_leaves (s := u) (hthermal ▸ hquench) (by simp [hrun']) (by simp [hrun']) 1
    exact ⟨q, hq, hcause⟩

/-- Settles O50: a quench is followed step by step, and COOL_OK low is one once a program is loaded. -/
theorem quenchStops : Obligations.quench_stops := by
  unfold Obligations.quench_stops
  refine ⟨fun s n hquench hcold haux => ?_, coolOkLow_answers⟩
  obtain ⟨hseen, ⟨hatt, hqueue, hsoft, hidle⟩, hhold, hcount, -⟩ := quench_leaves hquench hcold haux n
  obtain ⟨hspad, hhbm, himem, -, -⟩ := State.quench_memSame s n
  exact ⟨hseen, hatt, hqueue, hsoft, hhold, hidle, hcount, hspad, hhbm, himem⟩

end Sys2Proof.Proofs

end

section
/-! PROOFS. Supplies and resets (13 R367, R368, 16 R440, 17 R480, 19 R515): what a VIN loss, a panel reset and the entry to
SIMMER or BRINGUP leave. -/

open Sys2Proof Sys2Proof.Machine Sys2Proof.Claims

namespace Sys2Proof.Proofs

/-! ## Entering SIMMER and BRINGUP (16 R442, 17 R480) -/

/-- No object below the stage reports is one (16 R444). -/
theorem ne_stageObj {k : Nat} (h : k / 256 < 0xA100) (n sub : Nat) : k ≠ stageObj n sub := by
  unfold stageObj
  omega

theorem meshLock_eq (s : State) : ∃ m, s.meshLock = { s with mesh := m } := ⟨_, rfl⟩

theorem simmerStacks_eq (s : State) : ∃ m, s.simmerStacks = { s with hbmStacks := m } :=
  List.foldlRecOn _ _ (motive := fun t : State => ∃ m, t = { s with hbmStacks := m }) ⟨_, rfl⟩ fun t ht i _ => by
    obtain ⟨m, rfl⟩ := ht
    exact ⟨_, rfl⟩

/-- From `s` to `t` reports of the stages are all that has changed. -/
def StageReports (s t : State) : Prop := (∃ m, t = { s with od := m }) ∧ ∀ k, k / 256 < 0xA100 → t.num k = s.num k

theorem foldl_stageReports {α : Type} {f : State → α → State} (h : ∀ s x, StageReports s (f s x)) (l : List α) (s : State) :
    StageReports s (l.foldl f s) :=
  List.foldlRecOn l f (motive := StageReports s) ⟨⟨_, rfl⟩, fun _ _ => rfl⟩ fun t ⟨⟨_, ht⟩, hnum⟩ x _ => by
    obtain ⟨⟨_, ht'⟩, hnum'⟩ := h t x
    exact ⟨⟨_, by rw [ht', ht]⟩, fun k hk => (hnum' k hk).trans (hnum k hk)⟩

theorem setStage_stageReports (s : State) (n sub v : Nat) : StageReports s (s.setNum (stageObj n sub) v) :=
  ⟨⟨_, rfl⟩, fun _ hk => State.num_setNum_other _ _ (ne_stageObj hk n sub)⟩

/-- A bring-up that starts changes the reports of the stages and its own record, and waits at S0. -/
theorem startBringup_eq (s : State) (fast : Bool) : ∃ m b, s.startBringup fast = { s with od := m, bringup := b } ∧
    b.stage = some 0 ∧ b.halted = false ∧ b.fast = fast ∧ ∀ k, k / 256 < 0xA100 → (s.startBringup fast).num k = s.num k := by
  obtain ⟨u, hu⟩ : ∃ u, u = (List.range 11).foldl (fun s n =>
    (List.range 6).foldl (fun s i => s.setNum (stageObj n (i + 1)) 0) s) s := ⟨_, rfl⟩
  have hreports : StageReports s u := hu ▸
    foldl_stageReports (fun _ n => foldl_stageReports (fun _ i => setStage_stageReports _ n (i + 1) 0) _ _) _ s
  obtain ⟨v, hv⟩ : ∃ v : State, v = { u with bringup := { u.bringup with
    stage := some 0, halted := false, fast := fast, startTime := u.time, reachedS10 := false, testQ := [], stageAt := u.time } } :=
    ⟨_, rfl⟩
  have hstart : s.startBringup fast = v.setNum (stageObj 0 1) 1 := by
    simp only [State.startBringup, ← hu]
    rw [hv]
    rfl
  obtain ⟨⟨m, heq⟩, hnum⟩ := hreports
  refine ⟨(v.setNum (stageObj 0 1) 1).od, v.bringup, ?_, ?_, ?_, ?_, fun k hk => ?_⟩
  · rw [hstart, hv, heq]
    rfl
  · rw [hv]
  · rw [hv]
  · rw [hv]
  · rw [hstart, State.num_setNum_other _ _ (ne_stageObj hk 0 1), hv]
    exact hnum k hk

/-- SIMMER, before an automatic bring-up. -/
def inSimmer (s : State) : State :=
  let s := ((s.enter .simmer).meshLock).simmerStacks
  { s with power := { s.power with vinInRangeSince := none } }

theorem inSimmer_eq (s : State) :
    ∃ m l p, inSimmer s = { s.enter .simmer with mesh := m, hbmStacks := l, power := p } := by
  obtain ⟨m, hmesh⟩ := meshLock_eq (s.enter .simmer)
  obtain ⟨l, hstacks⟩ := simmerStacks_eq (s.enter .simmer).meshLock
  rw [inSimmer, hstacks, hmesh]
  exact ⟨_, _, _, rfl⟩

theorem toSimmer_auto_eq (s : State) : s.toSimmer true =
    if (inSimmer s).num Obj.AUTO_BRINGUP = 1 then ((inSimmer s).enter .bringup).startBringup false else inSimmer s := by
  rw [State.toSimmer, Bool.true_and]
  exact if_congr beq_iff_eq rfl rfl

/-- SIMMER is entered, or BRINGUP where bring-up is automatic. -/
theorem toSimmer_auto_leaves (s : State) :
    (s.toSimmer true).panel = (if s.num Obj.AUTO_BRINGUP = 1 then .bringup else .simmer) ∧ (s.toSimmer true).pins = s.pins := by
  obtain ⟨_, _, _, heq⟩ := inSimmer_eq s
  have hauto : (inSimmer s).num Obj.AUTO_BRINGUP = s.num Obj.AUTO_BRINGUP := by
    rw [heq]
    change (s.enter .simmer).num Obj.AUTO_BRINGUP = _
    exact State.num_count_other _ _ (by decide)
  obtain ⟨_, _, hbring, -⟩ := startBringup_eq ((inSimmer s).enter .bringup) false
  rw [toSimmer_auto_eq, hauto]
  split
  · rw [hbring, heq]
    exact ⟨rfl, rfl⟩
  · rw [heq]
    exact ⟨rfl, rfl⟩

/-! ## VIN (13 R367, R368) -/

/-- The loss counted and its record written. -/
def vinLossTold (s : State) : State :=
  let c := match s.checks.lastCertified with | some x => x.1 | none => 0
  (s.count Obj.VIN_LOSS_COUNT).fsr { part := 4, det := 0x1A, kind := 6, detail := bytesLE 8 c ++ slice s.checks.head 0 24 }

theorem vinDown_eq {s : State} (hcold : s.panel ≠ .cold) (haux : s.panel ≠ .aux) : s.vinDown =
    (({ (vinLossTold s).vinOff with thermal := {
      reported := (vinLossTold s).vinOff.thermal.reported, stale := (vinLossTold s).vinOff.thermal.stale } }).enter .aux).setNum
        Obj.RESET_CAUSE 3 := by
  rw [State.vinDown, if_neg (by simp [hcold, haux])]
  rfl

theorem num_vinOff (s : State) {k : Nat} (h : k ≠ Obj.SAFE_CAUSE) : s.vinOff.num k = s.num k := by
  rw [State.vinOff, State.num_setNum_other _ _ h]
  rfl

/-- What a VIN loss leaves of a panel that VIN supplies. -/
theorem vinDown_leaves {s : State} (hcold : s.panel ≠ .cold) (haux : s.panel ≠ .aux) :
    s.vinDown.panel = .aux ∧ s.vinDown.prog = none ∧ s.vinDown.cores = [] ∧ s.vinDown.spad = [] ∧ s.vinDown.hbm = [] ∧
    s.vinDown.imem = [] ∧ s.vinDown.num Obj.RESET_CAUSE = 3 ∧
    s.vinDown.num Obj.VIN_LOSS_COUNT = s.num Obj.VIN_LOSS_COUNT + 1 ∧ s.vinDown.time = s.time := by
  obtain ⟨v, hv⟩ : ∃ v, v = vinLossTold s := ⟨_, rfl⟩
  have htold : v.num Obj.VIN_LOSS_COUNT = s.num Obj.VIN_LOSS_COUNT + 1 ∧ v.time = s.time := by
    rw [hv]
    exact ⟨(num_fsr (k := Obj.VIN_LOSS_COUNT) _ _ (by decide)).trans (State.num_count_same ..), (State.fsr_keeps _ _).2.2⟩
  obtain ⟨hcount, htime⟩ := htold
  rw [vinDown_eq hcold haux, ← hv]
  refine ⟨rfl, rfl, rfl, rfl, rfl, rfl, State.num_setNum_same .., ?_, htime⟩
  refine (State.num_setNum_other _ _ (by decide)).trans ?_
  refine (State.num_count_other _ _ (by decide)).trans ?_
  exact (num_vinOff v (by decide)).trans hcount

theorem vinDown_without_vin {s : State} (h : s.panel = .cold ∨ s.panel = .aux) : s.vinDown = s := by
  rw [State.vinDown, if_pos h]

theorem vinLoss_answers (s : State) : answers .vinLoss s (fun t => t.pins.vinPgood = false ∧
    (s.panel ≠ .cold → s.panel ≠ .aux → t.panel = .aux ∧ t.prog = none ∧ t.cores = [] ∧ t.spad = [] ∧ t.hbm = [] ∧
      t.imem = [] ∧ t.num Obj.RESET_CAUSE = 3 ∧ t.num Obj.VIN_LOSS_COUNT = s.num Obj.VIN_LOSS_COUNT + 1 ∧ t.time = s.time) ∧
    (s.panel = .cold ∨ s.panel = .aux → t = s.setPins (fun p => { p with vinPgood := false }))) := by
  have hexec : exec .vinLoss s = .next (s.vinDown.setPins (fun p => { p with vinPgood := false })) := rfl
  refine answers_of_exec hexec ⟨rfl, fun hcold haux => ?_, fun h => by rw [vinDown_without_vin h]⟩
  exact vinDown_leaves hcold haux

section
variable (s : State) (hub mv : Nat)

/-- The tenth sample in a row below or above the range is logged, and VIN_LOW ends 100 ms after VIN has come back. -/
def vinLogged (low high : Nat) : State :=
  let note (k : LogKind) (p : Power) : Power := { p with log := p.log ++ [(s.time, k)] }
  let s := if low = 10 then { s.count Obj.VIN_EVENTS with power := note .vinLow { s.power with vinLow := true } } else s
  let s := if high = 10 then { s.count Obj.VIN_EVENTS with power := note .vinHigh s.power } else s
  if mv < 1720 then { s with power := { s.power with vinOkSince := none } }
  else
    let t : Nat := s.power.vinOkSince.getD s.time
    let ok := decide (t + 100000000 ≤ s.time)
    { s with power := { s.power with vinOkSince := some t, vinLow := s.power.vinLow && !ok } }

/-- Logging touches the count of events and the record of supplies. -/
theorem vinLogged_eq (low high : Nat) : ∃ m p, vinLogged s mv low high = { s with od := m, power := p } ∧
    (mv < 1720 → p.vinOkSince = none) := by
  by_cases hlow : low = 10 <;> by_cases hhigh : high = 10 <;> by_cases hmv : mv < 1720 <;>
    simp only [vinLogged, hlow, hhigh, hmv, if_true, if_false] <;>
    exact ⟨_, _, rfl, fun h => by trivial⟩

/-- A sample noted: the runs of its hub, and the slot's lowest and highest. -/
def vinNoted (bad low high : Nat) : State :=
  let s := s.updHub hub (fun h => { h with vinAt := s.time, vinBadRun := bad, vinLowRun := low, vinHighRun := high })
  { s with power := s.power.noteVin mv }

/-- The sample of a panel that VIN supplies. -/
def vinJudged : State :=
  let h := s.hub hub
  let bad := if mv < 1600 ∨ 2050 < mv then h.vinBadRun + 1 else 0
  let low := if mv < 1700 then h.vinLowRun + 1 else 0
  let high := if 1950 < mv then h.vinHighRun + 1 else 0
  let s := vinNoted s hub mv bad low high
  if bad = 2 ∨ !s.pins.vinPgood then s.vinDown else vinLogged s mv low high

variable {s hub mv}

theorem exec_vinSample (hh : hub < 16) (hrun : s.panel = .running) :
    exec (.vinSample hub mv) s = .next (vinJudged (s.nextSample (s.hub hub).vinAt 1000) hub mv) := by
  have hcold : ¬ s.panel = .cold := by simp [hrun]
  have haux : ¬ s.panel = .aux := by simp [hrun]
  exact (onPart_next (decide_eq_true hh) _).trans (congrArg Host.Outcome.next ((if_neg hcold).trans (if_neg haux)))

/-- Two bad samples in a row are a VIN loss. -/
theorem vinSample_lost (hh : hub < 16) (hrun : s.panel = .running) (hout : mv < 1600 ∨ 2050 < mv)
    (hbad : (s.hub hub).vinBadRun = 1) : answers (.vinSample hub mv) s (fun t => t.panel = .aux ∧ t.prog = none) := by
  have hexec := exec_vinSample (mv := mv) hh hrun
  obtain ⟨u, hu⟩ : ∃ u, u = s.nextSample (s.hub hub).vinAt 1000 := ⟨_, rfl⟩
  have hup : u.panel = .running ∧ (u.hub hub).vinBadRun = 1 := by
    rw [hu]
    exact ⟨hrun, hbad⟩
  obtain ⟨hrun', hbad'⟩ := hup
  have hdown : ∃ v : State, vinJudged u hub mv = v.vinDown ∧ v.panel = .running := by
    refine ⟨_, if_pos (.inl ?_), hrun'⟩
    rw [if_pos hout, hbad']
  obtain ⟨v, hv, hvrun⟩ := hdown
  obtain ⟨hpanel, hprog, -⟩ := vinDown_leaves (s := v) (by simp [hvrun]) (by simp [hvrun])
  rw [← hu, hv] at hexec
  exact answers_of_exec hexec ⟨hpanel, hprog⟩

theorem vinSample_good (hh : hub < 16) (hrun : s.panel = .running) (hpgood : s.pins.vinPgood = true) (hlo : 1600 ≤ mv)
    (hhi : mv ≤ 2050) : answers (.vinSample hub mv) s (fun t => t.panel = .running ∧ (t.hub hub).vinBadRun = 0 ∧
      (t.hub hub).vinLowRun = (if mv < 1700 then (s.hub hub).vinLowRun + 1 else 0) ∧ (mv < 1720 → t.power.vinOkSince = none) ∧
      t.time = (s.nextSample (s.hub hub).vinAt 1000).time ∧ sameMem s t ∧ t.cores = s.cores) := by
  have hexec := exec_vinSample (mv := mv) hh hrun
  obtain ⟨low, hlow⟩ : ∃ low, low = if mv < 1700 then (s.hub hub).vinLowRun + 1 else 0 := ⟨_, rfl⟩
  obtain ⟨high, hhigh⟩ : ∃ high, high = if 1950 < mv then (s.hub hub).vinHighRun + 1 else 0 := ⟨_, rfl⟩
  obtain ⟨v, hv⟩ : ∃ v, v = vinNoted (s.nextSample (s.hub hub).vinAt 1000) hub mv 0 low high := ⟨_, rfl⟩
  have hjudged : vinJudged (s.nextSample (s.hub hub).vinAt 1000) hub mv = vinLogged v mv low high := by
    have hin : ¬ (mv < 1600 ∨ 2050 < mv) := by omega
    have hpgood' : v.pins.vinPgood = true := hv ▸ hpgood
    rw [vinJudged, if_neg hin]
    simp only [State.nextSample_hub, ← hlow, ← hhigh, ← hv]
    exact if_neg (by simp [hpgood'])
  obtain ⟨m, p, heq, hok⟩ := vinLogged_eq v mv low high
  have hhub : (v.hub hub).vinBadRun = 0 ∧ (v.hub hub).vinLowRun = low := by
    have hput := State.hub_updHub_same (s.nextSample (s.hub hub).vinAt 1000) hub (fun h => { h with
      vinAt := (s.nextSample (s.hub hub).vinAt 1000).time, vinBadRun := 0, vinLowRun := low, vinHighRun := high })
    rw [hv]
    exact ⟨congrArg Hub.vinBadRun hput, congrArg Hub.vinLowRun hput⟩
  rw [hjudged, heq] at hexec
  refine answers_of_exec hexec ⟨?_, hhub.1, hhub.2.trans hlow, hok, ?_⟩
  · rw [hv]
    exact hrun
  · rw [hv]
    exact ⟨rfl, ⟨rfl, rfl, rfl⟩, rfl⟩

end

/-! ## VIN_PGOOD (17 R480, 16 R442, 19 R519; log 128) -/

theorem vinPgoodRise_answers {s : State} {mv : Nat} (haux : s.panel = .aux) (hpgood : s.pins.auxPgood = true) :
    answers (.vinPgoodRise mv) s (fun t =>
    t.pins.vinPgood = true ∧ (1700 ≤ mv → mv ≤ 1950 → t.time = max s.time (max s.time 50000000 + 100000000) ∧
      t.panel = (if s.num Obj.AUTO_BRINGUP = 1 then .bringup else .simmer)) ∧
    (mv < 1700 ∨ 1950 < mv → t.panel = (if s.num Obj.AUTO_BRINGUP = 1 then .bringup else .aux))) := by
  obtain ⟨u, hu⟩ : ∃ u, u = s.setPins (fun p => { p with vinPgood := true }) := ⟨_, rfl⟩
  have hup : u.panel = .aux ∧ u.pins.auxPgood = true ∧ u.pins.vinPgood = true ∧ u.time = s.time ∧
      u.num Obj.AUTO_BRINGUP = s.num Obj.AUTO_BRINGUP := by
    rw [hu]
    exact ⟨haux, hpgood, rfl, rfl, rfl⟩
  obtain ⟨hpanel, haux', hvin, htime, hnum⟩ := hup
  have hexec : exec (.vinPgoodRise mv) s = .next (if vinInRange mv then (u.atTime (max u.time 50000000 + 100000000)).toSimmer true
      else if u.num Obj.AUTO_BRINGUP = 1 then (((u.enter .bringup).meshLock).startBringup false).stageHalt 0 1 else u) := by
    simp only [exec, execVinPgoodRise, ← hu, hpanel, haux']
    rfl
  refine answers_of_exec hexec ?_
  by_cases hin : vinInRange mv = true
  · obtain ⟨hlo, hhi⟩ : 1700 ≤ mv ∧ mv ≤ 1950 := by simpa [vinInRange] using hin
    obtain ⟨hp, hpins⟩ := toSimmer_auto_leaves (u.atTime (max u.time 50000000 + 100000000))
    have ht := (State.toSimmer_keeps (u.atTime (max u.time 50000000 + 100000000)) true).2.2
    rw [if_pos hin]
    refine ⟨by rw [hpins]; exact hvin, fun _ _ => ⟨?_, ?_⟩, fun hout => absurd hout (by omega)⟩
    · rw [ht, ← htime]
      rfl
    · rw [hp, ← hnum]
      rfl
  · have hout : ¬ (1700 ≤ mv ∧ mv ≤ 1950) := by simpa [vinInRange] using hin
    rw [if_neg hin]
    by_cases hauto : s.num Obj.AUTO_BRINGUP = 1
    · obtain ⟨m, b, hbring, -⟩ := startBringup_eq (u.enter .bringup).meshLock false
      obtain ⟨v, hv⟩ : ∃ v, v = ((u.enter .bringup).meshLock).startBringup false := ⟨_, rfl⟩
      have hhalt : (v.stageHalt 0 1).panel = v.panel ∧ (v.stageHalt 0 1).pins = v.pins := by
        simp [State.stageHalt, State.fsr]
      have hvpanel : v.panel = .bringup ∧ v.pins = u.pins := by
        rw [hv, hbring]
        exact ⟨rfl, rfl⟩
      rw [if_pos (hnum.trans hauto), ← hv, hhalt.1, hhalt.2, hvpanel.1, hvpanel.2, if_pos hauto, if_pos hauto]
      exact ⟨hvin, fun hlo hhi => absurd ⟨hlo, hhi⟩ hout, fun _ => rfl⟩
    · rw [if_neg (fun h => hauto (hnum.symm.trans h)), if_neg hauto, if_neg hauto]
      exact ⟨hvin, fun hlo hhi => absurd ⟨hlo, hhi⟩ hout, fun _ => hpanel⟩

/-! ## AUX_PGOOD and PANEL_RESET_N (13 R369, 16 R440, 17 R478, R480) -/

/-- What a panel reset leaves, whatever its kind. -/
theorem panelReset_leaves (s : State) (cause : Nat) (cold : Bool) :
    (s.panelReset cause cold).prog = none ∧ (s.panelReset cause cold).access.sessions = [] ∧
    (s.panelReset cause cold).num Obj.RESET_CAUSE = cause ∧ (s.panelReset cause cold).hbm = [] ∧
    (s.panelReset cause cold).spad = [] ∧ (s.panelReset cause cold).cores = [] ∧
    (s.panelReset cause cold).access.roleKeys = s.access.roleKeys ∧ (s.panelReset cause cold).time = s.time ∧
    (s.panelReset cause cold).pins.auxPgood = s.pins.auxPgood := by
  refine ⟨?_, ?_, State.num_setNum_same .., ?_, ?_, ?_, ?_, ?_, ?_⟩ <;> cases cold <;> rfl

theorem auxPgoodRise_answers {s : State} (hcold : s.panel = .cold) : answers .auxPgoodRise s (fun t => t.panel = .aux ∧
    t.time = 0 ∧ t.prog = none ∧ t.access.sessions = [] ∧ t.num Obj.RESET_CAUSE = 0 ∧ t.hbm = [] ∧ t.spad = [] ∧ t.cores = [] ∧
    t.slots = {} ∧ t.pins.auxPgood = true) := by
  obtain ⟨u, hu⟩ : ∃ u : State, u = { s.setPins (fun p => { p with auxPgood := true }) with time := 0 } := ⟨_, rfl⟩
  obtain ⟨hprog, hsess, hcause, hhbm, hspad, hcores, -, htime, hpgood⟩ := panelReset_leaves u 0 true
  have hexec : exec .auxPgoodRise s = .next ({ u.panelReset 0 true with slots := {} }.resetInto .aux .cold) := by
    rw [hu]
    simp only [exec, execAuxPgoodRise]
    rw [if_neg (by simp [hcold])]
  refine answers_of_exec hexec ⟨rfl, htime.trans ?_, hprog, hsess, hcause, hhbm, hspad, hcores, rfl, hpgood.trans ?_⟩
  · rw [hu]
  · rw [hu]
    rfl

theorem auxPgoodFall_answers (s : State) : answers .auxPgoodFall s (fun t => t.panel = .cold ∧ t.pins.auxPgood = false ∧
    (s.panel ≠ .cold → t.prog = none ∧ t.hbm = [] ∧ t.cores = [] ∧ t.access.sessions = [] ∧ t.recovery.fsr = s.recovery.fsr)) := by
  refine ⟨_, rfl, ?_⟩
  by_cases hcold : s.panel = .cold
  · rw [if_pos (show (s.setPins _).panel = .cold from hcold)]
    exact ⟨hcold, rfl, fun h => absurd hcold h⟩
  · rw [if_neg (show ¬ (s.setPins _).panel = .cold from hcold)]
    exact ⟨rfl, rfl, fun _ => ⟨rfl, rfl, rfl, rfl, rfl⟩⟩

theorem panelResetN_none {s : State} {ns : Nat} (h : ns < 1000 ∨ s.panel = .cold) : exec (.panelResetN ns) s = .next s :=
  congrArg Host.Outcome.next (if_pos h)

/-- What becomes of a panel after a hard reset outside AUX: SIMMER, or BRINGUP where it is automatic. -/
def resetOn (u : State) : State :=
  let s := (u.meshLock).simmerStacks
  if s.num Obj.AUTO_BRINGUP = 1 then (s.enter .bringup).startBringup false else s

theorem resetOn_eq (u : State) : ∃ v : State, (∃ m l b p since prev, v = { u with
      mesh := m, hbmStacks := l, bringup := b, panel := p, panelSince := since, panelPrev := prev, od := v.od }) ∧
    (v.panel = u.panel ∨ v.panel = .bringup) ∧ v.num Obj.RESET_CAUSE = u.num Obj.RESET_CAUSE ∧ resetOn u = v := by
  obtain ⟨m, hmesh⟩ := meshLock_eq u
  obtain ⟨l, hstacks⟩ := simmerStacks_eq u.meshLock
  unfold resetOn
  rw [hstacks, hmesh]
  extract_lets w
  split
  · obtain ⟨o, b, hbring, -, -, -, hnum⟩ := startBringup_eq (w.enter .bringup) false
    have hcause := (hnum Obj.RESET_CAUSE (by decide)).trans (State.num_count_other _ _ (by decide))
    refine ⟨_, ?_, .inr ?_, hcause, rfl⟩
    · rw [hbring]
      exact ⟨_, _, _, _, _, _, rfl⟩
    · rw [hbring]
      rfl
  · exact ⟨w, ⟨_, _, _, _, _, _, rfl⟩, .inl rfl, rfl, rfl⟩

theorem panelResetN_answers {s : State} {ns : Nat} (hlong : 1000 ≤ ns) (hcold : s.panel ≠ .cold) :
    answers (.panelResetN ns) s (fun t => t.prog = none ∧ t.access.sessions = [] ∧
      t.num Obj.RESET_CAUSE = 1 ∧ t.hbm = [] ∧ t.cores = [] ∧ t.access.roleKeys = s.access.roleKeys ∧ t.time = s.time ∧
      (t.panel = .aux ↔ s.panel = .aux) ∧ (t.panel = .aux ∨ t.panel = .simmer ∨ t.panel = .bringup)) := by
  obtain ⟨hprog, hsess, hcause, hhbm, -, hcores, hkeys, htime, -⟩ := panelReset_leaves s 1 true
  have hexec : exec (.panelResetN ns) s = .next (if s.panel = .aux then (s.panelReset 1 true).resetInto .aux s.panel
      else resetOn ((s.panelReset 1 true).resetInto .simmer s.panel)) :=
    congrArg Host.Outcome.next (if_neg (by simp [hlong, hcold]))
  refine answers_of_exec hexec ?_
  by_cases haux : s.panel = .aux
  · rw [if_pos haux]
    exact ⟨hprog, hsess, hcause, hhbm, hcores, hkeys, htime, iff_of_true rfl haux, .inl rfl⟩
  · obtain ⟨v, ⟨_, _, _, _, _, _, hv⟩, hpanel, hnum, heq⟩ := resetOn_eq ((s.panelReset 1 true).resetInto .simmer s.panel)
    have hpanel' : v.panel = .simmer ∨ v.panel = .bringup := hpanel
    rw [if_neg haux, heq]
    refine ⟨?_, ?_, hnum.trans hcause, ?_, ?_, ?_, ?_, iff_of_false ?_ haux, .inr hpanel'⟩
    · rw [hv]; exact hprog
    · rw [hv]; exact hsess
    · rw [hv]; exact hhbm
    · rw [hv]; exact hcores
    · rw [hv]; exact hkeys
    · rw [hv]; exact htime
    · obtain hp | hp := hpanel' <;> simp [hp]

theorem mgmtPhyResetRelease_answers {s : State} {p : Nat} (hp : p < 2) (hcold : s.panel ≠ .cold) :
    answers (.mgmtPhyResetRelease p) s (fun t => SMap.get zeroD t.pins.phyRstN p = 1 ∧
      t.time = max s.time (s.pins.rstAt + 10000000) ∧ sameMem s t ∧ t.cores = s.cores) := by
  have hexec : exec (.mgmtPhyResetRelease p) s = .next ((s.atTime (s.pins.rstAt + 10000000)).setPins (fun q =>
      { q with phyRstN := SMap.put zeroD q.phyRstN p 1 })) :=
    (onPart_next (decide_eq_true hp) _).trans (congrArg Host.Outcome.next (if_neg hcold))
  exact answers_of_exec hexec ⟨SMap.get_put_same zeroD s.pins.phyRstN p 1, rfl, ⟨rfl, rfl, rfl⟩, rfl⟩

/-- Settles O48: VIN and its samples, the three pins of supply and reset, and the release of a PHY's reset. -/
theorem suppliesResets : Obligations.supplies_resets := by
  unfold Obligations.supplies_resets
  exact ⟨vinLoss_answers, fun _ _ _ hh hrun hpgood => ⟨vinSample_lost hh hrun, vinSample_good hh hrun hpgood⟩,
    fun _ _ => vinPgoodRise_answers, fun _ => auxPgoodRise_answers, auxPgoodFall_answers,
    fun _ _ => ⟨panelResetN_none, panelResetN_answers⟩, fun _ _ => mgmtPhyResetRelease_answers⟩

end Sys2Proof.Proofs

end

section
/-! PROOFS. IVR phases, power-on and soft-start, connection degradation, the trivet pair (13 R371 to R373, R384 to R388). -/

open Sys2Proof Sys2Proof.Machine Sys2Proof.Claims

namespace Sys2Proof.Proofs

/-! ## Phases that fail (13 R371 to R373) -/

/-- The phases of a site's die and the caps that follow from them are those of `s`. -/
@[simp] abbrev KeepsPhases (site : Nat) (s t : State) : Prop :=
  (t.die site).phaseOff = (s.die site).phaseOff ∧ (t.die site).phases = (s.die site).phases ∧
  (t.die site).ivrCap = (s.die site).ivrCap

theorem fsr_keepsPhases (s : State) (r : FsrIn) (site : Nat) : KeepsPhases site s (s.fsr r) := by
  obtain ⟨q, hq⟩ := die_fsr s r site
  rw [KeepsPhases, hq]
  exact ⟨rfl, rfl, rfl⟩

/-- The safe point is no higher than the cap of the phases (02 R52, 13 R373). -/
theorem reSafe_keepsPhases (s : State) (site : Nat) :
    KeepsPhases site s (s.reSafe site) ∧ ((s.reSafe site).die site).safe ≤ ((s.reSafe site).die site).ivrCap := by
  unfold State.reSafe
  extract_lets cal
  rw [KeepsPhases, State.belowFloor_die, State.die_updDie_same]
  exact ⟨⟨rfl, rfl, rfl⟩, (min_le_right ..).trans ((min_le_right ..).trans (min_le_left ..))⟩

/-- A die taken out of use keeps its phases and points. -/
theorem retire_keepsPhases (s : State) (site prio : Nat) :
    KeepsPhases site s (s.retire site prio) ∧ ((s.retire site prio).die site).safe = (s.die site).safe := by
  unfold State.retire
  split
  · rw [KeepsPhases, State.die, (State.reqMig_keepsDies ..).1, ← State.die, State.die_updDie_same]
    exact ⟨⟨rfl, rfl, rfl⟩, rfl⟩
  · rw [KeepsPhases, State.die_updDie_same]
    have hdie : (((s.abandonRep site).dieEnter site .coldSpare).clearCores site).die site = _ :=
      die_dieEnter (s.abandonRep site) site .coldSpare
    rw [hdie]
    exact ⟨⟨rfl, rfl, rfl⟩, rfl⟩
  · exact ⟨⟨rfl, rfl, rfl⟩, rfl⟩

section
variable {s : State} {site q p : Nat} (hsite : site < 144) (hq : q < 4) (hp : p < 12) (hpow : (s.die site).powered = true)

/-- The phase disabled, its quadrant's count and the die's cap. -/
def phaseDisabled (s : State) (site q p : Nat) : State :=
  s.updDie site (fun d => { d with
    phaseOff := d.phaseOff ++ [(q, p)], phases := SMap.put zeroD d.phases q (SMap.get zeroD (s.die site).phases q + 1)
    ivrCap := min d.ivrCap (phaseCap (SMap.get zeroD (s.die site).phases q + 1)) })

include hsite hq hp

theorem ivrPhaseFault_again (hoff : (q, p) ∈ (s.die site).phaseOff) : exec (.ivrPhaseFault site q p) s = .next s := by
  refine (onPart_next (by simp [hsite, hq, hp]) _).trans (congrArg Host.Outcome.next (if_pos ?_))
  simp [hoff]

include hpow

theorem ivrPhaseFault_answers (hon : (q, p) ∉ (s.die site).phaseOff) : answers (.ivrPhaseFault site q p) s (fun t =>
      (t.die site).phaseOff = (s.die site).phaseOff ++ [(q, p)] ∧
      SMap.get zeroD (t.die site).phases q = SMap.get zeroD (s.die site).phases q + 1 ∧
      (t.die site).ivrCap = min (s.die site).ivrCap (phaseCap (SMap.get zeroD (s.die site).phases q + 1)) ∧
      (t.die site).safe ≤ (t.die site).ivrCap ∧ sameMem s t) := by
  obtain ⟨n, hn⟩ : ∃ n, n = SMap.get zeroD (s.die site).phases q + 1 := ⟨_, rfl⟩
  obtain ⟨r, hr⟩ : ∃ r : FsrIn, r = { part := 0, index := site, unit := 0x0C, det := 0x17, kind := 2
                                      action := if 5 ≤ n then 2 else 0, detail := bytesLE 1 q ++ bytesLE 1 p } := ⟨_, rfl⟩
  obtain ⟨v, hv⟩ : ∃ v, v = ((phaseDisabled s site q p).fsr r).reSafe site := ⟨_, rfl⟩
  have hexec : exec (.ivrPhaseFault site q p) s = .next (if 5 ≤ n then v.retire site 3 else v) := by
    rw [hv, hr, hn]
    refine (onPart_next (by simp [hsite, hq, hp]) _).trans (congrArg Host.Outcome.next (if_neg ?_))
    simp [hpow, hon]
  obtain ⟨⟨hoff, hphases, hcap⟩, hsafe⟩ := reSafe_keepsPhases ((phaseDisabled s site q p).fsr r) site
  obtain ⟨hoff', hphases', hcap'⟩ := fsr_keepsPhases (phaseDisabled s site q p) r site
  have hdie : (phaseDisabled s site q p).die site = _ := State.die_updDie_same ..
  rw [← hv, hoff', hdie] at hoff
  rw [← hv, hphases', hdie] at hphases
  rw [← hv, hcap', hdie] at hcap
  rw [← hv] at hsafe
  have hmem : MemSame s v := by
    rw [hv]
    exact MemSame.trans (t := phaseDisabled s site q p) ⟨rfl, rfl, rfl, rfl, rfl⟩
      ((State.fsr_memSame ..).trans (State.reSafe_memSame ..))
  have hget : SMap.get zeroD (v.die site).phases q = SMap.get zeroD (s.die site).phases q + 1 := by
    rw [hphases, SMap.get_put_same]
  refine answers_of_exec hexec ?_
  split
  · obtain ⟨⟨roff, rphases, rcap⟩, rsafe⟩ := retire_keepsPhases v site 3
    obtain ⟨hspad, hhbm, himem, -, -⟩ := hmem.trans (State.retire_memSame v site 3)
    rw [roff, rphases, rcap, rsafe]
    exact ⟨hoff, hget, hcap, hsafe, hspad, hhbm, himem⟩
  · obtain ⟨hspad, hhbm, himem, -, -⟩ := hmem
    exact ⟨hoff, hget, hcap, hsafe, hspad, hhbm, himem⟩

end

/-! ## POWER_ON_ADMIT (13 R385) -/

section
variable {s : State} {site : Nat} {l : List Nat} (hqueue : s.power.queue = site :: l)
include hqueue

theorem powerOnAdmit_deferred (hnear : s.peakNear site = true) (hfirst : s.power.deferred = false) :
    answers .powerOnAdmit s (fun t => t.power.queue = s.power.queue ∧ t.power.deferred = true ∧
      t.num Obj.POWERON_DEFERRED = s.num Obj.POWERON_DEFERRED + 1 ∧ sameMem s t ∧ t.cores = s.cores) := by
  have hexec : exec .powerOnAdmit s =
      .next ({ s with power := { s.power with deferred := true } }.count Obj.POWERON_DEFERRED) := by
    simp [exec, execPowerOnAdmit, hqueue, hnear, hfirst]
  exact answers_of_exec hexec ⟨rfl, rfl, State.num_count_same { s with power := _ } .., ⟨rfl, rfl, rfl⟩, rfl⟩

theorem powerOnAdmit_starts (hready : s.panel = .ready) (hsoft : s.power.soft = none) (hlast : s.power.lastOn = none)
    (hquench : s.thermal.quench = none) (hnear : s.peakNear site = false)
    (hfits : ({ s with power := { s.power with soft := some (site, s.time) } }.fits
        ({ s with power := { s.power with soft := some (site, s.time) } }.estimate (fun i => (s.die i).op))) = true) :
    answers .powerOnAdmit s (fun t => t.power.queue = l ∧ t.power.soft = some (site, s.time) ∧
        t.power.lastOn = some s.time ∧ t.num Obj.POWERON_LAST_SITE = site ∧ sameMem s t ∧ t.cores = s.cores) := by
  obtain ⟨u, hu⟩ : ∃ u : State, u = { s with power := { s.power with soft := some (site, s.time) } } := ⟨_, rfl⟩
  have hfits' : u.fits (u.estimate (fun i => (u.die i).op)) = true := hu ▸ hfits
  have hexec : exec .powerOnAdmit s = .next ({ u with power := { u.power with
      queue := l, lastOn := some s.time, deferred := false } }.setNum Obj.POWERON_LAST_SITE site) := by
    have hok : (s.panel != .cold && s.panel != .aux && s.panel != .simmer &&
        (match s.power.lastOn with | some t => decide (t + 2 * s.period ≤ s.time) | none => true) && s.power.soft.isNone &&
        s.thermal.quench.isNone && u.fits (u.estimate (fun i => (u.die i).op)) && !s.peakNear site) = true := by
      simp [hready, hsoft, hlast, hquench, hnear, hfits']
    subst hu
    refine congrArg Host.Outcome.next ?_
    rw [hqueue]
    exact if_pos hok
  refine answers_of_exec hexec ⟨rfl, ?_, rfl, State.num_setNum_same .., ?_, ?_⟩ <;> rw [hu]
  · rfl
  · exact ⟨rfl, rfl, rfl⟩
  · rfl

end

/-! ## SOFT_START_END (13 R387) -/

/-- Supplies, TIME, memories and cores of `t` are those of `s`, and its site is powered as it was, in its state. -/
@[simp] abbrev KeepsStart (site : Nat) (s t : State) : Prop :=
  (t.power = s.power ∧ t.time = s.time ∧ t.cores = s.cores ∧ sameMem s t) ∧
  (t.die site).powered = (s.die site).powered ∧ (t.die site).st = (s.die site).st ∧ (t.die site).vd = (s.die site).vd ∧
  (t.die site).quarantined = (s.die site).quarantined

theorem KeepsStart.trans {site : Nat} {s t u : State} (h : KeepsStart site s t) (h' : KeepsStart site t u) :
    KeepsStart site s u := by
  simp_all [sameMem]

theorem updDie_keepsStart (s : State) (site : Nat) {f : Die → Die}
    (hf : ∀ d, (f d).powered = d.powered ∧ (f d).st = d.st ∧ (f d).vd = d.vd ∧ (f d).quarantined = d.quarantined) :
    KeepsStart site s (s.updDie site f) := by
  rw [KeepsStart, State.die_updDie_same]
  exact ⟨⟨rfl, rfl, rfl, rfl, rfl, rfl⟩, hf _⟩

theorem calLoad_keepsStart (s : State) (site : Nat) : KeepsStart site s (s.calLoad site) := by
  unfold State.calLoad
  extract_lets b ok a v
  have hv : KeepsStart site s v := ⟨⟨rfl, rfl, rfl, rfl, rfl, rfl⟩, rfl, rfl, rfl, rfl⟩
  split
  · exact hv.trans (updDie_keepsStart v site (f := fun d => { d with calDef := !ok }) fun _ => ⟨rfl, rfl, rfl, rfl⟩)
  · exact hv

theorem reSafe_keepsStart {s : State} {site : Nat} (h : (s.die site).st ≠ .active) : KeepsStart site s (s.reSafe site) := by
  obtain ⟨p, hp⟩ := reSafe_of_not_active h
  rw [hp]
  exact updDie_keepsStart s site (f := fun d => { d with safe := p }) fun _ => ⟨rfl, rfl, rfl, rfl⟩

/-- A die at the end of its soft-start: its clock has locked. -/
def clockLocked (s : State) (site n : Nat) : State :=
  { s.atTime (n + 200000) with power := { s.power with soft := none } }.updDie site (fun d =>
    { d with powered := true, op := 0, hashing := false, haltedPairs := [], pairs := [] })

/-- Its calibration set is loaded, outside a bring-up. -/
def calibrated (s : State) (site : Nat) : State := if s.panel == .bringup then s else (s.calLoad site).reSafe site

theorem calibrated_keepsStart {s : State} {site : Nat} (h : (s.die site).st ≠ .active) :
    KeepsStart site s (calibrated s site) := by
  unfold calibrated
  split
  · exact ⟨⟨rfl, rfl, rfl, rfl, rfl, rfl⟩, rfl, rfl, rfl, rfl⟩
  · have hload := calLoad_keepsStart s site
    have ⟨_, _, hst, _⟩ := hload
    exact hload.trans (reSafe_keepsStart (hst ▸ h))

/-- What a die becomes at the end of its soft-start. -/
def startEnded (s : State) (site : Nat) : State :=
  let d := s.die site
  match d.st, d.vd with
  | .active, some v =>
    let s := (s.enterDie site v true).updDie site (fun d => { d with op := s.pointOf site s.panelFloor })
    let left := s.recovery.restart.filter (fun x => x != site)
    let s := { s with recovery := { s.recovery with restart := left } }
    if s.panel = .safe ∧ left.isEmpty then s.restarted else s
  | .test, _ => (s.setHashing site true).updDie site (fun d => { d with corner := 1, cornerAt := s.time })
  | .coldSpare, _ => if d.quarantined then s else s.dieEnter site .warmSpare
  | _, _ => s

theorem exec_softStartEnd {s : State} {site n : Nat} (hsite : site < 144) (hsoft : s.power.soft = some (site, n)) :
    exec (.softStartEnd site) s = .next (startEnded (calibrated (clockLocked s site n) site) site) := by
  refine (onPart_next (decide_eq_true hsite) _).trans (congrArg Host.Outcome.next ?_)
  rw [hsoft]
  exact if_neg (not_not_intro rfl)

theorem startEnded_of_spare {s : State} {site : Nat} (h : (s.die site).st = .coldSpare) :
    startEnded s site = if (s.die site).quarantined then s else s.dieEnter site .warmSpare := by
  simp [startEnded, h]

theorem softStartEnd_answers {s : State} {site n : Nat} (hsite : site < 144) (hsoft : s.power.soft = some (site, n))
    (hst : (s.die site).st = .coldSpare) : answers (.softStartEnd site) s (fun t =>
      t.power.soft = none ∧ (t.die site).powered = true ∧
      (t.die site).st = (if (s.die site).quarantined then .coldSpare else .warmSpare) ∧ t.time = max s.time (n + 200000) ∧
      sameMem s t ∧ t.cores = s.cores) := by
  have hdie : (clockLocked s site n).die site = _ :=
    State.die_updDie_same { s.atTime (n + 200000) with power := { s.power with soft := none } } ..
  have hlocked : ((clockLocked s site n).die site).st = .coldSpare := by rw [hdie]; exact hst
  obtain ⟨⟨hpower, htime, hcores, hmem⟩, hpow, hst', -, hquar⟩ :=
    calibrated_keepsStart (s := clockLocked s site n) (site := site) (by simp [hlocked])
  obtain ⟨v, hv⟩ : ∃ v, v = calibrated (clockLocked s site n) site := ⟨_, rfl⟩
  rw [← hv, hdie] at hpow hquar
  rw [← hv, hlocked] at hst'
  rw [← hv] at hpower htime hcores hmem
  have hexec := exec_softStartEnd hsite hsoft
  rw [← hv, startEnded_of_spare hst'] at hexec
  have hquar' : (v.die site).quarantined = (s.die site).quarantined := hquar
  refine answers_of_exec hexec ?_
  rw [hquar']
  split
  · exact ⟨congrArg Power.soft hpower, hpow, hst', htime, hmem, hcores⟩
  · rw [die_dieEnter]
    exact ⟨congrArg Power.soft hpower, hpow, rfl, htime, hmem, hcores⟩

/-! ## IR_DROP_SAMPLE (13 R388) -/

section
variable {s : State} {site p d m n : Nat}

/-- The run of samples over 25 mV at a sense point. -/
def excessNext (s : State) (site p e n : Nat) : Nat :=
  if (s.die site).allowAt + 10000 ≤ n then (if 25 < e then SMap.get zeroD (s.die site).excessRun p + 1 else 0)
  else SMap.get zeroD (s.die site).excessRun p

/-- A sample noted with its excess, no more than 255 mV of it. -/
def senseNoted (s : State) (site p e n : Nat) : State :=
  (s.nextSample (SMap.get zeroD (s.die site).senseAt p) 10000).updDie site (fun d => { d with
    senseAt := SMap.put zeroD d.senseAt p n
    excessRun := SMap.put zeroD d.excessRun p (excessNext s site p e n)
    excessLog := d.excessLog.filter (fun x => !(x.2.1 == p && decide (x.2.2 ≤ min 255 e)) && decide (n ≤ x.1 + 1000000000)) ++
      [(n, p, min 255 e)] })

theorem exec_irDropSample (hsite : site < 144) (hp : p < 64) (hpow : (s.die site).powered = true)
    (hn : n = (s.nextSample (SMap.get zeroD (s.die site).senseAt p) 10000).time) : exec (.irDropSample site p d m) s =
      .next (if excessNext s site p (d - m) n = 1000 ∧ SMap.get zeroD (s.die site).excessRun p ≠ 1000
        then (senseNoted s site p (d - m) n).connWarning site p else senseNoted s site p (d - m) n) := by
  have hsteady : (if (!decide ((s.die site).allowAt + 10000 ≤ n)) = true then SMap.get zeroD (s.die site).excessRun p
      else if 25 < d - m then SMap.get zeroD (s.die site).excessRun p + 1 else 0) = excessNext s site p (d - m) n := by
    unfold excessNext
    split <;> simp_all
  refine (onPart_next (by simp [hsite, hp]) _).trans (congrArg Host.Outcome.next ?_)
  rw [if_neg (by simp [hpow])]
  unfold senseNoted
  rw [← hsteady, hn]
  rfl

variable (hsite : site < 144) (hp : p < 64) (hpow : (s.die site).powered = true)
  (hn : n = (s.nextSample (SMap.get zeroD (s.die site).senseAt p) 10000).time)
include hsite hp hpow hn

theorem irDropSample_counts (hfew : SMap.get zeroD (s.die site).excessRun p < 999) :
    answers (.irDropSample site p d m) s (fun t =>
      SMap.get zeroD (t.die site).excessRun p = (if (s.die site).allowAt + 10000 ≤ n
        then (if 25 < d - m then SMap.get zeroD (s.die site).excessRun p + 1 else 0)
        else SMap.get zeroD (s.die site).excessRun p) ∧ t.time = n ∧ sameMem s t ∧ t.cores = s.cores) := by
  have hexec := exec_irDropSample (d := d) (m := m) hsite hp hpow hn
  have hrun : excessNext s site p (d - m) n ≠ 1000 := by
    unfold excessNext
    split
    · split <;> omega
    · omega
  rw [if_neg fun h => hrun h.1] at hexec
  refine answers_of_exec hexec ⟨?_, hn.symm, ⟨rfl, rfl, rfl⟩, rfl⟩
  rw [senseNoted, State.die_updDie_same]
  exact SMap.get_put_same ..

end

/-- What follows a warning on the die changes no object but the number of the last record (15 R414). -/
theorem num_retire (s : State) (site prio k : Nat) : (s.retire site prio).num k = s.num k := by
  refine num_of_od ?_ k
  unfold State.retire
  split
  · exact (reqMig_leaves ..).2.1
  · rfl
  · rfl

theorem num_joinTest (s : State) (site k : Nat) : (s.joinTest site).num k = s.num k := by
  refine num_of_od ?_ k
  unfold State.joinTest
  extract_lets d
  split <;> rfl

/-- The warning counted, with its site and point. -/
def connCounted (s : State) (site p : Nat) : State :=
  ((s.count Obj.CONN_WARNINGS).setNum Obj.CONN_LAST_SITE site).setNum Obj.CONN_LAST_POINT p

/-- The record of the warning written, and the site's entry. -/
def connTold (s : State) (site p : Nat) : State :=
  let s := connCounted s site p
  let d := s.die site
  let s := s.fsr { part := 0, index := site, unit := 0x0C, det := 0x15, kind := 2
                   action := 0x100 + (if d.vd.isSome then 2 else 0), detail := bytesLE 1 p }
  (s.updDie site (fun d => { d.fieldEntry 0x15 0x0C 0xFF 0xFF with connTest := true })).mapWrite

/-- A die lost by its connection. -/
def connLost (s : State) (site : Nat) : State :=
  let s := { s with bringup := { s.bringup with testQ := s.bringup.testQ.filter (fun i => i != site) } }
  (s.dieEnter site .lost).updDie site (fun d => { d with powered := false, corner := 0, hashing := false })

theorem num_connLost (s : State) (site k : Nat) : (connLost s site).num k = s.num k := num_of_od rfl k

theorem connWarning_eq (s : State) (site p : Nat) : s.connWarning site p =
    if (((connCounted s site p).die site).st == .test && ((connCounted s site p).die site).connTest) = true then
      connLost (connTold s site p) site
    else if ((connCounted s site p).die site).st = .test then connTold s site p
    else ((connTold s site p).retire site 4).joinTest site := rfl

theorem num_connWarning_of_counted (s : State) (site p : Nat) {k : Nat} (h : k ≠ Obj.FSR_LAST_SEQ) :
    (s.connWarning site p).num k = (connCounted s site p).num k := by
  have htold : (connTold s site p).num k = (connCounted s site p).num k := num_fsr _ _ h
  rw [connWarning_eq, ← htold]
  split
  · exact num_connLost ..
  split
  · rfl
  · rw [num_joinTest, num_retire]

theorem num_connWarning (s : State) (site p : Nat) :
    (s.connWarning site p).num Obj.CONN_WARNINGS = s.num Obj.CONN_WARNINGS + 1 ∧
    (s.connWarning site p).num Obj.CONN_LAST_SITE = site ∧ (s.connWarning site p).num Obj.CONN_LAST_POINT = p := by
  rw [num_connWarning_of_counted _ _ _ (by decide), num_connWarning_of_counted _ _ _ (by decide),
    num_connWarning_of_counted _ _ _ (by decide)]
  simp [connCounted]

theorem irDropSample_warns {s : State} {site p d m n : Nat} (hsite : site < 144) (hp : p < 64)
    (hpow : (s.die site).powered = true) (hn : n = (s.nextSample (SMap.get zeroD (s.die site).senseAt p) 10000).time)
    (hover : 25 < d - m) (hrun : SMap.get zeroD (s.die site).excessRun p = 999) (hsteady : (s.die site).allowAt + 10000 ≤ n) :
    answers (.irDropSample site p d m) s (fun t =>
        t.num Obj.CONN_WARNINGS = s.num Obj.CONN_WARNINGS + 1 ∧ t.num Obj.CONN_LAST_SITE = site ∧
        t.num Obj.CONN_LAST_POINT = p) := by
  have hexec := exec_irDropSample (d := d) (m := m) hsite hp hpow hn
  have hnext : excessNext s site p (d - m) n = 1000 := by
    rw [excessNext, if_pos hsteady, if_pos hover, hrun]
  rw [if_pos ⟨hnext, by simp [hrun]⟩] at hexec
  exact answers_of_exec hexec (num_connWarning ..)

/-! ## TRIVET_TAKEOVER (13 R384) -/

section
variable {s : State} {o : Nat} (ho : o = (if s.num Obj.TRIVET_PRIMARY = 0 then 15 else 0))
include ho

theorem trivetTakeover_none (hlost : (s.hub o).lost = true) : exec .trivetTakeover s = .next s := by
  simp [exec, execTrivetTakeover, ← ho, hlost]

theorem trivetTakeover_answers (hcold : s.panel ≠ .cold) (hlive : (s.hub o).lost = false)
    (hruns : (s.hub o).restarting = false) : answers .trivetTakeover s (fun t =>
      t.num Obj.TRIVET_PRIMARY = o ∧ t.num Obj.TRIVET_TAKEOVERS = s.num Obj.TRIVET_TAKEOVERS + 1 ∧ t.power = s.power ∧
      t.slots = s.slots ∧ sameMem s t ∧ t.cores = s.cores) := by
  have hexec : exec .trivetTakeover s = .next ((s.setNum Obj.TRIVET_PRIMARY o).count Obj.TRIVET_TAKEOVERS) := by
    simp [exec, execTrivetTakeover, ← ho, hcold, hlive, hruns]
  refine answers_of_exec hexec ⟨?_, ?_, rfl, rfl, ⟨rfl, rfl, rfl⟩, rfl⟩
  · rw [State.num_count_other _ _ (by decide), State.num_setNum_same]
  · rw [State.num_count_same, State.num_setNum_other _ _ (by decide)]

end

/-- Settles O49: phases, the queue for power and the soft-start, the sense points, and the standby of the trivet. -/
theorem powerOn : Obligations.power_on := by
  unfold Obligations.power_on
  refine ⟨fun _ _ _ _ hsite hq hp hpow => ⟨ivrPhaseFault_again hsite hq hp, ivrPhaseFault_answers hsite hq hp hpow⟩,
    fun _ _ _ hqueue hready hsoft hlast hquench => ⟨powerOnAdmit_deferred hqueue,
      powerOnAdmit_starts hqueue hready hsoft hlast hquench⟩,
    fun _ _ _ hsite hsoft hst _ => softStartEnd_answers hsite hsoft hst, fun s site p d m e n he hsite hp hpow hn => ?_,
    fun _ hcold _ ho => ⟨trivetTakeover_none ho, trivetTakeover_answers ho hcold⟩⟩
  subst he
  exact ⟨irDropSample_counts hsite hp hpow hn, irDropSample_warns hsite hp hpow hn⟩

end Sys2Proof.Proofs

end

section
/-! PROOFS. The object-dictionary server: what the answer to a request leaves, which requests are refused and with which code,
and in-band messages (17 R466 to R477). -/

open Sys2Proof Sys2Proof.Machine Sys2Proof.Claims

namespace Sys2Proof.Proofs

/-! ## The answer to a request (17 R470, R473) -/

/-- The response kept with its session and sent. -/
def answered (s : State) (x : Session) (q : UReq) (a : Resp) : State :=
  (s.updSession x.num (fun y => y.remember q.r.seq.toNat a)).respond q a

/-- But for the record of its requests, the session `y` is `x`. -/
structure SameSession (x y : Session) : Prop where
  num : y.num = x.num
  role : y.role = x.role
  keyEntry : y.keyEntry = x.keyEntry
  credKey : y.credKey = x.credKey
  cred : y.cred = x.cred
  nonce : y.nonce = x.nonce
  cert : y.cert = x.cert
  challenge : y.challenge = x.challenge

theorem SameSession.refl (x : Session) : SameSession x x := ⟨rfl, rfl, rfl, rfl, rfl, rfl, rfl, rfl⟩

theorem SameSession.trans {x y z : Session} (h : SameSession x y) (h' : SameSession y z) : SameSession x z :=
  ⟨h'.num.trans h.num, h'.role.trans h.role, h'.keyEntry.trans h.keyEntry, h'.credKey.trans h.credKey, h'.cred.trans h.cred,
    h'.nonce.trans h.nonce, h'.cert.trans h.cert, h'.challenge.trans h.challenge⟩

/-- From `s` to `t` a request has been answered: the sessions' records of their requests, the last response and the messages
that leave are all that has changed. -/
def Answered (s t : State) : Prop := ∃ g a o, (∀ y, SameSession y (g y)) ∧ t = { s with
  access := { s.access with sessions := s.access.sessions.map g, lastResp := a }
  fabric := { s.fabric with objOut := o } }

theorem updSession_answered (s : State) (n : Nat) {f : Session → Session} (hf : ∀ y, SameSession y (f y)) :
    Answered s (s.updSession n f) := by
  refine ⟨fun y => if y.num = n then f y else y, s.access.lastResp, s.fabric.objOut, fun y => ?_, rfl⟩
  dsimp only
  split
  · exact hf y
  · exact .refl y

theorem respond_answered (s : State) (q : UReq) (a : Resp) : Answered s (s.respond q a) := by
  refine ⟨id, some (q.r.sess, q.r.seq.toNat, a),
    if 0x100 ≤ q.r.sess then s.fabric.objOut ++ [(q.r.sess, rspMessage q a)] else s.fabric.objOut, .refl, ?_⟩
  rw [State.respond, List.map_id]
  split <;> rfl

theorem Answered.trans {s t u : State} (h : Answered s t) (h' : Answered t u) : Answered s u := by
  obtain ⟨g, a, o, hg, rfl⟩ := h
  obtain ⟨g', a', o', hg', rfl⟩ := h'
  exact ⟨g' ∘ g, a', o', fun y => (hg y).trans (hg' (g y)), by simp⟩

theorem remember_answered (s : State) (x : Session) (q : UReq) (a : Resp) :
    Answered s (s.updSession x.num (fun y => y.remember q.r.seq.toNat a)) :=
  updSession_answered s x.num (f := fun y => y.remember q.r.seq.toNat a) fun _ => ⟨rfl, rfl, rfl, rfl, rfl, rfl, rfl, rfl⟩

theorem answered_spec (s : State) (x : Session) (q : UReq) (a : Resp) :
    Answered s (answered s x q a) ∧ got (answered s x q a) q.r a :=
  ⟨(remember_answered s x q a).trans (respond_answered ..), got_respond ..⟩

/-- The value received in part is dropped with the answer. -/
theorem dropPart_answered (s : State) (n k : Nat) : Answered s (s.dropPart n k) :=
  updSession_answered s n fun _ => ⟨rfl, rfl, rfl, rfl, rfl, rfl, rfl, rfl⟩

section
variable {s t : State} (h : Answered s t)
include h

theorem Answered.od : t.od = s.od := by
  obtain ⟨g, a, o, -, rfl⟩ := h
  rfl

theorem Answered.session {n : Nat} {x : Session} (hx : s.session n = some x) : ∃ y, t.session n = some y ∧ SameSession x y := by
  obtain ⟨g, a, o, hg, rfl⟩ := h
  have hnum : ((fun y : Session => y.num == n) ∘ g) = fun y => y.num == n := by
    funext y
    rw [Function.comp_apply, (hg y).num]
  refine ⟨g x, ?_, hg x⟩
  simp only [State.session, List.find?_map, hnum]
  rw [show s.access.sessions.find? (fun y => y.num == n) = some x from hx, Option.map_some]

theorem Answered.no_session {n : Nat} (hx : s.session n = none) : t.session n = none := by
  obtain ⟨g, a, o, hg, rfl⟩ := h
  have hnum : ((fun y : Session => y.num == n) ∘ g) = fun y => y.num == n := by
    funext y
    rw [Function.comp_apply, (hg y).num]
  simp only [State.session, List.find?_map, hnum]
  rw [show s.access.sessions.find? (fun y => y.num == n) = none from hx, Option.map_none]

end

/-! ## Requests served (17 R473) -/

section
variable {s u : State} {x : Session} {q : UReq}

/-- A SEQ that has been answered gets its response again. -/
theorem serve_of_seen {e : Nat × Resp} (hcold : s.panel ≠ .cold) (hu : s.sessionOf q.r.sess = some u)
    (hx : u.session q.r.sess = some x) (hseen : x.seqs.find? (fun e => e.1 == q.r.seq.toNat) = some e) :
    s.serve q = u.respond q e.2 := by
  simp [State.serve, hcold, hu, hx, hseen]

/-- A new SEQ is executed and answered. -/
theorem serve_of_fresh (hcold : s.panel ≠ .cold) (hu : s.sessionOf q.r.sess = some u) (hx : u.session q.r.sess = some x)
    (hfresh : fresh x q.r) : s.serve q = answered (u.execute x q).1 x q (u.execute x q).2 := by
  obtain ⟨hnew, hnear, hdone⟩ := hfresh
  cases hh : x.highest with
  | none => simp [State.serve, answered, hcold, hu, hx, hnew, hh, hdone]
  | some k => simp [State.serve, answered, hcold, hu, hx, hnew, hh, hdone, (hnear k hh).not_gt]

/-- A request that asks is answered with what executing it gives. -/
theorem serve_answers (h : asks s u x q.r) {v : State} {a : Resp} (he : u.execute x q = (v, a)) :
    Answered v (s.serve q) ∧ got (s.serve q) q.r a := by
  obtain ⟨hcold, hu, hx, -, hfresh, -⟩ := h
  rw [serve_of_fresh hcold hu hx hfresh, he]
  exact answered_spec ..

theorem execute_of_asks (h : asks s u x q.r) : u.execute x q = (match q.op with
    | 1 => u.doRead x q
    | 2 => u.doWrite x q
    | 3 => u.doOpen x q
    | 4 => u.doProve x q
    | 5 => if q.bad then refuse u 0x03 else grant (u.closeSession x.num)
    | _ => refuse u 0x03) := by
  obtain ⟨-, -, -, hfrozen, -⟩ := h
  simp only [State.execute, hfrozen, Bool.false_eq_true, if_false] <;> rfl

/-- A session that asks holds no part of a value. -/
theorem no_parts_of_asks {r : ReqHead} (h : asks s u x r) : x.parts = [] := by
  obtain ⟨-, -, -, -, -, hparts⟩ := h
  exact hparts

/-- The sign of life of the session that asks reaches nothing else. -/
theorem asks_leaves (h : asks s u x q.r) : sameMem s u ∧ u.cores = s.cores := by
  obtain ⟨a, rfl⟩ := eq_of_asks h
  exact ⟨⟨rfl, rfl, rfl⟩, rfl⟩

theorem asks_num (h : asks s u x q.r) : x.num = q.r.sess := session_num h.2.2.1

end

theorem Answered.frame {s t : State} (h : Answered s t) : sameMem s t ∧ t.cores = s.cores := by
  obtain ⟨_, _, _, -, rfl⟩ := h
  exact ⟨⟨rfl, rfl, rfl⟩, rfl⟩

/-- What a request that asks leaves of the memories and cores, where executing it leaves them. -/
theorem asks_frame {s u v t : State} {x : Session} {r : ReqHead} (ha : asks s u x r) (hmem : sameMem u v) (hcores : v.cores = u.cores)
    (hans : Answered v t) : sameMem s t ∧ t.cores = s.cores := by
  obtain ⟨a, rfl⟩ := eq_of_asks ha
  obtain ⟨⟨hspad, hhbm, himem⟩, hc⟩ := hans.frame
  obtain ⟨hspad', hhbm', himem'⟩ := hmem
  exact ⟨⟨hspad.trans hspad', hhbm.trans hhbm', himem.trans himem'⟩, hc.trans hcores⟩

theorem exec_objectWrite (r : ReqHead) (o : Nat) (g : Seg) (b : Bytes) (s : State) : exec (.objectWrite r o g b) s =
    .next (s.serve { r := r, op := 2, key := o, off := g.off, total := g.total, data := b }) := rfl

theorem exec_objectRead (r : ReqHead) (o off : Nat) (s : State) :
    exec (.objectRead r o off) s = .next (s.serve { r := r, op := 1, key := o, off := off }) := rfl

theorem respond_sessions (s : State) (q : UReq) (a : Resp) : (s.respond q a).access.sessions = s.access.sessions := by
  unfold State.respond
  split <;> rfl

section
variable {s u : State} {x : Session} {r : ReqHead} {o : Nat} {g : Seg} {b : Bytes} (hcold : s.panel ≠ .cold)
  (hu : s.sessionOf r.sess = some u) (hx : u.session r.sess = some x)
include hcold hu hx

theorem objectWrite_seen {e : Nat × Resp} (hseen : x.seqs.find? (fun e => e.1 == r.seq.toNat) = some e) :
    answers (.objectWrite r o g b) s (fun t => got t r e.2 ∧ t.od = u.od ∧ t.access.sessions = u.access.sessions ∧
      t.panel = s.panel ∧ t.slots = s.slots ∧ sameMem s t ∧ t.cores = s.cores) := by
  obtain ⟨q, hq⟩ : ∃ q : UReq, q = { r := r, op := 2, key := o, off := g.off, total := g.total, data := b } := ⟨_, rfl⟩
  have hr : q.r = r := by rw [hq]
  have hexec : exec (.objectWrite r o g b) s = .next (u.respond q e.2) := by
    rw [exec_objectWrite, ← hq, serve_of_seen hcold (hr ▸ hu) (hr ▸ hx) (hr ▸ hseen)]
  have hgot : got (u.respond q e.2) r e.2 := hr ▸ got_respond u q e.2
  have hsess := respond_sessions u q e.2
  obtain ⟨c, f, heq⟩ := respond_eq u q e.2
  obtain ⟨a, rfl⟩ := sessionOf_eq hu
  refine answers_of_exec hexec ⟨hgot, ?_, hsess, ?_⟩ <;> rw [heq]
  exact ⟨rfl, rfl, ⟨rfl, rfl, rfl⟩, rfl⟩

/-- A frozen session is answered FROZEN whatever it asks (17 R476, R477). -/
theorem objectWrite_frozen (hfrozen : u.sessFrozen x = true) (hfresh : fresh x r) :
    answers (.objectWrite r o g b) s (fun t => got t r { abort := 9 } ∧ t.od = u.od ∧ t.slots = u.slots ∧
      t.panel = u.panel ∧ sameMem s t ∧ t.cores = s.cores) := by
  obtain ⟨q, hq⟩ : ∃ q : UReq, q = { r := r, op := 2, key := o, off := g.off, total := g.total, data := b } := ⟨_, rfl⟩
  have hr : q.r = r := by rw [hq]
  have he : u.execute x q = (u, { abort := 9 }) := by
    rw [State.execute, if_pos hfrozen]
    rfl
  have hexec : exec (.objectWrite r o g b) s = .next (answered u x q { abort := 9 }) := by
    rw [exec_objectWrite, ← hq, serve_of_fresh hcold (hr ▸ hu) (hr ▸ hx) (hr ▸ hfresh), he]
  obtain ⟨⟨_, _, _, -, heq⟩, hgot⟩ := answered_spec u x q { abort := 9 }
  rw [hr] at hgot
  obtain ⟨a, rfl⟩ := sessionOf_eq hu
  refine answers_of_exec hexec ⟨hgot, ?_⟩
  rw [heq]
  exact ⟨rfl, rfl, rfl, ⟨rfl, rfl, rfl⟩, rfl⟩

end

/-! ## Requests denied (17 R476, R477) -/

/-- A violation is counted; the table takes the session's credential while it has room. -/
theorem deny_leaves {s : State} {n : Nat} {x : Session} (hx : s.session n = some x) :
    (s.deny n).num Obj.DENIED_COUNT = s.num Obj.DENIED_COUNT + 1 ∧ (s.access.frozen.length < 256 →
      (s.deny n).access.frozen = s.access.frozen ++ [(x.credKey, s.time, credEntry x.credKey x.cred)]) := by
  obtain ⟨v, hv⟩ : ∃ v, v = s.fsr { part := 6, index := n, unit := 0x10, det := 0x14, kind := 5, action := 0x20 } := ⟨_, rfl⟩
  have hnum : v.num Obj.DENIED_COUNT = s.num Obj.DENIED_COUNT := hv ▸ num_fsr s _ (by decide)
  have haccess : v.access = s.access := by
    rw [hv]
    simp
  have htime : v.time = s.time := hv ▸ (State.fsr_keeps s _).2.2
  have hfreeze : s.freezeSession n = if v.access.frozen.length < 256 then
      { v with access := { v.access with frozen := v.access.frozen ++ [(x.credKey, v.time, credEntry x.credKey x.cred)] } }
      else v.updSession n (fun x => { x with frozenFirst := true }) := by
    rw [State.freezeSession, hx, hv]
  refine ⟨?_, fun hroom => ?_⟩
  · rw [State.deny, State.num_count_same, ← hnum, hfreeze]
    split <;> rfl
  · rw [State.deny, State.count_access, hfreeze, haccess, if_pos hroom, htime]

/-- A session with this role may write the object. -/
def mayWrite (row : ObjRow) (role : Nat) : Bool :=
  row.acc != .ro && match row.wr with | some w => decide (w ≤ role) | none => false

theorem mayWrite_eq_false {row : ObjRow} {role : Nat} (h : row.acc = .ro ∨ ∀ w, row.wr = some w → role < w) :
    mayWrite row role = false := by
  unfold mayWrite
  obtain hro | hrole := h
  · simp [hro]
  · cases hwr : row.wr with
    | none => simp
    | some w => simp [hrole w hwr]

theorem doWrite_denied {s : State} {x : Session} {q : UReq} {row : ObjRow} (hindex : (subsOf (q.key / 256)).isEmpty = false)
    (hrow : rowOf q.key = some row) (hdeny : row.acc = .ro ∨ ∀ w, row.wr = some w → x.role < w) :
    s.doWrite x q = s.denied x.num := by
  rw [State.doWrite, hindex, hrow]
  exact if_pos (show (!mayWrite row x.role) = true by rw [mayWrite_eq_false hdeny]; rfl)

/-! ## Requests refused, and whole writes that take effect (17 R472, R476) -/

section
variable {s u : State} {x : Session} {q : UReq} {row : ObjRow}

/-- Past the checks of form the value goes through its range, the state and the effect. -/
theorem WholeWrite.doWrite_eq (h : WholeWrite x q row) : u.doWrite x q =
    if !u.rangeOk x q.key row.ty q.data then refuse u 0x04
    else if !u.writeLegal x row (natLE q.data) then refuse u 0x06
    else match u.effect x q.key row.ty q.data q.ok with
      | .error e => refuse u e
      | .ok v => grant (v.dropPart x.num q.key) := by
  have hpart : u.partOf x q.key = none := by simp [State.partOf, h.alone]
  obtain ⟨w, hw, hrole⟩ := h.role
  simp [State.doWrite, h.index, h.listed, h.writable, hw, hrole, h.header, h.typed, h.short.not_gt, h.fits, h.whole, hpart,
    joinPart_whole h.first h.whole h.nonempty] <;> rfl

theorem WholeWrite.execute_of_asks (h : WholeWrite x q row) (ha : asks s u x q.r) : u.execute x q = u.doWrite x q := by
  rw [Sys2Proof.Proofs.execute_of_asks ha, h.isWrite]
  rfl

theorem WholeWrite.outOfRange (h : WholeWrite x q row) (ha : asks s u x q.r)
    (hr : u.rangeOk x q.key row.ty q.data = false) : u.execute x q = refuse u 4 := by
  rw [h.execute_of_asks ha, h.doWrite_eq, hr]
  rfl

theorem WholeWrite.illegal (h : WholeWrite x q row) (ha : asks s u x q.r) (hr : u.rangeOk x q.key row.ty q.data = true)
    (hl : u.writeLegal x row (natLE q.data) = false) : u.execute x q = refuse u 6 := by
  rw [h.execute_of_asks ha, h.doWrite_eq, hr, hl]
  rfl

/-- In its range and legal, a whole write takes effect and is answered OK. -/
theorem WholeWrite.takesEffect (h : WholeWrite x q row) (ha : asks s u x q.r) (hr : u.rangeOk x q.key row.ty q.data = true)
    (hl : u.writeLegal x row (natLE q.data) = true) {v : State} (he : u.effect x q.key row.ty q.data q.ok = .ok v) :
    Answered v (s.serve q) ∧ got (s.serve q) q.r { abort := 0 } := by
  have hexec : u.execute x q = (v.dropPart x.num q.key, { abort := 0 }) := by
    rw [h.execute_of_asks ha, h.doWrite_eq, hr, hl, he]
    rfl
  obtain ⟨hans, hgot⟩ := serve_answers ha hexec
  exact ⟨(dropPart_answered ..).trans hans, hgot⟩

end

/-! ## Numbers written to an object (17 R474, R476) -/

section
variable {s u : State} {x : Session} {r : ReqHead} {o n v : Nat} (ha : asks s u x r)
include ha

/-- The request that writes a number of `n` bytes to an object. -/
def numReq (r : ReqHead) (o n v : Nat) : UReq := { r := r, op := 2, key := o, total := n, data := bytesLE n v }

theorem objectWrite_refused {e : Nat} (he : u.doWrite x (numReq r o n v) = refuse u e) :
    answers (.objectWrite r o ⟨0, n⟩ (bytesLE n v)) s (fun t => got t r { abort := e } ∧ t.od = u.od) := by
  have hexec : u.execute x (numReq r o n v) = refuse u e := (execute_of_asks (q := numReq r o n v) ha).trans he
  obtain ⟨hans, hgot⟩ := serve_answers (q := numReq r o n v) ha hexec
  exact ⟨_, exec_objectWrite .., hgot, hans.od⟩

theorem objectWrite_no_index (h : (subsOf (o / 256)).isEmpty = true) :
    answers (.objectWrite r o ⟨0, n⟩ (bytesLE n v)) s (fun t => got t r { abort := 1 }) := by
  obtain ⟨t, hexec, hgot, -⟩ := objectWrite_refused (o := o) (n := n) (v := v) ha (e := 1)
    (by rw [State.doWrite, if_pos (show (subsOf ((numReq r o n v).key / 256)).isEmpty = true from h)])
  exact ⟨t, hexec, hgot⟩

variable (hindex : (subsOf (o / 256)).isEmpty = false)
include hindex

theorem objectWrite_no_row (h : rowOf o = none) :
    answers (.objectWrite r o ⟨0, n⟩ (bytesLE n v)) s (fun t => got t r { abort := 2 }) := by
  have hdo : u.doWrite x (numReq r o n v) = refuse u 2 := by
    simp only [State.doWrite, numReq, hindex, h, Bool.false_eq_true, if_false]
  obtain ⟨t, hexec, hgot, -⟩ := objectWrite_refused ha hdo
  exact ⟨t, hexec, hgot⟩

variable {row : ObjRow} (hrow : rowOf o = some row)
include hrow

theorem objectWrite_denied (hdeny : row.acc = .ro ∨ (∀ w, row.wr = some w → x.role < w)) :
    answers (.objectWrite r o ⟨0, n⟩ (bytesLE n v)) s (fun t =>
        got t r { abort := 5 } ∧ t.num Obj.DENIED_COUNT = u.num Obj.DENIED_COUNT + 1 ∧
        (u.access.frozen.length < 256 → t.access.frozen = u.access.frozen ++ [(x.credKey, u.time, credEntry x.credKey x.cred)])) := by
  have hexec : u.execute x (numReq r o n v) = (u.deny x.num, { abort := 5 }) :=
    (execute_of_asks (q := numReq r o n v) ha).trans (doWrite_denied (q := numReq r o n v) hindex hrow hdeny)
  have hx : u.session x.num = some x := by rw [asks_num (q := numReq r o n v) ha]; exact ha.2.2.1
  obtain ⟨hcount, hfrozen⟩ := deny_leaves hx
  obtain ⟨hans, hgot⟩ := serve_answers (q := numReq r o n v) ha hexec
  refine ⟨_, exec_objectWrite .., hgot, (num_of_od hans.od _).trans hcount, fun hroom => ?_⟩
  rw [← hfrozen hroom]
  obtain ⟨_, _, _, -, heq⟩ := hans
  have hfrozen' := congrArg (fun t : State => t.access.frozen) heq
  exact hfrozen'

variable {w : Nat} (hro : row.acc ≠ .ro) (hwr : row.wr = some w) (hrole : w ≤ x.role)
include hro hwr hrole

theorem objectWrite_wrong_type (htyp : r.typ.toNat ≠ row.ty.code) :
    answers (.objectWrite r o ⟨0, n⟩ (bytesLE n v)) s (fun t => got t r { abort := 3 } ∧ t.od = u.od) := by
  refine objectWrite_refused ha ?_
  simp [State.doWrite, numReq, hindex, hrow, hro, hwr, hrole, htyp]

variable (htyp : r.typ.toNat = row.ty.code) (hsize : row.ty.size = some n) (hpos : 0 < n) (hn : n ≤ 8)
include htyp hsize hpos hn

theorem numReq_whole : WholeWrite x (numReq r o n v) row where
  isWrite := rfl
  index := hindex
  listed := hrow
  writable := hro
  role := ⟨w, hwr, hrole⟩
  header := rfl
  typed := htyp
  short := (show n ≤ 1024 by omega)
  fits := by simp [lengthOk, hsize, numReq]
  first := rfl
  whole := length_bytesLE ..
  nonempty := List.ne_nil_of_length_pos ((length_bytesLE n v).symm ▸ hpos)
  alone := no_parts_of_asks ha

theorem objectWrite_out_of_range (hr : u.rangeOk x o row.ty (bytesLE n v) = false) :
    answers (.objectWrite r o ⟨0, n⟩ (bytesLE n v)) s (fun t => got t r { abort := 4 } ∧ t.od = u.od) := by
  have hwhole := numReq_whole (v := v) ha hindex hrow hro hwr hrole htyp hsize hpos hn
  exact objectWrite_refused ha ((hwhole.execute_of_asks ha).symm.trans (hwhole.outOfRange ha hr))

theorem objectWrite_illegal (hv : v < 256 ^ n) (hr : u.rangeOk x o row.ty (bytesLE n v) = true)
    (hl : u.writeLegal x row v = false) :
    answers (.objectWrite r o ⟨0, n⟩ (bytesLE n v)) s (fun t => got t r { abort := 6 } ∧ t.od = u.od) := by
  have hwhole := numReq_whole (v := v) ha hindex hrow hro hwr hrole htyp hsize hpos hn
  have hval : natLE (numReq r o n v).data = v := (natLE_bytesLE n v).trans (Nat.mod_eq_of_lt hv)
  exact objectWrite_refused ha ((hwhole.execute_of_asks ha).symm.trans (hwhole.illegal ha hr (by rw [hval, hl])))

end

/-! ## Reads (17 R464, R471) -/

/-- A read changes the records of calibration sets and signatures, and free values drawn. -/
theorem readEffect_leaves (s : State) (x : Session) (k off : Nat) : (s.readEffect x k off).od = s.od ∧
    sameMem s (s.readEffect x k off) ∧ (s.readEffect x k off).cores = s.cores := by
  unfold State.readEffect
  (repeat' split) <;> exact ⟨rfl, ⟨rfl, rfl, rfl⟩, rfl⟩

/-- What a read gives that is not refused. -/
theorem doRead_ok {s : State} {x : Session} {r : ReqHead} {o : Nat} {row : ObjRow} {v : ObjVal}
    (hindex : (subsOf (o / 256)).isEmpty = false) (hrow : rowOf o = some row) (hacc : row.acc ≠ .wo)
    (hmay : row.mayRead x.role = true) (htyp : r.typ = 0) (hval : s.readVal x o = .ok v) (hserved : s.served o false = true) :
    s.doRead x { r := r, op := 1, key := o, off := 0 } =
      (s.readEffect x o 0, { abort := 0, data := (row.ty.encode v).take 1024, total := (row.ty.encode v).length }) := by
  simp [State.doRead, hindex, hrow, hacc, hmay, htyp, hval, hserved]

/-- The request that reads an object from its start. -/
def readReq (r : ReqHead) (o : Nat) : UReq := { r := r, op := 1, key := o }

section
variable {s u : State} {x : Session} {r : ReqHead} {o : Nat} {row : ObjRow} {v : ObjVal} (ha : asks s u x r)
  (hindex : (subsOf (o / 256)).isEmpty = false) (hrow : rowOf o = some row) (hacc : row.acc ≠ .wo)
  (hmay : row.mayRead x.role = true) (htyp : r.typ = 0) (hval : u.readVal x o = .ok v) (hserved : u.served o false = true)
include ha hindex hrow hacc hmay htyp hval hserved

theorem serve_readReq : Answered (u.readEffect x o 0) (s.serve (readReq r o)) ∧ got (s.serve (readReq r o)) r
    { abort := 0, data := (row.ty.encode v).take 1024, total := (row.ty.encode v).length } :=
  serve_answers (q := readReq r o) ha ((execute_of_asks (q := readReq r o) ha).trans
    (doRead_ok hindex hrow hacc hmay htyp hval hserved))

theorem objectRead_answers : answers (.objectRead r o 0) s (fun t =>
      got t r { abort := 0, data := (row.ty.encode v).take 1024, total := (row.ty.encode v).length } ∧ t.od = u.od ∧
      sameMem s t ∧ t.cores = s.cores) := by
  obtain ⟨hans, hgot⟩ := serve_readReq ha hindex hrow hacc hmay htyp hval hserved
  obtain ⟨hod, hmem, hcores⟩ := readEffect_leaves u x o 0
  refine ⟨_, exec_objectRead r o 0 s, hgot, hans.od.trans hod, ?_⟩
  obtain ⟨a, rfl⟩ := eq_of_asks ha
  obtain ⟨_, _, _, -, heq⟩ := hans
  rw [show s.serve { r := r, op := 1, key := o, off := 0 } = s.serve (readReq r o) from rfl, heq]
  exact ⟨hmem, hcores⟩

end

/-- Settles O54: repeated and frozen requests, then the refusals of a write in the order of R476, and a read. -/
theorem requestsInOrder : Obligations.requests_in_order := by
  unfold Obligations.requests_in_order
  refine ⟨fun _ _ _ _ _ _ _ _ hcold hu hx => objectWrite_seen hcold hu hx,
    fun _ _ _ _ _ _ _ hcold hu hx => objectWrite_frozen hcold hu hx, fun s u x r o n v ha hv hn => ⟨objectWrite_no_index ha,
      objectWrite_no_row ha, fun row hindex hrow => ⟨objectWrite_denied ha hindex hrow, fun w hro hwr hrole => ⟨?_, ?_⟩⟩⟩,
    fun _ _ _ _ _ _ _ ha hindex hrow hacc hmay htyp hval hserved =>
      objectRead_answers ha hindex hrow hacc hmay htyp hval hserved⟩
  · exact objectWrite_wrong_type ha hindex hrow hro hwr hrole
  · intro htyp hsize hpos
    exact ⟨objectWrite_out_of_range ha hindex hrow hro hwr hrole htyp hsize hpos hn,
      objectWrite_illegal ha hindex hrow hro hwr hrole htyp hsize hpos hn hv⟩

end Sys2Proof.Proofs

end

section
/-! PROOFS. In-band messages, and how a session raises its role and closes (17 R470, R471, R475). -/

open Sys2Proof Sys2Proof.Machine Sys2Proof.Claims

namespace Sys2Proof.Proofs

/-! ## Messages (17 R470) -/

theorem objReq_short {m : Bytes} (h : m.length < 32) (n : Nat) (s : State) : exec (.objReq n m) s = .next s :=
  congrArg Host.Outcome.next (if_pos h)

section
variable {m : Bytes} (hlen : 32 ≤ m.length) (hver : field m 0 2 = 1) (hflag : field m 3 1 = 0) (hres : field m 14 2 = 0)
  (hres' : field m 24 8 = 0) (hshort : field m 12 2 ≤ 1024) (hwhole : 32 + field m 12 2 ≤ m.length)
include hlen hver hflag hres hres' hshort hwhole

/-- A message with a good header is the request that it spells. -/
theorem exec_objReq (n : Nat) (s : State) : exec (.objReq n m) s = .next (s.serve {
    r := ⟨n, BitVec.ofNat 32 (field m 4 4), BitVec.ofNat 8 (field m 11 1)⟩, op := field m 2 1
    key := 256 * field m 8 2 + field m 10 1, off := field m 16 4, total := field m 20 4
    data := slice m 32 (field m 12 2) }) := by
  have hbad : (field m 0 2 != 1 || field m 3 1 != 0 || field m 14 2 != 0 || field m 24 8 != 0 ||
      decide (1024 < field m 12 2) || decide (m.length < 32 + field m 12 2)) = false := by
    simp [hver, hflag, hres, hres', hshort, hwhole]
  refine (congrArg Host.Outcome.next (if_neg hlen.not_gt)).trans ?_
  simp only [hbad, Bool.false_eq_true, if_false]

theorem objReq_read (n : Nat) (s : State) (hop : field m 2 1 = 1) (hnone : field m 12 2 = 0) (htotal : field m 20 4 = 0) :
    exec (.objReq n m) s = exec (.objectRead
      ⟨n, BitVec.ofNat 32 (field m 4 4), BitVec.ofNat 8 (field m 11 1)⟩ (256 * field m 8 2 + field m 10 1) (field m 16 4)) s := by
  rw [exec_objReq hlen hver hflag hres hres' hshort hwhole, exec_objectRead, hop, hnone, htotal]
  rfl

theorem objReq_write (n : Nat) (s : State) (hop : field m 2 1 = 2) : exec (.objReq n m) s = exec (.objectWrite
      ⟨n, BitVec.ofNat 32 (field m 4 4), BitVec.ofNat 8 (field m 11 1)⟩ (256 * field m 8 2 + field m 10 1)
      ⟨field m 16 4, field m 20 4⟩ (slice m 32 (field m 12 2))) s := by
  rw [exec_objReq hlen hver hflag hres hres' hshort hwhole, exec_objectWrite, hop]

end

/-! ## OPEN, PROVE and CLOSE (17 R471, R475) -/

section
variable {s u : State} {x : Session} {r : ReqHead} {b : Bytes} (ha : asks s u x r)
include ha

/-- The certificate of a session taken, with the challenge that answers it. -/
def certTaken (u : State) (x : Session) (b : Bytes) : State :=
  { (u.dropPart x.num certPart).updSession x.num (fun x => { x with
      cert := b, challenge := some (fit 32 (Config.challenge u.access.drawn)) }) with
    access := { ((u.dropPart x.num certPart).updSession x.num (fun x => { x with
      cert := b, challenge := some (fit 32 (Config.challenge u.access.drawn)) })).access with drawn := u.access.drawn + 1 } }

omit ha in
theorem certTaken_session (n : Nat) : (certTaken u x b).session n = ((u.dropPart x.num certPart).updSession x.num (fun x => { x with
    cert := b, challenge := some (fit 32 (Config.challenge u.access.drawn)) })).session n := rfl

theorem openS_answers (hpath : x.path = 2) (hshort : b.length ≤ 1024) (hpos : 0 < b.length) :
    answers (.openS r ⟨0, b.length⟩ b) s (fun t =>
      got t r { abort := 0, data := fit 32 (Config.challenge u.access.drawn), total := 32 } ∧
      t.access.drawn = u.access.drawn + 1 ∧ (∃ y, t.session r.sess = some y ∧ y.cert = b ∧ y.role = x.role) ∧ sameMem s t ∧
      t.cores = s.cores) := by
  have ⟨_, _, hx, _, _, hparts⟩ := ha
  have hnum : x.num = r.sess := session_num hx
  obtain ⟨q, hq⟩ : ∃ q : UReq, q = { r := r, op := 3, off := 0, total := b.length, data := b } := ⟨_, rfl⟩
  have hr : q.r = r := by rw [hq]
  have hjoin : joinPart none q = some b := by
    rw [hq]
    exact joinPart_whole rfl rfl (List.ne_nil_of_length_pos hpos)
  have hpart : u.partOf x certPart = none := by simp [State.partOf, hparts]
  have hopen : u.doOpen x q = (certTaken u x b, { abort := 0, data := fit 32 (Config.challenge u.access.drawn), total := 32 }) := by
    have hgood : ¬ (x.path ≠ 2 ∨ q.bad = true ∨ 1024 < q.data.length) := by simp [hq, hpath, hshort]
    have hend : ¬ b.length < q.total := by simp [hq]
    rw [State.doOpen, if_neg hgood, hpart, hjoin]
    exact if_neg hend
  have hop : q.op = 3 := by rw [hq]
  have hexec := execute_of_asks (q := q) (hr ▸ ha)
  rw [hop] at hexec
  obtain ⟨hans, hgot⟩ := serve_answers (q := q) (hr ▸ ha) (hexec.trans hopen)
  have hx' : u.session x.num = some x := by rw [hnum]; exact hx
  have hdrop : (u.dropPart x.num certPart).session x.num =
      some { x with parts := x.parts.filter (fun p => p.obj != certPart) } :=
    session_updSession (f := fun x => { x with parts := x.parts.filter (fun p => p.obj != certPart) }) hx' fun _ => rfl
  have hsess := session_updSession (s := u.dropPart x.num certPart) (n := x.num)
    (f := fun x => { x with cert := b, challenge := some (fit 32 (Config.challenge u.access.drawn)) }) hdrop fun _ => rfl
  rw [← certTaken_session] at hsess
  obtain ⟨y, hy, hsame⟩ := hans.session hsess
  obtain ⟨hmem, hcores⟩ := asks_frame (v := certTaken u x b) ha ⟨rfl, rfl, rfl⟩ rfl hans
  refine ⟨_, show exec (.openS r ⟨0, b.length⟩ b) s = .next (s.serve q) by rw [hq]; rfl, hr ▸ hgot, ?_, ⟨y, hnum ▸ hy, hsame.cert, hsame.role⟩,
    hmem, hcores⟩
  obtain ⟨_, _, _, -, heq⟩ := hans
  rw [heq]
  rfl

variable {c : Bytes} {k : Nat × Option Nat} (hpath : x.path = 2) (hchal : x.challenge = some c)
  (hcert : u.certRole x.cert = some k)
include hpath hchal hcert

/-- The request that PROVE makes. -/
def proveReq (r : ReqHead) (b : Bytes) : UReq := { r := r, op := 4, total := b.length, data := b }

theorem execute_prove : u.execute x (proveReq r b) =
    if Config.verify (Config.certKey x.cert) b (c ++ fit 16 Config.panelSerial ++ bytesLE 2 x.num) then
      if b.length != 96 then refuse u 0x03
      else grant (u.updSession x.num (fun y => { y with
        role := k.1, keyEntry := k.2, credKey := true, cred := Config.certKey y.cert, challenge := none }))
    else u.denied x.num := by
  have hexec := execute_of_asks (q := proveReq r b) ha
  rw [hexec]
  change u.doProve x (proveReq r b) = _
  rw [State.doProve, if_neg (not_not_intro hpath), hchal, hcert]
  rfl

theorem prove_answers (hlen : b.length = 96)
    (hsig : Config.verify (Config.certKey x.cert) b (c ++ fit 16 Config.panelSerial ++ bytesLE 2 x.num) = true) :
    answers (.prove r b) s (fun t => got t r { abort := 0 } ∧ (∃ y, t.session r.sess = some y ∧ y.role = k.1 ∧
          y.credKey = true ∧ y.cred = Config.certKey x.cert ∧ y.challenge = none) ∧ sameMem s t ∧ t.cores = s.cores) := by
  have ⟨_, _, hx, _⟩ := ha
  have hnum : x.num = r.sess := session_num hx
  have hexec := execute_prove (b := b) ha hpath hchal hcert
  rw [hsig, if_pos rfl, if_neg (by simp [hlen])] at hexec
  obtain ⟨hans, hgot⟩ := serve_answers (q := proveReq r b) ha hexec
  have hraised := session_updSession (s := u) (f := fun y => { y with
    role := k.1, keyEntry := k.2, credKey := true, cred := Config.certKey y.cert, challenge := none }) (n := x.num)
    (hnum ▸ hx) fun _ => rfl
  obtain ⟨y, hy, hsame⟩ := hans.session hraised
  obtain ⟨hmem, hcores⟩ := asks_frame (v := u.updSession x.num _) ha ⟨rfl, rfl, rfl⟩ rfl hans
  exact ⟨_, rfl, hgot, ⟨y, hnum ▸ hy, hsame.role, hsame.credKey, hsame.cred, hsame.challenge⟩, hmem, hcores⟩

theorem prove_denied (hsig : Config.verify (Config.certKey x.cert) b (c ++ fit 16 Config.panelSerial ++ bytesLE 2 x.num) = false) :
    answers (.prove r b) s (fun t => got t r { abort := 5 } ∧ t.num Obj.DENIED_COUNT = u.num Obj.DENIED_COUNT + 1) := by
  have hexec := execute_prove (b := b) ha hpath hchal hcert
  rw [hsig, if_neg Bool.false_ne_true] at hexec
  obtain ⟨hans, hgot⟩ := serve_answers (q := proveReq r b) ha hexec
  have hx : u.session x.num = some x := by rw [asks_num (q := proveReq r b) ha]; exact ha.2.2.1
  exact ⟨_, rfl, hgot, (num_of_od hans.od _).trans (deny_leaves hx).1⟩

end

/-- The request that CLOSE makes. -/
def closeReq (r : ReqHead) : UReq := { r := r, op := 5 }

theorem close_answers {s u : State} {x : Session} {r : ReqHead} (ha : asks s u x r) : answers (.close r) s (fun t =>
    got t r { abort := 0 } ∧ t.session r.sess = none ∧
    (∀ y ∈ u.access.sessions, y.num ≠ r.sess → y ∈ t.access.sessions) ∧ sameMem s t ∧ t.cores = s.cores) := by
  have ⟨hcold, hu, hx, _, hfresh, _⟩ := ha
  have hnum : x.num = r.sess := session_num hx
  have hexec : u.execute x (closeReq r) = (u.closeSession x.num, { abort := 0 }) :=
    (execute_of_asks (q := closeReq r) ha).trans (if_neg Bool.false_ne_true)
  have hserve := serve_of_fresh (q := closeReq r) hcold hu hx hfresh
  rw [hexec] at hserve
  obtain ⟨hans, hgot⟩ := answered_spec (u.closeSession x.num) x (closeReq r) { abort := 0 }
  obtain ⟨hmem, hcores⟩ := asks_frame (v := u.closeSession x.num) ha ⟨rfl, rfl, rfl⟩ rfl hans
  refine answers_of_exec (show exec (.close r) s = .next _ from congrArg Host.Outcome.next hserve) ⟨hgot, ?_, ?_, hmem, hcores⟩
  · rw [← hnum]
    exact hans.no_session (session_closeSession u x.num)
  · intro y hy hother
    have hother' : y.num ≠ x.num := hnum ▸ hother
    rw [answered, respond_sessions]
    exact List.mem_map.mpr ⟨y, List.mem_filter.mpr ⟨hy, by simpa using hother'⟩, if_neg hother'⟩

/-- Settles O55: a message is the request that it spells; OPEN, PROVE and CLOSE on a session's certificate, role and end. -/
theorem messagesInBand : Obligations.messages_in_band := by
  unfold Obligations.messages_in_band
  exact ⟨fun s n _ hshort => objReq_short hshort n s,
    fun s n _ hlen hver hflag hres hres' hshort hwhole =>
      ⟨objReq_read hlen hver hflag hres hres' hshort hwhole n s, objReq_write hlen hver hflag hres hres' hshort hwhole n s⟩,
    fun _ _ _ _ _ ha hpath => ⟨openS_answers ha hpath,
      fun _ _ hchal hcert hlen => ⟨prove_answers ha hpath hchal hcert hlen, prove_denied ha hpath hchal hcert⟩⟩,
    fun _ _ _ _ => close_answers⟩

end Sys2Proof.Proofs

end

section
/-! PROOFS. Commands that are writes to objects (17 R474, R480 to R484): what makes such a write take effect, and the commands to
the load, the panel, the staging areas, bring-up and the recovery. -/

open Sys2Proof Sys2Proof.Machine Sys2Proof.Claims

namespace Sys2Proof.Proofs

/-! ## Writes that take effect (17 R474, R476) -/

/-- The object is listed with this row, which this role may write. -/
structure Listed (row : ObjRow) (role : Nat) : Prop where
  index : (subsOf (row.key / 256)).isEmpty = false
  listed : rowOf row.key = some row
  writable : row.acc ≠ .ro
  role : row.wr = some role

/-- The value is in its range and legal, and what it does leaves `p` through the answer. -/
structure Does (u : State) (x : Session) (row : ObjRow) (b : Bytes) (ok : Bool) (p : State → Prop) : Prop where
  inRange : u.rangeOk x row.key row.ty b = true
  legal : u.writeLegal x row (natLE b) = true
  effect : ∃ v, u.effect x row.key row.ty b ok = .ok v ∧ ∀ t, Answered v t → p t

section
variable {s u : State} {x : Session} {q : UReq} {row : ObjRow} {p : State → Prop} {c : ReqHead → Instr} {role typ : Nat}
  {may : State → Session → Prop} {e : State → State → Prop}

theorem WholeWrite.serve_of_does (h : WholeWrite x q row) (ha : asks s u x q.r) (hkey : q.key = row.key)
    (hdoes : Does u x row q.data q.ok p) : got (s.serve q) q.r { abort := 0 } ∧ p (s.serve q) := by
  obtain ⟨hrange, hlegal, v, heffect, hp⟩ := hdoes
  rw [← hkey] at hrange heffect
  obtain ⟨hans, hgot⟩ := h.takesEffect ha hrange hlegal heffect
  exact ⟨hgot, hp _ hans⟩

variable (hrow : Listed row role) (hcode : row.ty.code = typ)
include hrow hcode

/-- A command that writes a number. -/
theorem grants_num {n v : Nat} (hsize : row.ty.size = some n) (hpos : 0 < n) (hn : n ≤ 8) (hv : v < 256 ^ n)
    (hexec : ∀ r s, exec (c r) s = .next (s.serveNum r row.key n v))
    (hdoes : ∀ u x b, may u x → natLE b = v → Does u x row b true (e u)) : grants c role typ may e := by
  intro r s u x ha hrole htyp hmay
  have hwhole : WholeWrite x (numReq r row.key n v) row :=
    numReq_whole ha hrow.index hrow.listed hrow.writable hrow.role hrole (htyp.trans hcode.symm) hsize hpos hn
  have hval : natLE (bytesLE n v) = v := (natLE_bytesLE n v).trans (Nat.mod_eq_of_lt hv)
  exact ⟨_, hexec r s, hwhole.serve_of_does ha rfl (hdoes u x _ hmay hval)⟩

/-- A byte string written in one segment. -/
theorem serveOct_of_does {r : ReqHead} {b : Bytes} (hpos : 1 ≤ b.length) (hlen : b.length ≤ 1024)
    (hfits : lengthOk row.key row.ty b.length = true) (ha : asks s u x r) (hrole : role ≤ x.role) (htyp : r.typ.toNat = typ)
    (hdoes : Does u x row b true p) : got (s.serveOct r row.key b) r { abort := 0 } ∧ p (s.serveOct r row.key b) := by
  have hwhole : WholeWrite x { r := r, op := 2, key := row.key, total := b.length, data := b } row :=
    { isWrite := rfl, index := hrow.index, listed := hrow.listed, writable := hrow.writable
      role := ⟨role, hrow.role, hrole⟩, header := rfl, typed := htyp.trans hcode.symm, short := hlen, fits := hfits
      first := rfl, whole := rfl, nonempty := List.ne_nil_of_length_pos hpos, alone := no_parts_of_asks ha }
  exact hwhole.serve_of_does ha rfl hdoes

/-- A command that writes a byte string in one segment. -/
theorem grants_oct {b : Bytes} (hpos : 1 ≤ b.length) (hlen : b.length ≤ 1024)
    (hfits : lengthOk row.key row.ty b.length = true) (hexec : ∀ r s, exec (c r) s = .next (s.serveOct r row.key b))
    (hdoes : ∀ u x, may u x → Does u x row b true (e u)) : grants c role typ may e :=
  fun r s u x ha hrole htyp hmay =>
    ⟨_, hexec r s, serveOct_of_does hrow hcode hpos hlen hfits ha hrole htyp (hdoes u x hmay)⟩

end

/-! ## The rows of the commands -/

/-- The row of a command that is a number. -/
def cmdRow (k : Nat) (ty : ObjTy) (role : Nat) : ObjRow := ⟨k, ty, .wo, none, some role, .num 0⟩

/-- The row of a command that is a byte string. -/
def octRow (k role : Nat) : ObjRow := ⟨k, .octets, .wo, none, some role, .oct []⟩

/-- The row of a byte string that a role may write and every session may read. -/
def readRow (k role : Nat) : ObjRow := ⟨k, .octets, .rw, some 0, some role, .oct []⟩

def quoteRow : ObjRow := ⟨Obj.QUOTE, .octets, .ro, some 0, none, .oct []⟩

/-- The rows of the objects that commands of a load, of the panel and of service write or read. -/
def commandRows : List ObjRow :=
  [cmdRow Obj.PANEL_COMMAND .u8 1, cmdRow Obj.BRINGUP_COMMAND .u8 2, cmdRow Obj.RECOVERY_COMMAND .u8 2,
   cmdRow Obj.STAGE_CLEAR .bool 1, cmdRow Obj.CERT_ON_DEMAND .bool 1, cmdRow Obj.SETTINGS_CLEAR .bool 2,
   octRow Obj.STAGE_DATA 1, octRow Obj.FW_STAGE_DATA 2, cmdRow Obj.FW_COMMAND .u8 2, cmdRow Obj.UNFREEZE_CORE .u16 2,
   cmdRow Obj.UNFREEZE_PANEL .u8 2, cmdRow Obj.UNFREEZE_CREDENTIAL .u16 2, cmdRow Obj.QUARANTINE_RELEASE .u16 2,
   cmdRow Obj.TEST_NOW .u16 1, cmdRow Obj.LINK_BRINGUP .u8 1, octRow Obj.ROLE_KEY_INSTALL 2,
   cmdRow Obj.ROLE_KEY_REMOVE .u8 2, octRow Obj.OWNER_KEY_INSTALL 2, cmdRow Obj.OWNER_KEY_REMOVE .u16 2,
   readRow Obj.CAL_SET 2, readRow Obj.QUOTE_NONCE 0, quoteRow]

/-- They are rows of the table, each under its key: one look-up for all. -/
theorem objRow_commandRows : ∀ row ∈ commandRows, objRow row.key = some row := by decide +kernel

/-- An index with a row of the table has a subindex. -/
theorem subsOf_of_objRow {k : Nat} {row : ObjRow} (h : objRow k = some row) : (subsOf (k / 256)).isEmpty = false := by
  have hkey : row.key = k := beq_iff_eq.mp (List.find?_some (p := fun r : ObjRow => r.key == k) h)
  have hmem : row ∈ objTable.filter (fun r => r.key / 256 == k / 256) :=
    List.mem_filter.mpr ⟨List.mem_of_find?_eq_some h, by simp [hkey]⟩
  rw [subsOf, List.isEmpty_eq_false_iff]
  exact List.append_ne_nil_of_left_ne_nil (List.ne_nil_of_mem (List.mem_map_of_mem hmem)) _

theorem rowOf_of_objRow {k : Nat} {row : ObjRow} (h : objRow k = some row) : rowOf k = some row := by
  rw [rowOf, h]

theorem listed_of_mem {row : ObjRow} {role : Nat} (h : row ∈ commandRows) (hacc : row.acc ≠ .ro) (hwr : row.wr = some role) :
    Listed row role :=
  ⟨subsOf_of_objRow (objRow_commandRows row h), rowOf_of_objRow (objRow_commandRows row h), hacc, hwr⟩

theorem listed_loadCommand : Listed (cmdRow Obj.LOAD_COMMAND .u8 1) 1 :=
  ⟨subsOf_loadCommand, rowOf_loadCommand, by decide, rfl⟩
theorem listed_panelCommand : Listed (cmdRow Obj.PANEL_COMMAND .u8 1) 1 :=
  listed_of_mem (by simp [commandRows]) (by decide) rfl
theorem listed_bringupCommand : Listed (cmdRow Obj.BRINGUP_COMMAND .u8 2) 2 :=
  listed_of_mem (by simp [commandRows]) (by decide) rfl
theorem listed_recoveryCommand : Listed (cmdRow Obj.RECOVERY_COMMAND .u8 2) 2 :=
  listed_of_mem (by simp [commandRows]) (by decide) rfl
theorem listed_stageClear : Listed (cmdRow Obj.STAGE_CLEAR .bool 1) 1 :=
  listed_of_mem (by simp [commandRows]) (by decide) rfl
theorem listed_certOnDemand : Listed (cmdRow Obj.CERT_ON_DEMAND .bool 1) 1 :=
  listed_of_mem (by simp [commandRows]) (by decide) rfl
theorem listed_settingsClear : Listed (cmdRow Obj.SETTINGS_CLEAR .bool 2) 2 :=
  listed_of_mem (by simp [commandRows]) (by decide) rfl
theorem listed_stageData : Listed (octRow Obj.STAGE_DATA 1) 1 :=
  listed_of_mem (by simp [commandRows]) (by decide) rfl
theorem listed_fwStageData : Listed (octRow Obj.FW_STAGE_DATA 2) 2 :=
  listed_of_mem (by simp [commandRows]) (by decide) rfl

/-! ## Loads (11 R318, R322, R323) -/

/-- A die that comes to wait for power changes the queue alone. -/
theorem foldl_wantPower_eq (l : List Nat) (s : State) :
    ∃ q, l.foldl (fun s i => s.wantPower i) s = { s with power := { s.power with queue := q } } :=
  List.foldlRecOn l _ (motive := fun t : State => ∃ q, t = { s with power := { s.power with queue := q } }) ⟨_, rfl⟩
    fun t ht i _ => by
      obtain ⟨q, rfl⟩ := ht
      unfold State.wantPower
      extract_lets d
      split <;> exact ⟨_, rfl⟩

theorem effect_loadCommand (u : State) (x : Session) (ty : ObjTy) (b : Bytes) (ok : Bool) :
    u.effect x Obj.LOAD_COMMAND ty b ok = if natLE b = 1 then u.cmdLoad else if natLE b = 2 then u.cmdStart else u.cmdUnload := rfl

theorem num_loadResult (s : State) (code detail sec : Nat) : (s.loadResult code detail sec).num Obj.LOAD_RESULT = code := by
  rw [State.loadResult, State.num_setNum_other _ _ (by decide), State.num_setNum_other _ _ (by decide), State.num_setNum_same]

theorem grants_load : grants .load 1 2 (fun u _ => u.panel = .ready ∧ u.coolingState < 2 ∧ u.loading = none)
    (fun u t => t.panel = .ready ∧ (match u.checkImage (readBytes u.stage 0 (u.num Obj.STAGE_LENGTH)) with
      | .inl b => t.loading = none ∧ t.num Obj.LOAD_RESULT = b.code
      | .inr l => t.loading = some l ∧ t.num Obj.LOAD_RESULT = 0xFFFF) ∧ sameMem u t ∧ t.cores = u.cores) := by
  refine grants_num (v := 1) listed_loadCommand rfl rfl (by decide) (by decide) (by decide) (fun _ _ => rfl)
    fun u x b ⟨hpanel, hcool, hload⟩ hb => ⟨?_, ?_, ?_⟩
  · simp [State.rangeOk, cmdRow, rangeTable, hb]
  · simp [State.writeLegal, State.served, State.atS7, cmdRow, hb, hpanel]
  · have heffect : u.effect x Obj.LOAD_COMMAND .u8 b true = u.cmdLoad := by rw [effect_loadCommand, if_pos hb]
    cases hcheck : u.checkImage (readBytes u.stage 0 (u.num Obj.STAGE_LENGTH)) with
    | inl bad =>
      refine ⟨u.loadResult bad.code bad.detail bad.sec, heffect.trans ?_, fun t ht => ?_⟩
      · simp [State.cmdLoad, hcool.not_ge, hload, hcheck]
      · have hnum := (num_of_od ht.od _).trans (num_loadResult u bad.code bad.detail bad.sec)
        obtain ⟨_, _, _, -, rfl⟩ := ht
        exact ⟨hpanel, ⟨hload, hnum⟩, ⟨rfl, rfl, rfl⟩, rfl⟩
    | inr l =>
      obtain ⟨q, hq⟩ := foldl_wantPower_eq l.place (u.setNum Obj.LOAD_RESULT 0xFFFF)
      refine ⟨{ u.setNum Obj.LOAD_RESULT 0xFFFF with power := { u.power with queue := q }, loading := some l },
        heffect.trans ?_, fun t ht => ?_⟩
      · simp only [State.cmdLoad, hcool.not_ge, hload, hcheck, hq, if_false, Option.isSome_none, Bool.false_eq_true]
        rfl
      · have hnum := (num_of_od ht.od _).trans (State.num_setNum_same u Obj.LOAD_RESULT 0xFFFF)
        obtain ⟨_, _, _, -, rfl⟩ := ht
        exact ⟨hpanel, ⟨rfl, hnum⟩, ⟨rfl, rfl, rfl⟩, rfl⟩

theorem grants_start : grants .start 1 2 (fun u _ => u.panel = .loaded ∧ u.coolingState < 2 ∧ u.slots.pUnload = false)
    (fun u t => t.slots = { u.slots with pStart := true } ∧ t.panel = u.panel ∧ sameMem u t ∧ t.cores = u.cores) := by
  refine grants_num (v := 2) listed_loadCommand rfl rfl (by decide) (by decide) (by decide) (fun _ _ => rfl)
    fun u x b ⟨hpanel, hcool, hunload⟩ hb => ⟨?_, ?_, ?_⟩
  · simp [State.rangeOk, cmdRow, rangeTable, hb]
  · simp [State.writeLegal, State.served, State.atS7, cmdRow, hb, hpanel]
  · refine ⟨{ u with slots := { u.slots with pStart := true } }, (effect_loadCommand u x _ b _).trans ?_, fun t ht => ?_⟩
    · simp [hb, State.cmdStart, hcool.not_ge, hunload]
    · obtain ⟨_, _, _, -, rfl⟩ := ht
      exact ⟨rfl, rfl, ⟨rfl, rfl, rfl⟩, rfl⟩

theorem grants_unload : grants .unload 1 2
    (fun u _ => (u.panel = .loaded ∨ u.panel = .hold) ∧ u.slots.pStart = false ∧ u.slots.pResume = false)
    (fun u t => t.slots = { u.slots with pUnload := true } ∧ t.panel = u.panel ∧ sameMem u t ∧ t.cores = u.cores) := by
  refine grants_num (v := 3) listed_loadCommand rfl rfl (by decide) (by decide) (by decide) (fun _ _ => rfl)
    fun u x b ⟨hpanel, hstart, hresume⟩ hb => ⟨?_, ?_, ?_⟩
  · simp [State.rangeOk, cmdRow, rangeTable, hb]
  · obtain hpanel | hpanel := hpanel <;> simp [State.writeLegal, State.served, State.atS7, cmdRow, hb, hpanel]
  · refine ⟨{ u with slots := { u.slots with pUnload := true } }, (effect_loadCommand u x _ b _).trans ?_, fun t ht => ?_⟩
    · simp [hb, State.cmdUnload, hstart, hresume]
    · obtain ⟨_, _, _, -, rfl⟩ := ht
      exact ⟨rfl, rfl, ⟨rfl, rfl, rfl⟩, rfl⟩

/-! ## HOLD and resume (17 R480, R483) -/

theorem effect_panelCommand (u : State) (x : Session) (ty : ObjTy) (b : Bytes) (ok : Bool) :
    u.effect x Obj.PANEL_COMMAND ty b ok = if natLE b = 1 then u.cmdHold else u.cmdResume := rfl

theorem grants_hold : grants .hold 1 2 (fun u _ => u.panel = .running)
    (fun u t => t.slots = { u.slots with pHold := true } ∧ t.panel = u.panel ∧ sameMem u t ∧ t.cores = u.cores) := by
  refine grants_num (v := 1) listed_panelCommand rfl rfl (by decide) (by decide) (by decide) (fun _ _ => rfl)
    fun u x b hpanel hb => ⟨?_, ?_, ?_⟩
  · simp [State.rangeOk, cmdRow, rangeTable, hb]
  · simp [State.writeLegal, State.served, State.atS7, cmdRow, hb, hpanel]
  · refine ⟨_, (effect_panelCommand u x _ b _).trans (if_pos hb), fun t ht => ?_⟩
    obtain ⟨_, _, _, -, rfl⟩ := ht
    exact ⟨rfl, rfl, ⟨rfl, rfl, rfl⟩, rfl⟩

theorem grants_resume : grants .resume 1 2
    (fun u _ => u.panel = .hold ∧ u.resumeLocked = false ∧ u.slots.pUnload = false)
    (fun u t => t.slots = { u.slots with pResume := true } ∧ t.panel = u.panel ∧ sameMem u t ∧ t.cores = u.cores) := by
  refine grants_num (v := 2) listed_panelCommand rfl rfl (by decide) (by decide) (by decide) (fun _ _ => rfl)
    fun u x b ⟨hpanel, hlock, hunload⟩ hb => ⟨?_, ?_, ?_⟩
  · simp [State.rangeOk, cmdRow, rangeTable, hb]
  · simp [State.writeLegal, State.served, State.atS7, cmdRow, hb, hpanel]
  · refine ⟨{ u with slots := { u.slots with pResume := true } }, (effect_panelCommand u x _ b _).trans ?_, fun t ht => ?_⟩
    · simp [hb, State.cmdResume, hlock, hunload]
    · obtain ⟨_, _, _, -, rfl⟩ := ht
      exact ⟨rfl, rfl, ⟨rfl, rfl, rfl⟩, rfl⟩

/-! ## Staging (11 R317, 16 R455) -/

theorem grants_stageData {b : Bytes} (hpos : 1 ≤ b.length) (hlen : b.length ≤ 1024) : grants (fun r => .stageData r b) 1 10
    (fun u _ => u.panel = .ready ∧ u.num Obj.STAGE_OFFSET + b.length ≤ 12 * 2 ^ 30 ∧ u.bringup.fwStep = 0)
    (fun u t => t.stage = writeBytes u.stage (u.num Obj.STAGE_OFFSET) b ∧
      t.num Obj.STAGE_OFFSET = u.num Obj.STAGE_OFFSET + b.length ∧ t.spad = u.spad ∧ t.hbm = u.hbm ∧ t.cores = u.cores) := by
  refine grants_oct listed_stageData rfl hpos hlen (by simp [lengthOk, octRow, ObjTy.size, hpos, hlen]) (fun _ _ => rfl)
    fun u x ⟨hpanel, hroom, hfw⟩ => ⟨?_, ?_, ?_⟩
  · have hin : u.rangeOk x Obj.STAGE_DATA .octets b = decide (u.num Obj.STAGE_OFFSET + b.length ≤ 12 * 2 ^ 30) := rfl
    exact hin.trans (decide_eq_true hroom)
  · simp [State.writeLegal, State.served, State.atS7, PanelSt.ready2hold, octRow, hpanel]
  · have heffect : u.effect x Obj.STAGE_DATA .octets b true = u.cmdStage b := rfl
    refine ⟨_, heffect.trans (if_neg (by simp [hfw])), fun t ht => ?_⟩
    have hnum := num_of_od ht.od Obj.STAGE_OFFSET
    rw [State.num_setNum_other _ _ (by decide), State.num_setNum_same] at hnum
    obtain ⟨_, _, _, -, rfl⟩ := ht
    exact ⟨rfl, hnum, rfl, rfl, rfl⟩

theorem grants_stageClear : grants .stageClear 1 1 (fun u _ => u.panel = .ready)
    (fun u t => t.stage = [] ∧ t.num Obj.STAGE_OFFSET = 0 ∧ t.num Obj.STAGE_LENGTH = 0 ∧ sameMem u t ∧ t.cores = u.cores) := by
  refine grants_num (v := 1) listed_stageClear rfl rfl (by decide) (by decide) (by decide) (fun _ _ => rfl)
    fun u x b hpanel hb => ⟨?_, ?_, ?_⟩
  · simp [State.rangeOk, cmdRow, hb]
  · simp [State.writeLegal, State.served, State.atS7, PanelSt.ready2hold, cmdRow, hpanel]
  · have heffect : u.effect x Obj.STAGE_CLEAR .bool b true = .ok (if natLE b = 1 then u.clearStage else u) := rfl
    refine ⟨u.clearStage, heffect.trans (by rw [if_pos hb]), fun t ht => ?_⟩
    have hoff : t.num Obj.STAGE_OFFSET = 0 := (num_of_od ht.od _).trans (State.num_setNum_same ..)
    have hlen : t.num Obj.STAGE_LENGTH = 0 :=
      (num_of_od ht.od _).trans ((State.num_setNum_other _ _ (by decide)).trans (State.num_setNum_same ..))
    obtain ⟨_, _, _, -, rfl⟩ := ht
    exact ⟨rfl, hoff, hlen, ⟨rfl, rfl, rfl⟩, rfl⟩

theorem grants_fwStageData {b : Bytes} (hpos : 1 ≤ b.length) (hlen : b.length ≤ 1024) : grants (fun r => .fwStageData r b) 2 10
    (fun u _ => u.panel = .ready ∧ u.num Obj.FW_STAGE_OFFSET + b.length ≤ 2 ^ 30 ∧ u.bringup.fwStep = 0)
    (fun u t => t.fwStage = writeBytes u.fwStage (u.num Obj.FW_STAGE_OFFSET) b ∧ t.stage = [] ∧
      t.num Obj.FW_STAGE_OFFSET = u.num Obj.FW_STAGE_OFFSET + b.length ∧ sameMem u t ∧ t.cores = u.cores) := by
  refine grants_oct listed_fwStageData rfl hpos hlen (by simp [lengthOk, octRow, ObjTy.size, hpos, hlen]) (fun _ _ => rfl)
    fun u x ⟨hpanel, hroom, hfw⟩ => ⟨?_, ?_, ?_⟩
  · have hin : u.rangeOk x Obj.FW_STAGE_DATA .octets b = decide (u.num Obj.FW_STAGE_OFFSET + b.length ≤ 2 ^ 30) := rfl
    exact hin.trans (decide_eq_true hroom)
  · simp [State.writeLegal, State.served, State.atS7, PanelSt.ready2hold, octRow, hpanel]
  · have heffect : u.effect x Obj.FW_STAGE_DATA .octets b true = u.cmdFwStage b := rfl
    refine ⟨_, heffect.trans (if_neg (by simp [hfw])), fun t ht => ?_⟩
    have hnum := num_of_od ht.od Obj.FW_STAGE_OFFSET
    rw [State.num_setNum_same] at hnum
    obtain ⟨_, _, _, -, rfl⟩ := ht
    exact ⟨rfl, rfl, hnum, ⟨rfl, rfl, rfl⟩, rfl⟩

/-! ## Bring-up, warm reset, SIMMER (16 R440, R442, 17 R480) -/

theorem effect_bringupCommand (u : State) (x : Session) (ty : ObjTy) (b : Bytes) (ok : Bool) :
    u.effect x Obj.BRINGUP_COMMAND ty b ok = u.cmdBringupCommand (natLE b) := rfl

theorem grants_bringupStart : grants .bringupStart 2 2 (fun u _ => u.panel = .simmer)
    (fun _ t => t.panel = .bringup ∧ t.bringup.stage = some 0 ∧ t.bringup.halted = false ∧ t.bringup.fast = false) := by
  refine grants_num (v := 1) listed_bringupCommand rfl rfl (by decide) (by decide) (by decide) (fun _ _ => rfl)
    fun u x b hpanel hb => ⟨?_, ?_, ?_⟩
  · simp [State.rangeOk, cmdRow, rangeTable, hb]
  · simp [State.writeLegal, State.served, State.atS7, cmdRow, hb, hpanel]
  · refine ⟨u.cmdBringup, (effect_bringupCommand u x _ b _).trans (by rw [hb]; rfl), fun t ht => ?_⟩
    obtain ⟨_, bring, heq, hstage, hhalted, hfast, -⟩ := startBringup_eq (u.enter .bringup) false
    obtain ⟨_, _, _, -, rfl⟩ := ht
    rw [State.cmdBringup, heq]
    exact ⟨rfl, hstage, hhalted, hfast⟩

theorem cmdWarmReset_leaves (s : State) : s.cmdWarmReset.panel = .bringup ∧ s.cmdWarmReset.bringup.stage = some 0 ∧
    s.cmdWarmReset.hbm = [] ∧ s.cmdWarmReset.prog = none ∧ s.cmdWarmReset.access.sessions = [] ∧
    s.cmdWarmReset.num Obj.RESET_CAUSE = 2 ∧ s.cmdWarmReset.time = s.time ∧
    s.cmdWarmReset.bringup.fast = (s.num Obj.FAST_PATH_ALLOWED == 1 && s.bringup.reachedS10 && s.bringup.powerKept) := by
  obtain ⟨hprog, hsess, hcause, hhbm, -, -, -, htime, -⟩ := panelReset_leaves s.endHeld 2 false
  obtain ⟨v, hv⟩ : ∃ v : State, v = { (s.endHeld.panelReset 2 false).resetInto .bringup s.panel with
    fabric := { ((s.endHeld.panelReset 2 false).resetInto .bringup s.panel).fabric with responses := s.endHeld.fabric.responses } } :=
    ⟨_, rfl⟩
  obtain ⟨f, hf⟩ : ∃ f, f = (s.num Obj.FAST_PATH_ALLOWED == 1 && s.bringup.reachedS10 && s.bringup.powerKept) := ⟨_, rfl⟩
  have hreset : s.cmdWarmReset = v.startBringup f := by
    rw [hv, hf]
    rfl
  obtain ⟨_, b, heq, hstage, -, hfast, hnum⟩ := startBringup_eq v f
  have hcause' := hnum Obj.RESET_CAUSE (by decide)
  rw [hreset]
  refine ⟨?_, ?_, ?_, ?_, ?_, hcause'.trans ?_, ?_, ?_⟩
  · rw [heq, hv]; rfl
  · rw [heq]; exact hstage
  · rw [heq, hv]; exact hhbm
  · rw [heq, hv]; exact hprog
  · rw [heq, hv]; exact hsess
  · rw [hv]; exact hcause
  · rw [heq, hv]; exact htime.trans (State.endHeld_keeps s).2.2
  · rw [heq, ← hf]; exact hfast

theorem grants_warmReset : grants .warmReset 2 2 (fun u _ => u.panel = .ready)
    (fun u t => t.panel = .bringup ∧ t.bringup.stage = some 0 ∧ t.hbm = [] ∧ t.prog = none ∧ t.access.sessions = [] ∧
      t.num Obj.RESET_CAUSE = 2 ∧ t.time = u.time ∧ t.bringup.fast = (u.num Obj.FAST_PATH_ALLOWED == 1 &&
        u.bringup.reachedS10 && u.bringup.powerKept)) := by
  refine grants_num (v := 2) listed_bringupCommand rfl rfl (by decide) (by decide) (by decide) (fun _ _ => rfl)
    fun u x b hpanel hb => ⟨?_, ?_, ?_⟩
  · simp [State.rangeOk, cmdRow, rangeTable, hb]
  · simp [State.writeLegal, State.served, State.atS7, cmdRow, hb, hpanel]
  · refine ⟨u.cmdWarmReset, (effect_bringupCommand u x _ b _).trans (by rw [hb]; rfl), fun t ht => ?_⟩
    have hleaves := cmdWarmReset_leaves u
    obtain ⟨v, hv⟩ : ∃ v, v = u.cmdWarmReset := ⟨_, rfl⟩
    rw [← hv] at hleaves ht
    obtain ⟨hpanel, hstage, hhbm, hprog, hsess, hcause, htime, hfast⟩ := hleaves
    obtain ⟨g, _, _, -, rfl⟩ := ht
    exact ⟨hpanel, hstage, hhbm, hprog, List.map_eq_nil_iff.mpr hsess, hcause, htime, hfast⟩

/-- A die switched off for SIMMER; a dark or lost one stays. -/
def simmerDie (s : State) (i : Nat) : State :=
  let d := s.die i
  if d.st = .dark ∨ d.st = .lost then s
  else
    let s := ((s.clearCores i).clearSpads i).abandonRep i
    let s := if d.st = .coldSpare then s else s.dieEnter i .coldSpare
    s.updDie i (fun d => { d with powered := false, op := 0, corner := 0, hashing := false })

/-- The die is a COLD-SPARE and has no power. -/
def switchedOff (d : Die) : Prop := d.st = .coldSpare ∧ d.powered = false

theorem simmerDie_eq (s : State) (i : Nat) : ∃ c n m k d, simmerDie s i = { s with cores := c, snaps := n, spad := m, checks := k, dies := d } := by
  unfold simmerDie
  extract_lets d u v
  split
  · exact ⟨_, _, _, _, _, rfl⟩
  · unfold v
    split <;> exact ⟨_, _, _, _, _, rfl⟩

theorem die_simmerDie_same {s : State} {i : Nat} (hdark : (s.die i).st ≠ .dark) (hlost : (s.die i).st ≠ .lost) :
    switchedOff ((simmerDie s i).die i) := by
  have hlive : ¬ ((s.die i).st = .dark ∨ (s.die i).st = .lost) := by simp [hdark, hlost]
  rw [simmerDie, if_neg hlive]
  extract_lets u v
  rw [State.die_updDie_same]
  refine ⟨?_, rfl⟩
  unfold v
  split
  next hcold => exact hcold
  next => exact congrArg Die.st (State.die_updDie_same u i _)

theorem die_simmerDie_other (s : State) {i j : Nat} (h : j ≠ i) : (simmerDie s i).die j = s.die j := by
  unfold simmerDie
  extract_lets d u v
  split
  · rfl
  · rw [State.die_updDie_other _ _ h]
    unfold v
    split
    · rfl
    · exact State.die_updDie_other u _ h

/-- A die switched off stays so. -/
theorem simmerDie_keeps_off {s : State} {i : Nat} (h : switchedOff (s.die i)) (j : Nat) : switchedOff ((simmerDie s j).die i) := by
  by_cases hij : i = j
  · subst hij
    exact die_simmerDie_same (by simp [h.1]) (by simp [h.1])
  · rwa [die_simmerDie_other s hij]

theorem foldl_simmerDie_off {i : Nat} (l : List Nat) (s : State) (hmem : i ∈ l) (hdark : (s.die i).st ≠ .dark)
    (hlost : (s.die i).st ≠ .lost) : switchedOff ((l.foldl simmerDie s).die i) := by
  induction l generalizing s with
  | nil => exact absurd hmem List.not_mem_nil
  | cons j l ih =>
    rw [List.foldl_cons]
    by_cases hij : i = j
    · subst hij
      exact List.foldlRecOn l simmerDie (motive := fun t => switchedOff (t.die i)) (die_simmerDie_same hdark hlost)
        fun t ht k _ => simmerDie_keeps_off ht k
    · have hmem' : i ∈ l := by simpa [hij] using hmem
      have hdie := die_simmerDie_other s hij
      rw [← hdie] at hdark hlost
      exact ih _ hmem' hdark hlost

theorem foldl_simmerDie_eq (l : List Nat) (s : State) :
    ∃ c n m k d, l.foldl simmerDie s = { s with cores := c, snaps := n, spad := m, checks := k, dies := d } :=
  List.foldlRecOn l simmerDie (motive := fun t : State =>
    ∃ c n m k d, t = { s with cores := c, snaps := n, spad := m, checks := k, dies := d }) ⟨_, _, _, _, _, rfl⟩ fun t ht i _ => by
      obtain ⟨c, n, m, k, d, rfl⟩ := ht
      obtain ⟨c', n', m', k', d', heq⟩ := simmerDie_eq { s with cores := c, snaps := n, spad := m, checks := k, dies := d } i
      exact ⟨c', n', m', k', d', heq⟩

/-- The queue for power is empty, the ports leave full rate, and the stacks hold nothing where they are switched off. -/
def simmerOff (s : State) : State :=
  let off := s.num Obj.SIMMER_HBM == 0
  { s with
    power := { s.power with queue := [], soft := none, deferred := false }
    fabric := { s.fabric with ports := [] }
    portDies := SMap.mapV portDieD (fun (p : PortDie) => { p with lane := 0, laneDown := false }) s.portDies
    hbm := if off then [] else s.hbm
    stage := if off then [] else s.stage
    fwStage := if off then [] else s.fwStage }

theorem grants_enterSimmer : grants .enterSimmer 2 2 (fun u _ => u.panel = .ready ∧ u.loading = none ∧ u.bringup.fwStep = 0)
    (fun u t => t.panel = .simmer ∧ t.power.queue = [] ∧ t.fabric.ports = [] ∧
      (∀ i, i < 144 → (u.die i).st ≠ .dark → (u.die i).st ≠ .lost → (t.die i).st = .coldSpare ∧ (t.die i).powered = false) ∧
      (u.num Obj.SIMMER_HBM = 0 → t.hbm = []) ∧ (u.num Obj.SIMMER_HBM ≠ 0 → t.hbm = u.hbm)) := by
  refine grants_num (v := 3) listed_bringupCommand rfl rfl (by decide) (by decide) (by decide) (fun _ _ => rfl)
    fun u x b ⟨hpanel, hload, hfw⟩ hb => ⟨?_, ?_, ?_⟩
  · simp [State.rangeOk, cmdRow, rangeTable, hb]
  · simp [State.writeLegal, State.served, State.atS7, cmdRow, hb, hpanel]
  · obtain ⟨v, hv⟩ : ∃ v, v = allSites.foldl simmerDie u := ⟨_, rfl⟩
    obtain ⟨w, hw⟩ : ∃ w, w = simmerOff v := ⟨_, rfl⟩
    have hcmd : u.cmdSimmer = .ok ((w.enter .simmer).meshLock).simmerStacks := by
      have hbusy : ¬ (u.loading.isSome || u.bringup.fwStep != 0) = true := by simp [hload, hfw]
      rw [State.cmdSimmer, if_neg hbusy, hw]
      generalize hfold : allSites.foldl _ u = a
      obtain rfl : a = v := by
        rw [← hfold, hv]
        rfl
      rfl
    obtain ⟨m, hmesh⟩ := meshLock_eq (w.enter .simmer)
    obtain ⟨l, hstacks⟩ := simmerStacks_eq (w.enter .simmer).meshLock
    refine ⟨_, (effect_bringupCommand u x _ b _).trans (by rw [hb]; exact hcmd), fun t ht => ?_⟩
    obtain ⟨_, _, _, _, _, hreach⟩ := foldl_simmerDie_eq allSites u
    have hnum : v.num Obj.SIMMER_HBM = u.num Obj.SIMMER_HBM := by
      rw [hv, hreach]
      rfl
    have hhbm : v.hbm = u.hbm := by rw [hv, hreach]
    rw [hstacks, hmesh] at ht
    obtain ⟨_, _, _, -, rfl⟩ := ht
    refine ⟨rfl, ?_, ?_, fun i hi hdark hlost => ?_, fun hoff => ?_, fun hon => ?_⟩
    · rw [hw]; rfl
    · rw [hw]; rfl
    · have hdie := foldl_simmerDie_off allSites u (List.mem_range.mpr hi) hdark hlost
      rw [← hv] at hdie
      rw [hw]
      exact hdie
    · rw [hw]
      exact if_pos (by simp [hnum, hoff])
    · rw [hw, ← hhbm]
      exact if_neg (by simp [hnum, hon])

/-! ## The ways out of SAFE (15 R428) -/

theorem effect_recoveryCommand (u : State) (x : Session) (ty : ObjTy) (b : Bytes) (ok : Bool) :
    u.effect x Obj.RECOVERY_COMMAND ty b ok = if natLE b = 1 then u.cmdRestart else u.cmdDiscard := rfl

theorem grants_recoveryRestart : grants .recoveryRestart 2 2
    (fun u _ => u.panel = .safe ∧ u.num Obj.SAFE_CAUSE = 4 ∧ u.recovery.restart = [])
    (fun u t => t.recovery.restart = u.sites.filter (fun i => (u.die i).st == .active && !(u.die i).powered) ∧
      (∀ i ∈ t.recovery.restart, i ∈ t.power.queue) ∧ t.panel = .safe ∧ sameMem u t ∧ t.cores = u.cores) := by
  refine grants_num (v := 1) listed_recoveryCommand rfl rfl (by decide) (by decide) (by decide) (fun _ _ => rfl)
    fun u x b ⟨hpanel, hcause, hrestart⟩ hb => ⟨?_, ?_, ?_⟩
  · simp [State.rangeOk, cmdRow, rangeTable, hb]
  · simp [State.writeLegal, State.served, State.atS7, cmdRow, hpanel]
  · obtain ⟨l, hl⟩ : ∃ l, l = u.sites.filter (fun i => (u.die i).st == .active && !(u.die i).powered) := ⟨_, rfl⟩
    refine ⟨{ u with
      recovery := { u.recovery with restart := l }
      power := { u.power with queue := u.power.queue ++ l.filter (fun i => !u.power.queue.contains i) } },
      (effect_recoveryCommand u x _ b _).trans ?_, fun t ht => ?_⟩
    · rw [if_pos hb, State.cmdRestart, hl]
      simp [hcause, hrestart]
    · obtain ⟨_, _, _, -, rfl⟩ := ht
      refine ⟨hl, fun i hi => ?_, hpanel, ⟨rfl, rfl, rfl⟩, rfl⟩
      have hi' : i ∈ l := hi
      by_cases hqueue : i ∈ u.power.queue <;> simp [hi', hqueue]

theorem setHashing_eq (s : State) (i : Nat) (h : Bool) : ∃ m d, s.setHashing i h = { s with spad := m, dies := d } := by
  unfold State.setHashing
  split <;> exact ⟨_, _, rfl⟩

/-- A die leaves the program with its cores, its scratchpads and its own state. -/
theorem leave_eq (s : State) (i : Nat) : ∃ c n m d, s.leave i = { s with cores := c, snaps := n, spad := m, dies := d } := by
  unfold State.leave
  extract_lets d fr st a b
  have ha : ∃ c n, a = { s with cores := c, snaps := n } := by
    unfold a
    split <;> exact ⟨_, _, rfl⟩
  have hb : ∃ c n m d, b = { s with cores := c, snaps := n, spad := m, dies := d } := by
    obtain ⟨c, n, ha⟩ := ha
    unfold b
    split
    · exact ⟨c, n, s.spad, s.dies, ha⟩
    · obtain ⟨_, _, hm⟩ := setHashing_eq a i (st == .test)
      rw [hm, ha]
      exact ⟨_, _, _, _, rfl⟩
  obtain ⟨_, _, _, _, hb⟩ := hb
  rw [hb]
  exact ⟨_, _, _, _, rfl⟩

/-- The program is gone; the held requests, HBM and the instruction memories stay. -/
theorem clearProgram_leaves (s : State) : s.clearProgram.prog = none ∧ s.clearProgram.fabric.held = s.fabric.held ∧
    s.clearProgram.hbm = s.hbm ∧ s.clearProgram.imem = s.imem := by
  have hleave : ∀ (l : List Nat), ∃ c n m d, l.foldl (fun s i => s.leave i) s =
      { s with cores := c, snaps := n, spad := m, dies := d } := fun l =>
    List.foldlRecOn l _ (motive := fun t : State => ∃ c n m d, t = { s with cores := c, snaps := n, spad := m, dies := d })
      ⟨_, _, _, _, rfl⟩ fun t ht i _ => by
        obtain ⟨c, n, m, d, rfl⟩ := ht
        exact leave_eq _ i
  obtain ⟨_, _, _, _, heq⟩ := hleave (allSites.filter (fun i => (s.die i).vd.isSome))
  rw [State.clearProgram, heq]
  exact ⟨rfl, rfl, rfl, rfl⟩

/-- An unload ends the held requests and leaves READY with no program; the memories of stacks and instructions stay. -/
theorem unloadNow_leaves (s : State) : s.unloadNow.panel = .ready ∧ s.unloadNow.prog = none ∧ s.unloadNow.fabric.held = [] ∧
    s.unloadNow.hbm = s.hbm ∧ s.unloadNow.imem = s.imem := by
  obtain ⟨v, hv⟩ : ∃ v, v = s.stopAttempt.endHeld.clearProgram := ⟨_, rfl⟩
  have hsends : GlpSends (v.enter .ready) (v.enter .ready).reConcord := foldl_glpSends (fun _ _ => sendConcord_glpSends ..) _ _
  have hunload : s.unloadNow = (v.enter .ready).reConcord := by rw [hv]; rfl
  obtain ⟨hprog, hheld, hhbm, himem⟩ := clearProgram_leaves s.stopAttempt.endHeld
  obtain ⟨-, hhbm', himem', -, -⟩ := (State.stopAttempt_memSame s).trans (State.endHeld_memSame _)
  rw [← hv] at hprog hheld hhbm himem
  rw [hhbm'] at hhbm
  rw [himem'] at himem
  have hheld' : s.stopAttempt.endHeld.fabric.held = [] := rfl
  rw [hheld'] at hheld
  obtain ⟨_, _, _, _, _, -, heq⟩ := hsends.reach
  rw [hunload, heq]
  exact ⟨rfl, hprog, hheld, hhbm, himem⟩

theorem grants_recoveryDiscard : grants .recoveryDiscard 2 2 (fun u _ => u.panel = .safe)
    (fun u t => t.panel = .ready ∧ t.prog = none ∧ t.num Obj.SAFE_CAUSE = 0 ∧ t.fabric.held = [] ∧ t.hbm = u.hbm ∧
      t.imem = u.imem) := by
  refine grants_num (v := 2) listed_recoveryCommand rfl rfl (by decide) (by decide) (by decide) (fun _ _ => rfl)
    fun u x b hpanel hb => ⟨?_, ?_, ?_⟩
  · simp [State.rangeOk, cmdRow, rangeTable, hb]
  · simp [State.writeLegal, State.served, State.atS7, cmdRow, hpanel]
  · obtain ⟨v, hv⟩ : ∃ v : State, v = { u with
      power := { u.power with queue := u.power.queue.filter (fun i => !u.recovery.restart.contains i) }
      recovery := { u.recovery with restart := [] } } := ⟨_, rfl⟩
    refine ⟨v.unloadNow.setNum Obj.SAFE_CAUSE 0, (effect_recoveryCommand u x _ b _).trans ?_, fun t ht => ?_⟩
    · rw [if_neg (by simp [hb]), hv]
      rfl
    · have hleaves := unloadNow_leaves v
      obtain ⟨w, hw⟩ : ∃ w, w = v.unloadNow := ⟨_, rfl⟩
      rw [← hw] at hleaves ht
      obtain ⟨hpanel', hprog, hheld, hhbm, himem⟩ := hleaves
      have hcause : t.num Obj.SAFE_CAUSE = 0 := (num_of_od ht.od _).trans (State.num_setNum_same ..)
      obtain ⟨_, _, _, -, rfl⟩ := ht
      rw [hv] at hhbm himem
      exact ⟨hpanel', hprog, hcause, hheld, hhbm, himem⟩

/-! ## Certificates and settings (10 R290, 16 R440) -/

theorem grants_certOnDemand : grants .certOnDemand 1 1 (fun u _ => u.panel = .running)
    (fun u t => t.checks = { u.checks with onDemand := true } ∧ sameMem u t ∧ t.cores = u.cores) := by
  refine grants_num (v := 1) listed_certOnDemand rfl rfl (by decide) (by decide) (by decide) (fun _ _ => rfl)
    fun u x b hpanel hb => ⟨?_, ?_, ?_⟩
  · simp [State.rangeOk, cmdRow, hb]
  · simp [State.writeLegal, State.served, State.atS7, cmdRow, hpanel]
  · have heffect : u.effect x Obj.CERT_ON_DEMAND .bool b true =
        .ok (if natLE b = 1 then { u with checks := { u.checks with onDemand := true } } else u) := rfl
    refine ⟨_, heffect.trans (by rw [if_pos hb]), fun t ht => ?_⟩
    obtain ⟨_, _, _, -, rfl⟩ := ht
    exact ⟨rfl, ⟨rfl, rfl, rfl⟩, rfl⟩

theorem grants_settingsClear : grants .settingsClear 2 1 (fun u _ => u.panel = .ready)
    (fun u t => t.bringup = { u.bringup with clearSettings := true } ∧ sameMem u t ∧ t.cores = u.cores) := by
  refine grants_num (v := 1) listed_settingsClear rfl rfl (by decide) (by decide) (by decide) (fun _ _ => rfl)
    fun u x b hpanel hb => ⟨?_, ?_, ?_⟩
  · simp [State.rangeOk, cmdRow, hb]
  · simp [State.writeLegal, State.served, State.atS7, cmdRow, hpanel]
  · have heffect : u.effect x Obj.SETTINGS_CLEAR .bool b true =
        .ok (if natLE b = 1 then { u with bringup := { u.bringup with clearSettings := true } } else u) := rfl
    refine ⟨_, heffect.trans (by rw [if_pos hb]), fun t ht => ?_⟩
    obtain ⟨_, _, _, -, rfl⟩ := ht
    exact ⟨rfl, ⟨rfl, rfl, rfl⟩, rfl⟩

/-- Settles O56: each command is a write that is in its range and legal, so it takes effect and is answered OK. -/
theorem panelCommands : Obligations.panel_commands := by
  unfold Obligations.panel_commands
  exact ⟨grants_load, grants_start, grants_unload, grants_hold, grants_resume, fun _ => grants_stageData, grants_stageClear,
    fun _ => grants_fwStageData, grants_bringupStart, grants_warmReset, grants_enterSimmer, grants_recoveryRestart,
    grants_recoveryDiscard, grants_certOnDemand, grants_settingsClear⟩

end Sys2Proof.Proofs

end

section
/-! PROOFS. Commands of service (17 R478, R484, R486, 16 R453, R455, 12 R339, R343, 15 R415, 18 R497 to R499, R507): firmware,
releases, links, keys, calibration sets and quotes. -/

open Sys2Proof Sys2Proof.Machine Sys2Proof.Claims

namespace Sys2Proof.Proofs

/-! ## The rows -/

theorem listed_fwCommand : Listed (cmdRow Obj.FW_COMMAND .u8 2) 2 :=
  listed_of_mem (by simp [commandRows]) (by decide) rfl
theorem listed_unfreezeCore : Listed (cmdRow Obj.UNFREEZE_CORE .u16 2) 2 :=
  listed_of_mem (by simp [commandRows]) (by decide) rfl
theorem listed_unfreezePanel : Listed (cmdRow Obj.UNFREEZE_PANEL .u8 2) 2 :=
  listed_of_mem (by simp [commandRows]) (by decide) rfl
theorem listed_unfreezeCredential : Listed (cmdRow Obj.UNFREEZE_CREDENTIAL .u16 2) 2 :=
  listed_of_mem (by simp [commandRows]) (by decide) rfl
theorem listed_quarantineRelease : Listed (cmdRow Obj.QUARANTINE_RELEASE .u16 2) 2 :=
  listed_of_mem (by simp [commandRows]) (by decide) rfl
theorem listed_testNow : Listed (cmdRow Obj.TEST_NOW .u16 1) 1 :=
  listed_of_mem (by simp [commandRows]) (by decide) rfl
theorem listed_linkBringup : Listed (cmdRow Obj.LINK_BRINGUP .u8 1) 1 :=
  listed_of_mem (by simp [commandRows]) (by decide) rfl
theorem listed_roleKeyInstall : Listed (octRow Obj.ROLE_KEY_INSTALL 2) 2 :=
  listed_of_mem (by simp [commandRows]) (by decide) rfl
theorem listed_roleKeyRemove : Listed (cmdRow Obj.ROLE_KEY_REMOVE .u8 2) 2 :=
  listed_of_mem (by simp [commandRows]) (by decide) rfl
theorem listed_ownerKeyInstall : Listed (octRow Obj.OWNER_KEY_INSTALL 2) 2 :=
  listed_of_mem (by simp [commandRows]) (by decide) rfl
theorem listed_ownerKeyRemove : Listed (cmdRow Obj.OWNER_KEY_REMOVE .u16 2) 2 :=
  listed_of_mem (by simp [commandRows]) (by decide) rfl

theorem listed_calSet : Listed (readRow Obj.CAL_SET 2) 2 :=
  listed_of_mem (by simp [commandRows]) (by decide) rfl
theorem listed_quoteNonce : Listed (readRow Obj.QUOTE_NONCE 0) 0 :=
  listed_of_mem (by simp [commandRows]) (by decide) rfl

theorem objRow_quote : objRow Obj.QUOTE = some quoteRow :=
  objRow_commandRows quoteRow (by simp [commandRows])

/-! ## Firmware (16 R453, R455) -/

theorem effect_fwCommand (u : State) (x : Session) (ty : ObjTy) (b : Bytes) (ok : Bool) :
    u.effect x Obj.FW_COMMAND ty b ok = if natLE b = 2 then u.cmdLiveUpdate else u.cmdWriteOnly ok := rfl

theorem num_fwNext (s : State) (n k : Nat) : (s.fwNext n).num k = s.num k := rfl

theorem cmdLiveUpdate_fault {u : State} (hfw : u.bringup.fwStep = 0) (hfault : fwFault u.fwStaged ≠ 0) :
    u.cmdLiveUpdate = .ok (u.setNum Obj.FW_RESULT (fwFault u.fwStaged)) := by
  rw [State.cmdLiveUpdate, if_neg (not_not_intro hfw)]
  exact if_pos hfault

theorem cmdLiveUpdate_other {u : State} (hfw : u.bringup.fwStep = 0) (hfault : fwFault u.fwStaged = 0)
    (hother : fwSeries u.fwStaged ≠ fwSeries u.fwRun ∨ fwSchema u.fwStaged ≠ fwSchema u.fwRun) :
    u.cmdLiveUpdate = .ok (u.setNum Obj.FW_RESULT 4) := by
  rw [State.cmdLiveUpdate, if_neg (not_not_intro hfw)]
  exact (if_neg (not_not_intro hfault)).trans (if_pos hother)

/-- An image that passes is being written. -/
theorem cmdLiveUpdate_starts {u : State} (hfw : u.bringup.fwStep = 0) (hfault : fwFault u.fwStaged = 0)
    (hsame : ¬ (fwSeries u.fwStaged ≠ fwSeries u.fwRun ∨ fwSchema u.fwStaged ≠ fwSchema u.fwRun)) :
    ∃ v, u.cmdLiveUpdate = .ok v ∧ v.num Obj.FW_RESULT = 0xFFFF ∧ v.bringup.fwStep = 2 ∧ sameMem u v ∧ v.cores = u.cores := by
  obtain ⟨w, hw⟩ : ∃ w : State, w = { u with
    dies := SMap.mapV dieD (fun (d : Die) => { d with newFw := false }) u.dies
    hubs := SMap.mapV hubD (fun (h : Hub) => { h with newFw := false, restarting := false }) u.hubs
    bringup := { u.bringup with lastRollout := 0 } } := ⟨_, rfl⟩
  refine ⟨((w.setNum Obj.FW_RESULT 0xFFFF).setNum Obj.FW_UPDATE_STATE 1).fwNext 2, ?_, ?_, rfl, ?_⟩
  · rw [State.cmdLiveUpdate, if_neg (not_not_intro hfw), hw]
    exact (if_neg (not_not_intro hfault)).trans (if_neg hsame)
  · rw [num_fwNext, State.num_setNum_other _ _ (by decide), State.num_setNum_same]
  · rw [hw]
    exact ⟨⟨rfl, rfl, rfl⟩, rfl⟩

/-- What a live update leaves at its start. -/
theorem cmdLiveUpdate_leaves {u : State} (hfw : u.bringup.fwStep = 0) : ∃ v, u.cmdLiveUpdate = .ok v ∧
    (fwFault u.fwStaged ≠ 0 → v.num Obj.FW_RESULT = fwFault u.fwStaged ∧ v.bringup.fwStep = 0) ∧
    (fwFault u.fwStaged = 0 → fwSeries u.fwStaged = fwSeries u.fwRun → fwSchema u.fwStaged = fwSchema u.fwRun →
      v.num Obj.FW_RESULT = 0xFFFF ∧ v.bringup.fwStep = 2) ∧ sameMem u v ∧ v.cores = u.cores := by
  by_cases hfault : fwFault u.fwStaged = 0
  swap
  · obtain ⟨f, hf⟩ : ∃ f, f = fwFault u.fwStaged := ⟨_, rfl⟩
    have hcmd := cmdLiveUpdate_fault hfw hfault
    rw [← hf] at hcmd hfault ⊢
    exact ⟨_, hcmd, fun _ => ⟨State.num_setNum_same .., hfw⟩, fun h => absurd h hfault, ⟨rfl, rfl, rfl⟩, rfl⟩
  by_cases hother : fwSeries u.fwStaged ≠ fwSeries u.fwRun ∨ fwSchema u.fwStaged ≠ fwSchema u.fwRun
  · exact ⟨_, cmdLiveUpdate_other hfw hfault hother, fun h => absurd hfault h,
      fun _ hseries hschema => absurd hother (by simp [hseries, hschema]), ⟨rfl, rfl, rfl⟩, rfl⟩
  · obtain ⟨v, hcmd, hresult, hstep, hframe⟩ := cmdLiveUpdate_starts hfw hfault hother
    exact ⟨v, hcmd, fun h => absurd hfault h, fun _ _ _ => ⟨hresult, hstep⟩, hframe⟩

theorem grants_liveUpdate : grants .liveUpdate 2 2 (fun u _ => u.panel = .ready ∧ u.bringup.fwStep = 0)
    (fun u t => (fwFault u.fwStaged ≠ 0 → t.num Obj.FW_RESULT = fwFault u.fwStaged ∧ t.bringup.fwStep = 0) ∧
      (fwFault u.fwStaged = 0 → fwSeries u.fwStaged = fwSeries u.fwRun → fwSchema u.fwStaged = fwSchema u.fwRun →
        t.num Obj.FW_RESULT = 0xFFFF ∧ t.bringup.fwStep = 2) ∧ sameMem u t ∧ t.cores = u.cores) := by
  refine grants_num (v := 2) listed_fwCommand rfl rfl (by decide) (by decide) (by decide) (fun _ _ => rfl)
    fun u x b ⟨hpanel, hfw⟩ hb => ⟨?_, ?_, ?_⟩
  · simp [State.rangeOk, cmdRow, rangeTable, hb]
  · simp [State.writeLegal, State.served, State.atS7, PanelSt.ready2hold, cmdRow, hb, hpanel]
  · obtain ⟨v, hcmd, hleaves⟩ := cmdLiveUpdate_leaves hfw
    refine ⟨v, (effect_fwCommand u x _ b _).trans ((if_pos hb).trans hcmd), fun t ht => ?_⟩
    obtain ⟨_, _, _, -, rfl⟩ := ht
    exact hleaves

theorem cmdWriteOnly_fault {u : State} (hfw : u.bringup.fwStep = 0) (hfault : fwFault u.fwStaged ≠ 0) (ok : Bool) :
    u.cmdWriteOnly ok = .ok (u.setNum Obj.FW_RESULT (fwFault u.fwStaged)) := by
  rw [State.cmdWriteOnly, if_neg (not_not_intro hfw)]
  exact if_pos hfault

theorem cmdWriteOnly_unread {u : State} (hfw : u.bringup.fwStep = 0) (hfault : fwFault u.fwStaged = 0) :
    u.cmdWriteOnly false = .ok ((u.setNum Obj.FW_RESULT 5).setNum Obj.FW_FLASH_VALID 0) := by
  rw [State.cmdWriteOnly, if_neg (not_not_intro hfw)]
  exact (if_neg (not_not_intro hfault)).trans (if_pos rfl)

/-- In READY the image is in flash, and no stage starts again. -/
theorem cmdWriteOnly_read {u : State} (hpanel : u.panel = .ready) (hfw : u.bringup.fwStep = 0)
    (hfault : fwFault u.fwStaged = 0) : u.cmdWriteOnly true = .ok (({ u with bringup := { u.bringup with
      fwImage := u.fwStaged } }.setNum Obj.FW_RESULT 0).setNum Obj.FW_FLASH_VALID 1) := by
  have hready : ¬ u.panel = .bringup := by simp [hpanel]
  rw [State.cmdWriteOnly, if_neg (not_not_intro hfw)]
  exact ((if_neg (not_not_intro hfault)).trans (if_neg Bool.false_ne_true)).trans (congrArg Except.ok (if_neg hready))

/-- What a write of the staged image to flash leaves in READY. -/
theorem cmdWriteOnly_leaves {u : State} (hpanel : u.panel = .ready) (hfw : u.bringup.fwStep = 0) (ok : Bool) :
    ∃ v, u.cmdWriteOnly ok = .ok v ∧
    (fwFault u.fwStaged ≠ 0 → v.num Obj.FW_RESULT = fwFault u.fwStaged ∧ v.bringup = u.bringup) ∧
    (fwFault u.fwStaged = 0 → ok = true → v.num Obj.FW_RESULT = 0 ∧ v.bringup.fwImage = u.fwStaged) ∧
    (fwFault u.fwStaged = 0 → ok = false → v.num Obj.FW_RESULT = 5 ∧ v.num Obj.FW_FLASH_VALID = 0 ∧ v.bringup = u.bringup) ∧
    sameMem u v ∧ v.cores = u.cores := by
  have hresult (s : State) (n m : Nat) : ((s.setNum Obj.FW_RESULT n).setNum Obj.FW_FLASH_VALID m).num Obj.FW_RESULT = n :=
    (State.num_setNum_other _ _ (by decide)).trans (State.num_setNum_same ..)
  by_cases hfault : fwFault u.fwStaged = 0
  swap
  · obtain ⟨f, hf⟩ : ∃ f, f = fwFault u.fwStaged := ⟨_, rfl⟩
    have hcmd := cmdWriteOnly_fault hfw hfault ok
    rw [← hf] at hcmd hfault ⊢
    exact ⟨_, hcmd, fun _ => ⟨State.num_setNum_same .., rfl⟩, fun h => absurd h hfault, fun h => absurd h hfault,
      ⟨rfl, rfl, rfl⟩, rfl⟩
  cases ok with
  | false =>
    exact ⟨_, cmdWriteOnly_unread hfw hfault, fun h => absurd hfault h, fun _ h => absurd h Bool.false_ne_true,
      fun _ _ => ⟨hresult .., State.num_setNum_same .., rfl⟩, ⟨rfl, rfl, rfl⟩, rfl⟩
  | true =>
    have hcmd := cmdWriteOnly_read hpanel hfw hfault
    generalize u.fwStaged = image at hcmd hfault ⊢
    exact ⟨_, hcmd, fun h => absurd hfault h, fun _ _ => ⟨hresult .., rfl⟩, fun _ h => absurd h.symm Bool.false_ne_true,
      ⟨rfl, rfl, rfl⟩, rfl⟩

/-- FW_COMMAND written with 3, with what the read-back finds. -/
theorem grants_fwCommand {ok : Bool} {may : State → Session → Prop} {e : State → State → Prop}
    (hdoes : ∀ u x, may u x → Does u x (cmdRow Obj.FW_COMMAND .u8 2) [3] ok (e u)) :
    grants (fun r => .fwWriteOnly r ok) 2 2 may e := by
  intro r s u x ha hrole htyp hmay
  have hrow := listed_fwCommand
  have hwhole : WholeWrite x { r := r, op := 2, key := Obj.FW_COMMAND, total := 1, data := [3], ok := ok }
      (cmdRow Obj.FW_COMMAND .u8 2) :=
    { isWrite := rfl, index := hrow.index, listed := hrow.listed, writable := hrow.writable
      role := ⟨2, hrow.role, hrole⟩, header := rfl, typed := htyp, short := by simp, fits := rfl
      first := rfl, whole := rfl, nonempty := List.cons_ne_nil _ _, alone := no_parts_of_asks ha }
  exact ⟨_, rfl, hwhole.serve_of_does ha rfl (hdoes u x hmay)⟩

theorem grants_fwWriteOnly (ok : Bool) : grants (fun r => .fwWriteOnly r ok) 2 2
    (fun u _ => u.panel = .ready ∧ u.bringup.fwStep = 0)
    (fun u t => (fwFault u.fwStaged ≠ 0 → t.num Obj.FW_RESULT = fwFault u.fwStaged ∧ t.bringup = u.bringup) ∧
      (fwFault u.fwStaged = 0 → ok = true → t.num Obj.FW_RESULT = 0 ∧ t.bringup.fwImage = u.fwStaged) ∧
      (fwFault u.fwStaged = 0 → ok = false → t.num Obj.FW_RESULT = 5 ∧ t.num Obj.FW_FLASH_VALID = 0 ∧ t.bringup = u.bringup) ∧
      sameMem u t ∧ t.cores = u.cores) := by
  refine grants_fwCommand fun u x ⟨hpanel, hfw⟩ => ⟨rfl, ?_, ?_⟩
  · simp [State.writeLegal, State.served, State.atS7, cmdRow, hpanel, natLE]
  · obtain ⟨v, hcmd, hleaves⟩ := cmdWriteOnly_leaves hpanel hfw ok
    refine ⟨v, (effect_fwCommand u x _ [3] ok).trans hcmd, fun t ht => ?_⟩
    obtain ⟨_, _, _, -, rfl⟩ := ht
    exact hleaves

/-! ## Releases (15 R415, 12 R343, 17 R478) -/

theorem thaw_leaves (s : State) (k : Nat) : ((s.thaw k).core k = if (s.core k).frozen.isSome then {} else s.core k) ∧
    sameOthers k s (s.thaw k) ∧ sameMem s (s.thaw k) := by
  unfold State.thaw
  split
  next z hz =>
    refine ⟨?_, fun j hj => ?_, ⟨rfl, rfl, rfl⟩⟩
    · rw [hz, Option.isSome_some, if_pos rfl]
      exact State.core_setCore_same s k {}
    · exact State.core_setCore_other s {} hj
  next hz => exact ⟨by rw [hz]; rfl, fun _ _ => rfl, ⟨rfl, rfl, rfl⟩⟩

theorem grants_unfreezeCore (v k : Nat) : grants (fun r => .unfreezeCore r v) 2 3
    (fun u _ => u.panel = .hold ∧ v < 32768 ∧ vdOf u.gridW v < u.gridV ∧ v % 256 / 16 < u.gridW ∧
      u.coreOf u.net.epochB v = some k)
    (fun u t => (t.core k = if (u.core k).frozen.isSome then {} else u.core k) ∧ sameOthers k u t ∧ sameMem u t) := by
  by_cases hv : v < 32768
  swap
  · exact fun _ _ _ _ _ _ _ ⟨_, h, _⟩ => absurd h hv
  refine grants_num (v := v) listed_unfreezeCore rfl rfl (by decide) (by decide) (by omega) (fun _ _ => rfl)
    fun u x b ⟨hpanel, _, hvd, hcol, hcore⟩ hb => ⟨?_, ?_, ?_⟩
  · simp [State.rangeOk, cmdRow, rangeTable, show isCoreSelect Obj.UNFREEZE_CORE = false from rfl, hb, hvd, hcol]
  · simp [State.writeLegal, State.served, State.atS7, cmdRow, hpanel]
  · have heffect : u.effect x Obj.UNFREEZE_CORE .u16 b true = .ok (u.cmdUnfreezeCore (natLE b)) := rfl
    have hcmd : u.cmdUnfreezeCore v = u.thaw k := by
      rw [State.cmdUnfreezeCore, if_neg (by omega), hcore]
    obtain ⟨hk, hother, hmem⟩ := thaw_leaves u k
    refine ⟨u.thaw k, heffect.trans (by rw [hb, hcmd]), fun t ht => ?_⟩
    obtain ⟨_, _, _, -, rfl⟩ := ht
    exact ⟨hk, hother, hmem⟩

theorem testBit_sub_two_pow_same {n p : Nat} (h : n.testBit p = true) : (n - 2 ^ p).testBit p = false := by
  have hadd := Nat.testBit_two_pow_add_eq (n - 2 ^ p) p
  rw [Nat.add_sub_cancel' (Nat.ge_two_pow_of_testBit h), h] at hadd
  simpa using hadd

theorem testBit_sub_two_pow_other {n p q : Nat} (h : n.testBit p = true) (hq : q ≠ p) :
    (n - 2 ^ p).testBit q = n.testBit q := by
  have hlow := testBit_sub_two_pow_same h
  obtain ⟨m, rfl⟩ : ∃ m, n = 2 ^ p + m := ⟨n - 2 ^ p, (Nat.add_sub_cancel' (Nat.ge_two_pow_of_testBit h)).symm⟩
  rw [Nat.add_sub_cancel_left] at hlow ⊢
  obtain hlt | hgt := Nat.lt_or_gt_of_ne hq
  · exact (Nat.testBit_two_pow_add_gt hlt m).symm
  · obtain ⟨d, rfl⟩ : ∃ d, q = d + 1 + p := ⟨q - p - 1, by omega⟩
    have heven : m / 2 ^ p % 2 = 0 := by
      rw [Nat.testBit_eq_decide_div_mod_eq, decide_eq_false_iff_not] at hlow
      omega
    have hsucc : (2 ^ p + m) / 2 ^ p = m / 2 ^ p + 1 := Nat.add_div_left m (Nat.two_pow_pos p)
    have hshift (x : Nat) : x.testBit (d + 1 + p) = (x / 2 ^ p / 2).testBit d :=
      (Nat.testBit_div_two_pow x (d + 1)).symm.trans (Nat.testBit_succ ..)
    rw [hshift, hshift, hsucc, show (m / 2 ^ p + 1) / 2 = m / 2 ^ p / 2 by omega]

theorem panelFrozen_eq (s : State) (p : Nat) : s.panelFrozen p = (s.num Obj.FROZEN_PANELS).testBit p := by
  rw [Nat.testBit_eq_decide_div_mod_eq]
  rfl

theorem cmdUnfreezePanel_panelFrozen (s : State) (p : Nat) : (s.cmdUnfreezePanel p).panelFrozen p = false ∧
    ∀ q, q ≠ p → (s.cmdUnfreezePanel p).panelFrozen q = s.panelFrozen q := by
  unfold State.cmdUnfreezePanel
  split
  next h =>
    rw [panelFrozen_eq] at h
    simp only [panelFrozen_eq, State.num_setNum_same]
    exact ⟨testBit_sub_two_pow_same h, fun q hq => testBit_sub_two_pow_other h hq⟩
  next h => exact ⟨by simpa using h, fun _ _ => rfl⟩

theorem grants_unfreezePanel {p : Nat} (hp : p < 64) : grants (fun r => .unfreezePanel r p) 2 2 (fun u _ => u.panel = .ready)
    (fun u t => t.panelFrozen p = false ∧ (∀ q, q ≠ p → t.panelFrozen q = u.panelFrozen q) ∧ sameMem u t ∧
      t.cores = u.cores) := by
  refine grants_num (v := p) listed_unfreezePanel rfl rfl (by decide) (by decide) (by omega) (fun _ _ => rfl)
    fun u x b hpanel hb => ⟨?_, ?_, ?_⟩
  · simp [State.rangeOk, cmdRow, rangeTable, hb]
    omega
  · simp [State.writeLegal, State.served, State.atS7, cmdRow, hpanel]
  · have heffect : u.effect x Obj.UNFREEZE_PANEL .u8 b true = .ok (u.cmdUnfreezePanel (natLE b)) := rfl
    obtain ⟨hthawed, hothers⟩ := cmdUnfreezePanel_panelFrozen u p
    refine ⟨u.cmdUnfreezePanel p, heffect.trans (by rw [hb]), fun t ht => ?_⟩
    have hframe : sameMem u (u.cmdUnfreezePanel p) ∧ (u.cmdUnfreezePanel p).cores = u.cores := by
      unfold State.cmdUnfreezePanel
      split <;> exact ⟨⟨rfl, rfl, rfl⟩, rfl⟩
    obtain ⟨_, _, _, -, rfl⟩ := ht
    exact ⟨hthawed, hothers, hframe⟩

theorem grants_unfreezeCredential (n : Nat) : grants (fun r => .unfreezeCredential r n) 2 3
    (fun u _ => u.panel = .ready ∧ n < u.access.frozen.length ∧ n < 65535)
    (fun u t => t.access.frozen = u.access.frozen.eraseIdx n ∧ sameMem u t ∧ t.cores = u.cores) := by
  by_cases hn : n < 65535
  swap
  · exact fun _ _ _ _ _ _ _ ⟨_, _, h⟩ => absurd h hn
  refine grants_num (v := n) listed_unfreezeCredential rfl rfl (by decide) (by decide) (by omega) (fun _ _ => rfl)
    fun u x b ⟨hpanel, hentry, _⟩ hb => ⟨?_, ?_, ?_⟩
  · simp [State.rangeOk, cmdRow, rangeTable, show isCoreSelect Obj.UNFREEZE_CREDENTIAL = false from rfl, hb, hentry]
  · simp [State.writeLegal, State.served, State.atS7, cmdRow, hpanel]
  · have heffect : u.effect x Obj.UNFREEZE_CREDENTIAL .u16 b true = .ok (u.cmdUnfreezeCredential (natLE b)) := rfl
    refine ⟨_, heffect.trans (by rw [hb, State.cmdUnfreezeCredential, if_neg (by omega)]), fun t ht => ?_⟩
    obtain ⟨_, _, _, -, rfl⟩ := ht
    exact ⟨rfl, ⟨rfl, rfl, rfl⟩, rfl⟩

theorem grants_quarantineRelease {i : Nat} (hi : i < 144) : grants (fun r => .quarantineRelease r i) 2 3
    (fun u _ => u.panel = .ready ∧ (u.die i).quarantined = true ∧ (u.die i).st = .coldSpare)
    (fun u t => (t.die i).quarantined = false ∧ t.bringup.testQ.head? = some i ∧ sameMem u t ∧ t.cores = u.cores) := by
  refine grants_num (v := i) listed_quarantineRelease rfl rfl (by decide) (by decide) (by omega) (fun _ _ => rfl)
    fun u x b ⟨hpanel, hquar, hst⟩ hb => ⟨?_, ?_, ?_⟩
  · simp [State.rangeOk, cmdRow, rangeTable, hb]
    omega
  · simp [State.writeLegal, State.served, State.atS7, PanelSt.ready2hold, cmdRow, hpanel]
  · have heffect : u.effect x Obj.QUARANTINE_RELEASE .u16 b true = u.cmdRelease (natLE b) := rfl
    obtain ⟨w, hw⟩ : ∃ w, w = u.updDie i (fun d => { d with
      quarantined := false, after := 1, frozenPairs := [], haltedPairs := [] }) := ⟨_, rfl⟩
    have hreleased : (w.die i).quarantined = false ∧ sameMem u w ∧ w.cores = u.cores := by
      rw [hw, State.die_updDie_same]
      exact ⟨rfl, ⟨rfl, rfl, rfl⟩, rfl⟩
    obtain ⟨hquar', hframe⟩ := hreleased
    refine ⟨(w.headTest i).mapWrite, heffect.trans ?_, fun t ht => ?_⟩
    · rw [hb, hw]
      simp [State.cmdRelease, hst, hquar]
    · obtain ⟨_, _, _, -, rfl⟩ := ht
      exact ⟨hquar', rfl, hframe⟩

theorem grants_testNow {i : Nat} (hi : i < 144) : grants (fun r => .testNow r i) 1 3
    (fun u _ => u.panel = .ready ∧ (u.die i).quarantined = false ∧ (u.die i).st = .warmSpare)
    (fun u t => t.bringup.testQ.head? = some i ∧ t.dies = u.dies ∧ sameMem u t ∧ t.cores = u.cores) := by
  refine grants_num (v := i) listed_testNow rfl rfl (by decide) (by decide) (by omega) (fun _ _ => rfl)
    fun u x b ⟨hpanel, hquar, hst⟩ hb => ⟨?_, ?_, ?_⟩
  · simp [State.rangeOk, cmdRow, rangeTable, hb]
    omega
  · simp [State.writeLegal, State.served, State.atS7, PanelSt.ready2hold, cmdRow, hpanel]
  · have heffect : u.effect x Obj.TEST_NOW .u16 b true = u.cmdTestNow (natLE b) := rfl
    refine ⟨u.headTest i, heffect.trans ?_, fun t ht => ?_⟩
    · rw [hb]
      simp [State.cmdTestNow, hst, hquar]
    · obtain ⟨_, _, _, -, rfl⟩ := ht
      exact ⟨rfl, rfl, ⟨rfl, rfl, rfl⟩, rfl⟩

/-! ## Links (12 R339) -/

/-- Which ports are lost is in `t` as it is in `s`. -/
def KeepsLost (s t : State) : Prop := ∀ k, (t.port k).lost = (s.port k).lost

theorem pumpList_lost (cap : Nat → Nat) (me : Nat) (l : List GlpFrame) (blocked : List Nat) (q : Nat) (p : Port) :
    (pumpList cap me l blocked q p).1.lost = p.lost := by
  induction l generalizing blocked q p with
  | nil => rfl
  | cons f l ih =>
    have hemit : (p.emit f).lost = p.lost := by
      unfold Port.emit
      extract_lets lack cr r g
      have hr : r.lost = p.lost := by
        unfold r
        split <;> rfl
      split <;> exact hr
    rw [pumpList]
    split
    · exact (ih ..).trans hemit
    · exact ih ..

theorem updPort_keepsLost {s : State} {k : Nat} {f : Port → Port} (h : (f (s.port k)).lost = (s.port k).lost) :
    KeepsLost s (s.updPort k f) := by
  intro j
  by_cases hj : j = k
  · rw [hj, State.port_updPort_same, h]
  · rw [State.port_updPort_other _ _ hj]

theorem portPump_keepsLost (s : State) (port : Nat) : KeepsLost s (s.portPump port) := by
  unfold State.portPump
  extract_lets d us q p r
  split
  · exact fun _ => rfl
  · exact updPort_keepsLost (s := s) (f := fun _ => r.1) (show r.1.lost = (s.port port).lost from pumpList_lost ..)

theorem sendConcordOn_keepsLost (s : State) (port : Nat) : KeepsLost s (s.sendConcordOn port) := fun k =>
  (portPump_keepsLost _ port k).trans
    (updPort_keepsLost (s := { s with access := { s.access with signCount := s.access.signCount + 1 } }) rfl k)

theorem sendConcord_keepsLost (s : State) (d : Nat) : KeepsLost s (s.sendConcord d) := by
  unfold State.sendConcord
  split
  · exact fun _ => rfl
  · exact List.foldlRecOn _ _ (motive := KeepsLost s) (fun _ => rfl) fun t ht p _ k =>
      (sendConcordOn_keepsLost t p k).trans (ht k)

/-- A lost port counts from zero. -/
def relinkPort (s : State) (i : Nat) : State :=
  if (s.port i).lost then s.updPort i (fun p => { p with lost := false, linked := p.up, missed := 0, sent := [], received := [], peerSent := [] })
  else s

theorem relinkPort_leaves (s : State) (i : Nat) : (∃ m, relinkPort s i = { s with fabric := { s.fabric with ports := m } }) ∧
    ((relinkPort s i).port i).lost = false ∧ ∀ k, (s.port k).lost = false → ((relinkPort s i).port k).lost = false := by
  unfold relinkPort
  split
  next h =>
    refine ⟨⟨_, rfl⟩, by rw [State.port_updPort_same], fun k hk => ?_⟩
    by_cases hki : k = i
    · rw [hki, State.port_updPort_same]
    · rwa [State.port_updPort_other _ _ hki]
  next h => exact ⟨⟨_, rfl⟩, by simpa using h, fun _ => id⟩

theorem foldl_relinkPort_leaves (l : List Nat) (s : State) :
    (∃ m, l.foldl relinkPort s = { s with fabric := { s.fabric with ports := m } }) ∧
    (∀ k, k ∈ l ∨ (s.port k).lost = false → ((l.foldl relinkPort s).port k).lost = false) := by
  induction l generalizing s with
  | nil => exact ⟨⟨_, rfl⟩, fun k hk => by simpa using hk⟩
  | cons i l ih =>
    obtain ⟨⟨m, hm⟩, hsame, hkeep⟩ := relinkPort_leaves s i
    obtain ⟨⟨n, hn⟩, hlost⟩ := ih (relinkPort s i)
    rw [List.foldl_cons]
    refine ⟨⟨n, by rw [hn, hm]⟩, fun k hk => hlost k ?_⟩
    by_cases hki : k = i
    · exact .inr (hki ▸ hsame)
    · simp only [List.mem_cons, hki, false_or] at hk
      exact hk.imp_right (hkeep k)

theorem grants_linkBringup {d : Nat} (hd : d < 4) : grants (fun r => .linkBringup r d) 1 2 (fun u _ => u.panel = .ready)
    (fun u t => t.fabric.eff = (u.takeSettings).fabric.eff ∧ (∀ p ∈ portsOf d, (t.port p).lost = false) ∧ sameMem u t ∧
      t.cores = u.cores) := by
  refine grants_num (v := d) listed_linkBringup rfl rfl (by decide) (by decide) (by omega) (fun _ _ => rfl)
    fun u x b hpanel hb => ⟨?_, ?_, ?_⟩
  · simp [State.rangeOk, cmdRow, rangeTable, show isCoreSelect Obj.LINK_BRINGUP = false from rfl, hb]
    omega
  · simp [State.writeLegal, State.served, State.atS7, cmdRow, hpanel]
  · have heffect : u.effect x Obj.LINK_BRINGUP .u8 b true = .ok (u.cmdLinkBringup (natLE b)) := rfl
    obtain ⟨v, hv⟩ : ∃ v, v = (portsOf d).foldl relinkPort u.takeSettings := ⟨_, rfl⟩
    have hcmd : u.cmdLinkBringup d = v.sendConcord d := by
      rw [State.cmdLinkBringup, if_neg (by omega), List.flatMap_singleton]
      generalize hfold : List.foldl _ u.takeSettings (portsOf d) = w
      have hw : w = v := by
        rw [← hfold, hv]
        rfl
      subst hw
      rfl
    refine ⟨v.sendConcord d, heffect.trans (by rw [hb, hcmd]), fun t ht => ?_⟩
    obtain ⟨⟨m, hm⟩, hlost⟩ := foldl_relinkPort_leaves (portsOf d) u.takeSettings
    rw [← hv] at hm hlost
    have hkeeps := sendConcord_keepsLost v d
    obtain ⟨_, _, _, _, _, -, heq⟩ := (sendConcord_glpSends v d).reach
    obtain ⟨_, _, _, -, rfl⟩ := ht
    refine ⟨?_, fun p hp => (hkeeps p).trans (hlost p (.inl hp)), ?_⟩
    · rw [heq, hm]
    · rw [heq, hm]
      exact ⟨⟨rfl, rfl, rfl⟩, rfl⟩

/-! ## Keys (18 R497, R498) -/

theorem grants_roleKeyInstall {b : Bytes} (i : Nat) (hlen : b.length = 104) (hrole : field b 0 1 ≤ 2) :
    grants (fun r => .roleKeyInstall r b) 2 10 (fun u _ => u.panel = .ready ∧ u.freeRole = some i)
    (fun u t => t.roleKey i = (field b 0 1, slice b 7 97) ∧ (∀ j, j ≠ i → t.roleKey j = u.roleKey j) ∧ sameMem u t ∧
      t.cores = u.cores) := by
  refine grants_oct listed_roleKeyInstall rfl (by omega) (by omega) (by rw [hlen]; rfl) (fun _ _ => rfl)
    fun u x ⟨hpanel, hfree⟩ => ⟨?_, ?_, ?_⟩
  · have hin : u.rangeOk x Obj.ROLE_KEY_INSTALL .octets b = (decide (field b 0 1 ≤ 2) && u.freeRole.isSome) := rfl
    exact hin.trans (by simp [hrole, hfree])
  · simp [State.writeLegal, State.served, State.atS7, octRow, hpanel]
  · have heffect : u.effect x Obj.ROLE_KEY_INSTALL .octets b true = .ok (u.cmdRoleInstall b) := rfl
    refine ⟨_, heffect.trans (by rw [State.cmdRoleInstall, hfree]), fun t ht => ?_⟩
    obtain ⟨_, _, _, -, rfl⟩ := ht
    exact ⟨SMap.get_put_same .., fun j hj => SMap.get_put_other _ _ _ hj, ⟨rfl, rfl, rfl⟩, rfl⟩

/-- Sessions closed one after the other. -/
theorem foldl_closeSession_eq (l : List Session) (s : State) : ∃ p, l.foldl (fun s x => s.closeSession x.num) s = { s with
    access := { s.access with sessions := s.access.sessions.filter (fun y => l.all (fun x => y.num != x.num)) }
    fabric := { s.fabric with partials := p } } := by
  induction l generalizing s with
  | nil => exact ⟨s.fabric.partials, by simp⟩
  | cons x l ih =>
    obtain ⟨p, hp⟩ := ih (s.closeSession x.num)
    refine ⟨p, ?_⟩
    rw [List.foldl_cons, hp]
    simp [State.closeSession, List.filter_filter, Bool.and_comm]

theorem grants_roleKeyRemove {i : Nat} (hi : i < 16) : grants (fun r => .roleKeyRemove r i) 2 2
    (fun u _ => u.panel = .ready ∧ ∃ j, j < 16 ∧ j ≠ i ∧ (u.roleKey j).1 = 2)
    (fun u t => (t.roleKey i).1 = 255 ∧ (∀ j, j ≠ i → t.roleKey j = u.roleKey j) ∧
      (∀ y ∈ t.access.sessions, y.keyEntry ≠ some i) ∧ sameMem u t ∧ t.cores = u.cores) := by
  refine grants_num (v := i) listed_roleKeyRemove rfl rfl (by decide) (by decide) (by omega) (fun _ _ => rfl)
    fun u x b ⟨hpanel, j, hj, hji, hsteward⟩ hb => ⟨?_, ?_, ?_⟩
  · simp [State.rangeOk, cmdRow, rangeTable, hb]
    omega
  · simp [State.writeLegal, State.served, State.atS7, cmdRow, hpanel]
  · have heffect : u.effect x Obj.ROLE_KEY_REMOVE .u8 b true = u.cmdRoleRemove (natLE b) := rfl
    have hlast : ¬ (List.range 16).filter (fun i => (u.roleKey i).1 == 2) = [i] := by
      intro h
      have hmem : j ∈ (List.range 16).filter (fun i => (u.roleKey i).1 == 2) := by simp [hj, hsteward]
      rw [h] at hmem
      exact hji (List.mem_singleton.mp hmem)
    obtain ⟨v, hv⟩ : ∃ v : State, v = { u with
      access := { u.access with roleKeys := SMap.put roleD u.access.roleKeys i (255, []) } } := ⟨_, rfl⟩
    obtain ⟨l, hl⟩ : ∃ l, l = u.access.sessions.filter (fun x => x.keyEntry == some i) := ⟨_, rfl⟩
    obtain ⟨p, hp⟩ := foldl_closeSession_eq l v
    refine ⟨l.foldl (fun s x => s.closeSession x.num) v, heffect.trans ?_, fun t ht => ?_⟩
    · rw [hb, State.cmdRoleRemove, if_neg hlast, hl, hv]
    · rw [hp] at ht
      obtain ⟨g, _, _, hg, rfl⟩ := ht
      have hkey : v.roleKey i = (255, []) ∧ ∀ j, j ≠ i → v.roleKey j = u.roleKey j := by
        rw [hv]
        exact ⟨SMap.get_put_same .., fun j hj => SMap.get_put_other _ _ _ hj⟩
      refine ⟨congrArg Prod.fst hkey.1, hkey.2, fun y hy hentry => ?_, ?_⟩
      · obtain ⟨z, hz, rfl⟩ := List.mem_map.mp hy
        obtain ⟨hmem, hclosed⟩ := List.mem_filter.mp hz
        have hz' : z ∈ l := by
          rw [hl, List.mem_filter]
          refine ⟨?_, by simpa using (hg z).keyEntry.symm.trans hentry⟩
          rw [hv] at hmem
          exact hmem
        simpa using List.all_eq_true.mp hclosed z hz'
      · rw [hv]
        exact ⟨⟨rfl, rfl, rfl⟩, rfl⟩

theorem grants_ownerKeyInstall {b : Bytes} (hlen : b.length = 104) (hentry : field b 0 2 ≤ 7) :
    grants (fun r => .ownerKeyInstall r b) 2 10 (fun u _ => u.panel = .ready)
    (fun u t => SMap.get noB t.access.ownerKeys (field b 0 2) = slice b 7 97 ∧ sameMem u t ∧ t.cores = u.cores) := by
  refine grants_oct listed_ownerKeyInstall rfl (by omega) (by omega) (by rw [hlen]; rfl) (fun _ _ => rfl)
    fun u x hpanel => ⟨?_, ?_, ?_⟩
  · have hin : u.rangeOk x Obj.OWNER_KEY_INSTALL .octets b = decide (field b 0 2 ≤ 7) := rfl
    exact hin.trans (decide_eq_true hentry)
  · simp [State.writeLegal, State.served, State.atS7, octRow, hpanel]
  · have heffect : u.effect x Obj.OWNER_KEY_INSTALL .octets b true = .ok (u.cmdOwnerInstall b) := rfl
    refine ⟨_, heffect, fun t ht => ?_⟩
    obtain ⟨_, _, _, -, rfl⟩ := ht
    exact ⟨SMap.get_put_same noB u.access.ownerKeys _ _, ⟨rfl, rfl, rfl⟩, rfl⟩

theorem grants_ownerKeyRemove {i : Nat} (hi : i < 8) : grants (fun r => .ownerKeyRemove r i) 2 3 (fun u _ => u.panel = .ready)
    (fun u t => SMap.get noB t.access.ownerKeys i = [] ∧ sameMem u t ∧ t.cores = u.cores) := by
  refine grants_num (v := i) listed_ownerKeyRemove rfl rfl (by decide) (by decide) (by omega) (fun _ _ => rfl)
    fun u x b hpanel hb => ⟨?_, ?_, ?_⟩
  · simp [State.rangeOk, cmdRow, rangeTable, hb]
    omega
  · simp [State.writeLegal, State.served, State.atS7, cmdRow, hpanel]
  · have heffect : u.effect x Obj.OWNER_KEY_REMOVE .u16 b true = .ok (u.cmdOwnerRemove (natLE b)) := rfl
    refine ⟨_, heffect.trans (by rw [hb]), fun t ht => ?_⟩
    obtain ⟨_, _, _, -, rfl⟩ := ht
    exact ⟨SMap.get_put_same noB u.access.ownerKeys i [], ⟨rfl, rfl, rfl⟩, rfl⟩

/-! ## Calibration sets and quotes (18 R499, R507) -/

theorem grants_calSetWrite {b : Bytes} (i : Nat) (hlen : b.length = 1024) : grants (fun r => .calSetWrite r b) 2 10
    (fun u x => u.panel = .ready ∧ x.selOf Obj.CAL_SELECT = i ∧ 144 ≤ i ∧ u.calOk i b = true)
    (fun u t => SMap.get noB t.access.calStored i = b ∧ SMap.get zeroD t.access.calStatus i = 2 ∧
      t.access.calUse = u.access.calUse ∧ sameMem u t ∧ t.cores = u.cores) := by
  refine grants_oct listed_calSet rfl (by omega) (by omega) (by rw [hlen]; rfl) (fun _ _ => rfl)
    fun u x ⟨hpanel, hsel, hi, hok⟩ => ⟨?_, ?_, ?_⟩
  · have hin : u.rangeOk x Obj.CAL_SET .octets b = u.calOk (x.selOf Obj.CAL_SELECT) b := rfl
    exact hin.trans (hsel ▸ hok)
  · simp [State.writeLegal, State.served, State.atS7, readRow, hpanel]
  · have heffect : u.effect x Obj.CAL_SET .octets b true = u.cmdCalSet (x.selOf Obj.CAL_SELECT) b := rfl
    have hport : ¬ i < 144 := hi.not_gt
    refine ⟨{ u with access := { u.access with
      calStored := SMap.put noB u.access.calStored i b, calStatus := SMap.put zeroD u.access.calStatus i 2
      calExported := SMap.put zeroD u.access.calExported i 0 } }, heffect.trans ?_, fun t ht => ?_⟩
    · rw [hsel]
      simp [State.cmdCalSet, hport]
    · obtain ⟨_, _, _, -, rfl⟩ := ht
      exact ⟨SMap.get_put_same noB u.access.calStored i b, SMap.get_put_same zeroD u.access.calStatus i 2, rfl, ⟨rfl, rfl, rfl⟩, rfl⟩

section
variable {s u : State} {x : Session} {r : ReqHead} (ha : asks s u x r) (hpanel : u.panel = .ready)
include ha hpanel

theorem quoteNonce_answers {b : Bytes} (hlen : b.length = 32) (htyp : r.typ.toNat = 10) :
    answers (.quoteNonce r b) s (fun t => got t r { abort := 0 } ∧ (∃ y, t.session r.sess = some y ∧ y.nonce = some b) ∧
      t.od = u.od ∧ sameMem s t ∧ t.cores = s.cores) := by
  have hnum : x.num = r.sess := session_num ha.2.2.1
  refine ⟨_, rfl, serveOct_of_does (row := readRow Obj.QUOTE_NONCE 0) (p := fun t =>
    (∃ y, t.session r.sess = some y ∧ y.nonce = some b) ∧ t.od = u.od ∧ sameMem s t ∧ t.cores = s.cores)
    listed_quoteNonce rfl (by omega) (by omega) (by rw [hlen]; rfl) ha (Nat.zero_le _) htyp ⟨rfl, ?_, ?_⟩⟩
  · simp [State.writeLegal, State.served, State.atS7, readRow, hpanel]
  · have heffect : u.effect x Obj.QUOTE_NONCE .octets b true = .ok (u.updSession x.num (fun x => { x with nonce := some b })) := rfl
    refine ⟨_, heffect, fun t ht => ?_⟩
    obtain ⟨y, hy, hsame⟩ := ht.session (session_updSession (n := x.num) (hnum ▸ ha.2.2.1) fun _ => rfl)
    exact ⟨⟨y, hnum ▸ hy, hsame.nonce⟩, ht.od, asks_frame (v := u.updSession x.num _) ha ⟨rfl, rfl, rfl⟩ rfl ht⟩

variable (htyp : r.typ = 0)
include htyp

theorem calSetExport_answers : answers (.calSetExport r) s (fun t =>
    got t r { abort := 0, data := fit 1024 (u.calSet (x.selOf Obj.CAL_SELECT)), total := 1024 } ∧
    SMap.get zeroD t.access.calExported (x.selOf Obj.CAL_SELECT) = 1 ∧ sameMem s t ∧ t.cores = s.cores) := by
  obtain ⟨c, hc⟩ : ∃ c, c = fit 1024 (u.calSet (x.selOf Obj.CAL_SELECT)) := ⟨_, rfl⟩
  have hlen : c.length = 1024 := hc ▸ length_slice ..
  have hval : u.readVal x Obj.CAL_SET = .ok (.oct c) := by
    rw [hc]
    rfl
  obtain ⟨hans, hgot⟩ := serve_readReq (o := Obj.CAL_SET) ha listed_calSet.index listed_calSet.listed (by decide)
    (by simp [ObjRow.mayRead, readRow]) htyp hval (by simp [State.served, State.atS7, hpanel])
  have hwhole : (ObjTy.octets.encode (.oct c)).take 1024 = c := List.take_of_length_le hlen.le
  have hread : ({ abort := 0, data := (ObjTy.octets.encode (.oct c)).take 1024, total := (ObjTy.octets.encode (.oct c)).length } : Resp) =
      { abort := 0, data := c, total := 1024 } := by
    rw [hwhole, ← hlen]
    rfl
  have hexported : (s.serve (readReq r Obj.CAL_SET)).access.calExported =
      SMap.put zeroD u.access.calExported (x.selOf Obj.CAL_SELECT) 1 := by
    obtain ⟨_, _, _, -, heq⟩ := hans
    rw [heq]
    rfl
  obtain ⟨-, hmem, hcores⟩ := readEffect_leaves u x Obj.CAL_SET 0
  have hexec : exec (.calSetExport r) s = .next (s.serve (readReq r Obj.CAL_SET)) := rfl
  refine answers_of_exec hexec ⟨hc ▸ hread ▸ hgot, ?_, asks_frame ha hmem hcores hans⟩
  rw [hexported]
  exact SMap.get_put_same ..

theorem quote_answers {n : Bytes} (hnonce : x.nonce = some n) (hhalves : u.access.halves ≠ 0) : answers (.quote r) s (fun t =>
    (∃ a, got t r a ∧ a.abort = 0) ∧ t.access.signCount = u.access.signCount + 1 ∧ sameMem s t ∧ t.cores = s.cores) := by
  have hval : u.readVal x Obj.QUOTE = .ok (.oct (u.quoteBody n ++ fit 96 (Config.sign 0 (u.quoteBody n)))) := by
    have hread : u.readVal x Obj.QUOTE = match x.nonce with
      | none => .error 0x06
      | some n => if u.access.halves = 0 then .error 0x07
        else .ok (.oct (u.quoteBody n ++ fit 96 (Config.sign 0 (u.quoteBody n)))) := rfl
    rw [hread, hnonce]
    exact if_neg hhalves
  obtain ⟨hans, hgot⟩ := serve_readReq ha (subsOf_of_objRow objRow_quote) (rowOf_of_objRow objRow_quote) (by decide)
    (by simp [ObjRow.mayRead, quoteRow])
    htyp hval (by simp [State.served, State.atS7, hpanel])
  have hsigned : (s.serve (readReq r Obj.QUOTE)).access.signCount = u.access.signCount + 1 := by
    obtain ⟨_, _, _, -, heq⟩ := hans
    rw [heq]
    rfl
  obtain ⟨-, hmem, hcores⟩ := readEffect_leaves u x Obj.QUOTE 0
  have hexec : exec (.quote r) s = .next (s.serve (readReq r Obj.QUOTE)) := rfl
  exact answers_of_exec hexec ⟨⟨_, hgot, rfl⟩, hsigned, asks_frame ha hmem hcores hans⟩

end

/-- Settles O57: each command of service is a write or a read that is served, and takes effect. -/
theorem serviceCommands : Obligations.service_commands := by
  unfold Obligations.service_commands
  exact ⟨grants_liveUpdate, grants_fwWriteOnly, grants_unfreezeCore, fun _ => grants_unfreezePanel, grants_unfreezeCredential,
    fun _ => grants_quarantineRelease, fun _ => grants_testNow, fun _ => grants_linkBringup, fun _ i => grants_roleKeyInstall i,
    fun _ => grants_roleKeyRemove, fun _ => grants_ownerKeyInstall, fun _ => grants_ownerKeyRemove,
    fun _ i => grants_calSetWrite i, fun _ _ _ _ ha hpanel => ⟨fun _ => quoteNonce_answers ha hpanel,
      calSetExport_answers ha hpanel, fun _ htyp => quote_answers ha hpanel htyp⟩⟩

end Sys2Proof.Proofs

end

section
/-! PROOFS. Bring-up stages (16 R442 to R448): a stage without a halting code hands over to the next one, and one with a
code halts. -/

open Sys2Proof Sys2Proof.Machine Sys2Proof.Claims

namespace Sys2Proof.Proofs

/-! ## What the work of a stage keeps (16 R443) -/

/-- A bring-up under way: the path that it takes and the lines of HBM. -/
structure Staged (fast : Bool) (m : SMap Byte) (s : State) : Prop where
  panel : s.panel = .bringup
  running : s.bringup.halted = false
  path : s.bringup.fast = fast
  lines : s.hbm = m

section
variable {fast : Bool} {m : SMap Byte} {s : State}

theorem foldl_staged {α : Type} {f : State → α → State} (hf : ∀ s x, Staged fast m s → Staged fast m (f s x)) (l : List α)
    (h : Staged fast m s) : Staged fast m (l.foldl f s) :=
  List.foldlRecOn l f (motive := Staged fast m) h fun t ht x _ => hf t x ht

theorem ite_staged {t : State} (c : Prop) [Decidable c] (h : Staged fast m s) (h' : Staged fast m t) :
    Staged fast m (if c then s else t) := by
  split
  · exact h
  · exact h'

theorem fsr_staged (h : Staged fast m s) (r : FsrIn) : Staged fast m (s.fsr r) := by
  obtain ⟨hpanel, hrun, hpath, hlines⟩ := h
  unfold State.fsr
  split <;> exact ⟨hpanel, hrun, hpath, hlines⟩

theorem updDie_staged (h : Staged fast m s) (i : Nat) (f : Die → Die) : Staged fast m (s.updDie i f) :=
  ⟨h.panel, h.running, h.path, h.lines⟩

theorem dieEnter_staged (h : Staged fast m s) (i : Nat) (st : DieSt) : Staged fast m (s.dieEnter i st) := updDie_staged h i _

theorem mapWrite_staged (h : Staged fast m s) : Staged fast m s.mapWrite := ⟨h.panel, h.running, h.path, h.lines⟩

theorem setNum_staged (h : Staged fast m s) (k n : Nat) : Staged fast m (s.setNum k n) :=
  ⟨h.panel, h.running, h.path, h.lines⟩

theorem reqMig_staged (h : Staged fast m s) (i prio : Nat) : Staged fast m (s.reqMig i prio) := by
  unfold State.reqMig
  split
  · exact h
  · exact ⟨h.panel, h.running, h.path, h.lines⟩

theorem joinTest_staged (h : Staged fast m s) (i : Nat) : Staged fast m (s.joinTest i) := by
  unfold State.joinTest
  dsimp only
  split
  · exact h
  · exact ⟨h.panel, h.running, h.path, h.lines⟩

theorem quarantine_staged (h : Staged fast m s) (i det : Nat) : Staged fast m (s.quarantine i det) := by
  unfold State.quarantine
  dsimp only
  split
  · exact h
  · have htold := fsr_staged (mapWrite_staged (updDie_staged h i (fun d => { d with quarantined := true })))
      { part := 0, index := i, det := det, kind := 2, action := 0x40 }
    split
    · exact reqMig_staged (updDie_staged htold i _) i 1
    · exact updDie_staged (dieEnter_staged htold i _) i _
    · exact updDie_staged (dieEnter_staged htold i _) i _
    all_goals exact htold

theorem loseSite_staged (h : Staged fast m s) (i : Nat) : Staged fast m (s.loseSite i) :=
  mapWrite_staged (updDie_staged (dieEnter_staged (s := s.unqueue i) ⟨h.panel, h.running, h.path, h.lines⟩ i .lost) i _)

theorem excludeSite_staged (h : Staged fast m s) (n : Nat) (x : Nat × Nat) : Staged fast m (s.excludeSite n x) := by
  have hnoted := updDie_staged h x.1 (fun d => { d with exclusion := x.2 })
  unfold State.excludeSite
  split
  · exact quarantine_staged (updDie_staged hnoted x.1 _) x.1 0x1D
  · exact loseSite_staged (fsr_staged hnoted _) x.1

theorem excludeOther_staged (h : Staged fast m s) (x : Nat × Nat) : Staged fast m (s.excludeOther x) := by
  unfold State.excludeOther
  split
  · exact fsr_staged (s := s.updPortDie (x.1 - 16) _) ⟨h.panel, h.running, h.path, h.lines⟩ _
  · exact fsr_staged (s := s.updStack (x.1 - 24) _) ⟨h.panel, h.running, h.path, h.lines⟩ _

/-- Outside LOADED, RUNNING and HOLD a die below its floor is no concern. -/
theorem belowFloor_staged (h : Staged fast m s) (i : Nat) : Staged fast m (s.belowFloor i) := by
  have hpanel := h.panel
  unfold State.belowFloor
  split
  · exact h
  · rw [if_neg (by simp [hpanel])]
    exact h

theorem reSafe_staged (h : Staged fast m s) (i : Nat) : Staged fast m (s.reSafe i) := belowFloor_staged (updDie_staged h i _) i

theorem calLoad_staged (h : Staged fast m s) (i : Nat) : Staged fast m (s.calLoad i) := by
  unfold State.calLoad
  dsimp only
  split <;> exact ⟨h.panel, h.running, h.path, h.lines⟩

theorem testPass_staged (h : Staged fast m s) (i : Nat) : Staged fast m (s.testPass i) := by
  unfold State.testPass
  split
  · exact loseSite_staged h i
  · exact reSafe_staged (mapWrite_staged (updDie_staged h i _)) i

theorem stage6_staged (h : Staged fast m s) (note : Nat) : Staged fast m (s.stage6 note) := by
  exact foldl_staged (fun t i ht => ite_staged _ (updDie_staged ht i _) (testPass_staged ht i)) _ (setNum_staged h _ _)

/-! ## The work of the stages -/

theorem stage2_staged (h : Staged fast m s) (found : List Nat) : Staged fast m (s.stage2 found) := by
  have hrebuilt := foldl_staged (fun t i ht => updDie_staged ht i (fun d => { d with
    st := if d.st = .lost then .coldSpare else d.st, quarantined := false, field := [], testDue := t.time, connTest := false }))
    ((if s.bringup.mapSigned then found else allSites).filter (fun i => decide (i < 144))) h
  exact foldl_staged (fun t i ht => updDie_staged (dieEnter_staged ht i _) i _) _
    (setNum_staged (ite_staged _ hrebuilt (mapWrite_staged hrebuilt)) _ _)

theorem net_staged (h : Staged fast m s) (n : Net) : Staged fast m { s with net := n } := ⟨h.panel, h.running, h.path, h.lines⟩

theorem stage4_staged (h : Staged fast m s) : Staged fast m s.stage4 := by
  unfold State.stage4
  refine net_staged (foldl_staged (fun t i ht => ?_) _ (foldl_staged (fun t i ht => updDie_staged ht i _) _ (net_staged h _))) _
  split
  · exact updDie_staged ht i _
  · exact excludeSite_staged ht 4 (i, 0x401)

theorem updStack_staged (h : Staged fast m s) (i : Nat) (f : Stack → Stack) : Staged fast m (s.updStack i f) :=
  ⟨h.panel, h.running, h.path, h.lines⟩

theorem stage5_staged (h : Staged fast m s) : Staged fast [] s.stage5 := by
  unfold State.stage5
  exact foldl_staged (fun t i ht => updStack_staged ht i _) _ ⟨h.panel, h.running, h.path, rfl⟩

theorem stage8_staged (h : Staged fast m s) : Staged fast m s.stage8 := by
  exact foldl_staged (fun t i ht => reSafe_staged (ite_staged _ (updDie_staged ht i _) ht) i) _
    (foldl_staged (fun _ i ht => calLoad_staged ht i) _ h)

theorem glpSends_staged {t : State} (h : Staged fast m s) (hsends : GlpSends s t) : Staged fast m t := by
  obtain ⟨_, _, _, _, _, -, rfl⟩ := hsends.reach
  exact ⟨h.panel, h.running, h.path, h.lines⟩

/-- The work of a stage keeps bring-up under way; S5's clears HBM and leaves the path. -/
theorem stageWork_staged (h : Staged fast m s) (n : Nat) (o : StageOutcome) :
    ∃ fast' m', Staged fast' m' (s.stageWork n o) ∧ (n = 5 → fast' = fast ∧ m' = []) := by
  unfold State.stageWork
  split
  case h_1 => exact ⟨_, _, ⟨h.panel, h.running, rfl, rfl⟩, by simp⟩
  case h_2 =>
    obtain ⟨hpanel, hrun, -, -⟩ := stage2_staged h o.rebuilt
    exact ⟨_, _, ⟨hpanel, hrun, rfl, rfl⟩, by simp⟩
  case h_3 => exact ⟨_, _, stage4_staged h, by simp⟩
  case h_4 => exact ⟨_, _, stage5_staged h, fun _ => ⟨rfl, rfl⟩⟩
  case h_5 => exact ⟨_, _, h, by simp⟩
  case h_6 => exact ⟨_, _, ⟨h.panel, h.running, h.path, h.lines⟩, by simp⟩
  case h_7 => exact ⟨_, _, stage8_staged h, by simp⟩
  case h_8 =>
    have hsettings : Staged fast m s.takeSettings := ⟨h.panel, h.running, h.path, h.lines⟩
    exact ⟨_, _, foldl_staged (fun t d ht => glpSends_staged ht (sendConcord_glpSends t d)) _ hsettings, by simp⟩
  case h_9 hfive _ _ _ _ => exact ⟨_, _, h, by simp_all⟩

end

/-! ## The end of a stage (16 R442, R443) -/

section
variable (s : State) (n : Nat) (o : StageOutcome)

/-- A stage that ends: its hubs judged, its duration and its end reported. -/
def stageTimed : State :=
  let s := s.atTime (s.bringup.stageAt + o.durationMs * 1000000)
  let s := (hubsOut n o).foldl (fun s x => s.updHub x.1 (fun h => { h with exclusion := x.2 })) s
  (s.setNum (stageObj n 5) o.durationMs).setNum (stageObj n 6) s.time

/-- A stage that halts bring-up. -/
def stageFailed (halt : Nat) : State :=
  (s.setOct (stageObj n 4) (bitMap 9 ((hubsOut n o).map (fun x => x.1)))).stageHalt n halt

/-- Port dies and stacks that a stage excludes. -/
def othersOut : List (Nat × Nat) := o.others.filter (fun x => (otherCodes n x.1).contains x.2)

/-- The work of a stage and its exclusions. -/
def stageWorked : State :=
  let bad := s.sitesOut n o
  let s := s.stageWork n o
  let s := bad.foldl (fun s x => s.excludeSite n x) s
  let s := (othersOut n o).foldl (fun s x => s.excludeOther x) s
  if n = 6 then s.stage6 o.note else s

/-- The report of a stage that excluded the compute dies `bad`. -/
def stageReported (bad : List (Nat × Nat)) : State :=
  let others := othersOut n o
  let gone := allSites.filter (fun i => (s.die i).exclusion / 256 == n && (siteCodes n).contains (s.die i).exclusion)
  let last := match (bad ++ others).getLast? with | some x => x.2 | none => if gone.isEmpty then o.note else 0x401
  let status := if n = 6 ∧ o.note = 0x602 then 5 else if gone.isEmpty ∧ others.isEmpty then 2 else 3
  let s := ((s.setNum (stageObj n 1) status).setNum (stageObj n 2) last).setOct (stageObj n 3) (bitMap 18 gone)
  s.setOct (stageObj n 4) (bitMap 9 (others.map (fun x => x.1)))

/-- The stage after stage `n`, or READY. -/
def stageNext : State :=
  if n = 10 then s.stage10
  else if n = 5 ∧ s.bringup.fast then (s.setNum (stageObj 6 1) 5).stageStart 7
  else s.stageStart (n + 1)

/-- A stage without a halting code. -/
def stagePassed : State := stageNext (stageReported (stageWorked s n o) n o (s.sitesOut n o)) n

variable {s n}

theorem foldl_updHub_eq (f : Nat × Nat → Hub → Hub) (l : List (Nat × Nat)) (s : State) :
    ∃ m, l.foldl (fun s x => s.updHub x.1 (f x)) s = { s with hubs := m } :=
  List.foldlRecOn l _ (motive := fun t : State => ∃ m, t = { s with hubs := m }) ⟨_, rfl⟩ fun t ht x _ => by
    obtain ⟨m, rfl⟩ := ht
    exact ⟨_, rfl⟩

theorem exec_bringupStageEnd (hstage : s.bringup.stage = some n) (hpanel : s.panel = .bringup)
    (hrun : s.bringup.halted = false) (hcool : s.thermal.quench = none) (hn : n ≤ 10) (halt : Nat)
    (hhalt : (s.atTime (s.bringup.stageAt + o.durationMs * 1000000)).haltCode n o = halt) :
    exec (.bringupStageEnd o) s = .next (if halt ≠ 0 then stageFailed (stageTimed s n o) n o halt
      else stagePassed (stageTimed s n o) n o) := by
  obtain ⟨hubs, hjudged⟩ := foldl_updHub_eq (fun x h => { h with exclusion := x.2 }) (hubsOut n o)
    (s.atTime (s.bringup.stageAt + o.durationMs * 1000000))
  have hcode : ((hubsOut n o).foldl (fun s x => s.updHub x.1 (fun h => { h with exclusion := x.2 }))
      (s.atTime (s.bringup.stageAt + o.durationMs * 1000000))).haltCode n o = halt := by
    rw [hjudged]
    exact hhalt
  refine congrArg Host.Outcome.next ?_
  rw [hstage]
  refine (if_neg (by simp [hpanel, hrun, hcool, hn])).trans ?_
  subst hcode
  by_cases hpass : ((hubsOut n o).foldl (fun s x => s.updHub x.1 (fun h => { h with exclusion := x.2 }))
      (s.atTime (s.bringup.stageAt + o.durationMs * 1000000))).haltCode n o = 0
  · exact (if_neg (not_not.mpr hpass)).trans (if_neg (not_not.mpr hpass)).symm
  · exact (if_pos hpass).trans (if_pos hpass).symm

theorem stageTimed_eq : ∃ m h t, stageTimed s n o = { s with od := m, hubs := h, time := t } := by
  obtain ⟨hubs, hjudged⟩ := foldl_updHub_eq (fun x h => { h with exclusion := x.2 }) (hubsOut n o)
    (s.atTime (s.bringup.stageAt + o.durationMs * 1000000))
  rw [stageTimed, hjudged]
  exact ⟨_, _, _, rfl⟩

theorem stageObj_ne {sub sub' : Nat} (h : sub ≠ sub') : stageObj n sub ≠ stageObj n sub' := by
  unfold stageObj
  omega

/-- The halt noted in the report of its stage. -/
def haltNoted (u : State) (halt : Nat) : State :=
  ((({ u with bringup := { u.bringup with halted := true } }).setNum (stageObj n 1) 4).setNum (stageObj n 2) halt).setNum
    (stageObj n 6) u.time

theorem haltNoted_eq (u : State) (halt : Nat) : ∃ m, haltNoted (n := n) u halt = { u with
    od := m, bringup := { u.bringup with halted := true } } := ⟨_, rfl⟩

theorem fsr_bringup (s : State) (r : FsrIn) : (s.fsr r).bringup = s.bringup ∧ (s.fsr r).panel = s.panel := by
  unfold State.fsr
  split <;> exact ⟨rfl, rfl⟩

theorem stageFailed_leaves (u : State) (halt : Nat) : (stageFailed u n o halt).bringup = { u.bringup with halted := true } ∧
    (stageFailed u n o halt).panel = u.panel ∧ (stageFailed u n o halt).num (stageObj n 2) = halt ∧
    (stageFailed u n o halt).num (stageObj n 1) = 4 ∧ sameMem u (stageFailed u n o halt) := by
  obtain ⟨v, hv⟩ : ∃ v, v = haltNoted (n := n) (u.setOct (stageObj n 4) (bitMap 9 ((hubsOut n o).map (fun x => x.1)))) halt :=
    ⟨_, rfl⟩
  have hnoted : v.bringup = { u.bringup with halted := true } ∧ v.panel = u.panel ∧ sameMem u v ∧
      v.num (stageObj n 2) = halt ∧ v.num (stageObj n 1) = 4 := by
    obtain ⟨_, heq⟩ := haltNoted_eq (n := n) (u.setOct (stageObj n 4) (bitMap 9 ((hubsOut n o).map (fun x => x.1)))) halt
    refine ⟨?_, ?_, ⟨?_, ?_, ?_⟩, ?_, ?_⟩
    iterate 5 exact hv ▸ heq ▸ rfl
    · rw [hv, haltNoted, State.num_setNum_other _ _ (stageObj_ne (show 2 ≠ 6 by decide)), State.num_setNum_same]
    · rw [hv, haltNoted, State.num_setNum_other _ _ (stageObj_ne (show 1 ≠ 6 by decide)),
        State.num_setNum_other _ _ (stageObj_ne (show 1 ≠ 2 by decide)), State.num_setNum_same]
  obtain ⟨hbring, hpanel, ⟨hspad, hhbm, himem⟩, hcode, hstatus⟩ := hnoted
  have hfailed : stageFailed u n o halt = v.fsr { part := 4, det := 0, kind := 6, detail := bytesLE 2 halt } := by
    rw [hv]
    rfl
  have hreport (sub : Nat) : stageObj n sub ≠ Obj.FSR_LAST_SEQ := (ne_stageObj (by decide) n sub).symm
  obtain ⟨hspad', hhbm', himem'⟩ := fsr_sameMem v { part := 4, det := 0, kind := 6, detail := bytesLE 2 halt }
  obtain ⟨hbring', hpanel'⟩ := fsr_bringup v { part := 4, det := 0, kind := 6, detail := bytesLE 2 halt }
  rw [hfailed]
  exact ⟨hbring'.trans hbring, hpanel'.trans hpanel, (num_fsr _ _ (hreport 2)).trans hcode,
    (num_fsr _ _ (hreport 1)).trans hstatus, hspad'.trans hspad, hhbm'.trans hhbm, himem'.trans himem⟩

/-- What a stage that halts leaves. -/
theorem bringupStageEnd_halts (hstage : s.bringup.stage = some n) (hpanel : s.panel = .bringup)
    (hrun : s.bringup.halted = false) (hcool : s.thermal.quench = none) (hn : n ≤ 10) (halt : Nat)
    (hhalt : (s.atTime (s.bringup.stageAt + o.durationMs * 1000000)).haltCode n o = halt) (hne : halt ≠ 0) :
    answers (.bringupStageEnd o) s (fun t => t.bringup.halted = true ∧ t.bringup.stage = some n ∧ t.panel = .bringup ∧
      t.num (stageObj n 2) = halt ∧ t.num (stageObj n 1) = 4 ∧ sameMem s t) := by
  have hexec := exec_bringupStageEnd o hstage hpanel hrun hcool hn halt hhalt
  obtain ⟨_, _, _, heq⟩ := stageTimed_eq (s := s) (n := n) o
  obtain ⟨hbring, hkept, hcode, hstatus, hmem⟩ := stageFailed_leaves (n := n) o (stageTimed s n o) halt
  rw [if_pos hne] at hexec
  refine answers_of_exec hexec ⟨?_, ?_, hkept.trans ?_, hcode, hstatus, ?_⟩
  · rw [hbring]
  · rw [hbring, heq]
    exact hstage
  · rw [heq]
    exact hpanel
  · rw [heq] at hmem ⊢
    exact hmem

/-! ## A stage that passes -/

variable {fast : Bool} {m : SMap Byte}

theorem stageWorked_staged (h : Staged fast m s) :
    ∃ fast' m', Staged fast' m' (stageWorked s n o) ∧ (n = 5 → fast' = fast ∧ m' = []) := by
  obtain ⟨fast', m', hwork, hfive⟩ := stageWork_staged h n o
  refine ⟨fast', m', ?_, hfive⟩
  have hout := foldl_staged (fun t x ht => excludeOther_staged ht x) (othersOut n o)
    (foldl_staged (fun t x ht => excludeSite_staged ht n x) (s.sitesOut n o) hwork)
  exact ite_staged _ (stage6_staged hout o.note) hout

theorem stageNext_leaves (h : Staged fast m s) : (n = 10 → (stageNext s n).panel = .ready ∧ (stageNext s n).bringup.stage = none) ∧
    (n ≠ 10 → (stageNext s n).panel = .bringup ∧ (stageNext s n).bringup.halted = false ∧
      (stageNext s n).bringup.stage = some (if n = 5 ∧ fast = true then 7 else n + 1) ∧ (stageNext s n).hbm = m) := by
  obtain ⟨hpanel, hrun, rfl, hlines⟩ := h
  constructor <;> intro hten
  · rw [stageNext, if_pos hten]
    exact ⟨rfl, rfl⟩
  · rw [stageNext, if_neg hten]
    split
    · exact ⟨hpanel, hrun, rfl, hlines⟩
    · exact ⟨hpanel, hrun, rfl, hlines⟩

/-- What a stage without a halting code leaves. -/
theorem bringupStageEnd_passes (hstage : s.bringup.stage = some n) (hpanel : s.panel = .bringup)
    (hrun : s.bringup.halted = false) (hcool : s.thermal.quench = none) (hn : n ≤ 10)
    (hhalt : (s.atTime (s.bringup.stageAt + o.durationMs * 1000000)).haltCode n o = 0) :
    answers (.bringupStageEnd o) s (fun t => (n = 10 → t.panel = .ready ∧ t.bringup.stage = none) ∧
      (n < 10 → t.panel = .bringup ∧ t.bringup.halted = false ∧
        t.bringup.stage = some (if n = 5 ∧ s.bringup.fast = true then 7 else n + 1)) ∧ (n = 5 → t.hbm = [])) := by
  have hexec := exec_bringupStageEnd o hstage hpanel hrun hcool hn 0 hhalt
  obtain ⟨_, _, _, heq⟩ := stageTimed_eq (s := s) (n := n) o
  have htimed : Staged s.bringup.fast s.hbm (stageTimed s n o) := by
    rw [heq]
    exact ⟨hpanel, hrun, rfl, rfl⟩
  obtain ⟨fast', m', hworked, hfive⟩ := stageWorked_staged (n := n) o htimed
  have hreported : Staged fast' m' (stageReported (stageWorked (stageTimed s n o) n o) n o ((stageTimed s n o).sitesOut n o)) :=
    ⟨hworked.panel, hworked.running, hworked.path, hworked.lines⟩
  obtain ⟨hten, hother⟩ := stageNext_leaves (n := n) hreported
  rw [if_neg (by simp)] at hexec
  refine answers_of_exec hexec ⟨hten, fun hlt => ?_, fun h5 => ?_⟩
  · obtain ⟨hbring, hon, hnext, -⟩ := hother hlt.ne
    refine ⟨hbring, hon, hnext.trans (congrArg some (if_congr (and_congr_right fun h5 => ?_) rfl rfl))⟩
    rw [(hfive h5).1]
  · obtain ⟨-, -, -, hlines⟩ := hother (by omega)
    exact hlines.trans (hfive h5).2

end
end Sys2Proof.Proofs
end

section
/-! PROOFS. The writing steps of a load and a live update (11 R321, 16 R453). -/

open Sys2Proof Sys2Proof.Machine Sys2Proof.Claims

namespace Sys2Proof.Proofs

/-! ## A load that fails (11 R321) -/

/-- A panel in READY without a load, with the program `q`. -/
structure LoadOver (q : Option Prog) (t : State) : Prop where
  panel : t.panel = .ready
  loading : t.loading = none
  prog : t.prog = q

section
variable {q : Option Prog} {s : State}

theorem foldl_loadOver {α : Type} {f : State → α → State} (hf : ∀ s x, LoadOver q s → LoadOver q (f s x)) (l : List α)
    (h : LoadOver q s) : LoadOver q (l.foldl f s) :=
  List.foldlRecOn l f (motive := LoadOver q) h fun t ht x _ => hf t x ht

theorem updDie_loadOver (h : LoadOver q s) (i : Nat) (f : Die → Die) : LoadOver q (s.updDie i f) := ⟨h.panel, h.loading, h.prog⟩

theorem stopForLoad_loadOver (h : LoadOver q s) (i : Nat) : LoadOver q (s.stopForLoad i) := by
  unfold State.stopForLoad
  split
  · exact ⟨h.panel, h.loading, h.prog⟩
  · exact h

theorem setHashing_loadOver (h : LoadOver q s) (i : Nat) (b : Bool) : LoadOver q (s.setHashing i b) := by
  obtain ⟨_, _, heq⟩ := setHashing_eq s i b
  rw [heq]
  exact ⟨h.panel, h.loading, h.prog⟩

theorem writeLoadCopy_loadOver (h : LoadOver q s) (p : Prog) (i vd : Nat) : LoadOver q (s.writeLoadCopy p i vd) := by
  obtain ⟨_, _, heq⟩ := writeLoadCopy_onlyLoaded s p i vd
  rw [heq]
  exact ⟨h.panel, h.loading, h.prog⟩

theorem returnDie_loadOver (h : LoadOver q s) (p : Prog) (image : Bool) (i vd : Nat) :
    LoadOver q (s.returnDie p image i vd) := by
  unfold State.returnDie
  dsimp only
  split
  · obtain ⟨u, hu⟩ : ∃ u, u = ((s.stopForLoad i).setHashing i false).clearSpads i := ⟨_, rfl⟩
    have hclear : LoadOver q u := by
      obtain ⟨hpanel, hload, hprog⟩ := setHashing_loadOver (stopForLoad_loadOver h i) i false
      exact hu ▸ ⟨hpanel, hload, hprog⟩
    have hspare : LoadOver q ((if (s.die i).st = .test then u.dieEnter i .warmSpare else u).updDie i (fun d => { d with
        corner := 0 })) := by
      refine updDie_loadOver ?_ i _
      split
      · exact updDie_loadOver hclear i _
      · exact hclear
    rw [← hu]
    split
    · exact writeLoadCopy_loadOver hspare p i vd
    · exact hspare
  · exact ⟨h.panel, h.loading, h.prog⟩

theorem spoil_loadOver (h : LoadOver q s) (l : List (Nat × Bytes)) : LoadOver q (s.spoil l) := by
  unfold State.spoil
  refine foldl_loadOver (fun t x ht => ?_) l h
  exact ⟨ht.panel, ht.loading, ht.prog⟩

theorem net_loadOver (h : LoadOver q s) (n : Net) : LoadOver q { s with net := n } := ⟨h.panel, h.loading, h.prog⟩

theorem failLoad_leaves (hready : s.panel = .ready) (l : Loading) {i : Nat} (hi : i < 144) :
    (s.failLoad l i).loading = none ∧ (s.failLoad l i).panel = .ready ∧ (s.failLoad l i).prog = s.prog ∧
    (s.failLoad l i).num Obj.LOAD_RESULT = 0x0A01 ∧ (s.failLoad l i).num Obj.LOAD_DETAIL = i := by
  obtain ⟨v, heq, hv⟩ : ∃ v, s.failLoad l i = v.loadResult 0x0A01 i 0xFFFF ∧ LoadOver s.prog v := by
    unfold State.failLoad
    have hover : LoadOver s.prog { s.draw.2 with loading := none } := ⟨hready, rfl, rfl⟩
    exact ⟨_, rfl, spoil_loadOver (net_loadOver (foldl_loadOver (fun t n ht => returnDie_loadOver ht _ _ _ n) _ hover) _) _⟩
  rw [heq]
  refine ⟨hv.loading, hv.panel, hv.prog, num_loadResult .., ?_⟩
  rw [State.loadResult, State.num_setNum_other _ _ (by decide), State.num_setNum_same, Nat.mod_eq_of_lt (by omega)]

end

/-! ## A load that completes (11 R321) -/

/-- From `s` to `t` the program is `p`, no load is under way, and the objects, the time and the pins are those of `s`. -/
structure Writes (p : Prog) (s t : State) : Prop where
  prog : t.prog = some p
  loading : t.loading = none
  od : t.od = s.od
  time : t.time = s.time
  pins : t.pins = s.pins

/-- Both route versions are the same, and epoch A is active. -/
def OneRoute (t : State) : Prop := t.net.a = t.net.b ∧ t.net.epochB = false

section
variable {p : Prog} {s t : State}

theorem foldl_writes {α : Type} {f : State → α → State} (hf : ∀ t x, Writes p s t → Writes p s (f t x)) (l : List α)
    (h : Writes p s t) : Writes p s (l.foldl f t) :=
  List.foldlRecOn l f (motive := Writes p s) h fun u hu x _ => hf u x hu

theorem onlyLoaded_writes {u : State} (h : Writes p s t) (hl : OnlyLoaded t u) : Writes p s u := by
  obtain ⟨_, _, rfl⟩ := hl
  exact ⟨h.prog, h.loading, h.od, h.time, h.pins⟩

theorem updDie_writes (h : Writes p s t) (i : Nat) (f : Die → Die) : Writes p s (t.updDie i f) :=
  ⟨h.prog, h.loading, h.od, h.time, h.pins⟩

theorem dieEnter_writes (h : Writes p s t) (i : Nat) (st : DieSt) : Writes p s (t.dieEnter i st) := updDie_writes h i _

theorem stopForLoad_writes (h : Writes p s t) (i : Nat) : Writes p s (t.stopForLoad i) := by
  unfold State.stopForLoad
  split
  · exact ⟨h.prog, h.loading, h.od, h.time, h.pins⟩
  · exact h

theorem setHashing_writes (h : Writes p s t) (i : Nat) (b : Bool) : Writes p s (t.setHashing i b) := by
  obtain ⟨_, _, heq⟩ := setHashing_eq t i b
  rw [heq]
  exact ⟨h.prog, h.loading, h.od, h.time, h.pins⟩

theorem placeDie_writes (h : Writes p s t) (i vd : Nat) : Writes p s (t.placeDie p i vd) := by
  have hstopped := stopForLoad_writes h i
  have hcleared : Writes p s (((t.stopForLoad i).abandonRep i).clearCores i) :=
    ⟨hstopped.prog, hstopped.loading, hstopped.od, hstopped.time, hstopped.pins⟩
  unfold State.placeDie
  refine onlyLoaded_writes (onlyLoaded_writes (updDie_writes ?_ i _) (writeCode_onlyLoaded _ p i vd))
    (writeLoadCopy_onlyLoaded _ p i vd)
  exact dieEnter_writes (setHashing_writes hcleared i false) i .active

/-- Steps 2, 3 and 5: every placed die takes its virtual die. -/
def diesPlaced (s : State) (l : Loading) (p : Prog) : State :=
  (List.range l.place.length).foldl (fun s n => s.placeDie p (l.place.getD n 144) n) { s with prog := some p, loading := none }

theorem diesPlaced_writes (s : State) (l : Loading) (p : Prog) : Writes p s (diesPlaced s l p) :=
  foldl_writes (fun _ n ht => placeDie_writes ht _ n) _ ⟨rfl, rfl, rfl, rfl, rfl⟩

/-- Step 4: both route versions, with epoch A active. -/
def routesWritten (s : State) (l : Loading) (p : Prog) : State :=
  let streams := pairEngines l.streams
  let r := s.loadRoute l.place streams p.copies
  { s with
    net := { a := r, b := r, streams := (List.range streams.length).map (fun i => (i, streams.getD i {})) }
    slots := { slot := s.slots.slot, tag := s.slots.tag }
    hbmStacks := SMap.mapV stackD (fun (x : Stack) => { x with e2e := 0 }) s.hbmStacks
    recovery := { lastRecon := s.recovery.lastRecon, fsr := s.recovery.fsr } }

/-- Credits and the content that the image carries. -/
def contentWritten (s : State) (l : Loading) : State :=
  (l.place.foldl (fun s i => s.ledCreate i 2 (16 * 1280)) s.giveCredits).writeContent l.content

theorem ledCreate_keeps (h : Writes p s t ∧ OneRoute t) (i cat v : Nat) :
    Writes p s (t.ledCreate i cat v) ∧ OneRoute (t.ledCreate i cat v) := by
  obtain ⟨hw, hone⟩ := h
  exact ⟨⟨hw.prog, hw.loading, hw.od, hw.time, hw.pins⟩, hone⟩

theorem giveCredits_keeps (h : Writes p s t ∧ OneRoute t) : Writes p s t.giveCredits ∧ OneRoute t.giveCredits :=
  List.foldlRecOn t.channelCredits (fun s x => s.ledCreate x.1 1 x.2) (motive := fun t : State => Writes p s t ∧ OneRoute t) h
    fun _ hu x _ => ledCreate_keeps hu x.1 1 x.2

theorem contentWritten_keeps (h : Writes p s t) (hone : OneRoute t) (l : Loading) :
    Writes p s (contentWritten t l) ∧ OneRoute (contentWritten t l) := by
  obtain ⟨u, hu⟩ : ∃ u, u = l.place.foldl (fun s i => s.ledCreate i 2 (16 * 1280)) t.giveCredits := ⟨_, rfl⟩
  have hcredits : Writes p s u ∧ OneRoute u := hu ▸
    List.foldlRecOn l.place (fun s i => s.ledCreate i 2 (16 * 1280)) (motive := fun t : State => Writes p s t ∧ OneRoute t)
      (giveCredits_keeps ⟨h, hone⟩) fun _ hv i _ => ledCreate_keeps hv i 2 (16 * 1280)
  rw [contentWritten, ← hu]
  unfold State.writeContent
  refine List.foldlRecOn l.content _ (motive := fun t : State => Writes p s t ∧ OneRoute t) hcredits fun v ⟨hv, hone'⟩ x _ => ?_
  exact ⟨⟨hv.prog, hv.loading, hv.od, hv.time, hv.pins⟩, hone'⟩

theorem startServices_keeps (h : Writes p s t) (hone : OneRoute t) :
    Writes p s (t.startServices p) ∧ OneRoute (t.startServices p) := by
  unfold State.startServices
  dsimp only
  split <;> exact ⟨⟨h.prog, h.loading, h.od, h.time, h.pins⟩, hone⟩

/-- Checkpoint −1 is committed, and resumes at frame 0. -/
theorem firstCheckpoint_keeps (h : Writes p s t) (hone : OneRoute t) : Writes p s (t.firstCheckpoint p) ∧
    OneRoute (t.firstCheckpoint p) ∧ ∃ c, (t.firstCheckpoint p).larder.committed = some c ∧ c.resume = 0 := by
  obtain ⟨_, _, hck⟩ := writeStripes_onlyHbm t p 16 (p.ckSlot (t.checkpoint p 0)) (ckBytes p (t.checkpoint p 0))
  have hfirst : t.firstCheckpoint p = (t.writeCk p (t.checkpoint p 0)).commit ((t.checkpoint p 0).coded p) := rfl
  rw [hfirst, State.writeCk, hck]
  exact ⟨⟨h.prog, h.loading, h.od, h.time, h.pins⟩, hone, _, rfl, rfl⟩

/-- The counters since the load at zero. -/
def countersCleared (s : State) : State := sinceLoad.foldl (fun s k => s.setNum k 0) s

theorem foldl_clearNum_eq (l : List Nat) (s : State) : ∃ m, l.foldl (fun s k => s.setNum k 0) s = { s with od := m } :=
  List.foldlRecOn l _ (motive := fun t : State => ∃ m, t = { s with od := m }) ⟨_, rfl⟩ fun t ht k _ => by
    obtain ⟨_, rfl⟩ := ht
    exact ⟨_, rfl⟩

theorem num_foldl_clearNum {k : Nat} (l : List Nat) (h : k ∉ l) (s : State) :
    (l.foldl (fun s k => s.setNum k 0) s).num k = s.num k :=
  List.foldlRecOn l _ (motive := fun t : State => t.num k = s.num k) rfl fun _ ht j hj =>
    (State.num_setNum_other _ _ fun hkj => h (by rwa [hkj])).trans ht

/-- Steps 8 and 9: the chain of certificates starts, the load is told, and the links exchange concord records. -/
def loadTold (s : State) (l : Loading) (p : Prog) : State :=
  let root := chainRoot p.digest s.time
  let s := { s with
    checks := { lastCert := s.checks.lastCert, lastRevoke := s.checks.lastRevoke, root := root, head := root, certN := s.num Obj.CERT_INTERVAL }
    fabric := { s.fabric with
      finalSeq := 0, revokeSeq := 0, certSeq := 0, collSent := [], collNext := [], landed := [], emptySince := none } }
  let s := ((s.loadResult 0 0 0xFFFF).count Obj.LOAD_COUNT).setNum Obj.PLACEMENT_RULE_OVERFLOWS l.overflows
  s.enter .loaded

/-- A load written, before it is told. -/
def loadWritten (s : State) (l : Loading) (p : Prog) : State :=
  countersCleared (((contentWritten (routesWritten (diesPlaced s l p) l p) l).startServices p).firstCheckpoint p)

theorem finishLoad_eq (s : State) (l : Loading) : s.finishLoad l =
    let p : Prog := { l.prog with loadTime := s.time }
    let v := (loadTold (loadWritten s l p) l p).reConcord
    if v.pins.coolOk then v else v.quench 1 := rfl

/-- What is written before the load is told. -/
theorem loadWritten_leaves (s : State) (l : Loading) (p : Prog) : (loadWritten s l p).prog = some p ∧
    (loadWritten s l p).loading = none ∧ (loadWritten s l p).time = s.time ∧ (loadWritten s l p).pins = s.pins ∧
    (loadWritten s l p).num Obj.LOAD_COUNT = s.num Obj.LOAD_COUNT ∧ OneRoute (loadWritten s l p) ∧
    ∃ c, (loadWritten s l p).larder.committed = some c ∧ c.resume = 0 := by
  obtain ⟨hprog, hload, hod, htime, hpins⟩ := diesPlaced_writes s l p
  have hroutes : Writes p s (routesWritten (diesPlaced s l p) l p) ∧ OneRoute (routesWritten (diesPlaced s l p) l p) :=
    ⟨⟨hprog, hload, hod, htime, hpins⟩, rfl, rfl⟩
  obtain ⟨hcontent, hone⟩ := contentWritten_keeps hroutes.1 hroutes.2 l
  obtain ⟨hserve, hone⟩ := startServices_keeps hcontent hone
  obtain ⟨hfirst, hone, hck⟩ := firstCheckpoint_keeps hserve hone
  obtain ⟨v, hv⟩ : ∃ v, v = ((contentWritten (routesWritten (diesPlaced s l p) l p) l).startServices p).firstCheckpoint p :=
    ⟨_, rfl⟩
  have hwritten : loadWritten s l p = countersCleared v := by
    rw [hv]
    rfl
  rw [← hv] at hfirst hone hck
  have hcount : (countersCleared v).num Obj.LOAD_COUNT = s.num Obj.LOAD_COUNT :=
    (num_foldl_clearNum sinceLoad (by decide) v).trans (num_of_od hfirst.od _)
  obtain ⟨_, hcleared⟩ := foldl_clearNum_eq sinceLoad v
  rw [hwritten]
  refine ⟨?_, ?_, ?_, ?_, hcount, ?_⟩
  all_goals rw [countersCleared, hcleared]
  · exact hfirst.prog
  · exact hfirst.loading
  · exact hfirst.time
  · exact hfirst.pins
  · exact ⟨hone, hck⟩

/-- The chain of certificates starts at its root, and the frames and messages that are counted start again. -/
def chainStarted (s : State) (p : Prog) : State :=
  let root := chainRoot p.digest s.time
  { s with
    checks := { lastCert := s.checks.lastCert, lastRevoke := s.checks.lastRevoke, root := root, head := root, certN := s.num Obj.CERT_INTERVAL }
    fabric := { s.fabric with
      finalSeq := 0, revokeSeq := 0, certSeq := 0, collSent := [], collNext := [], landed := [], emptySince := none } }

theorem loadTold_eq (s : State) (l : Loading) (p : Prog) : loadTold s l p = (((((chainStarted s p).loadResult 0 0 0xFFFF).count
    Obj.LOAD_COUNT).setNum Obj.PLACEMENT_RULE_OVERFLOWS l.overflows).enter .loaded) := rfl

theorem loadTold_reach (s : State) (l : Loading) (p : Prog) : ∃ m a b, loadTold s l p = { chainStarted s p with
    od := m, panel := .loaded, panelSince := a, panelPrev := b } := by
  obtain ⟨u, hu⟩ : ∃ u, u = chainStarted s p := ⟨_, rfl⟩
  obtain ⟨v, hv⟩ : ∃ v, v = ((u.loadResult 0 0 0xFFFF).count Obj.LOAD_COUNT).setNum Obj.PLACEMENT_RULE_OVERFLOWS l.overflows :=
    ⟨_, rfl⟩
  have hod : ∃ m, v = { u with od := m } := ⟨v.od, by rw [hv]; rfl⟩
  obtain ⟨m, hod⟩ := hod
  rw [loadTold_eq, ← hu, ← hv, hod]
  exact ⟨_, _, _, rfl⟩

/-- The result and the count of a load that completes. -/
theorem num_loadTold (s : State) (l : Loading) (p : Prog) : (loadTold s l p).num Obj.LOAD_RESULT = 0 ∧
    (loadTold s l p).num Obj.LOAD_COUNT = s.num Obj.LOAD_COUNT + 1 := by
  obtain ⟨u, hu⟩ : ∃ u, u = chainStarted s p := ⟨_, rfl⟩
  have hstart : u.num Obj.LOAD_COUNT = s.num Obj.LOAD_COUNT := num_of_od (by rw [hu]; rfl) _
  have hcount : (u.loadResult 0 0 0xFFFF).num Obj.LOAD_COUNT = s.num Obj.LOAD_COUNT := by
    rw [State.loadResult, State.num_setNum_other _ _ (by decide), State.num_setNum_other _ _ (by decide),
      State.num_setNum_other _ _ (by decide), hstart]
  have hnum {k : Nat} (hk : k ≠ Obj.PLACEMENT_RULE_OVERFLOWS) (hk' : k ≠ Obj.STATE_CHANGES) :
      (loadTold s l p).num k = ((u.loadResult 0 0 0xFFFF).count Obj.LOAD_COUNT).num k := by
    rw [loadTold_eq, ← hu]
    exact (State.num_count_other _ _ hk').trans (State.num_setNum_other _ _ hk)
  constructor
  · rw [hnum (by decide) (by decide), State.num_count_other _ _ (by decide), num_loadResult]
  · rw [hnum (by decide) (by decide), State.num_count_same, hcount]

theorem loadTold_leaves (s : State) (l : Loading) (p : Prog) : (loadTold s l p).panel = .loaded ∧
    (loadTold s l p).loading = s.loading ∧ (loadTold s l p).prog = s.prog ∧ (loadTold s l p).net = s.net ∧
    (loadTold s l p).larder = s.larder ∧ (loadTold s l p).checks.entries = 0 ∧
    (loadTold s l p).checks.root = chainRoot p.digest s.time ∧ (loadTold s l p).pins = s.pins := by
  obtain ⟨_, _, _, heq⟩ := loadTold_reach s l p
  rw [heq]
  exact ⟨rfl, rfl, rfl, rfl, rfl, rfl, rfl, rfl⟩

theorem finishLoad_leaves (l : Loading) (hcool : s.pins.coolOk = true) : (s.finishLoad l).loading = none ∧
    (s.finishLoad l).panel = .loaded ∧ (s.finishLoad l).prog = some { l.prog with loadTime := s.time } ∧
    (s.finishLoad l).num Obj.LOAD_RESULT = 0 ∧ (s.finishLoad l).num Obj.LOAD_COUNT = s.num Obj.LOAD_COUNT + 1 ∧
    (s.finishLoad l).checks.entries = 0 ∧ (s.finishLoad l).checks.root = chainRoot l.prog.digest s.time ∧
    (s.finishLoad l).net.a = (s.finishLoad l).net.b ∧ (s.finishLoad l).net.epochB = false ∧
    (∃ c, (s.finishLoad l).larder.committed = some c ∧ c.resume = 0) := by
  obtain ⟨p, hp⟩ : ∃ p : Prog, p = { l.prog with loadTime := s.time } := ⟨_, rfl⟩
  obtain ⟨hprog, hload, htime, hpins, hcount, hone, hck⟩ := loadWritten_leaves s l p
  obtain ⟨v, hv⟩ : ∃ v, v = loadWritten s l p := ⟨_, rfl⟩
  rw [← hv] at hprog hload htime hpins hcount hone hck
  obtain ⟨hresult, hcount'⟩ := num_loadTold v l p
  obtain ⟨hpanel, hload', hprog', hnet, hlarder, hentries, hroot, hpins'⟩ := loadTold_leaves v l p
  obtain ⟨w, hw⟩ : ∃ w, w = loadTold v l p := ⟨_, rfl⟩
  rw [← hw] at hresult hcount' hpanel hload' hprog' hnet hlarder hentries hroot hpins'
  have hsends : GlpSends w w.reConcord := foldl_glpSends (fun t d => sendConcord_glpSends t d) _ w
  have hfinish : s.finishLoad l = w.reConcord := by
    have hcool' : w.reConcord.pins.coolOk = true := by
      obtain ⟨_, _, _, _, _, -, heq⟩ := hsends.reach
      rw [heq]
      exact (congrArg Pins.coolOk (hpins'.trans hpins)).trans hcool
    rw [finishLoad_eq]
    dsimp only
    rw [← hp, ← hv, ← hw, if_pos hcool']
  obtain ⟨hone, hepoch⟩ := hone
  have hnum (k : Nat) : w.reConcord.num k = w.num k := by
    obtain ⟨_, _, _, _, _, -, heq⟩ := hsends.reach
    rw [heq]
    rfl
  have hdigest : chainRoot p.digest v.time = chainRoot l.prog.digest s.time := by
    rw [hp, htime]
  rw [hfinish, hnum, hnum, ← hp]
  refine ⟨?_, ?_, ?_, hresult, hcount'.trans (congrArg (· + 1) hcount), ?_, ?_, ?_, ?_, ?_⟩
  all_goals obtain ⟨_, _, _, _, _, -, heq⟩ := hsends.reach
  all_goals rw [heq]
  · exact hload'.trans hload
  · exact hpanel
  · exact hprog'.trans hprog
  · exact hentries
  · exact hroot.trans hdigest
  · change w.net.a = w.net.b
    rw [hnet, hone]
  · change w.net.epochB = false
    rw [hnet, hepoch]
  · change ∃ c, w.larder.committed = some c ∧ c.resume = 0
    rw [hlarder]
    exact hck

end

/-! ## LOAD_COMPLETE -/

theorem loadComplete_fails {s : State} {l : Loading} (hl : s.loading = some l) (hready : s.panel = .ready) {i : Nat} (hi : i < 144) :
    answers (.loadComplete (some i)) s (fun t => t.loading = none ∧ t.panel = .ready ∧ t.prog = s.prog ∧
      t.num Obj.LOAD_RESULT = 0x0A01 ∧ t.num Obj.LOAD_DETAIL = i) := by
  have hexec : exec (.loadComplete (some i)) s = .next (s.failLoad l i) := by
    refine (onPart_next (decide_eq_true hi) _).trans (congrArg Host.Outcome.next ?_)
    rw [hl]
    exact if_neg (by simp [hready])
  exact answers_of_exec hexec (failLoad_leaves hready l hi)

theorem exec_loadComplete_none {s : State} {l : Loading} (hl : s.loading = some l) (hready : s.panel = .ready)
    (hplace : s.lostPlace l = none) (hpow : s.allPowered l = true) (hcool : s.thermal.quench = none)
    (hsame : s.preloadChanged l = false) : exec (.loadComplete none) s = .next (s.finishLoad l) := by
  refine congrArg Host.Outcome.next ?_
  rw [hl]
  refine (if_neg (by simp [hready])).trans ?_
  rw [hplace]
  refine (if_neg (by simp [hpow, hcool])).trans ?_
  exact if_neg (by simp [hsame])

/-! ## Live update (16 R453) -/

section
variable {s : State}

theorem liveUpdateStep_idle (ok : Bool) (h : s.bringup.fwStep = 0) : exec (.liveUpdateStep ok) s = .next s :=
  congrArg Host.Outcome.next (if_pos h)

/-- Step `n` of an update as it is taken up: writing up to step 2, then running. -/
def updateTaken (s : State) : State := s.setNum Obj.FW_UPDATE_STATE (if s.bringup.fwStep ≤ 2 then 1 else 2)

section
variable (hready : s.panel = .ready) (hroll : s.recovery.roll = none) (hcool : s.thermal.quench = none) (ok : Bool)
include hready hroll hcool

theorem exec_liveUpdateStep_two (h : s.bringup.fwStep = 2) : exec (.liveUpdateStep ok) s = .next (
    if ok then ({ updateTaken s with bringup := { (updateTaken s).bringup with
      fwImage := (updateTaken s).fwStaged } }.setNum Obj.FW_FLASH_VALID 1).fwNext 3
    else ((((updateTaken s).setNum Obj.FW_RESULT 5).setNum Obj.FW_UPDATE_STATE 0).setNum Obj.FW_FLASH_VALID 0).fwNext 0) := by
  refine congrArg Host.Outcome.next ((if_neg (by simp [h])).trans ((if_neg (by simp [hready, hroll, hcool])).trans ?_))
  have htaken : (updateTaken s).bringup.fwStep = 2 := h
  dsimp only
  change (updateTaken s).bringup.fwStep = 2 at htaken
  unfold updateTaken at htaken
  rw [htaken]
  rfl

theorem exec_liveUpdateStep_four (h : s.bringup.fwStep = 4) : exec (.liveUpdateStep ok) s = .next (
    (updateTaken s).updateSpares.fwNext 5) := by
  refine congrArg Host.Outcome.next ((if_neg (by simp [h])).trans ((if_neg (by simp [hready, hroll, hcool])).trans ?_))
  have htaken : (updateTaken s).bringup.fwStep = 4 := h
  unfold updateTaken at htaken
  dsimp only
  rw [htaken]
  rfl

end

theorem updateTaken_eq (s : State) : ∃ m, updateTaken s = { s with od := m } := ⟨_, rfl⟩

theorem fwStaged_congr {u : State} (h : u.fwStage = s.fwStage) : u.fwStaged = s.fwStaged := by
  rw [State.fwStaged, State.fwStaged, h]

/-- The image is in flash. -/
theorem liveUpdateStep_written (hready : s.panel = .ready) (hroll : s.recovery.roll = none) (hcool : s.thermal.quench = none)
    (h : s.bringup.fwStep = 2) : answers (.liveUpdateStep true) s (fun t => t.bringup.fwStep = 3 ∧
      t.bringup.fwImage = s.fwStaged ∧ t.num Obj.FW_FLASH_VALID = 1 ∧ sameMem s t ∧ t.cores = s.cores) := by
  have hexec := exec_liveUpdateStep_two hready hroll hcool true h
  obtain ⟨_, htaken⟩ := updateTaken_eq s
  have himage : (updateTaken s).fwStaged = s.fwStaged := fwStaged_congr (by rw [htaken])
  rw [if_pos rfl, himage] at hexec
  generalize s.fwStaged = image at hexec ⊢
  refine answers_of_exec hexec ⟨rfl, rfl, ?_, ?_⟩
  · rw [num_fwNext, State.num_setNum_same]
  · rw [htaken]
    exact ⟨⟨rfl, rfl, rfl⟩, rfl⟩

/-- The image in flash did not read back. -/
theorem liveUpdateStep_unread (hready : s.panel = .ready) (hroll : s.recovery.roll = none) (hcool : s.thermal.quench = none)
    (h : s.bringup.fwStep = 2) : answers (.liveUpdateStep false) s (fun t => t.bringup.fwStep = 0 ∧
      t.bringup.fwImage = s.bringup.fwImage ∧ t.num Obj.FW_FLASH_VALID = 0 ∧ t.num Obj.FW_RESULT = 5 ∧ sameMem s t ∧
      t.cores = s.cores) := by
  have hexec := exec_liveUpdateStep_two hready hroll hcool false h
  obtain ⟨_, htaken⟩ := updateTaken_eq s
  rw [if_neg (by simp)] at hexec
  refine answers_of_exec hexec ⟨rfl, rfl, ?_, ?_, ?_⟩
  · rw [num_fwNext, State.num_setNum_same]
  · rw [num_fwNext, State.num_setNum_other _ _ (by decide), State.num_setNum_other _ _ (by decide), State.num_setNum_same]
  · rw [htaken]
    exact ⟨⟨rfl, rfl, rfl⟩, rfl⟩

/-- The dies of a list start the new image, and only dies change. -/
theorem foldl_newFw_leaves (l : List Nat) (s : State) :
    (∃ m, l.foldl (fun s i => s.updDie i (fun d => { d with newFw := true })) s = { s with dies := m }) ∧
    ∀ i, i ∈ l ∨ (s.die i).newFw = true →
      ((l.foldl (fun s i => s.updDie i (fun d => { d with newFw := true })) s).die i).newFw = true := by
  induction l generalizing s with
  | nil => exact ⟨⟨_, rfl⟩, fun i hi => hi.resolve_left List.not_mem_nil⟩
  | cons j l ih =>
    obtain ⟨⟨m, heq⟩, hnew⟩ := ih (s.updDie j (fun d => { d with newFw := true }))
    refine ⟨⟨m, heq⟩, fun i hi => hnew i ?_⟩
    rcases eq_or_ne i j with rfl | hne
    · right
      rw [State.die_updDie_same]
    · rw [State.die_updDie_other _ _ hne]
      exact hi.imp_left fun h => (List.mem_cons.mp h).resolve_left hne

theorem liveUpdateStep_spares (hready : s.panel = .ready) (hroll : s.recovery.roll = none) (hcool : s.thermal.quench = none)
    (h : s.bringup.fwStep = 4) (ok : Bool) : answers (.liveUpdateStep ok) s (fun t => t.bringup.fwStep = 5 ∧
      (∀ i, i < 144 → (s.die i).st = .warmSpare → (t.die i).newFw = true) ∧ sameMem s t ∧ t.cores = s.cores) := by
  have hexec := exec_liveUpdateStep_four hready hroll hcool ok h
  obtain ⟨_, htaken⟩ := updateTaken_eq s
  have hdie (i : Nat) : (updateTaken s).die i = s.die i := by
    rw [htaken]
    rfl
  obtain ⟨v, hv⟩ : ∃ v, v = (updateTaken s).updateSpares := ⟨_, rfl⟩
  obtain ⟨⟨_, heq⟩, hnew⟩ := foldl_newFw_leaves
    (allSites.filter (fun i => ((updateTaken s).die i).st == .warmSpare && !((updateTaken s).die i).newFw)) (updateTaken s)
  rw [← State.updateSpares, ← hv] at heq hnew
  rw [← hv] at hexec
  refine answers_of_exec hexec ⟨rfl, fun i hi hspare => hnew i ?_, ?_⟩
  · rw [List.mem_filter, hdie, hspare]
    cases hfw : (s.die i).newFw
    · exact .inl ⟨List.mem_range.mpr hi, rfl⟩
    · exact .inr rfl
  · rw [heq, htaken]
    exact ⟨⟨rfl, rfl, rfl⟩, rfl⟩

end

/-- Settles O52, by what the work of a stage keeps, what the steps of a load leave, and the steps of an update. -/
theorem bringupLoadUpdate : Obligations.bringup_load_update := by
  unfold Obligations.bringup_load_update
  refine ⟨fun s n o hstage hpanel hrun hcool hn => ⟨fun c hc hne => ?_, fun hpass => ?_⟩,
    fun s l hl hready => ⟨fun i hi => loadComplete_fails hl hready hi, fun hplace hpow hcool hsame hpin => ?_⟩,
    fun s ok h => liveUpdateStep_idle ok h, fun s hready hroll hcool => ⟨fun h => ⟨?_, ?_⟩, fun h ok => ?_⟩⟩
  · exact bringupStageEnd_halts o hstage hpanel hrun hcool hn c hc hne
  · exact bringupStageEnd_passes o hstage hpanel hrun hcool hn hpass
  · exact answers_of_exec (exec_loadComplete_none hl hready hplace hpow hcool hsame) (finishLoad_leaves l hpin)
  · exact liveUpdateStep_written hready hroll hcool h
  · exact liveUpdateStep_unread hready hroll hcool h
  · exact liveUpdateStep_spares hready hroll hcool h ok

end Sys2Proof.Proofs
end

section
/-! PROOFS. A die that is lost (15 R413, R420 to R424): dark, isolated and reconciled, its cores and scratchpads gone. -/

open Sys2Proof Sys2Proof.Machine Sys2Proof.Claims

namespace Sys2Proof.Proofs

/-! ## A sparse map read outside a spliced range -/

section
variable {α : Type} {d : Nat → α} {k : Nat}

theorem get_append_of_noKey {m : SMap α} (h : SMap.noKey m k) (m' : SMap α) : SMap.get d (m ++ m') k = SMap.get d m' k := by
  induction m with
  | nil => rfl
  | cons e m ih =>
    rw [List.cons_append, SMap.get, if_neg (h e List.mem_cons_self)]
    exact ih fun p hp => h p (List.mem_cons_of_mem e hp)

theorem get_of_noKey {m : SMap α} (h : SMap.noKey m k) : SMap.get d m k = d k := by
  have happend := get_append_of_noKey (d := d) h []
  rwa [List.append_nil] at happend

theorem get_append_noKey (m : SMap α) {m' : SMap α} (h : SMap.noKey m' k) : SMap.get d (m ++ m') k = SMap.get d m k := by
  induction m with
  | nil => exact get_of_noKey h
  | cons e m ih =>
    rw [List.cons_append, SMap.get, SMap.get, ih]

/-- A filter by keys that keeps `k` keeps what is read there. -/
theorem get_filter_key {f : Nat → Bool} (h : f k = true) (m : SMap α) :
    SMap.get d (m.filter (fun p => f p.1)) k = SMap.get d m k := by
  induction m with
  | nil => rfl
  | cons e m ih =>
    obtain ⟨j, v⟩ := e
    by_cases hj : f j = true
    · rw [List.filter_cons_of_pos (p := fun p : Nat × α => f p.1) hj, SMap.get, SMap.get, ih]
    · rw [List.filter_cons_of_neg (p := fun p : Nat × α => f p.1) hj, SMap.get, if_neg (fun hjk : j = k => hj (hjk ▸ h)), ih]

theorem noKey_filter_key {f : Nat → Bool} (h : f k = false) (m : SMap α) : SMap.noKey (m.filter (fun p => f p.1)) k := by
  intro p hp hk
  have hf := (List.mem_filter.mp hp).2
  rw [hk, h] at hf
  cases hf

theorem get_splice_out [DecidableEq α] {lo hi : Nat} (h : k < lo ∨ hi ≤ k) (m : SMap α) (l : List (Nat × α)) :
    SMap.get d (SMap.splice d m lo hi l) k = SMap.get d m k := by
  have hmid : SMap.noKey (SMap.range (SMap.ofList d l) lo hi) k :=
    noKey_filter_key (f := fun j => decide (lo ≤ j) && decide (j < hi)) (by grind) _
  rw [SMap.splice]
  by_cases hk : k < lo
  · have hend : SMap.noKey (m.filter (fun p => decide (lo ≤ p.1) && decide (hi ≤ p.1))) k :=
      noKey_filter_key (f := fun j => decide (lo ≤ j) && decide (hi ≤ j)) (by grind) _
    rw [get_append_noKey _ hend, get_append_noKey _ hmid]
    exact get_filter_key (f := fun j => decide (j < lo)) (decide_eq_true hk) m
  · have hstart : SMap.noKey (m.filter (fun p => decide (p.1 < lo))) k :=
      noKey_filter_key (f := fun j => decide (j < lo)) (decide_eq_false hk) _
    rw [List.append_assoc, get_append_of_noKey hstart, get_append_of_noKey hmid]
    exact get_filter_key (f := fun j => decide (lo ≤ j) && decide (hi ≤ j)) (by grind) m

end

/-! ## Scratchpads of a site that another site's entry leaves (15 R417, R424) -/

/-- A word of a scratchpad reads as before where the map gives its byte as before. -/
theorem spadRead_of_get {s t : State} {k a : Nat} (h : SMap.get zByte t.spad (spadKey k a) = SMap.get zByte s.spad (spadKey k a)) :
    t.spadRead k a 1 = s.spadRead k a 1 := by
  simp only [State.spadRead, readBytes, List.range_one, List.map_singleton, Nat.add_zero, h]

theorem placeOn_site {s : State} {site vd : Nat} {x : Nat × Nat} (h : x ∈ s.placeOn site vd) : x.1 / 272 = site := by
  unfold State.placeOn at h
  obtain ⟨i, hi, hx⟩ := List.mem_flatMap.mp h
  obtain ⟨j, hj, rfl⟩ := List.mem_map.mp hx
  have hi' := List.mem_range.mp hi
  have hj' := List.mem_range.mp hj
  dsimp only
  split <;> omega

theorem spadRead_writeLoadCopy (s : State) (p : Prog) {site vd k a : Nat} (hk : k / 272 ≠ site) (ha : a < 2 ^ 19) :
    (s.writeLoadCopy p site vd).spadRead k a 1 = s.spadRead k a 1 := by
  unfold State.writeLoadCopy
  refine List.foldlRecOn (s.placeOn site vd) _ (motive := fun t : State => t.spadRead k a 1 = s.spadRead k a 1)
    ((spadRead_clearSpads s site k ha).trans (if_neg hk)) fun t ht x hx => ?_
  have hother : k ≠ x.1 := fun hkx => hk (hkx ▸ placeOn_site hx)
  refine (spadRead_of_get (s := t) (get_splice_out ?_ _ _)).trans ht
  simp only [spadKey]
  omega

theorem writeCode_spad (s : State) (p : Prog) (site vd : Nat) : (s.writeCode p site vd).spad = s.spad :=
  List.foldlRecOn (s.placeOn site vd) _ (motive := fun t : State => t.spad = s.spad) rfl fun _ ht _ _ => ht

theorem spadRead_enterDie (s : State) {site vd k a : Nat} (fromLoad : Bool) (hk : k / 272 ≠ site) (ha : a < 2 ^ 19) :
    (s.enterDie site vd fromLoad).spadRead k a 1 = s.spadRead k a 1 := by
  unfold State.enterDie
  split
  case h_1 p _ =>
    have hcode : ((s.setHashing site false).writeCode p site vd).spadRead k a 1 = s.spadRead k a 1 := by
      refine (spadRead_congr (writeCode_spad _ p site vd) k a 1).trans ?_
      rw [spadRead_setHashing s site false k ha, if_neg fun h => hk h.1]
    split
    · exact (spadRead_writeLoadCopy _ p hk ha).trans hcode
    · exact hcode
  case h_2 => rfl

/-! ## What the steps of a loss keep (15 R420, R421) -/

/-- From `s` to `t` the die, the attempt, the cores, HBM and the records of reconciliation stay, and no sequence number of a
fault record goes back. -/
structure LossKeeps (site : Nat) (s t : State) : Prop where
  st : (t.die site).st = (s.die site).st
  isolated : (t.die site).isolated = (s.die site).isolated
  powered : (t.die site).powered = (s.die site).powered
  vd : (t.die site).vd = (s.die site).vd
  att : t.slots.att = s.slots.att
  cores : t.cores = s.cores
  recons : t.recovery.recons = s.recovery.recons
  seq : s.num Obj.FSR_LAST_SEQ ≤ t.num Obj.FSR_LAST_SEQ
  hbm : t.hbm = s.hbm

section
variable {site : Nat} {s t u : State}

theorem LossKeeps.refl : LossKeeps site s s := ⟨rfl, rfl, rfl, rfl, rfl, rfl, rfl, le_rfl, rfl⟩

theorem LossKeeps.trans (h : LossKeeps site s t) (h' : LossKeeps site t u) : LossKeeps site s u :=
  ⟨h'.st.trans h.st, h'.isolated.trans h.isolated, h'.powered.trans h.powered, h'.vd.trans h.vd, h'.att.trans h.att,
    h'.cores.trans h.cores, h'.recons.trans h.recons, h.seq.trans h'.seq, h'.hbm.trans h.hbm⟩

theorem LossKeeps.of_same (hdies : t.dies = s.dies) (hatt : t.slots.att = s.slots.att) (hcores : t.cores = s.cores)
    (hrecons : t.recovery.recons = s.recovery.recons) (hod : t.od = s.od) (hhbm : t.hbm = s.hbm) : LossKeeps site s t := by
  have hdie : t.die site = s.die site := by rw [State.die, hdies, State.die]
  exact ⟨by rw [hdie], by rw [hdie], by rw [hdie], by rw [hdie], hatt, hcores, hrecons, (num_of_od hod _).ge, hhbm⟩

theorem foldl_lossKeeps {α : Type} {f : State → α → State} (h : ∀ s x, LossKeeps site s (f s x)) (l : List α) (s : State) :
    LossKeeps site s (l.foldl f s) :=
  List.foldlRecOn l f (motive := LossKeeps site s) .refl fun t ht x _ => ht.trans (h t x)

theorem updDie_lossKeeps (s : State) (i : Nat) {f : Die → Die} (hf : ∀ d, (f d).st = d.st ∧ (f d).isolated = d.isolated ∧
    (f d).powered = d.powered ∧ (f d).vd = d.vd) : LossKeeps site s (s.updDie i f) := by
  have hdie : ((s.updDie i f).die site).st = (s.die site).st ∧ ((s.updDie i f).die site).isolated = (s.die site).isolated ∧
      ((s.updDie i f).die site).powered = (s.die site).powered ∧ ((s.updDie i f).die site).vd = (s.die site).vd := by
    by_cases hi : site = i
    · rw [hi, State.die_updDie_same]
      exact hf _
    · rw [State.die_updDie_other _ _ hi]
      exact ⟨rfl, rfl, rfl, rfl⟩
  obtain ⟨hst, hiso, hpow, hvd⟩ := hdie
  exact ⟨hst, hiso, hpow, hvd, rfl, rfl, rfl, le_rfl, rfl⟩

theorem count_lossKeeps (s : State) {k : Nat} (hk : Obj.FSR_LAST_SEQ ≠ k) : LossKeeps site s (s.count k) :=
  ⟨rfl, rfl, rfl, rfl, rfl, rfl, rfl, (State.num_count_other s _ hk).ge, rfl⟩

/-- A fault record takes the next sequence number. -/
theorem num_fsr_seq (s : State) (r : FsrIn) : (s.fsr r).num Obj.FSR_LAST_SEQ = s.num Obj.FSR_LAST_SEQ + 1 := by
  have hod : (s.fsr r).od = (s.setNum Obj.FSR_LAST_SEQ (s.num Obj.FSR_LAST_SEQ + 1)).od := by
    unfold State.fsr
    split <;> rfl
  exact (num_of_od hod _).trans (State.num_setNum_same ..)

/-- Stated of any log: what a longer log leaves of recovery's record. -/
theorem withFsr_recovery (s : State) (log : List Bytes) : ∃ l, ({ s with recovery := { s.recovery with fsr := log } } :
    State).recovery = { s.recovery with fsr := l } := ⟨log, rfl⟩

theorem fsr_recovery (s : State) (r : FsrIn) : ∃ l, (s.fsr r).recovery = { s.recovery with fsr := l } := by
  unfold State.fsr
  extract_lets seq body rec' s1 log _ s2
  have hrec : ∃ l, s2.recovery = { s.recovery with fsr := l } := withFsr_recovery s1 _
  clear_value s2
  split <;> exact hrec

theorem fsr_lossKeeps (s : State) (r : FsrIn) : LossKeeps site s (s.fsr r) := by
  obtain ⟨_, hdie⟩ := die_fsr s r site
  obtain ⟨-, hhbm, -⟩ := fsr_sameMem s r
  obtain ⟨_, hrec⟩ := fsr_recovery s r
  have hrecons : (s.fsr r).recovery.recons = s.recovery.recons := by rw [hrec]
  exact ⟨by rw [hdie], by rw [hdie], by rw [hdie], by rw [hdie], by rw [fsr_slots], fsr_cores s r, hrecons,
    (num_fsr_seq s r).ge.trans' (Nat.le_succ _), hhbm⟩

theorem mapWrite_lossKeeps (s : State) : LossKeeps site s s.mapWrite := .of_same rfl rfl rfl rfl rfl rfl

theorem reqMig_lossKeeps (s : State) (i prio : Nat) : LossKeeps site s (s.reqMig i prio) := by
  unfold State.reqMig
  split
  · exact .refl
  · exact .of_same rfl rfl rfl rfl rfl rfl

theorem joinTest_lossKeeps (s : State) (i : Nat) : LossKeeps site s (s.joinTest i) := by
  unfold State.joinTest
  dsimp only
  split
  · exact .refl
  · exact .of_same rfl rfl rfl rfl rfl rfl

/-- A dark die is quarantined as it is. -/
theorem quarantine_lossKeeps (hdark : (s.die site).st = .dark) (det : Nat) : LossKeeps site s (s.quarantine site det) := by
  have hmark : LossKeeps site s ((s.updDie site (fun d => { d with quarantined := true })).mapWrite) := by
    refine LossKeeps.trans ?_ (mapWrite_lossKeeps _)
    exact updDie_lossKeeps s site fun _ => ⟨rfl, rfl, rfl, rfl⟩
  unfold State.quarantine
  dsimp only
  split
  · exact .refl
  · rw [hdark]
    exact hmark.trans (fsr_lossKeeps _ _)

theorem lastingFault_lossKeeps (hdark : (s.die site).st = .dark) (det unit : Nat) :
    LossKeeps site s (s.lastingFault site det unit) := by
  have hnoted : LossKeeps site s ((s.updDie site (fun d => { d.fieldEntry det unit 0xFF 0xFF with
      lasting := d.lasting ++ [s.time] })).mapWrite.count Obj.LASTING_FAULTS) := by
    refine LossKeeps.trans ?_ ((mapWrite_lossKeeps _).trans (count_lossKeeps _ (by decide)))
    exact updDie_lossKeeps s site fun _ => ⟨rfl, rfl, rfl, rfl⟩
  unfold State.lastingFault
  dsimp only
  split
  · exact hnoted.trans (quarantine_lossKeeps (hnoted.st.trans hdark) det)
  · exact hnoted.trans (joinTest_lossKeeps _ site)

theorem restartServices_lossKeeps (s : State) (i pair : Nat) : LossKeeps site s (s.restartServices i pair) := by
  unfold State.restartServices
  dsimp only
  split
  · exact .refl
  split
  · refine LossKeeps.trans ?_ (updDie_lossKeeps _ _ fun _ => ⟨rfl, rfl, rfl, rfl⟩)
    exact updDie_lossKeeps s i fun _ => ⟨rfl, rfl, rfl, rfl⟩
  · exact .refl

theorem abandonRep_lossKeeps (s : State) (i : Nat) : LossKeeps site s (s.abandonRep i) := .of_same rfl rfl rfl rfl rfl rfl

theorem unswap_lossKeeps (s : State) (src : Nat) : LossKeeps site s (s.unswap src) := by
  unfold State.unswap
  split
  · split
    · exact .of_same rfl rfl rfl rfl rfl rfl
    · exact .refl
  · exact .refl

theorem holdNext_lossKeeps (s : State) (cause : Nat) : LossKeeps site s (s.holdNext cause) := by
  unfold State.holdNext
  split
  · exact .of_same rfl rfl rfl rfl rfl rfl
  · exact .refl

theorem wantPower_lossKeeps (s : State) (i : Nat) : LossKeeps site s (s.wantPower i) := by
  unfold State.wantPower
  dsimp only
  split
  · exact .of_same rfl rfl rfl rfl rfl rfl
  · exact .refl

theorem setHashing_lossKeeps (s : State) (i : Nat) (b : Bool) : LossKeeps site s (s.setHashing i b) := by
  unfold State.setHashing
  split
  · exact .refl
  · exact LossKeeps.trans (t := s.clearSpads i) (.of_same rfl rfl rfl rfl rfl rfl)
      (updDie_lossKeeps _ i fun _ => ⟨rfl, rfl, rfl, rfl⟩)

theorem onlyLoaded_lossKeeps (h : OnlyLoaded s t) : LossKeeps site s t := by
  obtain ⟨_, _, rfl⟩ := h
  exact .of_same rfl rfl rfl rfl rfl rfl

theorem enterDie_lossKeeps (s : State) (i vd : Nat) (b : Bool) : LossKeeps site s (s.enterDie i vd b) := by
  unfold State.enterDie
  split
  case h_1 p _ =>
    have hcode := (setHashing_lossKeeps (site := site) s i false).trans (onlyLoaded_lossKeeps (writeCode_onlyLoaded _ p i vd))
    split
    · exact hcode.trans (onlyLoaded_lossKeeps (writeLoadCopy_onlyLoaded _ p i vd))
    · exact hcode
  case h_2 => exact .refl

theorem writeMoves_lossKeeps (s : State) (mv : List (Nat × Nat)) : LossKeeps site s (s.writeMoves mv) :=
  .of_same rfl rfl rfl rfl rfl rfl

theorem startRoll_lossKeeps (s : State) (vd : Nat) (att : Option Nat) : LossKeeps site s (s.startRoll vd att) :=
  (count_lossKeeps s (k := Obj.ROLLBACK_COUNT) (by decide)).trans (.of_same rfl rfl rfl rfl rfl rfl)

theorem rollSlots_lossKeeps (s : State) : LossKeeps site s s.rollSlots := by
  unfold State.rollSlots
  split
  · split
    · exact .of_same rfl rfl rfl rfl rfl rfl
    · exact .refl
  · exact .refl

end

end Sys2Proof.Proofs
end

section
/-! PROOFS. The loss of a die step by step (15 R420 to R424), and the causes of R420. -/

open Sys2Proof Sys2Proof.Machine Sys2Proof.Claims

namespace Sys2Proof.Proofs

/-! ## Targets of a rollback (15 R424) -/

/-- No move of the rollback goes to the site. -/
def MovesAway (site : Nat) (s : State) : Prop := ∀ r, s.recovery.roll = some r → ∀ m ∈ r.moves, m.2 ≠ site

theorem minKey_mem {l : List (Nat × Nat)} {x : Nat × Nat} (h : minKey l = some x) : x ∈ l := by
  induction l generalizing x with
  | nil => cases h
  | cons e l ih =>
    rw [minKey] at h
    split at h
    · exact Option.some.inj h ▸ List.mem_cons_self
    next y hy =>
      obtain rfl := Option.some.inj h
      split
      · exact List.mem_cons_self
      · exact List.mem_cons_of_mem e (ih hy)

theorem offers_st {s : State} {st : DieSt} {i : Nat} (h : s.offers st i = true) : (s.die i).st = st := by
  simp only [State.offers, Bool.and_eq_true, beq_iff_eq] at h
  obtain ⟨⟨⟨⟨⟨⟨⟨hst, -⟩, -⟩, -⟩, -⟩, -⟩, -⟩, -⟩ := h
  exact hst

/-- A target is a WARM-SPARE. -/
theorem target_st {s : State} {src t : Nat} (h : s.target src = some t) : (s.die t).st = .warmSpare := by
  unfold State.target State.targetIn at h
  obtain ⟨x, hx, rfl⟩ := Option.map_eq_some_iff.mp h
  obtain ⟨i, hi, rfl⟩ := List.mem_map.mp (minKey_mem hx)
  split at hi
  · exact offers_st (Bool.and_eq_true_iff.mp (List.mem_filter.mp hi).2).1
  · exact offers_st (Bool.and_eq_true_iff.mp (List.mem_filter.mp hi).2).1

/-- A site that has no move to it before has none after the choice of targets, which no scratchpad sees. -/
structure Chooses (site : Nat) (s t : State) : Prop where
  keeps : LossKeeps site s t
  spad : t.spad = s.spad
  away : MovesAway site s → MovesAway site t

section
variable {site : Nat} {s t u : State}

theorem Chooses.refl : Chooses site s s := ⟨.refl, rfl, id⟩

theorem Chooses.trans (h : Chooses site s t) (h' : Chooses site t u) : Chooses site s u :=
  ⟨h.keeps.trans h'.keeps, h'.spad.trans h.spad, fun haway => h'.away (h.away haway)⟩

theorem Chooses.of_roll (h : LossKeeps site s t) (hspad : t.spad = s.spad) (hroll : t.recovery.roll = s.recovery.roll) :
    Chooses site s t := ⟨h, hspad, fun haway r hr => haway r (hroll ▸ hr)⟩

/-- A virtual die of the rollback with its target. -/
def moveAdded (s : State) (v t : Nat) : State :=
  { s with recovery := { s.recovery with roll := s.recovery.roll.map (fun (x : Rollback) => { x with moves := x.moves ++ [(v, t)] }) } }

theorem moveAdded_chooses (s : State) (v : Nat) {i : Nat} (hi : i ≠ site) : Chooses site s (moveAdded s v i) := by
  refine ⟨.of_same rfl rfl rfl rfl rfl rfl, rfl, fun haway r hr m hm => ?_⟩
  obtain ⟨x, hx, rfl⟩ := Option.map_eq_some_iff.mp hr
  rcases List.mem_append.mp hm with hm | hm
  · exact haway x hx m hm
  · rw [List.mem_singleton.mp hm]
    exact hi

theorem wantPower_chooses (s : State) (i : Nat) : Chooses site s (s.wantPower i) := by
  refine .of_roll (wantPower_lossKeeps s i) ?_ ?_ <;>
  · unfold State.wantPower
    dsimp only
    split <;> rfl

theorem holdNext_chooses (s : State) (cause : Nat) : Chooses site s (s.holdNext cause) := by
  refine .of_roll (holdNext_lossKeeps s cause) ?_ ?_ <;>
  · unfold State.holdNext
    split <;> rfl

/-- Every move of a rollback entered. -/
def movesEntered (s : State) (moves : List (Nat × Nat)) : State := moves.foldl (fun s m => s.enterDie m.2 m.1 true) s

theorem movesEntered_leaves (s : State) (moves : List (Nat × Nat)) : LossKeeps site s (movesEntered s moves) ∧
    ((∀ m ∈ moves, m.2 ≠ site) → ∀ k a, k / 272 = site → a < 2 ^ 19 → (movesEntered s moves).spadRead k a 1 = s.spadRead k a 1) := by
  refine ⟨foldl_lossKeeps (fun _ _ => enterDie_lossKeeps ..) moves s, fun haway k a hk ha => ?_⟩
  exact List.foldlRecOn moves _ (motive := fun t : State => t.spadRead k a 1 = s.spadRead k a 1) rfl fun t ht m hm =>
    (spadRead_enterDie t true (fun h => haway m hm (h.symm.trans hk)) ha).trans ht

theorem rollTargets_leaves (hdark : (s.die site).st = .dark) : LossKeeps site s s.rollTargets ∧
    (MovesAway site s → ∀ k a, k / 272 = site → a < 2 ^ 19 → s.rollTargets.spadRead k a 1 = s.spadRead k a 1) := by
  unfold State.rollTargets
  split
  case h_1 => exact ⟨.refl, fun _ _ _ _ _ => rfl⟩
  case h_2 r _ =>
    extract_lets u
    have hchosen : Chooses site s u := by
      refine List.foldlRecOn _ _ (motive := Chooses site s) .refl fun v hv n _ => hv.trans ?_
      dsimp only
      split
      next i hi =>
        have hother : i ≠ site := fun h => by
          have hspare := target_st hi
          rw [h, hv.keeps.st, hdark] at hspare
          cases hspare
        exact Chooses.trans (.of_roll (abandonRep_lossKeeps v i) rfl rfl) (moveAdded_chooses _ n hother)
      · split
        · exact wantPower_chooses v _
        · exact holdNext_chooses v 5
    clear_value u
    obtain ⟨hkeeps, hspad, haway⟩ := hchosen
    have hsame : LossKeeps site s u ∧
        (MovesAway site s → ∀ k a, k / 272 = site → a < 2 ^ 19 → u.spadRead k a 1 = s.spadRead k a 1) :=
      ⟨hkeeps, fun _ k a _ _ => spadRead_congr hspad k a 1⟩
    split
    case h_1 => exact hsame
    case h_2 r' hr' =>
      split
      · split
        · obtain ⟨hmoves, hread⟩ := movesEntered_leaves (site := site) u r'.moves
          refine ⟨(hkeeps.trans hmoves).trans (.of_same rfl rfl rfl rfl rfl rfl), fun hs k a hk ha => ?_⟩
          exact (hread (haway hs r' hr') k a hk ha).trans (spadRead_congr hspad k a 1)
        · exact hsame
      · exact hsame

theorem startRoll_chooses (s : State) (v : Nat) (att : Option Nat) : Chooses site s (s.startRoll v att) := by
  refine ⟨startRoll_lossKeeps s v att, rfl, fun haway r hr m hm => ?_⟩
  have hmoves : r.moves = match s.recovery.roll with
      | some r => if r.flipped then [] else r.moves.filter (fun m => m.1 != v)
      | none => [] := by
    rw [← Option.some.inj hr]
    rfl
  rw [hmoves] at hm
  split at hm
  next x hx =>
    split at hm
    · cases hm
    · exact haway x hx m (List.mem_filter.mp hm).1
  · cases hm

end

/-! ## The die told, dark and quarantined (15 R420, R421) -/

/-- The die isolated and reported, the attempt stopped. -/
def lossTold (s : State) (site det : Nat) (r : FsrIn) : State := ((s.isolateDie site det).fsr r).stopAttempt

/-- From `s` to `t` a site is isolated, reconciled and reported, and no attempt runs; the memories and the cores stay. -/
structure Told (site : Nat) (s t : State) : Prop where
  isolated : (t.die site).isolated = true
  att : t.slots.att = none
  cores : t.cores = s.cores
  recons : t.recovery.recons.length = s.recovery.recons.length + 1
  seq : s.num Obj.FSR_LAST_SEQ < t.num Obj.FSR_LAST_SEQ
  mem : sameMem s t
  roll : t.recovery.roll = s.recovery.roll
  migs : t.recovery.migs = s.recovery.migs

section
variable (s : State) (site : Nat)

theorem stopAttempt_eq : ∃ n p l c d, s.stopAttempt = { s with net := n, snaps := p, slots := l, checks := c, larder := d } := by
  unfold State.stopAttempt
  split
  · exact ⟨_, _, _, _, _, rfl⟩
  · obtain ⟨_, hn⟩ := discard_eq s
    rw [hn]
    exact ⟨_, _, _, _, _, rfl⟩

theorem num_setOct_other {k j : Nat} (b : Bytes) (h : j ≠ k) : (s.setOct k b).num j = s.num j := by
  simp [State.num, State.setOct, h]

/-- A site isolated: its ledger closed, its record kept, and no other object. -/
theorem isolateDie_leaves (cause : Nat) : ((s.isolateDie site cause).die site).isolated = true ∧
    (s.isolateDie site cause).cores = s.cores ∧
    (s.isolateDie site cause).recovery.recons.length = s.recovery.recons.length + 1 ∧
    (s.isolateDie site cause).num Obj.FSR_LAST_SEQ = s.num Obj.FSR_LAST_SEQ ∧ sameMem s (s.isolateDie site cause) ∧
    (s.isolateDie site cause).recovery.roll = s.recovery.roll ∧ (s.isolateDie site cause).recovery.migs = s.recovery.migs := by
  unfold State.isolateDie
  extract_lets am record u _
  obtain ⟨_, hu⟩ : ∃ n, u = { s with net := n } :=
    List.foldlRecOn _ _ (motive := fun t : State => ∃ n, t = { s with net := n }) ⟨_, rfl⟩ fun t ht c _ => by
      obtain ⟨_, rfl⟩ := ht
      exact ⟨_, rfl⟩
  clear_value u record
  subst hu
  refine ⟨?_, rfl, ?_, ?_, ⟨rfl, rfl, rfl⟩, rfl, rfl⟩
  · rw [State.die_updDie_same]
  · exact List.length_append
  · exact num_setOct_other _ _ (by decide)

theorem lossTold_told (det : Nat) (r : FsrIn) : Told site s (lossTold s site det r) := by
  obtain ⟨hiso, hcores, hrecons, hseq, ⟨hspad, hhbm, himem⟩, hroll, hmigs⟩ := isolateDie_leaves s site det
  obtain ⟨u, hu⟩ : ∃ u, u = s.isolateDie site det := ⟨_, rfl⟩
  rw [← hu] at hiso hcores hrecons hseq hspad hhbm himem hroll hmigs
  obtain ⟨_, hdie⟩ := die_fsr u r site
  obtain ⟨_, hrec⟩ := fsr_recovery u r
  obtain ⟨hspad', hhbm', himem'⟩ := fsr_sameMem u r
  have hcores' := fsr_cores u r
  have hseq' := num_fsr_seq u r
  obtain ⟨v, hv⟩ : ∃ v, v = u.fsr r := ⟨_, rfl⟩
  have htold : lossTold s site det r = v.stopAttempt := by rw [hv, hu, lossTold]
  rw [← hv] at hdie hrec hspad' hhbm' himem' hcores' hseq'
  obtain ⟨_, _, _, _, _, hstop⟩ := stopAttempt_eq v
  rw [htold]
  refine ⟨?_, (stopAttempt_leaves v).1, ?_, ?_, ?_, ?_, ?_, ?_⟩
  · rw [hstop]
    change (v.die site).isolated = true
    rw [hdie, hiso]
  · rw [hstop]
    exact hcores'.trans hcores
  · rw [hstop, ← hrecons, hrec]
  · rw [num_stopAttempt, hseq', hseq]
    exact Nat.lt_succ_self _
  · rw [hstop]
    exact ⟨hspad'.trans hspad, hhbm'.trans hhbm, himem'.trans himem⟩
  · rw [hstop, ← hroll, hrec]
  · rw [hstop, ← hmigs, hrec]

/-- The services of a site's control cores start again elsewhere. -/
def servicesMoved : State := (List.range 3).foldl (fun s p => s.restartServices site p) s

theorem servicesMoved_eq : (∃ d, servicesMoved s site = { s with dies := d }) ∧ LossKeeps site s (servicesMoved s site) := by
  refine ⟨?_, foldl_lossKeeps (fun t p => restartServices_lossKeeps t site p) _ s⟩
  refine List.foldlRecOn (List.range 3) _ (motive := fun t : State => ∃ d, t = { s with dies := d }) ⟨_, rfl⟩ fun t ht p _ => ?_
  obtain ⟨_, rfl⟩ := ht
  unfold State.restartServices
  dsimp only
  split
  · exact ⟨_, rfl⟩
  split <;> exact ⟨_, rfl⟩

/-- A die dark, its cores and its scratchpads lost. -/
def dieDarkened : State :=
  (((s.dieEnter site .dark).updDie site (fun d => { d with powered := false, vd := none, corner := 0 })).clearCores site).clearSpads site

theorem dieDarkened_eq : ∃ d, dieDarkened s site = { s with
    dies := d, cores := (s.clearCores site).cores, snaps := (s.clearCores site).snaps, spad := (s.clearSpads site).spad } := by
  obtain ⟨d, hd⟩ : ∃ d, (s.dieEnter site .dark).updDie site (fun d => { d with powered := false, vd := none, corner := 0 }) =
      { s with dies := d } := ⟨_, rfl⟩
  refine ⟨d, ?_⟩
  rw [dieDarkened, hd, State.clearSpads, State.clearCores, State.clearCores, State.clearSpads]

theorem die_dieDarkened : ((dieDarkened s site).die site).st = .dark ∧
    ((dieDarkened s site).die site).isolated = (s.die site).isolated ∧ ((dieDarkened s site).die site).powered = false ∧
    ((dieDarkened s site).die site).vd = none := by
  have hdie : (dieDarkened s site).die site = ((s.dieEnter site .dark).updDie site (fun d => { d with
      powered := false, vd := none, corner := 0 })).die site := rfl
  rw [hdie, State.die_updDie_same, State.dieEnter, State.die_updDie_same]
  exact ⟨rfl, rfl, rfl, rfl⟩

end
end Sys2Proof.Proofs
end

section
/-! PROOFS. A lost die: what its loss leaves, whatever its cause (15 R420, R421, R423, R424). -/

open Sys2Proof Sys2Proof.Machine Sys2Proof.Claims

namespace Sys2Proof.Proofs

/-! ## The state of a lost die (15 R420, R421) -/

/-- The site is dark and isolated, its cores are gone, no attempt runs, and its loss is reconciled and recorded. -/
structure DieDark (site : Nat) (s t : State) : Prop where
  st : (t.die site).st = .dark
  isolated : (t.die site).isolated = true
  powered : (t.die site).powered = false
  vd : (t.die site).vd = none
  att : t.slots.att = none
  cores : ∀ k, t.core k = if k / 272 = site then {} else s.core k
  recons : t.recovery.recons.length = s.recovery.recons.length + 1
  seq : s.num Obj.FSR_LAST_SEQ < t.num Obj.FSR_LAST_SEQ
  hbm : t.hbm = s.hbm

/-- The scratchpads of the site read zero and every other one as before; no code changes, and no rollback begins. -/
structure Wiped (site : Nat) (s t : State) : Prop where
  spad : ∀ k a, a < 2 ^ 19 → t.spadRead k a 1 = if k / 272 = site then [0] else s.spadRead k a 1
  imem : t.imem = s.imem
  roll : t.recovery.roll = s.recovery.roll

section
variable {site : Nat} {s t u : State}

theorem DieDark.keeps (h : DieDark site s t) (h' : LossKeeps site t u) : DieDark site s u :=
  ⟨h'.st.trans h.st, h'.isolated.trans h.isolated, h'.powered.trans h.powered, h'.vd.trans h.vd, h'.att.trans h.att,
    fun k => (by rw [State.core, h'.cores, ← State.core, h.cores]), (congrArg List.length h'.recons).trans h.recons,
    h.seq.trans_le h'.seq, h'.hbm.trans h.hbm⟩

theorem Wiped.keeps (h : Wiped site s t) (hspad : u.spad = t.spad) (himem : u.imem = t.imem)
    (hroll : u.recovery.roll = t.recovery.roll) : Wiped site s u :=
  ⟨fun k a ha => (spadRead_congr hspad k a 1).trans (h.spad k a ha), himem.trans h.imem, hroll.trans h.roll⟩

theorem dieDarkened_leaves (h : Told site s t) : DieDark site s (dieDarkened (servicesMoved t site) site) ∧
    Wiped site s (dieDarkened (servicesMoved t site) site) := by
  obtain ⟨⟨_, heq⟩, hkeeps⟩ := servicesMoved_eq t site
  obtain ⟨u, hu⟩ : ∃ u, u = servicesMoved t site := ⟨_, rfl⟩
  rw [← hu] at heq hkeeps ⊢
  obtain ⟨hspad, hhbm, himem⟩ := h.mem
  obtain ⟨hst, hiso, hpow, hvd⟩ := die_dieDarkened u site
  obtain ⟨d, hdark⟩ := dieDarkened_eq u site
  obtain ⟨v, hv⟩ : ∃ v, v = dieDarkened u site := ⟨_, rfl⟩
  rw [← hv] at hst hiso hpow hvd hdark ⊢
  have hcore (k : Nat) : v.core k = if k / 272 = site then {} else s.core k := by
    have hsame : u.core k = s.core k := by rw [State.core, hkeeps.cores, h.cores, State.core]
    rw [← hsame, ← core_clearCores, hdark]
    rfl
  have hread (k a : Nat) (ha : a < 2 ^ 19) : v.spadRead k a 1 = if k / 272 = site then [0] else s.spadRead k a 1 := by
    have hsame : u.spadRead k a 1 = s.spadRead k a 1 := spadRead_congr (by rw [heq]; exact hspad) k a 1
    rw [← hsame, ← spadRead_clearSpads u site k ha, hdark]
    rfl
  constructor
  · refine ⟨hst, hiso.trans (hkeeps.isolated.trans h.isolated), hpow, hvd, ?_, hcore, ?_, ?_, ?_⟩
    all_goals rw [hdark]
    · exact hkeeps.att.trans h.att
    · exact (congrArg List.length hkeeps.recons).trans h.recons
    · exact h.seq.trans_le hkeeps.seq
    · exact hkeeps.hbm.trans hhbm
  · refine ⟨hread, ?_, ?_⟩
    all_goals rw [hdark, heq]
    · exact himem
    · exact h.roll

/-! ## The lasting fault of a dark die and the flip that it cancels (15 R413, R419) -/

theorem reqMig_roll (s : State) (i prio : Nat) : (s.reqMig i prio).recovery.roll = s.recovery.roll := by
  unfold State.reqMig
  split <;> rfl

theorem quarantine_roll (s : State) (i det : Nat) : (s.quarantine i det).recovery.roll = s.recovery.roll := by
  unfold State.quarantine
  extract_lets d v w
  have hw : w.recovery.roll = s.recovery.roll := fsr_roll v _
  clear_value w
  split
  · rfl
  split
  · exact (reqMig_roll _ i 1).trans hw
  all_goals exact hw

theorem lastingFault_roll (s : State) (i det unit : Nat) : (s.lastingFault i det unit).recovery.roll = s.recovery.roll := by
  unfold State.lastingFault
  extract_lets row col v
  split
  · exact quarantine_roll v i det
  · unfold State.joinTest
    dsimp only
    split <;> rfl

theorem unswap_roll (s : State) (src : Nat) : (s.unswap src).recovery.roll = s.recovery.roll := by
  unfold State.unswap
  split
  · split <;> rfl
  · rfl

/-! ## The loss of a die -/

/-- What O44 says of a lost die. -/
def DieLost (site : Nat) (s t : State) : Prop := (t.die site).st = .dark ∧ (t.die site).isolated = true ∧
  (t.die site).powered = false ∧ (t.die site).vd = none ∧ t.slots.att = none ∧
  (∀ k, t.core k = if k / 272 = site then {} else s.core k) ∧
  (s.recovery.roll = none → (∀ m ∈ s.recovery.migs, m.dst ≠ site) →
    ∀ k a, k / 272 = site → a < 2 ^ 19 → t.spadRead k a 1 = [0]) ∧
  ((s.die site).vd = none → t.imem = s.imem ∧
    ∀ k a, k / 272 ≠ site → a < 2 ^ 19 → t.spadRead k a 1 = s.spadRead k a 1) ∧
  t.recovery.recons.length = s.recovery.recons.length + 1 ∧ s.num Obj.FSR_LAST_SEQ < t.num Obj.FSR_LAST_SEQ ∧
  t.hbm = s.hbm

theorem DieDark.dieLost (h : DieDark site s t) (hzero : s.recovery.roll = none → (∀ m ∈ s.recovery.migs, m.dst ≠ site) →
      ∀ k a, k / 272 = site → a < 2 ^ 19 → t.spadRead k a 1 = [0])
    (hspare : (s.die site).vd = none → t.imem = s.imem ∧
      ∀ k a, k / 272 ≠ site → a < 2 ^ 19 → t.spadRead k a 1 = s.spadRead k a 1) : DieLost site s t :=
  ⟨h.st, h.isolated, h.powered, h.vd, h.att, h.cores, hzero, hspare, h.recons, h.seq, h.hbm⟩

/-- Where no rollback begins, the site's scratchpads read zero and no other memory changes. -/
theorem DieDark.dieLost_of_wiped (h : DieDark site s t) (hw : Wiped site s t) : DieLost site s t :=
  h.dieLost (fun _ _ k a hk ha => (hw.spad k a ha).trans (if_pos hk))
    (fun _ => ⟨hw.imem, fun k a hk ha => (hw.spad k a ha).trans (if_neg hk)⟩)

/-- The rollback of an ACTIVE die that is lost (15 R424, R419): a migration of it that was under way gives its target. -/
def rollBegun (s : State) (v : Nat) (fr : Option Nat) (mine : Option Mig) : State :=
  let s : State := s.startRoll v fr
  let s : State := match mine with
    | some m => { s with recovery := { s.recovery with
        migs := s.recovery.migs.map (fun x => { x with fromLoad := true })
        roll := s.recovery.roll.map (fun r => { r with moves := r.moves ++ [(v, m.dst)] }) } }
    | none => { s with recovery := { s.recovery with migs := s.recovery.migs.map (fun x => { x with fromLoad := true }) } }
  let s := if allSites.any (fun i => s.offers .warmSpare i || s.offers .coldSpare i) then s else s.holdNext 5
  s.rollTargets.rollSlots

theorem rollBegun_lost {v : Nat} {fr : Option Nat} {mine : Option Mig} (hdark : DieDark site s t) (hwiped : Wiped site s t)
    (hmine : ∀ m, mine = some m → m ∈ s.recovery.migs) (hvd : (s.die site).vd = some v) :
    DieLost site s (rollBegun t v fr mine) := by
  unfold rollBegun
  extract_lets s12 _ s13 s14
  have hbegun : Chooses site t s12 := startRoll_chooses t v fr
  clear_value s12
  have hmoved : LossKeeps site s12 s13 ∧ s13.spad = s12.spad ∧
      ((∀ m ∈ s.recovery.migs, m.dst ≠ site) → MovesAway site s12 → MovesAway site s13) := by
    cases mine with
    | none => exact ⟨.of_same rfl rfl rfl rfl rfl rfl, rfl, fun _ => id⟩
    | some m =>
      refine ⟨.of_same rfl rfl rfl rfl rfl rfl, rfl, fun hmigs haway => ?_⟩
      exact (moveAdded_chooses s12 v (hmigs m (hmine m rfl))).away haway
  clear_value s13
  have hheld : Chooses site s13 s14 := by
    unfold s14
    split
    · exact .refl
    · exact holdNext_chooses s13 5
  clear_value s14
  obtain ⟨hkeeps, hspad, haway⟩ := hmoved
  have hdark14 : DieDark site s s14 := ((hdark.keeps hbegun.keeps).keeps hkeeps).keeps hheld.keeps
  obtain ⟨htargets, hread⟩ := rollTargets_leaves hdark14.st
  obtain ⟨hslots, -⟩ := State.rollSlots_memSame s14.rollTargets
  refine ((hdark14.keeps htargets).keeps (rollSlots_lossKeeps _)).dieLost (fun hroll hmigs k a hk ha => ?_) ?_
  · have haway0 : MovesAway site t := fun r hr => by rw [hwiped.roll, hroll] at hr; cases hr
    have haway14 : MovesAway site s14 := hheld.away (haway hmigs (hbegun.away haway0))
    have hspad14 : s14.spad = t.spad := hheld.spad.trans (hspad.trans hbegun.spad)
    calc s14.rollTargets.rollSlots.spadRead k a 1 = s14.rollTargets.spadRead k a 1 := spadRead_congr hslots k a 1
      _ = s14.spadRead k a 1 := hread haway14 k a hk ha
      _ = t.spadRead k a 1 := spadRead_congr hspad14 k a 1
      _ = [0] := (hwiped.spad k a ha).trans (if_pos hk)
  · rw [hvd]
    rintro ⟨⟩

theorem dieLoss_lost (h : ¬((s.die site).st = .dark ∨ (s.die site).st = .lost ∨ (s.die site).st = .coldSpare)) (det unit : Nat) :
    DieLost site s (s.dieLoss site det unit) := by
  unfold State.dieLoss
  rw [if_neg h]
  extract_lets vd fr s1 s2 mine late asDst s3 s4 s5 s6 s7 _ _ s8 s9 net _ s10 s11
  have htold : Told site s s2 := lossTold_told s site det _
  have hmine (m : Mig) (hm : mine = some m) : m ∈ s.recovery.migs := htold.migs ▸ List.mem_of_find?_eq_some hm
  obtain ⟨hdark5, hwiped5⟩ : DieDark site s s5 ∧ Wiped site s s5 := dieDarkened_leaves htold
  clear_value s5 mine asDst
  have hdark8 : DieDark site s s8 := by
    refine (hdark5.keeps (lastingFault_lossKeeps hdark5.st det unit)).keeps ?_
    exact .of_same rfl rfl rfl rfl rfl rfl
  obtain ⟨hspad6, -, himem6, -, -⟩ := State.lastingFault_memSame s5 site det unit none
  have hwiped8 : Wiped site s s8 := hwiped5.keeps hspad6 himem6 (lastingFault_roll s5 site det unit)
  clear_value s8
  have hleft : DieDark site s s11 ∧ Wiped site s s11 := by
    cases asDst with
    | none => exact ⟨hdark8, hwiped8⟩
    | some m =>
      have hcancelled : DieDark site s s10 := (hdark8.keeps (count_lossKeeps s8 (by decide))).keeps
        (.of_same (s := s9) rfl rfl rfl rfl rfl rfl)
      have hwiped10 : Wiped site s s10 := hwiped8.keeps rfl rfl rfl
      clear_value s10
      obtain ⟨hspad, -, himem, -, -⟩ := (State.reqMig_memSame s10 m.src m.prio).trans (State.unswap_memSame _ m.src)
      exact ⟨(hcancelled.keeps (reqMig_lossKeeps s10 m.src m.prio)).keeps (unswap_lossKeeps _ m.src),
        hwiped10.keeps hspad himem ((unswap_roll _ m.src).trans (reqMig_roll s10 m.src m.prio))⟩
  clear_value s11
  obtain ⟨hdark11, hwiped11⟩ := hleft
  have hvd : vd = (s.die site).vd := rfl
  clear_value vd fr
  cases vd with
  | none => exact hdark11.dieLost_of_wiped hwiped11
  | some v =>
    have hrolls : DieLost site s (rollBegun s11 v fr mine) := rollBegun_lost hdark11 hwiped11 hmine hvd.symm
    change DieLost site s (if _ then s11 else rollBegun s11 v fr mine)
    split
    · exact hdark11.dieLost_of_wiped hwiped11
    · exact hrolls

/-! ## The causes (02 R36, 13 R374, R375, 15 R423) -/

/-- From `s` to `t` a cause has been noted: what O44 compares with is the same. -/
structure CauseNoted (site : Nat) (s t : State) : Prop where
  st : (t.die site).st = (s.die site).st
  vd : (t.die site).vd = (s.die site).vd
  cores : t.cores = s.cores
  recovery : t.recovery = s.recovery
  mem : sameMem s t
  seq : t.num Obj.FSR_LAST_SEQ = s.num Obj.FSR_LAST_SEQ

theorem CauseNoted.refl : CauseNoted site s s := ⟨rfl, rfl, rfl, rfl, ⟨rfl, rfl, rfl⟩, rfl⟩

theorem CauseNoted.trans (h : CauseNoted site s t) (h' : CauseNoted site t u) : CauseNoted site s u := by
  obtain ⟨hspad, hhbm, himem⟩ := h.mem
  obtain ⟨hspad', hhbm', himem'⟩ := h'.mem
  exact ⟨h'.st.trans h.st, h'.vd.trans h.vd, h'.cores.trans h.cores, h'.recovery.trans h.recovery,
    ⟨hspad'.trans hspad, hhbm'.trans hhbm, himem'.trans himem⟩, h'.seq.trans h.seq⟩

theorem count_causeNoted (s : State) {k : Nat} (hk : Obj.FSR_LAST_SEQ ≠ k) : CauseNoted site s (s.count k) :=
  ⟨rfl, rfl, rfl, rfl, ⟨rfl, rfl, rfl⟩, State.num_count_other s _ hk⟩

theorem updDie_causeNoted (s : State) {f : Die → Die} (hst : (f (s.die site)).st = (s.die site).st)
    (hvd : (f (s.die site)).vd = (s.die site).vd) : CauseNoted site s (s.updDie site f) := by
  refine ⟨?_, ?_, rfl, rfl, ⟨rfl, rfl, rfl⟩, rfl⟩ <;> rw [State.die_updDie_same]
  · exact hst
  · exact hvd

theorem net_causeNoted (s : State) (n : Net) : CauseNoted site s { s with net := n } :=
  ⟨rfl, rfl, rfl, rfl, ⟨rfl, rfl, rfl⟩, rfl⟩

theorem DieLost.of_noted (hn : CauseNoted site s u) (h : DieLost site u t) : DieLost site s t := by
  obtain ⟨hst, hiso, hpow, hvd, hatt, hcores, hzero, hspare, hrecons, hseq, hhbm⟩ := h
  obtain ⟨hspad', hhbm', himem'⟩ := hn.mem
  rw [hn.recovery] at hzero hrecons
  rw [hn.vd, himem'] at hspare
  rw [hn.seq] at hseq
  refine ⟨hst, hiso, hpow, hvd, hatt, fun k => ?_, hzero, fun hnone => ?_, hrecons, hseq, hhbm.trans hhbm'⟩
  · rw [hcores k, State.core, hn.cores, State.core]
  · obtain ⟨himem, hread⟩ := hspare hnone
    exact ⟨himem, fun k a hk ha => (hread k a hk ha).trans (spadRead_congr hspad' k a 1)⟩

section
variable (hsite : site < 144) (hpow : (s.die site).powered = true) (hdark : (s.die site).st ≠ .dark)
  (hlost : (s.die site).st ≠ .lost) (hcold : (s.die site).st ≠ .coldSpare)

include hdark hlost hcold in
/-- A die is lost once its cause is noted. -/
theorem dieLoss_of_noted (hn : CauseNoted site s u) (det unit : Nat) : DieLost site s (u.dieLoss site det unit) := by
  refine .of_noted hn (dieLoss_lost ?_ det unit)
  rw [hn.st]
  exact fun h => h.elim hdark fun h => h.elim hlost hcold

include hsite in
theorem exec_clockLoss : exec (.clockLoss site) s = .next (s.dieLoss site 0x0E 0x0D) := onPart_next (decide_eq_true hsite) _

include hsite hpow hdark hlost

theorem exec_lossOfRegulation :
    exec (.lossOfRegulation site) s = .next ((s.count Obj.IVR_REG_LOSSES).dieLoss site 0x0F 0x0C) :=
  (onPart_next (decide_eq_true hsite) _).trans (congrArg Host.Outcome.next (if_neg (by simp [hpow, hdark, hlost])))

/-- The trip counted and the fuse open; a die that was starting counts as on. -/
theorem exec_efuseOpen (hbefore : s.panel ≠ .bringup ∨ (s.die site).efuseBefore = false) (hcold : (s.die site).st ≠ .coldSpare) :
    ∃ u, CauseNoted site s u ∧ exec (.efuseOpen site) s = .next (u.dieLoss site 0x10 0x0C) := by
  obtain ⟨v, hv⟩ : ∃ v, v = (s.count Obj.EFUSE_TRIPS).updDie site (fun d => { d with efuseOpen := true }) := ⟨_, rfl⟩
  have hnoted : CauseNoted site s v := by
    rw [hv]
    exact (count_causeNoted s (by decide)).trans (updDie_causeNoted _ rfl rfl)
  have hvpanel : v.panel = s.panel := by
    rw [hv]
    rfl
  obtain ⟨w, hw⟩ : ∃ w : State, w = if s.softSite == some site then
      ({ v with power := { v.power with soft := none } }).updDie site (fun d =>
        { d with powered := true, st := if d.st = DieSt.coldSpare then DieSt.warmSpare else d.st })
    else v := ⟨_, rfl⟩
  have hstarted : CauseNoted site v w ∧ w.panel = v.panel := by
    rw [hw]
    split
    · have hpower : CauseNoted site v { v with power := { v.power with soft := none } } :=
        ⟨rfl, rfl, rfl, rfl, ⟨rfl, rfl, rfl⟩, rfl⟩
      exact ⟨hpower.trans (updDie_causeNoted _ (if_neg (hnoted.st ▸ hcold)) rfl), rfl⟩
    · exact ⟨.refl, rfl⟩
  obtain ⟨hstarted, hwpanel⟩ := hstarted
  refine ⟨w, hnoted.trans hstarted, ?_⟩
  refine (onPart_next (decide_eq_true hsite) _).trans (congrArg Host.Outcome.next ?_)
  refine (if_neg (by simp [hpow, hdark, hlost])).trans ?_
  have hlate : ¬(w.panel = .bringup ∧ (s.die site).efuseBefore = true) := by
    rw [hwpanel, hvpanel]
    rintro ⟨hpanel, hopen⟩
    exact hbefore.elim (fun h => h hpanel) (fun h => by rw [h] at hopen; cases hopen)
  subst hw hv
  exact if_neg hlate

end

/-- Words on a link are counted, and nothing of the die. -/
theorem syncWords_causeNoted (s : State) (key : Nat) (words : List (BitVec 96 × BitVec 96)) :
    CauseNoted site s (s.syncWords key words).1 := by
  unfold State.syncWords
  refine List.foldlRecOn words _ (motive := fun r : State × Bool => CauseNoted site s r.1) .refl fun r hr w _ => ?_
  dsimp only
  split
  · exact hr.trans (net_causeNoted r.1 _)
  · exact (hr.trans (net_causeNoted r.1 _)).trans (count_causeNoted _ (by decide))

theorem exec_syncLinkDown (hsite : site < 144) {l : List (BitVec 96 × BitVec 96)}
    (hdown : (s.syncWords (syncKey (.dieHub site)) l).2 = true) :
    exec (.syncLinkDown ⟨.dieHub site, l⟩) s = .next ((s.syncWords (syncKey (.dieHub site)) l).1.dieLoss site 0x18 0x0F) :=
  (onPart_next (decide_eq_true hsite) _).trans (congrArg Host.Outcome.next ((if_neg (by simp)).trans (if_pos hdown)))

end

/-- Settles O44, by what the loss of a die leaves once its cause is noted. -/
theorem diesLost : Obligations.dies_lost := by
  unfold Obligations.dies_lost
  intro c site s hcause hsite hpow hdark hlost hcold
  rcases hcause with rfl | rfl | ⟨rfl, hbefore⟩ | ⟨l, rfl, hdown⟩
  · exact answers_of_exec (exec_clockLoss hsite) (dieLoss_of_noted hdark hlost hcold .refl _ _)
  · exact answers_of_exec (exec_lossOfRegulation hsite hpow hdark hlost)
      (dieLoss_of_noted hdark hlost hcold (count_causeNoted s (by decide)) _ _)
  · obtain ⟨u, hnoted, hexec⟩ := exec_efuseOpen hsite hpow hdark hlost hbefore hcold
    exact answers_of_exec hexec (dieLoss_of_noted hdark hlost hcold hnoted _ _)
  · exact answers_of_exec (exec_syncLinkDown hsite hdown)
      (dieLoss_of_noted hdark hlost hcold (syncWords_causeNoted s _ l) _ _)

end Sys2Proof.Proofs
end
